-- ==== Sys2Proof/Word.lean ====
section
/-! DEFINITION. The word types of the device: bytes and the widths of the engine registers (Table 00-5, R242).
Values that are numbers (counters, times, addresses) are natural numbers or integers; values that are bit patterns are these. -/

namespace Sys2Proof

/-- One byte. -/
abbrev Byte := BitVec 8

/-- A 16-bit word. -/
abbrev Half := BitVec 16

/-- A 32-bit word: a Carve scalar register, one lane of a vector register, a fence value. -/
abbrev Word := BitVec 32

/-- A 64-bit word: a light-code word, an instruction of a Carve engine. -/
abbrev DWord := BitVec 64

end Sys2Proof
end

