-- ==== Sys2Proof/Syntax.lean ====
section
/-! DEFINITION. The commands of the block: one constructor of `Instr` for each row of spec/opcode_table.json, and the plain data that
the operands of some of them carry. The table gives no operand fields; the operands are what the rule of the row reads from outside the device
(log entries 1 and 7). The first operand `t` of every command is the root tick at which it comes about. -/

namespace Sys2Proof

/-- The fields of one Resil request that do not depend on its opcode (Table 13-1, R371, R372), with what the device finds outside
the message: the port, VLAN and address it came from, and the processor queue (R383, log entry 12). -/
structure Req where
  /-- VER -/
  ver     : Nat
  /-- NODE -/
  node    : Nat
  /-- SESSION -/
  session : Nat
  /-- SEQ, a U32 -/
  seq     : Nat
  /-- LENGTH field -/
  length  : Nat
  /-- the 16 byte tag -/
  tag     : List Byte
  /-- arrival port -/
  port    : Fin 4
  /-- VLAN of the datagram -/
  vlan    : Nat
  /-- UDP destination port -/
  udp     : Nat
  /-- source address and port, as one number -/
  src     : Nat
  /-- entries in use in the processor queue at arrival (R383) -/
  depth   : Nat
  /-- mean service time of the processor over the last 100 ms, in ns (R383) -/
  service : Nat
deriving DecidableEq, Repr

/-- A received PTP Announce (R35 to R37): the grandmaster dataset and what the message carries of it. -/
structure PtpAnnounce where
  domain     : Nat
  gm         : Nat
  priority1  : Nat
  clockClass : Nat
  accuracy   : Nat
  variance   : Nat
  priority2  : Nat
  steps      : Nat
  sender     : Nat
  senderPort : Nat
  utcOffset  : Int
  leap       : Nat
  /-- the ST 2059-2 synchronization metadata TLV, if it carries one -/
  tlv        : List Byte
  /-- other options of IEEE 1588 that Table 01-4 does not list -/
  unsupported : Bool
deriving DecidableEq, Repr

/-- One sample row data segment of an ST 2110-20 packet (R355). -/
structure MediaSrd where
  row    : Nat
  offset : Nat
  /-- octets -/
  length : Nat
  field  : Bool
deriving DecidableEq, Repr

/-- A received RTP packet (R354, R355): where it came from, its RTP and payload headers, and what the ST 2110-21 model of the declared receiver makes of it (R364; the model is that of
the standard). Addresses are 16 bytes, IPv4 in the first four. -/
structure MediaPkt where
  port    : Fin 4
  vlan    : Nat
  family  : Nat
  dst     : List Byte
  src     : List Byte
  udp     : Nat
  /-- octets of UDP payload -/
  udpLen  : Nat
  pt      : Nat
  marker  : Bool
  /-- the extended sequence number, 32 bits -/
  seq     : Nat
  ts      : Nat
  srds    : List MediaSrd
  data    : List Byte
  /-- virtual-receiver occupancy with this packet, and whether the frame breaks the model here -/
  vrx     : Nat
  breaks  : Bool
deriving DecidableEq, Repr

/-- What a write finds outside the message, for the objects whose effect needs it: the size that the array reports (`MOUT_ENABLE`, R176), the lanes that lock again
(`MOUT_LANE_RESTORE`, R179), the image of a node's configuration (`HIER_NODE_CAPTURE`, R420), and what a worker's handshake gives (`HIER_NODE_ADOPT`, R403). -/
structure WriteEnv where
  cols  : Nat
  rows  : Nat
  lock  : Nat
  image : List Byte
  hs    : Option (Nat × List Byte)
deriving DecidableEq, Repr

/-- A message from a worker on its hierarchy session (R408, R410): the ring-entry KIND (2 response, 3 event, 4 bulk), header fields, payload and tag. -/
structure WorkerMsg where
  kind    : Nat
  op      : Nat
  flags   : Nat
  seq     : Nat
  status  : Nat
  payload : List Byte
  tag     : List Byte
  /-- the host session an event or bulk message belongs to: neither carries a number that says so (R391) -/
  host    : Nat
  /-- the configuration image the manager reads back after a COMMIT it carried (R420) -/
  image   : List Byte
deriving DecidableEq, Repr

/-- What a PMBus regulator answers in one poll (R475): its VOUT_MODE is ULINEAR16, STATUS_WORD, READ_VOUT in mV, READ_IOUT in mA. -/
structure Pmbus where
  modeOk : Bool
  status : Nat
  vout   : Nat
  iout   : Nat
deriving DecidableEq, Repr


/-- The commands: one constructor per row of the opcode table. -/
inductive Instr where
  /-- ROOT_PLL_LOCK_LOSS (R22). The root PLL loses lock: E008 is raised, PATROL moves to the RC oscillator, every gate lane is forced low and the device enters RECOVERY with studio time FREERUN. -/
  | rootPllLockLoss (t : Nat)
  /-- ROOT_PLL_RELOCK (R22). A ROOTPLL calibration closes the loop on the running VCO, which clears the STATE cause and the ROOT_PLL recovery bit and restarts the servo from FREERUN. -/
  | rootPllRelock (t : Nat)
  /-- SERVO_MEASUREMENT (R25). A measurement of the active reference arrives (PTP Sync, PPS edge, REF_IN frame or 1 ms TEN_IN comparison) and the second-order servo updates the steering fraction. -/
  | servoMeasurement (t : Nat) (src : Fin 16) (err : Int)
  /-- SOURCE_QUALIFIED (R31). A source has delivered valid measurements for TIME_QUAL_TIME and becomes qualified; in AUTO_REVERTIVE a higher source becomes the active one again. -/
  | sourceQualified (t : Nat) (src : Fin 16) (nearAbs : Bool)
  /-- SOURCE_DISQUALIFIED (R31). A source misses Announce or Sync, loses its REF_IN format, misses PPS edges or has TEN_IN out of range, and is disqualified. -/
  | sourceDisqualified (t : Nat) (src : Fin 16) (tenOnly : Bool) (measured : Fin 256)
  /-- HOLDOVER_EXPIRED (R42). The holdover error estimate exceeds TIME_HOLDOVER_BUDGET, so the state becomes HOLDOVER_EXPIRED and E005 is raised. -/
  | holdoverExpired (t : Nat)
  /-- TIME_SET (R27). A write of TIME_SET steps studio time at its arrival instant if the servo state allows it (E014), and is refused NOT_READY otherwise. -/
  | timeSet (t : Nat) (q : Req) (v : List Byte)
  /-- PTP_ANNOUNCE_RX (R37). A PTP Announce is received: the BMCA runs, the synchronization metadata TLV is stored, and a UTC offset or leap-second change updates TIME_TAI_UTC. -/
  | ptpAnnounceRx (t : Nat) (port : Fin 4) (a : PtpAnnounce)
  /-- PTP_SYNC_TX (R35). At each Sync interval, on each master port the clock sends Sync (and a Follow_Up when two-step), carrying its own timestamps. -/
  | ptpSyncTx (t : Nat) (port : Fin 4)
  /-- PTP_ANNOUNCE_TX (R36). At each Announce interval a master port sends Announce with the grandmaster dataset, or with its own defaultDS when it has no slave port. -/
  | ptpAnnounceTx (t : Nat) (port : Fin 4)
  /-- PTP_DELAY_REQ_TX (R34). At each Delay_Req interval the slave port sends a timestamped Delay_Req. -/
  | ptpDelayReqTx (t : Nat) (port : Fin 4)
  /-- PTP_DELAY_REQ_RX (R35). A master port receives a Delay_Req and answers it with a Delay_Resp. -/
  | ptpDelayReqRx (t : Nat) (port : Fin 4) (domain seq sender senderPort : Nat) (correction : Int)
  /-- PPS_EDGE (R40). The selected edge of PPS_IN marks a whole TAI second and feeds the servo when PPS is the active source. -/
  | ppsEdge (t : Nat) (rising : Bool)
  /-- FRAME_BOUNDARY (R45). An output's frame boundary B_k is reached: the plan tables swap, frame k starts, and the previous frame's checks and substitutions are made. -/
  | frameBoundary (t : Nat) (n : Fin 4)
  /-- COMPOSITION_START (R204). The composition start B_{k−1} of an output is reached: the colour set is fixed, flips are taken, playlists and stale states advance, and commits due there take effect. -/
  | compositionStart (t : Nat) (n : Fin 4)
  /-- COMPOSITION_COMPLETE (R205). The composition of frame k completes and the references of held previous sources are released. -/
  | compositionComplete (t : Nat) (n : Fin 4)
  /-- TG_COMMIT (R53). A COMMIT for a timing generator is checked in order and, if accepted, fixes B_old, allocates plane buffers and sets PENDING. -/
  | tgCommit (t : Nat) (q : Req) (n : Fin 4) (treq : Option Nat)
  /-- TG_COMMIT_POINT (R54). The commit point B_old − P_old (or B_old when enabling) is reached: the commit can no longer be cancelled, explicit flip targets become ASAP, and the first new frame is composed. -/
  | tgCommitPoint (t : Nat) (n : Fin 4)
  /-- TG_DARK_BEGIN (R52). B_old is reached: the old frame ends, the output parks and its banks take the DARK cause; a disabling commit completes here. -/
  | tgDarkBegin (t : Nat) (n : Fin 4)
  /-- TG_DARK_END (R52). B_new is reached: the first new frame starts with FLIP_SYNC, the DARK cause clears and TG_COMMITS increments. -/
  | tgDarkEnd (t : Nat) (n : Fin 4)
  /-- TG_CANCEL (R54). A write of TG_CANCEL aborts a pending timing commit if it arrives before the commit point, and is answered NOT_ACTIVE otherwise. -/
  | tgCancel (t : Nat) (q : Req) (n : Fin 4) (v : List Byte)
  /-- PLANNER_START (R75). At B_{k−1} the adaptive planner for frame k starts in the Slalom microcode of the output. -/
  | plannerStart (t : Nat) (n : Fin 4)
  /-- PLANNER_DONE (R75). The planner finishes, verifies its plan, and writes it or the base plan (E040) to the inactive table. -/
  | plannerDone (t : Nat) (n : Fin 4)
  /-- PLANNER_DEADLINE (R75). The planner has not written the inactive table by B_{k−1} + P/2, so the base plan is written, E041 is raised and SLM_LATE_PLANS increments. -/
  | plannerDeadline (t : Nat) (n : Fin 4)
  /-- SLM_PLAN_STAGE (R76). A write of SLM_PLAN_STAGE stores a manual plan table of exactly 8,192 B, and is refused BAD_SIZE otherwise. -/
  | slmPlanStage (t : Nat) (q : Req) (n : Fin 4) (v : List Byte)
  /-- SLM_PLAN_SWAP (R76). A write of SLM_PLAN_SWAP requests that the staged manual plan take force at frame k. -/
  | slmPlanSwap (t : Nat) (q : Req) (n : Fin 4) (v : List Byte)
  /-- MANUAL_SWAP_VERIFY (R76). At B_k − P/2 the staged manual table is verified and copied for B_k, or refused with E043 and recorded in SLM_MANUAL_RESULT. -/
  | manualSwapVerify (t : Nat) (n : Fin 4)
  /-- SLM_COMPRESSION_CREDIT (R85). A write of SLM_COMPRESSION_CREDIT sets credit for the next admission; clearing it is refused CREDIT_IN_USE while the raw admitted demand exceeds 352 GB/s. -/
  | slmCompressionCredit (t : Nat) (q : Req) (v : List Byte)
  /-- ENTRY_FLIP (R171). A plan entry's emitted flip occurs: the timing lane sends FLIP, SYNC or FLIP_SYNC, and the transfer of the next entry's plane begins. -/
  | entryFlip (t : Nat) (n : Fin 4)
  /-- GATE_WINDOW (R92). For a plan entry naming a bank, the gate lane emits the level header, the quiet gap and the enable window. -/
  | gateWindow (t : Nat) (n : Fin 4) (b : Fin 16) (light dark : List Int)
  /-- PLANE_FIFO_READ (R182). Whenever 4 KiB of an output's plane FIFO is free, the output issues ISOCHRONOUS reads of the next blocks of the image slot. -/
  | planeFifoRead (t : Nat) (n : Fin 4) (ok : Bool)
  /-- PARK_REPEAT (R187). Every 1 ms while the output is dark, disabled or READY without frames, the timing lane sends PARK unless it falls too close to the first flip. -/
  | parkRepeat (t : Nat) (n : Fin 4)
  /-- INTLK_ASSERT (R99). INTLK_N falls: all 16 gate lanes go low within 5 ns, the latch is set and E050 is raised. -/
  | intlkAssert (t : Nat) (width : Nat)
  /-- GATE_INTLK_REARM (R99). A write of GATE_INTLK_REARM clears the latched INTLK cause (E051) while INTLK_N is high, is refused INTERLOCKED while it is low, and is answered NOT_ACTIVE when nothing is latched. -/
  | gateIntlkRearm (t : Nat) (q : Req) (v : List Byte)
  /-- GATE_ENABLE (R98). A write of GATE_ENABLE sets or clears the HOST force cause of a bank. -/
  | gateEnable (t : Nat) (q : Req) (b : Fin 16) (v : List Byte)
  /-- GATE_REARM (R101). A write of GATE_REARM clears a bank's latched FAULT cause (E052) if its wire is READY. -/
  | gateRearm (t : Nat) (q : Req) (b : Fin 16) (v : List Byte)
  /-- GATE_VERNIER_APPLY (R96). A new GATE_VERNIER takes effect at the first instant at or after the emitted B_k at which the lane has been low for 8 ticks. -/
  | gateVernierApply (t : Nat) (b : Fin 16)
  /-- TL_VERNIER_APPLY (R173). A new MOUT_TL_VERNIER takes effect at the first instant at or after the emitted B_k at which the timing lane has been low for 8 ticks. -/
  | tlVernierApply (t : Nat) (n : Fin 4)
  /-- GATE_FADE_LEVEL (R114). A write of GATE_FADE_LEVEL latches F0, F1, T and the curve, and the fade starts at the next slot start. -/
  | gateFadeLevel (t : Nat) (q : Req) (b : Fin 16) (v : List Byte)
  /-- LW_SLOT_START (R109). A lamp-wire slot begins on studio time: each enabled wire starts a frame, and the slot's latches, fades, targets and loop boundaries are processed. -/
  | lwSlotStart (t : Nat) (ain die : List (Option Int))
  /-- LW_ENABLE (R111). A write of LW_ENABLE starts a wire's initialisation with LIMIT and two LEVEL frames, or returns the wire to idle with the LOAD cause set. -/
  | lwEnable (t : Nat) (q : Req) (w : Fin 16) (v : List Byte)
  /-- LW_REARM (R111). A write of LW_REARM restarts a wire's initialisation sequence. -/
  | lwRearm (t : Nat) (q : Req) (w : Fin 16) (v : List Byte)
  /-- LW_LIMITS (R110). A write of LW_LIMITS queues a LIMIT frame for the next slot. -/
  | lwLimits (t : Nat) (q : Req) (w : Fin 16) (v : List Byte)
  /-- LW_PERIOD (R109). A write of LW_PERIOD or LW_DRIVERS is refused LW_TIMING if any wire's frame would no longer fit its slot. -/
  | lwPeriod (t : Nat) (q : Req) (w : Option (Fin 16)) (v : List Byte)
  /-- LW_READY (R111). At the first slot start after initialisation at which FAULT_N is released, the wire becomes READY, E062 is raised and the LOAD cause clears. -/
  | lwReady (t : Nat) (w : Fin 16)
  /-- LW_INIT_FAILED (R111). FAULT_N is not released three slots after initialisation, so the wire becomes FAILED and E063 is raised. -/
  | lwInitFailed (t : Nat) (w : Fin 16)
  /-- FAULT_N_ASSERT (R113). FAULT_N has been low for 4 PERI periods: E060 is raised, LW_FAULTS increments and LW_FAULT_ACTION applies. -/
  | faultNAssert (t : Nat) (w : Fin 16)
  /-- FAULT_N_RELEASE (R113). FAULT_N has been high for 1 ms and is counted released, raising E061. -/
  | faultNRelease (t : Nat) (w : Fin 16)
  /-- LUT_ACCEPT (R226). A staged view LUT of the right length is copied into every serving cluster, and the final acknowledgement is sent once a slot is free. -/
  | lutAccept (t : Nat) (v : Fin 8)
  /-- MATRIX_COMPUTE (R131). The firmware computes the AUTO correction matrix for a frame from the primary temperatures, raising E084 where a partner solution fails. -/
  | matrixCompute (t : Nat) (n : Fin 4)
  /-- SHUTTER_EDGE (R150). A debounced SHUT_IN edge is timestamped and matched against the camera's open or close interval. -/
  | shutterEdge (t : Nat) (c : Fin 8) (rising : Bool)
  /-- EXPOSURE_FRAME_EVAL (R152). At the end of an exposure frame's close interval the drift is recorded and the shutter state moves among IN_GUARD, DRIFT and MISSING. -/
  | exposureFrameEval (t : Nat) (c : Fin 8)
  /-- MOUT_ENABLE (R176). A write of MOUT_ENABLE starts array bring-up with IDLE and AM stripes and the geometry check, or takes the output down. -/
  | moutEnable (t : Nat) (q : Req) (n : Fin 4) (v : List Byte) (cols rows : Nat)
  /-- ARR_STAT_RISE (R176). ARR_STATn rises during bring-up: unlocked lanes become inactive, the output becomes READY and E020 is raised. -/
  | arrStatRise (t : Nat) (n : Fin 4) (lock : Nat)
  /-- BRINGUP_TIMEOUT (R176). MOUT_BRINGUP_TIMEOUT passes without ARR_STATn high or with no locked lane, so the output becomes FAULT and E021 is raised. -/
  | bringupTimeout (t : Nat) (n : Fin 4)
  /-- ARR_STAT_FALL (R180). ARR_STATn falls while READY or RUNNING: the BLANK cause ARRAY is set, E022 is raised and bring-up resumes at step 3. -/
  | arrStatFall (t : Nat) (n : Fin 4)
  /-- ARRAY_POLL (R175). Every MOUT_POLL_PERIOD, and within 100 µs of an ARR_STATn edge, the array status registers are read over I2C. -/
  | arrayPoll (t : Nat) (n : Fin 4) (lock err planeErr : Nat)
  /-- MOUT_LANE_RESTORE (R179). A write of MOUT_LANE_RESTORE returns locked down lanes to the active set at the next transfer start (E024), and is answered NOT_READY for unlocked lanes. -/
  | moutLaneRestore (t : Nat) (q : Req) (n : Fin 4) (v : List Byte) (lock : Nat)
  /-- MOUT_FREEZE_CLEAR (R185). A write of 0x01 to MOUT_FREEZE_CLEAR clears MOUT_FREEZE and the FREEZE blank reason. -/
  | moutFreezeClear (t : Nat) (q : Req) (n : Fin 4) (v : List Byte)
  /-- LAY_ALLOC (R197). A write of LAY_ALLOC allocates a buffer or clip and returns its handle, or is refused BAD_VALUE, NO_HANDLE or NO_MEMORY. -/
  | layAlloc (t : Nat) (q : Req) (v : List Byte)
  /-- LAY_BUF_FREE (R199). A write of LAY_BUF_FREE frees a buffer at once or makes it RELEASE_PENDING (FREE_DEFERRED), after the handle checks. -/
  | layBufFree (t : Nat) (q : Req) (ix : Fin 16384) (v : List Byte)
  /-- LAY_FLIP (R202). A write of LAY_FLIP queues a flip on a layer after the checks, adding a reference to its buffer. -/
  | layFlip (t : Nat) (q : Req) (l : Fin 64) (v : List Byte)
  /-- LAY_FENCE_DONE (R203). A write of LAY_FENCE_DONE signals a renderer fence value that can make queued flips eligible. -/
  | layFenceDone (t : Nat) (q : Req) (l : Fin 64) (v : List Byte)
  /-- LAY_PLAYLIST (R209). A write of LAY_PLAYLIST stores a playlist after its checks, or is refused PLAYLIST_BAD. -/
  | layPlaylist (t : Nat) (q : Req) (l : Fin 64) (v : List Byte)
  /-- LAY_PLAY (R209). A write of LAY_PLAY latches the playlist with references on its clips and sets the start instant S. -/
  | layPlay (t : Nat) (q : Req) (l : Fin 64) (v : List Byte)
  /-- COMPOSITOR_COMMIT (R218). A COMMIT for the compositor runs the binding, scaler, chain, flow, admission and compute checks, and is accepted as PENDING or refused. -/
  | compositorCommit (t : Nat) (q : Req) (treq : Option Nat)
  /-- LAY_CANCEL (R218). A write of LAY_CANCEL aborts a pending compositor commit before its commit point, and is answered NOT_ACTIVE otherwise. -/
  | layCancel (t : Nat) (q : Req) (v : List Byte)
  /-- TILE_ISSUE (R233). The compositor composes a patch and issues a FRAME tile to a cluster of its view once the previous row has reached the slicer and pages are free. -/
  | tileIssue (t : Nat) (cls : Fin 3) (n : Fin 4) (v : Fin 8) (layer : Fin 64) (prev : Bool) (x y : Nat) (bad : List (Fin 64))
  /-- ENGINE_DISPATCH (R234). An idle engine takes the highest-priority, earliest tile from its cluster's queues and runs its chain. -/
  | engineDispatch (t : Nat) (e : Fin 1024)
  /-- TILE_RESULT (R235). A tile's final output reaches the slicer, the compositor or the job writer; duplicates and stale frames are discarded and the pages are released. -/
  | tileResult (t : Nat) (e : Fin 1024) (corrected : Nat)
  /-- TILE_FAULT (R236). A stage faults (ILLEGAL, ADDRESS, BUDGET, MEMORY, KERNEL or HEADER), its output is discarded and the fault is recorded. -/
  | tileFault (t : Nat) (e : Fin 1024) (cause : Fin 8) (shared : Bool)
  /-- CLUSTER_OFFLINE_REQ (R240). A write of false to CRV_CL_ONLINE starts draining the cluster after the capacity checks, or is refused CAPACITY. -/
  | clusterOfflineReq (t : Nat) (q : Req) (c : Fin 16)
  /-- CLUSTER_DRAINED (R240). A draining cluster's running tiles finish, so it reads OFFLINE and E113 is raised. -/
  | clusterDrained (t : Nat) (c : Fin 16)
  /-- CLUSTER_ONLINE_REQ (R241). A write of true to CRV_CL_ONLINE on an OFFLINE or FAULTED cluster starts its memory test and reload. -/
  | clusterOnlineReq (t : Nat) (q : Req) (c : Fin 16)
  /-- CLUSTER_TEST_DONE (R241). A cluster's self-test ends, leaving it ONLINE with a view (E114) or FAULTED (E115). -/
  | clusterTestDone (t : Nat) (c : Fin 16) (ok : Bool)
  /-- KERNEL_INSTALL (R248). A completed transfer to CRV_KERNEL_STAGE is checked and copied into every cluster, with E116 at its list entry, or refused with E117. -/
  | kernelInstall (t : Nat)
  /-- CRV_KERNEL_REMOVE (R249). A write of CRV_KERNEL_REMOVE removes a kernel, and is refused KERNEL_IN_USE while a chain or job names it. -/
  | crvKernelRemove (t : Nat) (q : Req) (v : List Byte)
  /-- CRV_JOB (R256). A write of CRV_JOB starts a Carve job in a free slot after its checks, holding references and issuing JOB tiles. -/
  | crvJob (t : Nat) (q : Req) (v : List Byte)
  /-- CRV_JOB_CANCEL (R257). A write of CRV_JOB_CANCEL aborts a job before its commit point, and is answered NOT_ACTIVE otherwise. -/
  | crvJobCancel (t : Nat) (q : Req) (v : List Byte)
  /-- CRV_JOB_END (R257). A Carve job ends COMPLETED, ABORTED or FAILED, releases its references and raises E118. -/
  | crvJobEnd (t : Nat) (j : Fin 4)
  /-- NOP (R244). The NOP instruction does nothing for one cycle. -/
  | engNop (t : Nat) (e : Fin 1024)
  /-- END (R244). The END instruction ends the stage with the buffer at s2 as its output. -/
  | engEnd (t : Nat) (e : Fin 1024) (clips : Nat)
  /-- BR (R244). The BR instruction branches unconditionally. -/
  | br (t : Nat) (e : Fin 1024)
  /-- BRS (R244). The BRS instruction branches if COND holds on two scalars. -/
  | brs (t : Nat) (e : Fin 1024)
  /-- FAULT (R244). The FAULT instruction raises a KERNEL fault. -/
  | engFault (t : Nat) (e : Fin 1024)
  /-- SHDR (R244). The SHDR instruction loads a word of the Piste header into a scalar. -/
  | shdr (t : Nat) (e : Fin 1024)
  /-- SADD (R244). The SADD instruction adds two scalars. -/
  | sadd (t : Nat) (e : Fin 1024)
  /-- SSUB (R244). The SSUB instruction subtracts two scalars. -/
  | ssub (t : Nat) (e : Fin 1024)
  /-- SMUL (R244). The SMUL instruction multiplies two scalars, keeping the low 32 bits. -/
  | smul (t : Nat) (e : Fin 1024)
  /-- SAND (R244). The SAND instruction is a scalar bitwise AND. -/
  | sand (t : Nat) (e : Fin 1024)
  /-- SOR (R244). The SOR instruction is a scalar bitwise OR. -/
  | sor (t : Nat) (e : Fin 1024)
  /-- SXOR (R244). The SXOR instruction is a scalar bitwise XOR. -/
  | sxor (t : Nat) (e : Fin 1024)
  /-- SSHL (R244). The SSHL instruction shifts a scalar left. -/
  | sshl (t : Nat) (e : Fin 1024)
  /-- SSHR (R244). The SSHR instruction shifts a scalar right, logically or arithmetically. -/
  | sshr (t : Nat) (e : Fin 1024)
  /-- SMOVI (R244). The SMOVI instruction loads an immediate into a scalar. -/
  | smovi (t : Nat) (e : Fin 1024)
  /-- SADDI (R244). The SADDI instruction adds an immediate to a scalar. -/
  | saddi (t : Nat) (e : Fin 1024)
  /-- SLD (R244). The SLD instruction loads a 32-bit word from memory into a scalar. -/
  | sld (t : Nat) (e : Fin 1024)
  /-- SST (R244). The SST instruction stores a scalar to local memory. -/
  | sst (t : Nat) (e : Fin 1024)
  /-- VADD (R244). The VADD instruction adds vectors modulo the element width. -/
  | vadd (t : Nat) (e : Fin 1024)
  /-- VSUB (R244). The VSUB instruction subtracts vectors modulo the element width. -/
  | vsub (t : Nat) (e : Fin 1024)
  /-- VADDS (R244). The VADDS instruction adds vectors with saturation, setting SAT when it clamps. -/
  | vadds (t : Nat) (e : Fin 1024)
  /-- VSUBS (R244). The VSUBS instruction subtracts vectors with saturation, setting SAT when it clamps. -/
  | vsubs (t : Nat) (e : Fin 1024)
  /-- VMUL (R244). The VMUL instruction multiplies vectors, keeping the low bits. -/
  | vmul (t : Nat) (e : Fin 1024)
  /-- VMULQ (R244). The VMULQ instruction multiplies vectors with a rounded shift and saturation. -/
  | vmulq (t : Nat) (e : Fin 1024)
  /-- VMAC (R244). The VMAC instruction multiply-accumulates vectors with a rounded shift and saturation. -/
  | vmac (t : Nat) (e : Fin 1024)
  /-- VMIN (R244). The VMIN instruction takes the element-wise minimum. -/
  | vmin (t : Nat) (e : Fin 1024)
  /-- VMAX (R244). The VMAX instruction takes the element-wise maximum. -/
  | vmax (t : Nat) (e : Fin 1024)
  /-- VAND (R244). The VAND instruction is a vector bitwise AND. -/
  | vand (t : Nat) (e : Fin 1024)
  /-- VOR (R244). The VOR instruction is a vector bitwise OR. -/
  | vor (t : Nat) (e : Fin 1024)
  /-- VXOR (R244). The VXOR instruction is a vector bitwise XOR. -/
  | vxor (t : Nat) (e : Fin 1024)
  /-- VSHL (R244). The VSHL instruction shifts vector elements left. -/
  | vshl (t : Nat) (e : Fin 1024)
  /-- VSHR (R244). The VSHR instruction shifts vector elements right, logically or arithmetically. -/
  | vshr (t : Nat) (e : Fin 1024)
  /-- VLERP (R244). The VLERP instruction interpolates linearly between 16-bit elements. -/
  | vlerp (t : Nat) (e : Fin 1024)
  /-- VCMP (R244). The VCMP instruction compares lanes into a predicate register. -/
  | vcmp (t : Nat) (e : Fin 1024)
  /-- VSEL (R244). The VSEL instruction selects lanes by a predicate. -/
  | vsel (t : Nat) (e : Fin 1024)
  /-- VBCAST (R244). The VBCAST instruction broadcasts a scalar to every lane. -/
  | vbcast (t : Nat) (e : Fin 1024)
  /-- VMOVI (R244). The VMOVI instruction loads an immediate into every lane. -/
  | vmovi (t : Nat) (e : Fin 1024)
  /-- VLANE (R244). The VLANE instruction forms sA + i·sB in lane i. -/
  | vlane (t : Nat) (e : Fin 1024)
  /-- VEXT (R244). The VEXT instruction extracts one lane into a scalar. -/
  | vext (t : Nat) (e : Fin 1024)
  /-- VPACK (R244). The VPACK instruction packs two vectors into saturated 16-bit halves. -/
  | vpack (t : Nat) (e : Fin 1024)
  /-- VUNPK (R244). The VUNPK instruction unpacks one half of each lane with zero or sign extension. -/
  | vunpk (t : Nat) (e : Fin 1024)
  /-- VLD (R244). The VLD instruction loads 64 aligned bytes into a vector. -/
  | vld (t : Nat) (e : Fin 1024)
  /-- VST (R244). The VST instruction stores a vector's guarded lanes to local memory. -/
  | vst (t : Nat) (e : Fin 1024)
  /-- GATHER (R244). The GATHER instruction loads an element per lane from indexed addresses. -/
  | gather (t : Nat) (e : Fin 1024)
  /-- TETRA (R124). The TETRA instruction performs tetrahedral LUT interpolation per lane. -/
  | tetra (t : Nat) (e : Fin 1024)
  /-- BPX (R244). The BPX instruction transposes 16 elements into bit planes. -/
  | bpx (t : Nat) (e : Fin 1024)
  /-- DITO (R244). The DITO instruction applies ordered dither and quantises to SH bits. -/
  | dito (t : Nat) (e : Fin 1024)
  /-- DIFE (R245). The DIFE instruction applies error-diffusion quantisation along 32 elements. -/
  | dife (t : Nat) (e : Fin 1024)
  /-- INLINE_COMPRESS (R263). A plane block from the slicer is compressed by a free inline unit and stored as zero, raw (NO_GAIN) or in granules. -/
  | inlineCompress (t : Nat) (n : Fin 4) (stream : List Byte)
  /-- CODEC_BYPASS (R272). No compress unit is free within 128 CODEC cycles, so the block is stored raw, CODEC_BYPASS increments and E132 is raised for the first of a frame. -/
  | codecBypass (t : Nat) (n : Fin 4)
  /-- INLINE_DECOMPRESS (R273). A plane block read is decoded by an inline decompress unit, and E130 is raised if it is unreadable. -/
  | inlineDecompress (t : Nat) (n : Fin 4)
  /-- CODEC_COMPRESS (R275). A CODEC_JOB write with OP COMPRESS starts a codec job that writes a codec image, after its checks. -/
  | codecCompress (t : Nat) (q : Req) (mode : Fin 256) (rest : List Byte)
  /-- CODEC_DECOMPRESS (R275). A CODEC_JOB write with OP DECOMPRESS starts a codec job that expands a codec image to raw blocks, after its checks. -/
  | codecDecompress (t : Nat) (q : Req) (mode : Fin 256) (rest : List Byte)
  /-- CODEC_JOB_CANCEL (R277). A write of CODEC_JOB_CANCEL aborts a codec job before its commit point, and is answered NOT_ACTIVE otherwise. -/
  | codecJobCancel (t : Nat) (q : Req) (v : List Byte)
  /-- CODEC_JOB_END (R277). A codec job ends COMPLETED, ABORTED or FAILED (DECODE), releases its references and raises E131. -/
  | codecJobEnd (t : Nat) (u : Fin 2) (streams : List (List Byte))
  /-- MEM_REQUEST (R288). A port request enters its subchannel queue under its token bucket and is checked against queued writes. -/
  | memRequest (t : Nat) (port : Fin 24) (write : Bool) (addr len : Nat) (data : List Byte)
  /-- REFRESH_TICK (R300). At each tREFI tick a rank's owed count rises and refreshes are issued opportunistically or forced at the cap. -/
  | refreshTick (t : Nat) (c : Fin 8) (r : Fin 2)
  /-- MR4_POLL (R299). Every 32 µs MR4 of each rank is read to find its refresh zone; a failed read takes the 2× zone (E152). -/
  | mr4Poll (t : Nat) (c : Fin 8) (r : Fin 2) (zone : Option Bool)
  /-- ROW_IDLE_CLOSE (R294). A bank with no request for 64 DCTL cycles closes its open row. -/
  | rowIdleClose (t : Nat) (c : Fin 8) (sub r : Fin 2) (bg : Fin 8) (bank : Fin 4)
  /-- POWER_DOWN_ENTRY (R294). A rank idle for 64 DCTL cycles enters precharge power-down when the tolerance allows it. -/
  | powerDownEntry (t : Nat) (c : Fin 8) (r : Fin 2)
  /-- MEM_FREQ_TARGET (R307). A write of MEM_FREQ_TARGET requests a setpoint change (WAITING), aborts one to the setpoint in force, or is refused. -/
  | memFreqTarget (t : Nat) (q : Req) (v : List Byte)
  /-- MEM_TSET_SEL (R307). A write of MEM_TSET_SEL selects the timing sets and aborts a waiting change before its commit point. -/
  | memTsetSel (t : Nat) (q : Req) (v : List Byte)
  /-- FREQ_CHANGE_START (R306). At the first DCTL cycle at which every output's tolerance exceeds blackout plus margin, with no forced refresh or conversion pending, the change sequence starts. -/
  | freqChangeStart (t : Nat)
  /-- FREQ_CHANGE_DONE (R306). The change sequence ends, the new setpoint is in force, E142 is raised and MEM_FREQ_CHANGES increments. -/
  | freqChangeDone (t : Nat)
  /-- FREQ_CHANGE_ABANDON (R307). No eligible cycle has come within MEM_FREQ_WAIT, so the change ends ABANDONED and E143 is raised. -/
  | freqChangeAbandon (t : Nat)
  /-- MEM_INTERLEAVE (R286). A write of MEM_INTERLEAVE, MEM_HASH or MEM_BANK_HASH while memory is idle changes the mapping and clears the valid bitmap again. -/
  | memInterleave (t : Nat) (q : Req) (which : Fin 3) (v : List Byte)
  /-- RDIMM_ALERT (R313). An RDIMM alert is received, the affected command is retried, and E150 is raised. -/
  | rdimmAlert (t : Nat) (c : Fin 8)
  /-- BITMAP_CLEAR_DONE (R324). The cold-boot clear of the valid bitmap completes, INTG_CLEAR_TIME is recorded and E160 is raised. -/
  | bitmapClearDone (t : Nat)
  /-- BURST_READ (R327). A port's burst read returns and each word passes the valid bitmap and the light code, being delivered clean, corrected, poisoned or sent to repair. -/
  | burstRead (t : Nat) (port : Fin 24) (verdict : List Nat) (metaBad : Bool)
  /-- PAGE_REPAIR (R328). A read-path repair decodes a CURRENT page with the page code and succeeds (E161), poisons the words left (E162), or is discarded because the page turned STALE. -/
  | pageRepair (t : Nat) (corr unc : List (Fin 512))
  /-- PAGE_SETTLED (R332). A stale-tracker page has had no port write for INTG_SETTLE and is coded by the Groomer under R333. -/
  | pageSettled (t : Nat) (c : Fin 8) (page began : Nat) (corr unc : List (Fin 512))
  /-- STALE_TRACKER_SCAN (R332). Once tracker occupancy falls below 2,048, the page-state array is scanned and untracked STALE GROOMED pages are entered. -/
  | staleTrackerScan (t : Nat) (c : Fin 8)
  /-- ROUND_VISIT (R334). The background round visits the next GROOMED page, verifying, repairing, recoding or coding it. -/
  | roundVisit (t : Nat) (corr unc : List (Fin 512)) (fixed parity : Bool)
  /-- ROUND_END (R334). The INTG_ROUND period ends: an unfinished round raises E168, and tracker entries without corrections are cleared. -/
  | roundEnd (t : Nat)
  /-- WRITE_BACK (R336). A queued tracker write-back rewrites the corrected block with the same data, raises E164 and sets the entry WATCHING. -/
  | writeBack (t : Nat)
  /-- PAGE_RETIRE (R337). A page is copied to a spare, a remap is installed and the original is marked RETIRED (E166), or E167 is raised when no spare is free. -/
  | pageRetire (t : Nat) (hit : Bool)
  /-- RETIRE_RETRY (R337). A retirement copy abandoned by a port write is tried again after INTG_SETTLE, and INTG_RETIRE_RETRIES counts it. -/
  | retireRetry (t : Nat) (hit : Bool)
  /-- INTG_SWEEP (R339). A write of INTG_SWEEP starts a host verify sweep, or is refused NO_SLOT or on its handle. -/
  | intgSweep (t : Nat) (q : Req) (v : List Byte)
  /-- INTG_SWEEP_CANCEL (R339). A write of INTG_SWEEP_CANCEL aborts a sweep before publication, and is answered NOT_ACTIVE otherwise. -/
  | intgSweepCancel (t : Nat) (q : Req) (v : List Byte)
  /-- SWEEP_END (R339). A sweep publishes INTG_SWEEP_RESULT as COMPLETED, or ends ABORTED, and raises E170. -/
  | sweepEnd (t : Nat) (visits : List (List (Fin 512) × List (Fin 512) × Bool × Bool))
  /-- INTG_RETIRE_LIST (R338). A write of INTG_RETIRE_LIST while memory is idle installs remap entries to spares, or is refused BAD_VALUE. -/
  | intgRetireList (t : Nat) (q : Req) (v : List Byte)
  /-- LINK_UP (R345). A port holds block lock without hi_ber for 100 ms and becomes UP (E180). -/
  | linkUp (t : Nat) (p : Fin 4) (since : Nat)
  /-- LINK_DOWN (R345). A port loses block lock or enters hi_ber and becomes DOWN (E181), taking its flow legs down. -/
  | linkDown (t : Nat) (p : Fin 4)
  /-- FRAME_RX (R346). An Ethernet frame is received, timestamped if it is PTP, checked, and switched by VLAN, MAC table and multicast snooping or delivered to the internal endpoint. -/
  | frameRx (t : Nat) (p : Fin 4) (fcsOk : Bool) (fecCorrected fecBad : Nat) (bytes : List Byte)
  /-- MAC_AGE_OUT (R346). A learned MAC entry not refreshed for NET_MAC_AGE is removed. -/
  | macAgeOut (t : Nat)
  /-- MEMBERSHIP_EXPIRY (R349). A snooped multicast membership not renewed within 260 s stops forwarding the group to its port. -/
  | membershipExpiry (t : Nat)
  /-- ARP_RX (R350). An ARP request for the device's address is answered. -/
  | arpRx (t : Nat) (p : Fin 4) (vlan target sender mac : Nat)
  /-- NEIGHBOUR_SOLICITATION_RX (R350). An IPv6 Neighbour Solicitation for the device's address is answered. -/
  | neighbourSolicitationRx (t : Nat) (p : Fin 4) (vlan : Nat) (target src : List Byte) (mac : Nat)
  /-- ECHO_RX (R350). An ICMP or ICMPv6 echo request to the device is answered. -/
  | echoRx (t : Nat) (p : Fin 4) (vlan : Nat) (v6 : Bool) (dst src data : List Byte)
  /-- MEMBERSHIP_QUERY_RX (R351). An IGMPv3 or MLDv2 query is answered with a membership report for each enabled flow leg. -/
  | membershipQueryRx (t : Nat) (p : Fin 4) (vlan : Nat) (v6 : Bool) (group : List Byte)
  /-- MEMBERSHIP_REPORT_REPEAT (R351). One second after a leg starts, its membership report is sent a second time. -/
  | membershipReportRepeat (t : Nat)
  /-- MEDIA_PACKET_RX (R355). An ST 2110-20 packet is checked, deduplicated across ST 2022-7 legs, and its pixels are converted and written into the chosen pool buffer. -/
  | mediaPacketRx (t : Nat) (p : MediaPkt)
  /-- FLOW_FRAME_COMPLETE (R360). All of a frame's rows are written and its marker has arrived, so the buffer becomes READY and the flow queues a flip. -/
  | flowFrameComplete (t : Nat) (f : Fin 8)
  /-- FLOW_FRAME_INCOMPLETE (R361). A frame that is still incomplete the longer of 1 ms and NET_FLOW_SKEW after a newer timestamp arrived is ended incomplete without a flip (E184). -/
  | flowFrameIncomplete (t : Nat) (f : Fin 8)
  /-- PACKET_LOST (R363). A sequence number is declared lost when NET_FLOW_SKEW has passed since a higher number arrived, and NET_FLOW_LOST_PKTS increments. -/
  | packetLost (t : Nat) (f : Fin 8)
  /-- LEG_DOWN (R363). An ST 2022-7 leg with no packet for 100 ms is declared down (E186). -/
  | legDown (t : Nat) (f : Fin 8) (leg : Fin 2)
  /-- FLOW_STOPPED (R370). A flow with no packet on any leg for 100 ms stops receiving (E183). -/
  | flowStopped (t : Nat) (f : Fin 8)
  /-- WAKE_FRAME_RX (R367). In STANDBY a UDP wake frame carrying the matching token presents NETWAKE to Patrol. -/
  | wakeFrameRx (t : Nat) (p : Fin 4) (vlan : Nat) (dst : List Byte) (udp : Nat) (payload : List Byte)
  /-- READ (R375). A READ request returns an object's value after the checks of R381. -/
  | read (t : Nat) (q : Req) (ref : Nat)
  /-- WRITE (R381). A WRITE to an object with no behaviour of its own is checked (level, access, type, range) and applied. -/
  | write (t : Nat) (q : Req) (ref : Nat) (v : List Byte) (env : WriteEnv)
  /-- READ_MULTI (R381). A READ_MULTI request returns up to 64 values, each with its own status and each read atomically. -/
  | readMulti (t : Nat) (q : Req) (refs : List Nat)
  /-- WRITE_MULTI (R381). A WRITE_MULTI request applies up to 64 writes in order, each with its own status, without atomicity. -/
  | writeMulti (t : Nat) (q : Req) (entries : List (Nat × List Byte × WriteEnv))
  /-- DESCRIBE (R392). A DESCRIBE request returns an object's type, access, levels, flags, size, default, name and units. -/
  | describe (t : Nat) (q : Req) (ref : Nat)
  /-- FENCE (R384). A FENCE is answered with TIME_NOW once every earlier request of its session has been answered and its writes acknowledged. -/
  | fence (t : Nat) (q : Req)
  /-- BLOCK_OPEN (R385). A BLOCK_OPEN opens a transfer to or from a DOMAIN after its checks, or is refused. -/
  | blockOpen (t : Nat) (q : Req) (ref dir block handle off len : Nat)
  /-- BLOCK_DATA (R386). A BLOCK_DATA block is written in place if it is within the window; completion of the last block commits the transfer. -/
  | blockData (t : Nat) (q : Req) (tid n : Nat) (data : List Byte)
  /-- BLOCK_ACK (R386). A host BLOCK_ACK on a device-to-host transfer tells the device which blocks to resend. -/
  | blockAck (t : Nat) (q : Req) (tid cum map : Nat)
  /-- BLOCK_ACK_TIMER (R386). 1 ms after the last unacknowledged block, the receiver sends BLOCK_ACK. -/
  | blockAckTimer (t tid : Nat)
  /-- BLOCK_RESEND (R386). In direction 1 the device resends blocks still missing 10 ms after they were sent. -/
  | blockResend (t tid : Nat)
  /-- BLOCK_ABORT (R387). A BLOCK_ABORT ends a transfer ABORTED before its commit point, and is answered NOT_ACTIVE after. -/
  | blockAbort (t : Nat) (q : Req) (tid : Nat)
  /-- TRANSFER_IDLE (R387). A transfer with no block for DICT_XFER_IDLE is aborted and E206 is raised. -/
  | transferIdle (t tid : Nat)
  /-- SUBSCRIBE (R388). A SUBSCRIBE creates an event or object subscription, or is refused. -/
  | subscribe (t : Nat) (q : Req) (kind mode : Fin 256) (interval : Fin 65536) (target : List Byte)
  /-- UNSUBSCRIBE (R388). An UNSUBSCRIBE ends a subscription. -/
  | unsubscribe (t : Nat) (q : Req) (id : Nat)
  /-- EVENT_SEND (R389). Matching records from each 1 ms, or a due ON_CHANGE or PERIODIC value, are sent in a tagged EVENT. -/
  | eventSend (t id : Nat)
  /-- EVENT_RESEND (R390). An EVENT unacknowledged for 100 ms is resent, and after three tries the subscription is suspended (E207). -/
  | eventResend (t num seq : Nat)
  /-- EVENT_ACK (R390). An EVENT_ACK acknowledges an EVENT by its device SEQ. -/
  | eventAck (t : Nat) (q : Req) (seq : Nat)
  /-- HELLO (R376). A HELLO opens a handshake and is answered with CHALLENGE, or refused NO_KEY, ACCESS_LEVEL or NO_SLOT. -/
  | hello (t : Nat) (q : Req) (principal level : Fin 256) (nonce ekey : List Byte)
  /-- PROVE (R377). A PROVE whose signature verifies opens the session with ACCEPT (E200), and a bad one fails the handshake (E202). -/
  | prove (t : Nat) (q : Req) (sig : List Byte)
  /-- CHALLENGE_LAPSE (R376). A CHALLENGE left unanswered for 5 s lapses. -/
  | challengeLapse (t num : Nat)
  /-- CLOSE (R377). A CLOSE ends the session, aborting its transfers and removing its subscriptions (E201). -/
  | close (t : Nat) (q : Req)
  /-- SESSION_IDLE (R377). A session with no authenticated request for DICT_SESSION_IDLE ends (E201). -/
  | sessionIdle (t num : Nat)
  /-- DICT_RESTORE (R393). A write of DICT_RESTORE returns objects in an index range to their defaults by access code (E209), or is refused COMMIT_PENDING. -/
  | dictRestore (t : Nat) (q : Req) (v : List Byte)
  /-- UDP_PORT_SWITCH (R396). One second after a DICT_UDP_PORT write, the old Resil port stops being served. -/
  | udpPortSwitch (t : Nat)
  /-- COUNTER_CLEAR (R505). A write of 0 to a saturating counter clears it and its SAT flag. -/
  | counterClear (t : Nat) (q : Req) (ref : Nat) (v : List Byte)
  /-- DISCOVER_SEND (R401). Every HIER_DISCOVER_PERIOD the manager sends DISCOVER with a new round on each enabled port. -/
  | discoverSend (t : Nat)
  /-- DISCOVER (R402). A received DISCOVER is relayed once per round on the other ports and answered with a unicast ANNOUNCE. -/
  | discover (t : Nat) (p : Fin 4) (d : List Byte)
  /-- ANNOUNCE (R402). The manager receives an ANNOUNCE and records the device's position key, detecting conflicts, replacements and new devices. -/
  | announce (t : Nat) (d : List Byte) (hs : Option (Nat × List Byte))
  /-- HIER_NODE_ID (R399). A write of HIER_NODE_ID on an UNASSIGNED worker's hierarchy session assigns its node, and is refused ROLE otherwise. -/
  | hierNodeId (t : Nat) (q : Req) (v : List Byte)
  /-- CUSTODY_RESTORE_DONE (R423). The restore of a JOINING node ends: on success it is JOINED (E210), and on a refused commit it stays JOINING. -/
  | custodyRestoreDone (t n status : Nat) (snapshot : List Byte) (probes : List Nat)
  /-- HEARTBEAT (R404). Every HIER_HEARTBEAT the manager reads TIME_NOW of each node, and declares a node LOST (E211) after four missed reads. -/
  | heartbeat (t : Nat)
  /-- ORPHAN (R404). A worker without an authenticated hierarchy request for 4 × HIER_HEARTBEAT becomes ORPHAN (E218) and stops driving STB_CLK. -/
  | orphan (t : Nat)
  /-- WORKER_RESPONSE (R408). A worker's response arrives through the rings and is returned to the host under the host's session and cached. -/
  | workerResponse (t n : Nat) (m : WorkerMsg)
  /-- PROXY_TIMEOUT (R408). A proxied request unanswered for 4 × HIER_HEARTBEAT is answered NODE_LOST and its entries are consumed. -/
  | proxyTimeout (t n : Nat)
  /-- HIER_FENCE (R411). A write of HIER_FENCE at the manager sends a FENCE datagram three times, 20 µs apart. -/
  | hierFence (t : Nat) (q : Req) (v : List Byte)
  /-- FENCE_DATAGRAM (R411). A JOINED worker receiving a FENCE datagram writes its value to LAY_FENCE_DONE of the named layer if it advances. -/
  | fenceDatagram (t : Nat) (d : List Byte)
  /-- HIER_STB_PROBE (R412). A write of HIER_STB_PROBE drives NRDY asserted for 1,024 cycles outside any window, so the other nodes can count it. -/
  | hierStbProbe (t : Nat) (q : Req) (v : List Byte)
  /-- SEGMENT_CONSENSUS (R415). In the first window-A cycle in which the bus reads released, the segment reaches consensus and, under SYSTEM scope, the leader sends SEG_READY. -/
  | segmentConsensus (t : Nat)
  /-- SEGMENT_FLIP_DECIDED (R415). In the first window-B cycle in which the bus reads released, the segment decides the flip and its members take their heads at s. -/
  | segmentFlipDecided (t : Nat)
  /-- SEG_READY (R416). The manager receives SEG_READY; once every listed segment is ready it sends FLIP(k), and differing outcomes raise E214. -/
  | segReady (t : Nat) (d : List Byte)
  /-- FLIP_RX (R416). A segment leader receives FLIP(k) and may release NRDY in window B. -/
  | flipRx (t : Nat) (d : List Byte)
  /-- LEADER_APPOINT (R417). 4 × HIER_HEARTBEAT after a leader is declared lost, the manager appoints the lowest JOINED node of its segment as the new leader. -/
  | leaderAppoint (t seg : Nat)
  /-- STB_NO_CLOCK (R418). 16 cycles without an STB_CLK edge set NO_CLOCK (E219), and system flips hold. -/
  | stbNoClock (t : Nat)
  /-- STB_STUCK (R419). NRDY sampled asserted in 1,024 consecutive cycles outside every window sets STUCK (E213) and HIER_STUCK_ACTION applies. -/
  | stbStuck (t : Nat)
  /-- HIER_NODE_CAPTURE (R420). A write of HIER_NODE_CAPTURE captures a node's configuration image into custody. -/
  | hierNodeCapture (t : Nat) (q : Req) (v image : List Byte)
  /-- HIER_NODE_RELEASE (R421). A write of HIER_NODE_RELEASE frees a RESERVED or LOST node and its custody record. -/
  | hierNodeRelease (t : Nat) (q : Req) (v : List Byte)
  /-- HIER_NODE_ADOPT (R422). A write of HIER_NODE_ADOPT names the serial of a replacement to enumerate for that node. -/
  | hierNodeAdopt (t : Nat) (q : Req) (v : List Byte) (hs : Option (Nat × List Byte))
  /-- LOOP_SET_COMPUTE_DONE (R442). A loop set finishes computing its loops into the shadow state, ready for the latch. -/
  | loopSetComputeDone (t : Nat) (k : Fin 16) (load : Fin 1001)
  /-- LOOP_MODE (R441). A write of LOOP_MODE changes a loop among OFF, AUTO and MANUAL with a bumpless hand-over, or is refused LOOP_CONFIG. -/
  | loopMode (t : Nat) (q : Req) (l : Fin 256) (v : List Byte)
  /-- LOOP_SETPOINT (R435). A write of LOOP_SETPOINT or LOOP_SP_SRC starts a set-point ramp at the next boundary. -/
  | loopSetpoint (t : Nat) (q : Req) (l : Fin 256) (src : Bool) (v : List Byte)
  /-- LOOP_COEFFICIENT (R439). A write of a coefficient of the region in use, LOOP_BIAS or LOOP_FF_REF causes a hand-over at the next boundary. -/
  | loopCoefficient (t : Nat) (q : Req) (l : Fin 256) (c : Fin 22) (v : List Byte)
  /-- LOOP_FLAGS (R434). A write of LOOP_FLAGS clears the sticky flags whose bits are set. -/
  | loopFlags (t : Nat) (q : Req) (l : Fin 256) (v : List Byte)
  /-- LOOP_SET_CLEAR (R445). A write of 0x01 to LOOP_SET_CLEAR takes a set out of SAFE with a hand-over of each loop (E224), or is answered NOT_ACTIVE. -/
  | loopSetClear (t : Nat) (q : Req) (k : Fin 16) (v : List Byte)
  /-- BANDGAP (R451). A CAL_RUN request for BANDGAP trims the band-gap from its factory curve and measures REF_CAL. -/
  | bandgap (t : Nat) (q : Req) (inst : Fin 256) (rest : List Byte)
  /-- ADC (R451). A CAL_RUN request for ADC calibrates an AIN path's offset and gain against ground and REF_CAL. -/
  | adc (t : Nat) (q : Req) (inst : Fin 256) (rest : List Byte)
  /-- TEMP (R451). A CAL_RUN request for TEMP aligns an on-die sensor with CAL_TEMP_REF. -/
  | temp (t : Nat) (q : Req) (inst : Fin 256) (rest : List Byte)
  /-- SUPPLY (R451). A CAL_RUN request for SUPPLY calibrates a rail monitor against its sense AIN. -/
  | supply (t : Nat) (q : Req) (inst : Fin 256) (rest : List Byte)
  /-- PD (R451). A CAL_RUN request for PD scales a bank photodiode to CAL_PD_FLUX. -/
  | pd (t : Nat) (q : Req) (inst : Fin 256) (rest : List Byte)
  /-- BANK_EFF (R460). A CAL_RUN request for BANK_EFF starts a live efficiency sweep of a bank, or is refused HEADROOM or CAL_STATE. -/
  | bankEff (t : Nat) (q : Req) (inst : Fin 256) (rest : List Byte)
  /-- ROOTPLL (R451). A CAL_RUN request for ROOTPLL relocks the root PLL and re-centres its VCO band. -/
  | rootpll (t : Nat) (q : Req) (inst : Fin 256) (rest : List Byte)
  /-- DDR (R451). A CAL_RUN request for DDR trains a channel at the setpoint in force. -/
  | ddr (t : Nat) (q : Req) (inst : Fin 256) (rest : List Byte)
  /-- ETH (R451). A CAL_RUN request for ETH equalises a port and measures its TX and RX latencies. -/
  | eth (t : Nat) (q : Req) (inst : Fin 256) (rest : List Byte)
  /-- MLANE (R451). A CAL_RUN request for MLANE sets mirror-lane pre-emphasis against the array's ERR registers. -/
  | mlane (t : Nat) (q : Req) (inst : Fin 256) (rest : List Byte)
  /-- VERNIER (R452). A CAL_RUN request for VERNIER measures calibration-pulse edges at each setting and chooses a lane's vernier. -/
  | vernier (t : Nat) (q : Req) (inst : Fin 256) (rest : List Byte)
  /-- BANK_EFF_POINT (R460). A BANK_EFF run moves to its next target fraction, settles and averages the reading and code. -/
  | bankEffPoint (t : Nat) (b : Fin 16)
  /-- CAL_RUN_END (R455). A calibration run ends COMPLETED and publishes its coefficients (E230), or ends ABORTED or REJECTED (E231). -/
  | calRunEnd (t : Nat) (id : Fin 32) (inst : Fin 256) (a b : List Int)
  /-- CAL_CANCEL (R455). A write of CAL_CANCEL aborts a run before publication, and is answered NOT_ACTIVE otherwise. -/
  | calCancel (t : Nat) (q : Req) (v : List Byte)
  /-- CAL_AUTO (R454). Every CAL_AUTO_PERIOD in NORMAL, ADC and TEMP are re-run for all instances. -/
  | calAuto (t : Nat)
  /-- CAL_RESTORE (R457). A completed transfer to CAL_RESTORE installs a snapshot's Class M entries (E232), or refuses the image (E233). -/
  | calRestore (t : Nat)
  /-- AGE_PERIOD_TICK (R462). Every AGE_PERIOD the ageing monitors and trends are read and the margin proposals are computed and applied or published. -/
  | agePeriodTick (t : Nat) (ro : List Int) (ddrEye ethEye : List Nat)
  /-- AGE_VCORE_TARGET (R462). A host write of AGE_VCORE_TARGET is accepted in CUSTODIAL mode and refused CAL_STATE in AUTONOMOUS mode. -/
  | ageVcoreTarget (t : Nat) (q : Req) (v : List Byte)
  /-- VAUX_RELEASE (R470). VAUX rises above 2.50 V for 10 ms, the island leaves reset and the device moves from COLD to BOOT. -/
  | vauxRelease (t : Nat)
  /-- VAUX_WARNING (R470). VAUX falls below 2.45 V, presenting VAUX_WARN and raising E239. -/
  | vauxWarning (t : Nat) (below : Bool)
  /-- BROWN_OUT (R470). VAUX stays below 2.35 V for 2 µs: gates go low, every PWR_EN is deasserted and the state becomes COLD. -/
  | brownOut (t : Nat)
  /-- ISLAND_POWER_ON_RESET (R470). VAUX falls below 1.90 V and the island's state is lost. -/
  | islandPowerOnReset (t : Nat)
  /-- RAIL_GROUP_GOOD (R473). Every rail of an enabled group has read within ±5 % for 100 µs, so the start sequence proceeds to the next step. -/
  | railGroupGood (t : Nat) (g : Fin 4) (mv : List Nat) (straps : Nat) (geo : List (Nat × Nat))
  /-- RAIL_GROUP_TIMEOUT (R474). A group is not good within PWR_RAIL_TIMEOUT, so the groups on go off in reverse and E241 is raised. -/
  | railGroupTimeout (t : Nat) (rail : Fin 8)
  /-- COLD_START_RETRY (R474). After PWR_RETRY_DELAY the cold start retries from step 2, up to three attempts. -/
  | coldStartRetry (t : Nat)
  /-- BOOT_ROM_START (R517). With all groups good, the boot ROM verifies the bundle slots, loads one and applies a CONFIG, or enters RESCUE. -/
  | bootRomStart (t : Nat) (spd : List Nat) (nominal : List Byte)
  /-- STARTUP_COMPLETE (R471). Training, the bitmap clear and the STARTUP calibrations finish, and the state becomes PWR_BOOT_TARGET. -/
  | startupComplete (t : Nat)
  /-- PMBUS_POLL (R475). Every 10 ms the regulators' status, voltage and current are read, RAIL_FAULT is presented, and VDD_CORE steps toward its target. -/
  | pmbusPoll (t : Nat) (mv : List Nat) (regs : List (Option Pmbus))
  /-- CHANNEL_SAMPLE (R476). A Patrol channel samples its source every PTL_CH_PERIOD and updates its filtered value. -/
  | channelSample (t : Nat) (c : Fin 16) (x : Option Int)
  /-- RULE_EVAL (R478). Every PTL_EVAL_PERIOD Patrol evaluates rules 0 to 31 and asserts or deasserts them with their actions. -/
  | ruleEval (t : Nat)
  /-- SCHEDULED_EVAL (R483). At PTL_WAKE_AT − 24 ms Patrol makes an extra evaluation in which SCHEDULED is true, so that READY falls on PTL_WAKE_AT. -/
  | scheduledEval (t : Nat)
  /-- PTL_WAKE_AT (R483). A write of PTL_WAKE_AT schedules or cancels a wake, and is refused WAKE_TIME for a too-early or malformed instant. -/
  | ptlWakeAt (t : Nat) (q : Req) (v : List Byte)
  /-- PTL_RULE (R478). A write of PTL_RULE installs a rule entry, or is refused RULE_BAD. -/
  | ptlRule (t : Nat) (q : Req) (r : Fin 32) (v : List Byte)
  /-- PTL_RULE_CLEAR (R479). A write of PTL_RULE_CLEAR releases a latched rule and its PATROL gate cause. -/
  | ptlRuleClear (t : Nat) (q : Req) (r : Fin 32) (v : List Byte)
  /-- STATE_REQ_NORMAL (R472). A PWR_STATE_REQ of NORMAL moves the device to NORMAL where allowed, or is refused STATE_REQUEST or RECOVERY_CAUSE. -/
  | stateReqNormal (t : Nat) (q : Req)
  /-- STATE_REQ_TEST (R472). A PWR_STATE_REQ of TEST moves the device to TEST where allowed, or is refused. -/
  | stateReqTest (t : Nat) (q : Req)
  /-- STATE_REQ_STANDBY (R472). A PWR_STATE_REQ of STANDBY starts standby entry, or is held until READY during a wake. -/
  | stateReqStandby (t : Nat) (q : Req)
  /-- STANDBY_ENTRY (R481). A standby decision (E242) forces gates low, stops activity, saves and self-refreshes DRAM, moves supplies to the island and turns off the groups. -/
  | standbyEntry (t : Nat) (finish : Nat)
  /-- COLD_STANDBY (R484). A standby from BOOT or STARTUP turns off every group including PWR_EN3. -/
  | coldStandby (t : Nat)
  /-- WARM_WAKE (R482). A wake decision starts the 24 ms warm-wake sequence of rail, DRAM, firmware and loop restarts. -/
  | warmWake (t : Nat)
  /-- WAKE_READY (R482). Exactly 24 ms after the decision the device reaches READY (E243), or RECOVERY with WAKE_LATE (E244), and timing generators restart. -/
  | wakeReady (t : Nat)
  /-- WAKE_RAIL_FAIL (R482). A rail group fails during a warm wake, so the groups go off again, the device stays in STANDBY and E244 is raised. -/
  | wakeRailFail (t : Nat) (rail : Fin 8)
  /-- COLD_WAKE (R484). A wake from cold standby runs the cold start and raises E244 with COLD. -/
  | coldWake (t : Nat)
  /-- EVENT_CAPTURE (R497). A raised source enters the capture FIFO in the next PERI cycle, coalesces into its pending record, or is lost when there is no room. -/
  | eventCapture (t : Nat)
  /-- LOG_DRAIN (R497). Every 64 PERI cycles the FIFO head is written to the log ring under the ring policy. -/
  | logDrain (t : Nat)
  /-- EVT_LOG_READ (R500). A write of EVT_LOG_READ acknowledges records up to a SEQ, or is refused LOG_RANGE. -/
  | evtLogRead (t : Nat) (q : Req) (v : List Byte)
  /-- EVT_LOG_RESET (R501). A write of 0x01 to EVT_LOG_RESET discards the unread records, clears EVT_RING_FULL and raises E255. -/
  | evtLogReset (t : Nat) (q : Req) (v : List Byte)
  /-- EVT_LOST_MAP (R498). A write of EVT_LOST_MAP clears the set bits and their EVT_LOST entries, ending the lost episode when no bit remains. -/
  | evtLostMap (t : Nat) (q : Req) (v : List Byte)
  /-- EVT_COUNT_CLEAR (R508). A write of EVT_COUNT_CLEAR clears the selected EVT_COUNT entries and their SAT bits. -/
  | evtCountClear (t : Nat) (q : Req) (v : List Byte)
  /-- SEC_STAGE (R525). A completed transfer to SEC_STAGE verifies and programs a bundle or CONFIG, sets it STAGED, and raises E249 with the outcome. -/
  | secStage (t : Nat)
  /-- SEC_ACTIVATE (R526). A write of SEC_ACTIVATE runs the activation: boot record, Slalom swap, Patrol restart, processor restart and kernel installation. -/
  | secActivate (t : Nat) (q : Req) (v : List Byte)
  /-- ACTIVATION_CONFIRM (R526). After SEC_CONFIRM_TIME of uninterrupted heartbeat, the new slot becomes ACTIVE with TRIES 0xFF and E250 is raised. -/
  | activationConfirm (t : Nat)
  /-- ACTIVATION_REVERT (R527). New firmware without a heartbeat within 1 s, or restarted before confirmation, is reverted to the old slot and E248 is raised. -/
  | activationRevert (t : Nat) (silent : Bool)
  /-- MGMT_WATCHDOG (R528). No heartbeat for 100 ms resets the management processor alone (E246) and restarts it from its checked image. -/
  | mgmtWatchdog (t : Nat)
  /-- MGMT_RESTART_DONE (R528). The restarted management processor serves the processor path again, or stays down with the FIRMWARE cause set (E247). -/
  | mgmtRestartDone (t : Nat) (same : Bool)
  /-- SEC_QUOTE_REQ (R520). A write of SEC_QUOTE_REQ starts a signed attestation quote over the nonce and registers, or is refused NO_SLOT. -/
  | secQuoteReq (t : Nat) (q : Req) (v : List Byte)
  /-- QUOTE_READY (R520). The quote is signed and readable in SEC_QUOTE. -/
  | quoteReady (t : Nat)
  /-- SEC_EXTEND (R519). A write of SEC_EXTEND extends M7 with a host digest and logs the entry. -/
  | secExtend (t : Nat) (q : Req) (v : List Byte)
  /-- SEC_KEY_ENROL (R522). A write of SEC_KEY_ENROL blows a customer key digest, stores the record, extends M0 and raises E251, or is refused KEY_USED. -/
  | secKeyEnrol (t : Nat) (q : Req) (v : List Byte)
  /-- SEC_KEY_REVOKE (R522). A write of SEC_KEY_REVOKE blows a slot's revocation bit. -/
  | secKeyRevoke (t : Nat) (q : Req) (v : List Byte)
  /-- SEC_ROLLBACK_ADVANCE (R523). A write of SEC_ROLLBACK_ADVANCE blows rollback steps up to v, or is refused ROLLBACK or ROLLBACK_SLOT. -/
  | secRollbackAdvance (t : Nat) (q : Req) (v : List Byte)
  /-- SEC_JTAG_UNLOCK (R524). A signed write of SEC_JTAG_UNLOCK unlocks the TAP at TEST or DEBUG, extending M0, or is refused SIGNATURE. -/
  | secJtagUnlock (t : Nat) (q : Req) (v : List Byte)
  /-- SEC_JTAG_LOCK (R524). A write of SEC_JTAG_LOCK relocks the TAP. -/
  | secJtagLock (t : Nat) (q : Req) (v : List Byte)
  /-- SEC_CONFIG_SAVE (R530). A write of SEC_CONFIG_SAVE builds a device-signed CONFIG image of the values in force and stages it. -/
  | secConfigSave (t : Nat) (q : Req) (v : List Byte)
  /-- SEC_FW_CLEAR (R528). A write of SEC_FW_CLEAR clears the FIRMWARE recovery cause while the processor runs. -/
  | secFwClear (t : Nat) (q : Req) (v : List Byte)
  /-- INTLK_RELEASE (R99). INTLK_N rises: the lanes are no longer held by the pin, and GATE_INTLK_STATE moves from 1 to 2, released and awaiting re-arm. -/
  | intlkRelease (t : Nat)
  /-- STB_CLK_EDGE (R413). A rising edge of STB_CLK arrives. Each device may change its NRDY driver, samples the bus 165 ticks later, and updates its window, probe, NO_CLOCK and STUCK counts. -/
  | stbClkEdge (t : Nat) (others : Bool)
  /-- SUBCHANNEL_SCHEDULE (R292). At each DCTL cycle the subchannel scheduler switches read/write direction, promotes starved requests and issues the next DRAM command, including write column commands and opportunistic refreshes. -/
  | subchannelSchedule (t : Nat) (c : Fin 8) (sub : Fin 2) (elig : List Nat) (ref : List (Fin 2))
  /-- ROOTPLL_RETRY (R451). While a failed ROOTPLL run leaves the device in RECOVERY with time FREERUN, the device starts a new ROOTPLL run every 1 s until one is accepted. -/
  | rootpllRetry (t : Nat)
  /-- RAIL_FAULT (R475). A rail monitor reads outside ±5 % for 100 µs while its group is on, so the RAIL_FAULT condition is presented and E241 is raised once per episode. -/
  | railFault (t : Nat) (r : Fin 8) (mv : Nat)
  /-- TAP_INSTRUCTION (R524). An IEEE 1149.1 instruction is shifted in and run on the TAP, gated by the unlock level, with gate, timing and lamp-wire boundary cells held low or idle. -/
  | tapInstruction (t : Nat) (code : Fin 6) (data : Nat)
  /-- FREE_BITMAP_CLEAR_DONE (R322). The valid-bitmap clear of a freed buffer, clip or cache surface completes, and its space returns to the free pool. -/
  | freeBitmapClearDone (t : Nat) (a : Nat)
deriving DecidableEq, Repr

end Sys2Proof
end

