-- ==== Sys2Proof/Decode.lean ====
section
/-! DEFINITION. Commands spelled by words. spec/opcode_table.json gives no row any bits (the device has no command words: its commands come
on pins and in datagrams), so no word spells a command. -/

namespace Sys2Proof

/-- The command that `nbits` bits with value `w` spell by the table: none, since no row has bits. -/
def decodeTableWord (_nbits _w : Nat) : Option Instr := none

end Sys2Proof
end

