-- ==== Sys2Proof/Config.lean ====
section
/-! DEFINITION. What an individual device or its makers fix and the spec does not print: OTP contents, keys, the public-key
functions, vendor code; and the free values of the model. Every constant here is opaque: nothing can be proved of its value. -/

namespace Sys2Proof.Config

/-- The grade code of the device, from OTP at manufacture (R3, Table 13-8). -/
opaque grade : Nat
/-- The serial number of the device, from OTP at manufacture (R3). -/
opaque serial : Nat
/-- The MAC address of the identity (Table 12-8, `NET_MAC`). -/
opaque mac : Nat
/-- The factory band-gap curve, 24 bytes of OTP (Table 16-4). -/
opaque bgFactory : List Byte
/-- `AGE_VCORE_BASE`, from OTP (Table 16-7). -/
opaque vcoreBase : Nat
/-- The vendor's Falcon-1024 public key, 1,793 bytes (R396, R513). -/
opaque vendorKey : List Byte
/-- The device identity key pair and its certificate (R521). -/
opaque identityKey : List Byte
opaque identityCert : List Byte

/-- Falcon-1024 verification: public key, message digest, signature (R376, R513, R524). -/
opaque falconVerify : List Byte → List Byte → List Byte → Bool
/-- Falcon-1024 signing with the device identity key: a fresh number and the digest give the signature (R376, R520, R530). -/
opaque falconSign : Nat → List Byte → List Byte
/-- ML-KEM-768 encapsulation: a fresh number and the encapsulation key give ciphertext and shared secret (R376). -/
opaque mlkemEncaps : Nat → List Byte → List Byte × List Byte
/-- A fresh device nonce of 32 bytes (R376, R524). -/
opaque nonce : Nat → List Byte

/-- The WHEN field that spells NEXT in a COMMIT (Table 13-2; the spec gives the word NEXT no code). -/
opaque whenNext : Nat

/-- One entry of the answer to READ_MULTI or WRITE_MULTI (R381 gives each entry its status and value and no layout): reference, status, value or result. -/
opaque multiEntry : Nat → Nat → List Byte → List Byte

/-- The code by which the record of an event (first argument) tells its causes apart (R397, R471); the spec names no codes. -/
opaque causeCode : Nat → Nat → Nat

/-- What the device's own defaultDS of IEEE 1588 holds beside the settings of Table 01-5: clockIdentity, clockAccuracy, offsetScaledLogVariance (R36). -/
opaque ptpIdentity : Nat
opaque ptpAccuracy : Nat
opaque ptpVariance : Nat
/-- The fixed latencies of the FEC encoder and decoder in ticks (R352). -/
opaque fecTx : Nat
opaque fecRx : Nat

/-- What a measurement reads after calibration: calibration identifier, instance, coefficient bytes in force, raw measurement (R449, Table 16-1; the spec gives the
coefficients and not the arithmetic that applies them). -/
opaque calibrated : Nat → Nat → List Byte → Int → Int
/-- `COL_BANK_POWER` in mW where the efficacy of the primary is 0: bank, reading, scale (Table 04-8; the quotient has no value). -/
opaque powerNoEfficacy : Nat → Nat → Nat → Nat

/-- How `MEM_FREQ_RESULT` packs outcome (1 COMPLETED, 2 ABORTED, 3 REFUSED, 4 ABANDONED) and status into 16 bits (R307; the spec gives no codes). -/
opaque freqResult : Nat → Nat → Nat

/-- The vendor kernels shipped with the device (R252): kernel identifier to version, code and parameters (Table 08-12 prints neither). -/
opaque kernelVersion : Nat → Nat
opaque kernelCode : Nat → List Byte
opaque kernelParam : Nat → List Byte
/-- What a word of cluster memory holds that no rule fills: cluster, address, tiles issued so far (R223). -/
opaque clusterByte : Nat → Nat → Nat → Byte
/-- What SHDR gives for a header word above 7 (Table 08-9): word number, tile number. -/
opaque headerBeyond : Nat → Nat → Word
/-- Blend factors that a tile asks for below the last row of the blend map (Table 08-5): output, column, row. -/
opaque blendBeyond : Nat → Nat → Nat → Nat
/-- RAMP over a rectangle one pixel wide (R211: the quotient has no value). -/
opaque rampOne : Nat
/-- A working component for a composition result above 65,535 (R193). -/
opaque composeOver : Nat → Nat
/-- One component of a fill or pattern colour of an encoding in the working encoding (R122: within 2 LSB of the exact result): layer encoding, working encoding, `COL_SDR_WHITE`,
red, green, blue, component. -/
opaque convert : Nat → Nat → Nat → Nat → Nat → Nat → Nat → Nat
/-- A scaled component (R216; the spec gives the taps and not their weights): filter, source size, destination size, destination pixel, component, and the source rectangle's component by
pixel. -/
opaque scaler : Nat → Nat × Nat → Nat × Nat → Nat × Nat → Nat → (Nat → Nat → Nat) → Nat
/-- The status of a job that failed: fault cause and tile (R257: the status records which). -/
opaque jobFault : Nat → Nat → Nat

/-- What the boot flash holds at power-on (R512): boot record copies, bundle slots, key records, configuration copies and their generations. -/
opaque flashRecord : Nat → List Byte
opaque flashSlot : Nat → List Byte
opaque flashKey : Nat → List Byte
opaque flashConfig : Nat → List Byte
opaque flashConfigGen : Nat → Nat
/-- OTP at power-on: rollback steps, digests of the customer keys (empty: none), revocation bits (R522, R523). -/
opaque otpRollback : Nat
opaque otpKey : Nat → List Byte
opaque otpRevoked : Nat
/-- The digest by which M0 is extended at BOOT for the boot ROM and the OTP state (rollback steps, key states), and for a security change (kind of Table 19-3, what changed) (R519; the spec
does not print what is digested). -/
opaque bootDigest : Nat → Nat → List Byte
opaque changeDigest : Nat → Nat → List Byte
/-- What the TAP shifts out for IDCODE, and for the boundary register or a vendor instruction (R524; the BSDL file gives them). -/
opaque tapIdcode : Nat
opaque tapBoundary : Nat → Nat → Nat
/-- The RULE byte by which the Patrol log records the failure of a rail group (R474; the spec gives none). -/
opaque railLogRule : Nat → Nat

/-- A free value: the n-th value that the spec leaves open. Nothing constrains it. -/
opaque freeValue : Nat → Nat

end Sys2Proof.Config
end

