-- ==== Sys2Proof/Machine/Bits.lean ====
section
/-! DEFINITION. Byte order, bit fields, signed readings, rounding and the CRCs that several chapters share
(R9, R12, Table 00-5). -/

namespace Sys2Proof.Machine

/-- The low `n` bytes of `v`, least significant first. -/
def leBytes : Nat → Nat → List Byte
  | 0, _ => []
  | n + 1, v => BitVec.ofNat 8 v :: leBytes n (v / 256)

/-- The low `n` bytes of `v`, most significant first (R9). -/
def beBytes (n v : Nat) : List Byte := (leBytes n v).reverse

/-- The number that bytes spell, least significant first. -/
def leNat : List Byte → Nat
  | [] => 0
  | b :: l => b.toNat + 256 * leNat l

/-- The number that bytes spell, most significant first. -/
def beNat (l : List Byte) : Nat := leNat l.reverse

/-- `len` bytes from offset `off`. -/
def slice (l : List Byte) (off len : Nat) : List Byte := (l.drop off).take len

/-- The little-endian field of `n` bytes at offset `off`. -/
def leAt (l : List Byte) (off n : Nat) : Nat := leNat (slice l off n)

/-- The big-endian field of `n` bytes at offset `off`. -/
def beAt (l : List Byte) (off n : Nat) : Nat := beNat (slice l off n)

/-- Bits [hi:lo] of a number. -/
def bits (v hi lo : Nat) : Nat := v / 2 ^ lo % 2 ^ (hi + 1 - lo)

/-- Bit `i` of a number. -/
def bit (v i : Nat) : Bool := v / 2 ^ i % 2 == 1

/-- `v` with bit `i` set. -/
def setBit (v i : Nat) : Nat := if bit v i then v else v + 2 ^ i

/-- `v` with bit `i` clear. -/
def clearBit (v i : Nat) : Nat := if bit v i then v - 2 ^ i else v

/-- `v` with bit `i` at `b`. -/
def putBit (v i : Nat) (b : Bool) : Nat := if b then setBit v i else clearBit v i

/-- The bits of `v` that `m` has clear, over `n` bits. -/
def andNot (n v m : Nat) : Nat :=
  (List.range n).foldl (fun a i => if bit v i && !bit m i then a + 2 ^ i else a) 0

/-- The number of set bits among the low `n`. -/
def popCount (n v : Nat) : Nat := ((List.range n).filter (bit v)).length

/-- The set bits among the low `n`, rising. -/
def bitsOf (n v : Nat) : List Nat := (List.range n).filter (bit v)

/-- The two's-complement reading of the low `w` bits. -/
def toSigned (w v : Nat) : Int :=
  let m := v % 2 ^ w
  if m < 2 ^ (w - 1) then (m : Int) else (m : Int) - 2 ^ w

/-- The low `w` bits of an integer. -/
def ofSigned (w : Nat) (i : Int) : Nat := (i % 2 ^ w).toNat

/-- The I32 reading of a raw value (Table 00-5). -/
def toI32 (v : Nat) : Int := toSigned 32 v

/-- The raw value of an I32. -/
def ofI32 (i : Int) : Nat := ofSigned 32 i

/-- `x` held within [lo, hi]. -/
def clampInt (lo hi x : Int) : Int := if x < lo then lo else if hi < x then hi else x

/-- An integer held to the I32 range, raw (R431). -/
def satI32 (i : Int) : Nat := ofI32 (clampInt (-2147483648) 2147483647 i)

/-- The nearest integer to `a / b`, halves upward (R12, R45). -/
def roundDiv (a : Int) (b : Nat) : Int := (2 * a + b) / (2 * b)

/-- The least integer not below `a / b`. -/
def ceilDiv (a b : Nat) : Nat := (a + b - 1) / b

/-- 0x01 or 0x00, the byte of a BOOL. -/
def boolNat (b : Bool) : Nat := if b then 1 else 0

/-- One step of a CRC over the bits of a byte, most significant first: width `w`, generator `poly`. -/
def crcByte (w poly : Nat) (c : Nat) (b : Byte) : Nat :=
  (List.range 8).foldl (fun c i =>
    let fb := (c / 2 ^ (w - 1) % 2 == 1) != b.getMsbD i
    let c' := c * 2 % 2 ^ w
    if fb then Nat.xor c' poly else c') c

/-- The CRC of a byte string: width, generator, initial value; no reflection, no final inversion. -/
def crc (w poly init : Nat) (l : List Byte) : Nat := l.foldl (crcByte w poly) init

/-- One step of the reflected CRC over the bits of a byte, least significant first; `rpoly` is the reversed generator. -/
def crcByteR (rpoly : Nat) (c : Nat) (b : Byte) : Nat :=
  (List.range 8).foldl (fun c i =>
    let fb := (c % 2 == 1) != b.getLsbD i
    if fb then Nat.xor (c / 2) rpoly else c / 2) c

/-- `n` bytes of value `b`. -/
def fill (n : Nat) (b : Byte) : List Byte := List.replicate n b

/-- `l` padded with zero bytes, or cut, to `n` bytes. -/
def padTo (n : Nat) (l : List Byte) : List Byte := (l ++ fill (n - l.length) 0).take n

/-- `l` with the bytes `d` written at offset `off` (zero-extended where the write reaches past the end). -/
def overwrite (l : List Byte) (off : Nat) (d : List Byte) : List Byte :=
  padTo off l ++ d ++ l.drop (off + d.length)

/-- The bytes of a printable name. -/
def nameBytes (s : String) : List Byte := s.toUTF8.toList.map fun b => BitVec.ofNat 8 b.toNat

/-- A number as a list element lookup with a default. -/
def nth {α : Type} (l : List α) (i : Nat) (d : α) : α := l.getD i d

end Sys2Proof.Machine
end

