-- ==== Sys2Proof/Machine/ObjNames.lean ====
section
/-! DEFINITION. The name of every object of the dictionary as a reference number, index × 256 + sub-index (R13). An object of a family takes the
instance number. The staged copy of an RWS object is read 0x20 above it (R50, R88, R144, R218, R259, R369, R425). -/

namespace Sys2Proof.Machine.O

abbrev timeNow : Nat := 0x200001
abbrev timeState : Nat := 0x200002
abbrev timeSrcActive : Nat := 0x200003
abbrev timeSrcPriority : Nat := 0x200004
abbrev timeSelMode : Nat := 0x200005
abbrev timeSrcManual : Nat := 0x200006
abbrev timeQualTime : Nat := 0x200007
abbrev timeServoBw : Nat := 0x200008
abbrev timeLockThresh : Nat := 0x200009
abbrev timeUnlockThresh : Nat := 0x20000A
abbrev timeStepPolicy : Nat := 0x20000B
abbrev timeStepThresh : Nat := 0x20000C
abbrev timeSlewMax : Nat := 0x20000D
abbrev timeFreqCorr : Nat := 0x20000E
abbrev timePhaseErr : Nat := 0x20000F
abbrev timeHoldoverBudget : Nat := 0x200010
abbrev timeOscStab : Nat := 0x200011
abbrev timeOscAgeing : Nat := 0x200012
abbrev timeHoldoverEst : Nat := 0x200013
abbrev timeHoldoverElapsed : Nat := 0x200014
abbrev timeSet : Nat := 0x200015
abbrev timeTaiUtc : Nat := 0x200016
abbrev timePtpDomain : Nat := 0x200017
abbrev timePtpRole : Nat := 0x200018
abbrev timePtpPriority1 : Nat := 0x200019
abbrev timePtpPriority2 : Nat := 0x20001A
abbrev timePtpLogSync : Nat := 0x20001B
abbrev timePtpLogAnnounce : Nat := 0x20001C
abbrev timePtpLogDelayReq : Nat := 0x20001D
abbrev timePtpAnnounceTimeout : Nat := 0x20001E
abbrev timePtpTwoStep : Nat := 0x20001F
abbrev timePtpGmId : Nat := 0x200020
abbrev timePtpSlavePort : Nat := 0x200021
abbrev timeRefFormat : Nat := 0x200022
abbrev timeRefMeasured : Nat := 0x200023
abbrev timePpsEdge : Nat := 0x200024
abbrev timePpsOffset : Nat := 0x200025
abbrev timeRefOffset : Nat := 0x200026
abbrev timeSmTlv : Nat := 0x200027
abbrev timeAnnounceHoldover : Nat := 0x200028
abbrev tgEnable (n : Nat) : Nat := 0x211001 + 256 * n
abbrev tgPeriod (n : Nat) : Nat := 0x211002 + 256 * n
abbrev tgPhase (n : Nat) : Nat := 0x211003 + 256 * n
abbrev tgSlotCount (n : Nat) : Nat := 0x211004 + 256 * n
abbrev tgCommitState (n : Nat) : Nat := 0x211005 + 256 * n
abbrev tgCommitResult (n : Nat) : Nat := 0x211006 + 256 * n
abbrev tgBOld (n : Nat) : Nat := 0x211007 + 256 * n
abbrev tgBNew (n : Nat) : Nat := 0x211008 + 256 * n
abbrev tgFrame (n : Nat) : Nat := 0x211009 + 256 * n
abbrev tgFrameStart (n : Nat) : Nat := 0x21100A + 256 * n
abbrev tgCommits (n : Nat) : Nat := 0x21100B + 256 * n
abbrev tgRefusals (n : Nat) : Nat := 0x21100C + 256 * n
abbrev tgCancel (n : Nat) : Nat := 0x21100D + 256 * n
abbrev tgSlot (n j : Nat) : Nat := 0x211040 + 256 * n + j
abbrev slmCompressionCredit : Nat := 0x220001
abbrev slmPlaneCompress : Nat := 0x220002
abbrev slmBwCeiling : Nat := 0x220003
abbrev slmBwFixed : Nat := 0x220004
abbrev slmCompGuard : Nat := 0x220005
abbrev slmBwAdmitted : Nat := 0x220006
abbrev slmBwAdmittedRaw : Nat := 0x220007
abbrev slmBwLastRequest : Nat := 0x220008
abbrev slmPlanMode (n : Nat) : Nat := 0x221001 + 256 * n
abbrev slmDepth (n : Nat) : Nat := 0x221002 + 256 * n
abbrev slmPrimaries (n : Nat) : Nat := 0x221003 + 256 * n
abbrev slmMinDwell (n : Nat) : Nat := 0x221004 + 256 * n
abbrev slmMinWindow (n : Nat) : Nat := 0x221005 + 256 * n
abbrev slmGuard (n : Nat) : Nat := 0x221006 + 256 * n
abbrev slmLsbWeight (n : Nat) : Nat := 0x221007 + 256 * n
abbrev slmSplitBits (n : Nat) : Nat := 0x221008 + 256 * n
abbrev slmSplitMax (n : Nat) : Nat := 0x221009 + 256 * n
abbrev slmLevelPolicy (n : Nat) : Nat := 0x22100A + 256 * n
abbrev slmBufPlanes (n : Nat) : Nat := 0x22100B + 256 * n
abbrev slmSettle (n j : Nat) : Nat := 0x22100C + 256 * n + j
abbrev slmLadder (n j : Nat) : Nat := 0x221010 + 256 * n + j
abbrev slmPlanActive (n : Nat) : Nat := 0x221040 + 256 * n
abbrev slmPlanStage (n : Nat) : Nat := 0x221041 + 256 * n
abbrev slmPlanSwap (n : Nat) : Nat := 0x221042 + 256 * n
abbrev slmPlanEntries (n : Nat) : Nat := 0x221043 + 256 * n
abbrev slmPlanSlack (n : Nat) : Nat := 0x221044 + 256 * n
abbrev slmHist (n : Nat) : Nat := 0x221045 + 256 * n
abbrev slmCompRatio (n : Nat) : Nat := 0x221046 + 256 * n
abbrev slmFallbacks (n : Nat) : Nat := 0x221047 + 256 * n
abbrev slmLatePlans (n : Nat) : Nat := 0x221048 + 256 * n
abbrev slmRepeats (n : Nat) : Nat := 0x221049 + 256 * n
abbrev slmZeroBlocks (n : Nat) : Nat := 0x22104A + 256 * n
abbrev slmManualRefused (n : Nat) : Nat := 0x22104B + 256 * n
abbrev slmImages (n : Nat) : Nat := 0x22104C + 256 * n
abbrev slmManualResult (n : Nat) : Nat := 0x22104D + 256 * n
abbrev lwPeriod : Nat := 0x230001
abbrev gateIntlkState : Nat := 0x230002
abbrev gateIntlkRearm : Nat := 0x230003
abbrev gateIntlkCount : Nat := 0x230004
abbrev lwSlot : Nat := 0x230005
abbrev gateEnable (n : Nat) : Nat := 0x231001 + 256 * n
abbrev gateOutput (n : Nat) : Nat := 0x231002 + 256 * n
abbrev gatePrimary (n : Nat) : Nat := 0x231003 + 256 * n
abbrev gateLevelFloor (n : Nat) : Nat := 0x231004 + 256 * n
abbrev gateDrvLatency (n : Nat) : Nat := 0x231005 + 256 * n
abbrev gateVernier (n : Nat) : Nat := 0x231006 + 256 * n
abbrev gateForceCause (n : Nat) : Nat := 0x231007 + 256 * n
abbrev gateForceLatch (n : Nat) : Nat := 0x231008 + 256 * n
abbrev gateRearm (n : Nat) : Nat := 0x231009 + 256 * n
abbrev gateTable (n : Nat) : Nat := 0x23100A + 256 * n
abbrev gateFadeLevel (n : Nat) : Nat := 0x23100B + 256 * n
abbrev gateFadeTime (n : Nat) : Nat := 0x23100C + 256 * n
abbrev gateFadeCurve (n : Nat) : Nat := 0x23100D + 256 * n
abbrev gateFadeNow (n : Nat) : Nat := 0x23100E + 256 * n
abbrev gateHeaders (n : Nat) : Nat := 0x23100F + 256 * n
abbrev gateWindowsCut (n : Nat) : Nat := 0x231010 + 256 * n
abbrev lwEnable (n : Nat) : Nat := 0x232001 + 256 * n
abbrev lwDrivers (n : Nat) : Nat := 0x232002 + 256 * n
abbrev lwFaultAction (n : Nat) : Nat := 0x232003 + 256 * n
abbrev lwFaultState (n : Nat) : Nat := 0x232004 + 256 * n
abbrev lwRearm (n : Nat) : Nat := 0x232005 + 256 * n
abbrev lwTrim (n : Nat) : Nat := 0x232006 + 256 * n
abbrev lwLimits (n : Nat) : Nat := 0x232007 + 256 * n
abbrev lwSetImage (n : Nat) : Nat := 0x232008 + 256 * n
abbrev lwFrames (n : Nat) : Nat := 0x232009 + 256 * n
abbrev lwAuxFrames (n : Nat) : Nat := 0x23200A + 256 * n
abbrev lwFaults (n : Nat) : Nat := 0x23200B + 256 * n
abbrev lwLoadState (n : Nat) : Nat := 0x23200C + 256 * n
abbrev colWorkGamut : Nat := 0x240001
abbrev colWorkTf : Nat := 0x240002
abbrev colSdrWhite : Nat := 0x240003
abbrev colPdSettle : Nat := 0x240004
abbrev colPdTail : Nat := 0x240005
abbrev colPdMinSamples : Nat := 0x240006
abbrev colPrimX (n : Nat) : Nat := 0x241001 + 256 * n
abbrev colPrimY (n : Nat) : Nat := 0x241002 + 256 * n
abbrev colPrimEfficacy (n : Nat) : Nat := 0x241003 + 256 * n
abbrev colPrimTtable (n : Nat) : Nat := 0x241004 + 256 * n
abbrev colPrimPartners (n : Nat) : Nat := 0x241005 + 256 * n
abbrev colCompMode (n : Nat) : Nat := 0x243001 + 256 * n
abbrev colCeilPolicy (n : Nat) : Nat := 0x243002 + 256 * n
abbrev colMatrix (n : Nat) : Nat := 0x243003 + 256 * n
abbrev colMatrixHost (n : Nat) : Nat := 0x243004 + 256 * n
abbrev colSetId (n : Nat) : Nat := 0x243005 + 256 * n
abbrev colHeadroomH (n : Nat) : Nat := 0x243006 + 256 * n
abbrev colMatrixLate (n : Nat) : Nat := 0x243007 + 256 * n
abbrev colClips (n : Nat) : Nat := 0x243008 + 256 * n
abbrev colPrimLum (n j : Nat) : Nat := 0x243010 + 256 * n + j
abbrev colPrimTemp (n j : Nat) : Nat := 0x243018 + 256 * n + j
abbrev colLut (n : Nat) : Nat := 0x242001 + 256 * n
abbrev colLutStage (n : Nat) : Nat := 0x242002 + 256 * n
abbrev colLutLoaded (n : Nat) : Nat := 0x242003 + 256 * n
abbrev colLutSwitches (n : Nat) : Nat := 0x242004 + 256 * n
abbrev colBankTsensor (n : Nat) : Nat := 0x244001 + 256 * n
abbrev colBankPd (n : Nat) : Nat := 0x244002 + 256 * n
abbrev colPdScale (n : Nat) : Nat := 0x244003 + 256 * n
abbrev colBankTemp (n : Nat) : Nat := 0x244004 + 256 * n
abbrev colBankTarget (n : Nat) : Nat := 0x244005 + 256 * n
abbrev colBankCeiling (n : Nat) : Nat := 0x244006 + 256 * n
abbrev colPdReading (n : Nat) : Nat := 0x244007 + 256 * n
abbrev colPdTime (n : Nat) : Nat := 0x244008 + 256 * n
abbrev colBankPower (n : Nat) : Nat := 0x244009 + 256 * n
abbrev colPdInvalid (n : Nat) : Nat := 0x24400A + 256 * n
abbrev colTargetLate (n : Nat) : Nat := 0x24400B + 256 * n
abbrev camDeglitch : Nat := 0x250001
abbrev camClearFrames : Nat := 0x250002
abbrev camMissFrames : Nat := 0x250003
abbrev viewPlaceDetail : Nat := 0x250004
abbrev viewLabel (n : Nat) : Nat := 0x251001 + 256 * n
abbrev viewOnOutputs (n : Nat) : Nat := 0x251002 + 256 * n
abbrev viewCameras (n : Nat) : Nat := 0x251003 + 256 * n
abbrev viewDuty (n j : Nat) : Nat := 0x251004 + 256 * n + j
abbrev camOutput (n : Nat) : Nat := 0x252001 + 256 * n
abbrev camView (n : Nat) : Nat := 0x252002 + 256 * n
abbrev camOpen (n : Nat) : Nat := 0x252003 + 256 * n
abbrev camLength (n : Nat) : Nat := 0x252004 + 256 * n
abbrev camGuard (n : Nat) : Nat := 0x252005 + 256 * n
abbrev camDivider (n : Nat) : Nat := 0x252006 + 256 * n
abbrev camDivPhase (n : Nat) : Nat := 0x252007 + 256 * n
abbrev camShutPolarity (n : Nat) : Nat := 0x252008 + 256 * n
abbrev camShutDelay (n : Nat) : Nat := 0x252009 + 256 * n
abbrev camMonitor (n : Nat) : Nat := 0x25200A + 256 * n
abbrev camShutState (n : Nat) : Nat := 0x25200B + 256 * n
abbrev camDriftOpen (n : Nat) : Nat := 0x25200C + 256 * n
abbrev camDriftClose (n : Nat) : Nat := 0x25200D + 256 * n
abbrev camDriftPeak (n : Nat) : Nat := 0x25200E + 256 * n
abbrev camSuggestOpen (n : Nat) : Nat := 0x25200F + 256 * n
abbrev camSuggestLength (n : Nat) : Nat := 0x252010 + 256 * n
abbrev camPeriodErr (n : Nat) : Nat := 0x252011 + 256 * n
abbrev camPeriodBad (n : Nat) : Nat := 0x252012 + 256 * n
abbrev camDriftFrames (n : Nat) : Nat := 0x252013 + 256 * n
abbrev camMissed (n : Nat) : Nat := 0x252014 + 256 * n
abbrev camExtraEdges (n : Nat) : Nat := 0x252015 + 256 * n
abbrev camLastOpen (n : Nat) : Nat := 0x252016 + 256 * n
abbrev moutPollPeriod : Nat := 0x210001
abbrev moutEnable (n : Nat) : Nat := 0x212001 + 256 * n
abbrev moutWidth (n : Nat) : Nat := 0x212002 + 256 * n
abbrev moutHeight (n : Nat) : Nat := 0x212003 + 256 * n
abbrev moutTileLeader (n : Nat) : Nat := 0x212004 + 256 * n
abbrev moutTileX (n : Nat) : Nat := 0x212005 + 256 * n
abbrev moutTileY (n : Nat) : Nat := 0x212006 + 256 * n
abbrev moutArraySetup (n : Nat) : Nat := 0x212007 + 256 * n
abbrev moutBringupTimeout (n : Nat) : Nat := 0x212008 + 256 * n
abbrev moutTlLatency (n : Nat) : Nat := 0x212009 + 256 * n
abbrev moutTlVernier (n : Nat) : Nat := 0x21200A + 256 * n
abbrev moutLaneErrPolls (n : Nat) : Nat := 0x21200B + 256 * n
abbrev moutShortAction (n : Nat) : Nat := 0x21200C + 256 * n
abbrev moutLaneRestore (n : Nat) : Nat := 0x21200D + 256 * n
abbrev moutFreezeAction (n : Nat) : Nat := 0x21200E + 256 * n
abbrev moutFreezeFrames (n : Nat) : Nat := 0x21200F + 256 * n
abbrev moutFreezeClear (n : Nat) : Nat := 0x212010 + 256 * n
abbrev moutState (n : Nat) : Nat := 0x212040 + 256 * n
abbrev moutLanesActive (n : Nat) : Nat := 0x212041 + 256 * n
abbrev moutLanesDown (n : Nat) : Nat := 0x212042 + 256 * n
abbrev moutLoadTime (n : Nat) : Nat := 0x212043 + 256 * n
abbrev moutShort (n : Nat) : Nat := 0x212044 + 256 * n
abbrev moutBlankReason (n : Nat) : Nat := 0x212045 + 256 * n
abbrev moutTolerance (n : Nat) : Nat := 0x212046 + 256 * n
abbrev moutTolMin (n : Nat) : Nat := 0x212047 + 256 * n
abbrev moutFifoFill (n : Nat) : Nat := 0x212048 + 256 * n
abbrev moutFreeze (n : Nat) : Nat := 0x212049 + 256 * n
abbrev moutSigLast (n : Nat) : Nat := 0x21204A + 256 * n
abbrev moutFreezeCount (n : Nat) : Nat := 0x21204B + 256 * n
abbrev moutUnderruns (n : Nat) : Nat := 0x21204C + 256 * n
abbrev moutPlanesTruncated (n : Nat) : Nat := 0x21204D + 256 * n
abbrev moutArrayDrops (n : Nat) : Nat := 0x21204E + 256 * n
abbrev moutArrayPlaneErr (n : Nat) : Nat := 0x21204F + 256 * n
abbrev moutParks (n : Nat) : Nat := 0x212050 + 256 * n
abbrev moutPlanesSent (n : Nat) : Nat := 0x212051 + 256 * n
abbrev moutFramesShown (n : Nat) : Nat := 0x212052 + 256 * n
abbrev layAlloc : Nat := 0x260001
abbrev layFlatten : Nat := 0x260002
abbrev layStaticFrames : Nat := 0x260003
abbrev layFenceTimeout : Nat := 0x260004
abbrev layCommitState : Nat := 0x260005
abbrev layCommitResult : Nat := 0x260006
abbrev layCancel : Nat := 0x260007
abbrev layHandlesFree : Nat := 0x260008
abbrev layScalersUsed : Nat := 0x260009
abbrev layCacheFails : Nat := 0x26000A
abbrev layEnable (n : Nat) : Nat := 0x261001 + 256 * n
abbrev layOutput (n : Nat) : Nat := 0x261002 + 256 * n
abbrev layViews (n : Nat) : Nat := 0x261003 + 256 * n
abbrev layKind (n : Nat) : Nat := 0x261004 + 256 * n
abbrev layFormat (n : Nat) : Nat := 0x261005 + 256 * n
abbrev layEncoding (n : Nat) : Nat := 0x261006 + 256 * n
abbrev layAlphaMode (n : Nat) : Nat := 0x261007 + 256 * n
abbrev laySrcX (n : Nat) : Nat := 0x261008 + 256 * n
abbrev laySrcY (n : Nat) : Nat := 0x261009 + 256 * n
abbrev laySrcW (n : Nat) : Nat := 0x26100A + 256 * n
abbrev laySrcH (n : Nat) : Nat := 0x26100B + 256 * n
abbrev layDstW (n : Nat) : Nat := 0x26100C + 256 * n
abbrev layDstH (n : Nat) : Nat := 0x26100D + 256 * n
abbrev layScaleFilter (n : Nat) : Nat := 0x26100E + 256 * n
abbrev layBlend (n : Nat) : Nat := 0x26100F + 256 * n
abbrev layGroup (n : Nat) : Nat := 0x261010 + 256 * n
abbrev layCadence (n : Nat) : Nat := 0x261011 + 256 * n
abbrev layDstX (n : Nat) : Nat := 0x261040 + 256 * n
abbrev layDstY (n : Nat) : Nat := 0x261041 + 256 * n
abbrev layZ (n : Nat) : Nat := 0x261042 + 256 * n
abbrev layOpacity (n : Nat) : Nat := 0x261043 + 256 * n
abbrev layFill (n : Nat) : Nat := 0x261044 + 256 * n
abbrev layPattern (n : Nat) : Nat := 0x261045 + 256 * n
abbrev layStalePolicy (n : Nat) : Nat := 0x261046 + 256 * n
abbrev layStaleFrames (n : Nat) : Nat := 0x261047 + 256 * n
abbrev layStaleFade (n : Nat) : Nat := 0x261048 + 256 * n
abbrev layFlip (n : Nat) : Nat := 0x261049 + 256 * n
abbrev layFenceDone (n : Nat) : Nat := 0x26104A + 256 * n
abbrev layPlaylist (n : Nat) : Nat := 0x26104B + 256 * n
abbrev layPlay (n : Nat) : Nat := 0x26104C + 256 * n
abbrev layState (n : Nat) : Nat := 0x261050 + 256 * n
abbrev layCurrent (n : Nat) : Nat := 0x261051 + 256 * n
abbrev layQueue (n : Nat) : Nat := 0x261052 + 256 * n
abbrev layShownFrame (n : Nat) : Nat := 0x261053 + 256 * n
abbrev layFenceGen (n : Nat) : Nat := 0x261054 + 256 * n
abbrev layClipPos (n : Nat) : Nat := 0x261055 + 256 * n
abbrev layScaler (n : Nat) : Nat := 0x261056 + 256 * n
abbrev layLateRun (n : Nat) : Nat := 0x261057 + 256 * n
abbrev layLate (n : Nat) : Nat := 0x261058 + 256 * n
abbrev laySkipped (n : Nat) : Nat := 0x261059 + 256 * n
abbrev layFenceTimeouts (n : Nat) : Nat := 0x26105A + 256 * n
abbrev layPoisonTiles (n : Nat) : Nat := 0x26105B + 256 * n
abbrev layBufHandle (n : Nat) : Nat := 0x400001 + 256 * n
abbrev layBufState (n : Nat) : Nat := 0x400002 + 256 * n
abbrev layBufFormat (n : Nat) : Nat := 0x400003 + 256 * n
abbrev layBufWidth (n : Nat) : Nat := 0x400004 + 256 * n
abbrev layBufHeight (n : Nat) : Nat := 0x400005 + 256 * n
abbrev layBufStride (n : Nat) : Nat := 0x400006 + 256 * n
abbrev layBufFrames (n : Nat) : Nat := 0x400007 + 256 * n
abbrev layBufPeriod (n : Nat) : Nat := 0x400008 + 256 * n
abbrev layBufLoaded (n : Nat) : Nat := 0x400009 + 256 * n
abbrev layBufRefs (n : Nat) : Nat := 0x40000A + 256 * n
abbrev layBufData (n : Nat) : Nat := 0x40000B + 256 * n
abbrev layBufFree (n : Nat) : Nat := 0x40000C + 256 * n
abbrev layBufWritten (n : Nat) : Nat := 0x40000D + 256 * n
abbrev crvLoadCeiling : Nat := 0x270001
abbrev crvFaultLimit : Nat := 0x270002
abbrev crvEnginesOnline : Nat := 0x270003
abbrev crvCapacity : Nat := 0x270004
abbrev crvDemand : Nat := 0x270005
abbrev crvDemandLast : Nat := 0x270006
abbrev crvKernelStage : Nat := 0x270007
abbrev crvKernelResult : Nat := 0x270008
abbrev crvKernelRemove : Nat := 0x270009
abbrev crvKernelList : Nat := 0x27000A
abbrev crvCodeFree : Nat := 0x27000B
abbrev crvChainIngest : Nat := 0x27000C
abbrev crvJob : Nat := 0x27000D
abbrev crvJobCancel : Nat := 0x27000E
abbrev crvTiles : Nat := 0x27000F
abbrev crvFaults : Nat := 0x270010
abbrev crvRedispatched : Nat := 0x270011
abbrev crvSubstituted : Nat := 0x270012
abbrev crvDiscarded : Nat := 0x270013
abbrev crvSatTiles : Nat := 0x270014
abbrev crvJobState (j : Nat) : Nat := 0x270018 + j
abbrev crvChain (j : Nat) : Nat := 0x270020 + j
abbrev crvMesh (j : Nat) : Nat := 0x270024 + j
abbrev crvBlend (j : Nat) : Nat := 0x270028 + j
abbrev crvClOnline (n : Nat) : Nat := 0x271001 + 256 * n
abbrev crvClState (n : Nat) : Nat := 0x271002 + 256 * n
abbrev crvClView (n : Nat) : Nat := 0x271003 + 256 * n
abbrev crvClPagesFree (n : Nat) : Nat := 0x271004 + 256 * n
abbrev crvClBusy (n : Nat) : Nat := 0x271005 + 256 * n
abbrev crvClTiles (n : Nat) : Nat := 0x271006 + 256 * n
abbrev crvClFaults (n : Nat) : Nat := 0x271007 + 256 * n
abbrev crvClLastFault (n : Nat) : Nat := 0x271008 + 256 * n
abbrev crvClCorrected (n : Nat) : Nat := 0x271009 + 256 * n
abbrev codecJob : Nat := 0x280001
abbrev codecJobCancel : Nat := 0x280002
abbrev codecJobState (j : Nat) : Nat := 0x280003 + j
abbrev codecJobDone (j : Nat) : Nat := 0x280005 + j
abbrev codecJobGranules (j : Nat) : Nat := 0x280007 + j
abbrev codecBlocksComp : Nat := 0x280010
abbrev codecNoGain : Nat := 0x280011
abbrev codecZero : Nat := 0x280012
abbrev codecBypass : Nat := 0x280013
abbrev codecBlocksDecomp : Nat := 0x280014
abbrev codecDecodeErr : Nat := 0x280015
abbrev codecGranulesOut : Nat := 0x280016
abbrev codecCompBusy : Nat := 0x280017
abbrev codecDecompBusy : Nat := 0x280018
abbrev memSetpoint : Nat := 0x290001
abbrev memFreqTarget : Nat := 0x290002
abbrev memFreqState : Nat := 0x290003
abbrev memFreqResult : Nat := 0x290004
abbrev memFreqBlackout : Nat := 0x290005
abbrev memFreqMargin : Nat := 0x290006
abbrev memFreqWait : Nat := 0x290007
abbrev memTsetSel : Nat := 0x290008
abbrev memTset : Nat := 0x290009
abbrev memInterleave : Nat := 0x29000A
abbrev memHash : Nat := 0x29000B
abbrev memBankHash : Nat := 0x29000C
abbrev memPeak : Nat := 0x29000D
abbrev memCeiling : Nat := 0x29000E
abbrev memUrgent : Nat := 0x29000F
abbrev memStarve : Nat := 0x290010
abbrev memRefHold : Nat := 0x290011
abbrev memPdEnable : Nat := 0x290012
abbrev memTolMin : Nat := 0x290013
abbrev memFreqChanges : Nat := 0x290014
abbrev memCapacity : Nat := 0x290015
abbrev memBwNow : Nat := 0x290016
abbrev memIsoLate : Nat := 0x290017
abbrev memChState (n : Nat) : Nat := 0x291001 + 256 * n
abbrev memChKind (n : Nat) : Nat := 0x291002 + 256 * n
abbrev memChOrg (n : Nat) : Nat := 0x291003 + 256 * n
abbrev memChSize (n : Nat) : Nat := 0x291004 + 256 * n
abbrev memChDownCfg (n : Nat) : Nat := 0x291005 + 256 * n
abbrev memRefZoneR0 (n : Nat) : Nat := 0x291006 + 256 * n
abbrev memRefZoneR1 (n : Nat) : Nat := 0x291007 + 256 * n
abbrev memRefOwedR0 (n : Nat) : Nat := 0x291008 + 256 * n
abbrev memRefOwedR1 (n : Nat) : Nat := 0x291009 + 256 * n
abbrev memRefForced (n : Nat) : Nat := 0x29100A + 256 * n
abbrev memRefConversions (n : Nat) : Nat := 0x29100B + 256 * n
abbrev memRdForwarded (n : Nat) : Nat := 0x29100C + 256 * n
abbrev memRdHazardWaits (n : Nat) : Nat := 0x29100D + 256 * n
abbrev memRmw (n : Nat) : Nat := 0x29100E + 256 * n
abbrev memRowHits (n : Nat) : Nat := 0x29100F + 256 * n
abbrev memBusy (n : Nat) : Nat := 0x291010 + 256 * n
abbrev memAlerts (n : Nat) : Nat := 0x291011 + 256 * n
abbrev memPortClass (n : Nat) : Nat := 0x292001 + 256 * n
abbrev memPortRate (n : Nat) : Nat := 0x292002 + 256 * n
abbrev memPortBurst (n : Nat) : Nat := 0x292003 + 256 * n
abbrev memPortInorder (n : Nat) : Nat := 0x292004 + 256 * n
abbrev memPortInorderCount (n : Nat) : Nat := 0x292005 + 256 * n
abbrev memPortBytes (n : Nat) : Nat := 0x292006 + 256 * n
abbrev memPortThrottled (n : Nat) : Nat := 0x292007 + 256 * n
abbrev memPortLatMax (n : Nat) : Nat := 0x292008 + 256 * n
abbrev intgSettle : Nat := 0x2A0001
abbrev intgRound : Nat := 0x2A0002
abbrev intgWbThresh : Nat := 0x2A0003
abbrev intgRetireAfter : Nat := 0x2A0004
abbrev intgGroomEnable : Nat := 0x2A0005
abbrev intgClearTime : Nat := 0x2A0006
abbrev intgRoundProgress : Nat := 0x2A0007
abbrev intgRoundLast : Nat := 0x2A0008
abbrev intgSweep : Nat := 0x2A0009
abbrev intgSweepCancel : Nat := 0x2A000A
abbrev intgSweepState : Nat := 0x2A000B
abbrev intgSweepResult : Nat := 0x2A000C
abbrev intgRetireList : Nat := 0x2A000D
abbrev intgStalePages : Nat := 0x2A000E
abbrev intgCorrected (n : Nat) : Nat := 0x2A1001 + 256 * n
abbrev intgPageRepairs (n : Nat) : Nat := 0x2A1002 + 256 * n
abbrev intgPoisoned (n : Nat) : Nat := 0x2A1003 + 256 * n
abbrev intgPoisonReads (n : Nat) : Nat := 0x2A1004 + 256 * n
abbrev intgWritebacks (n : Nat) : Nat := 0x2A1005 + 256 * n
abbrev intgRetired (n : Nat) : Nat := 0x2A1006 + 256 * n
abbrev intgSparesFree (n : Nat) : Nat := 0x2A1007 + 256 * n
abbrev intgTracker (n : Nat) : Nat := 0x2A1008 + 256 * n
abbrev intgTrackEvict (n : Nat) : Nat := 0x2A1009 + 256 * n
abbrev intgStaleOverflow (n : Nat) : Nat := 0x2A100A + 256 * n
abbrev intgGroomedPages (n : Nat) : Nat := 0x2A100B + 256 * n
abbrev intgConflicts (n : Nat) : Nat := 0x2A100C + 256 * n
abbrev intgRecoded (n : Nat) : Nat := 0x2A100D + 256 * n
abbrev intgRetireRetries (n : Nat) : Nat := 0x2A100E + 256 * n
abbrev intgMetaErrors (n : Nat) : Nat := 0x2A100F + 256 * n
abbrev netMac : Nat := 0x2B0001
abbrev netIpv4Addr : Nat := 0x2B0002
abbrev netIpv4Prefix : Nat := 0x2B0003
abbrev netIpv4Gw : Nat := 0x2B0004
abbrev netIpv6Addr : Nat := 0x2B0005
abbrev netIpv6Prefix : Nat := 0x2B0006
abbrev netMgmtVlan : Nat := 0x2B0007
abbrev netJumbo : Nat := 0x2B0008
abbrev netVlanTable : Nat := 0x2B0009
abbrev netMacAge : Nat := 0x2B000A
abbrev netIngressBw : Nat := 0x2B000B
abbrev netWakePort : Nat := 0x2B000C
abbrev netWakeToken : Nat := 0x2B000D
abbrev netRxUnhandled : Nat := 0x2B000E
abbrev netMacEntries : Nat := 0x2B000F
abbrev netPortEnable (n : Nat) : Nat := 0x2B1001 + 256 * n
abbrev netPortFec (n : Nat) : Nat := 0x2B1002 + 256 * n
abbrev netPortState (n : Nat) : Nat := 0x2B1003 + 256 * n
abbrev netPortPvid (n : Nat) : Nat := 0x2B1004 + 256 * n
abbrev netPortPrio (n : Nat) : Nat := 0x2B1005 + 256 * n
abbrev netPortMrouter (n : Nat) : Nat := 0x2B1006 + 256 * n
abbrev netPortPtp (n : Nat) : Nat := 0x2B1007 + 256 * n
abbrev netPortTxLat (n : Nat) : Nat := 0x2B1008 + 256 * n
abbrev netPortRxLat (n : Nat) : Nat := 0x2B1009 + 256 * n
abbrev netPortAsym (n : Nat) : Nat := 0x2B100A + 256 * n
abbrev netPortRxFrames (n : Nat) : Nat := 0x2B100B + 256 * n
abbrev netPortTxFrames (n : Nat) : Nat := 0x2B100C + 256 * n
abbrev netPortFcsErrors (n : Nat) : Nat := 0x2B100D + 256 * n
abbrev netPortFecCorrected (n : Nat) : Nat := 0x2B100E + 256 * n
abbrev netPortFecUncorrected (n : Nat) : Nat := 0x2B100F + 256 * n
abbrev netPortEgressDrops (n : Nat) : Nat := 0x2B1010 + 256 * n
abbrev netPortPauseRx (n : Nat) : Nat := 0x2B1011 + 256 * n
abbrev netPortOversize (n : Nat) : Nat := 0x2B1012 + 256 * n
abbrev netFlowEnable (n : Nat) : Nat := 0x2B2001 + 256 * n
abbrev netFlowLegA (n : Nat) : Nat := 0x2B2002 + 256 * n
abbrev netFlowLegB (n : Nat) : Nat := 0x2B2003 + 256 * n
abbrev netFlowSampling (n : Nat) : Nat := 0x2B2004 + 256 * n
abbrev netFlowDepth (n : Nat) : Nat := 0x2B2005 + 256 * n
abbrev netFlowWidth (n : Nat) : Nat := 0x2B2006 + 256 * n
abbrev netFlowHeight (n : Nat) : Nat := 0x2B2007 + 256 * n
abbrev netFlowPeriod (n : Nat) : Nat := 0x2B2008 + 256 * n
abbrev netFlowColorimetry (n : Nat) : Nat := 0x2B2009 + 256 * n
abbrev netFlowTcs (n : Nat) : Nat := 0x2B200A + 256 * n
abbrev netFlowRange (n : Nat) : Nat := 0x2B200B + 256 * n
abbrev netFlowPt (n : Nat) : Nat := 0x2B200C + 256 * n
abbrev netFlowRxType (n : Nat) : Nat := 0x2B200D + 256 * n
abbrev netFlowLayer (n : Nat) : Nat := 0x2B200E + 256 * n
abbrev netFlowPool (n : Nat) : Nat := 0x2B200F + 256 * n
abbrev netFlowJoin (n : Nat) : Nat := 0x2B2010 + 256 * n
abbrev netFlowRow0 (n : Nat) : Nat := 0x2B2011 + 256 * n
abbrev netFlowMode (n : Nat) : Nat := 0x2B2012 + 256 * n
abbrev netFlowDelay (n : Nat) : Nat := 0x2B2013 + 256 * n
abbrev netFlowSkew (n : Nat) : Nat := 0x2B2014 + 256 * n
abbrev netFlowState (n : Nat) : Nat := 0x2B2040 + 256 * n
abbrev netFlowEncoding (n : Nat) : Nat := 0x2B2041 + 256 * n
abbrev netFlowFormat (n : Nat) : Nat := 0x2B2042 + 256 * n
abbrev netFlowFrames (n : Nat) : Nat := 0x2B2043 + 256 * n
abbrev netFlowIncomplete (n : Nat) : Nat := 0x2B2044 + 256 * n
abbrev netFlowNoBuffer (n : Nat) : Nat := 0x2B2045 + 256 * n
abbrev netFlowFlipRefused (n : Nat) : Nat := 0x2B2046 + 256 * n
abbrev netFlowLate (n : Nat) : Nat := 0x2B2047 + 256 * n
abbrev netFlowLostPkts (n : Nat) : Nat := 0x2B2048 + 256 * n
abbrev netFlowRecovered (n : Nat) : Nat := 0x2B2049 + 256 * n
abbrev netFlowSkewMeas (n : Nat) : Nat := 0x2B204A + 256 * n
abbrev netFlowVrxPeak (n : Nat) : Nat := 0x2B204B + 256 * n
abbrev netFlowNonconform (n : Nat) : Nat := 0x2B204C + 256 * n
abbrev netFlowDiscarded (n : Nat) : Nat := 0x2B204D + 256 * n
abbrev netFlowLastT (n : Nat) : Nat := 0x2B204E + 256 * n
abbrev dictVendor : Nat := 0x100001
abbrev dictProduct : Nat := 0x100002
abbrev dictStepping : Nat := 0x100003
abbrev dictGrade : Nat := 0x100004
abbrev dictSerial : Nat := 0x100005
abbrev dictNodeId : Nat := 0x100006
abbrev dictUdpPort : Nat := 0x101001
abbrev dictSessionIdle : Nat := 0x101002
abbrev dictXferIdle : Nat := 0x101003
abbrev dictRestore : Nat := 0x101004
abbrev dictSessions : Nat := 0x101005
abbrev dictQueueDepth : Nat := 0x101006
abbrev dictQueuePeak : Nat := 0x101007
abbrev dictBusyCount : Nat := 0x101008
abbrev dictBadTags : Nat := 0x101009
abbrev dictBadMessages : Nat := 0x10100A
abbrev dictHandshakeFails : Nat := 0x10100B
abbrev dictFastRequests : Nat := 0x10100C
abbrev dictProcRequests : Nat := 0x10100D
abbrev dictPrincipal (j : Nat) : Nat := 0x102000 + j
abbrev hierRole : Nat := 0x2C0001
abbrev hierRoleNow : Nat := 0x2C0002
abbrev hierState : Nat := 0x2C0003
abbrev hierNodeId : Nat := 0x2C0004
abbrev hierNodeLimit : Nat := 0x2C0005
abbrev hierNodesJoined : Nat := 0x2C0006
abbrev hierDiscoverPeriod : Nat := 0x2C0007
abbrev hierHeartbeat : Nat := 0x2C0008
abbrev hierMgrPrincipal : Nat := 0x2C0009
abbrev hierSysKey : Nat := 0x2C000A
abbrev hierSysGroup : Nat := 0x2C000B
abbrev hierSysScope : Nat := 0x2C000C
abbrev hierSysPeriod : Nat := 0x2C000D
abbrev hierSysPhase : Nat := 0x2C000E
abbrev hierWinA : Nat := 0x2C000F
abbrev hierWinB : Nat := 0x2C0010
abbrev hierWinEnd : Nat := 0x2C0011
abbrev hierSegment : Nat := 0x2C0012
abbrev hierStbLeader : Nat := 0x2C0013
abbrev hierStbState : Nat := 0x2C0014
abbrev hierStuckAction : Nat := 0x2C0015
abbrev hierStbProbe : Nat := 0x2C0016
abbrev hierStbProbeSeen : Nat := 0x2C0017
abbrev hierFence : Nat := 0x2C0018
abbrev hierServiceMode : Nat := 0x2C0019
abbrev hierServiceNow : Nat := 0x2C001A
abbrev hierAutoAdopt : Nat := 0x2C001B
abbrev hierSegMap : Nat := 0x2C001C
abbrev hierFlips : Nat := 0x2C001D
abbrev hierHolds : Nat := 0x2C001E
abbrev hierSplits : Nat := 0x2C001F
abbrev hierNodeSel : Nat := 0x2C1001
abbrev hierNodeState : Nat := 0x2C1002
abbrev hierNodeSerial : Nat := 0x2C1003
abbrev hierNodePath : Nat := 0x2C1004
abbrev hierNodeSlot : Nat := 0x2C1005
abbrev hierNodeSegment : Nat := 0x2C1006
abbrev hierNodeFw : Nat := 0x2C1007
abbrev hierNodeLastSeen : Nat := 0x2C1008
abbrev hierNodeRings : Nat := 0x2C1009
abbrev hierNodeConfig : Nat := 0x2C100A
abbrev hierNodeCal : Nat := 0x2C100B
abbrev hierNodeCapture : Nat := 0x2C100C
abbrev hierNodeRelease : Nat := 0x2C100D
abbrev hierNodeAdopt : Nat := 0x2C100E
abbrev loopLoad : Nat := 0x300080
abbrev loopOverruns : Nat := 0x300081
abbrev loopMode (n : Nat) : Nat := 0x300001 + 256 * n
abbrev loopSet (n : Nat) : Nat := 0x300002 + 256 * n
abbrev loopActuator (n : Nat) : Nat := 0x300003 + 256 * n
abbrev loopMeasSrc (n : Nat) : Nat := 0x300004 + 256 * n
abbrev loopFfSrc (n : Nat) : Nat := 0x300005 + 256 * n
abbrev loopSchedSrc (n : Nat) : Nat := 0x300006 + 256 * n
abbrev loopPolarity (n : Nat) : Nat := 0x300007 + 256 * n
abbrev loopSpSrc (n : Nat) : Nat := 0x300008 + 256 * n
abbrev loopSetpoint (n : Nat) : Nat := 0x300009 + 256 * n
abbrev loopRampRate (n : Nat) : Nat := 0x30000A + 256 * n
abbrev loopBias (n : Nat) : Nat := 0x30000B + 256 * n
abbrev loopOutMin (n : Nat) : Nat := 0x30000C + 256 * n
abbrev loopOutMax (n : Nat) : Nat := 0x30000D + 256 * n
abbrev loopSafeOut (n : Nat) : Nat := 0x30000E + 256 * n
abbrev loopManualOut (n : Nat) : Nat := 0x30000F + 256 * n
abbrev loopManRate (n : Nat) : Nat := 0x300010 + 256 * n
abbrev loopFfRef (n : Nat) : Nat := 0x300011 + 256 * n
abbrev loopRegions (n : Nat) : Nat := 0x300012 + 256 * n
abbrev loopBound (n j : Nat) : Nat := 0x300012 + 256 * n + j
abbrev loopHyst (n : Nat) : Nat := 0x300016 + 256 * n
abbrev loopMissAction (n : Nat) : Nat := 0x300017 + 256 * n
abbrev loopMissLimit (n : Nat) : Nat := 0x300018 + 256 * n
abbrev loopKp (n j : Nat) : Nat := 0x300020 + 256 * n + 8 * j
abbrev loopKi (n j : Nat) : Nat := 0x300021 + 256 * n + 8 * j
abbrev loopKd (n j : Nat) : Nat := 0x300022 + 256 * n + 8 * j
abbrev loopAd (n j : Nat) : Nat := 0x300023 + 256 * n + 8 * j
abbrev loopKff (n j : Nat) : Nat := 0x300024 + 256 * n + 8 * j
abbrev loopState (n : Nat) : Nat := 0x300040 + 256 * n
abbrev loopRegion (n : Nat) : Nat := 0x300041 + 256 * n
abbrev loopMeas (n : Nat) : Nat := 0x300042 + 256 * n
abbrev loopSpNow (n : Nat) : Nat := 0x300043 + 256 * n
abbrev loopOut (n : Nat) : Nat := 0x300044 + 256 * n
abbrev loopInt (n : Nat) : Nat := 0x300045 + 256 * n
abbrev loopDer (n : Nat) : Nat := 0x300046 + 256 * n
abbrev loopFlags (n : Nat) : Nat := 0x300047 + 256 * n
abbrev loopWinPeriods (n : Nat) : Nat := 0x300048 + 256 * n
abbrev loopMissed (n : Nat) : Nat := 0x300049 + 256 * n
abbrev loopSetPeriod (n : Nat) : Nat := 0x301080 + 256 * n
abbrev loopSetPhase (n : Nat) : Nat := 0x301081 + 256 * n
abbrev loopSetState (n : Nat) : Nat := 0x301082 + 256 * n
abbrev loopSetConsec (n : Nat) : Nat := 0x301083 + 256 * n
abbrev loopSetOverruns (n : Nat) : Nat := 0x301084 + 256 * n
abbrev loopSetClear (n : Nat) : Nat := 0x301085 + 256 * n
abbrev loopSetTimeMax (n : Nat) : Nat := 0x301086 + 256 * n
abbrev loopAinAvg (n : Nat) : Nat := 0x302080 + 256 * n
abbrev loopAinTable (n : Nat) : Nat := 0x302081 + 256 * n
abbrev loopAinValidMin (n : Nat) : Nat := 0x302082 + 256 * n
abbrev loopAinValidMax (n : Nat) : Nat := 0x302083 + 256 * n
abbrev loopAinUv (n : Nat) : Nat := 0x302084 + 256 * n
abbrev loopAinValue (n : Nat) : Nat := 0x302085 + 256 * n
abbrev loopAinValid (n : Nat) : Nat := 0x302086 + 256 * n
abbrev loopDieValue (n : Nat) : Nat := 0x304080 + 256 * n
abbrev loopDieValid (n : Nat) : Nat := 0x304081 + 256 * n
abbrev loopPwmPeriod (n : Nat) : Nat := 0x306080 + 256 * n
abbrev loopPwmPolarity (n : Nat) : Nat := 0x306081 + 256 * n
abbrev loopPwmDefault (n : Nat) : Nat := 0x306082 + 256 * n
abbrev loopPwmDuty (n : Nat) : Nat := 0x306083 + 256 * n
abbrev loopPwmWinner (n : Nat) : Nat := 0x306084 + 256 * n
abbrev loopBankDefault (n : Nat) : Nat := 0x308080 + 256 * n
abbrev loopBankCode (n : Nat) : Nat := 0x308081 + 256 * n
abbrev loopBankWinner (n : Nat) : Nat := 0x308082 + 256 * n
abbrev calRun : Nat := 0x2E0001
abbrev calCancel : Nat := 0x2E0002
abbrev calRunning : Nat := 0x2E0003
abbrev calSnapshot : Nat := 0x2E0004
abbrev calRestore : Nat := 0x2E0005
abbrev calAutoPeriod : Nat := 0x2E0006
abbrev calAllowMiss : Nat := 0x2E0007
abbrev calTempRef : Nat := 0x2E0008
abbrev calPdFlux : Nat := 0x2E0009
abbrev calBankMove : Nat := 0x2E000A
abbrev calBankSettle : Nat := 0x2E000B
abbrev calBankTol : Nat := 0x2E000C
abbrev calBgFactory : Nat := 0x2E000D
abbrev calRuns : Nat := 0x2E000E
abbrev calRejects : Nat := 0x2E000F
abbrev calResult (n : Nat) : Nat := 0x2E1001 + 256 * n
abbrev calLast (n : Nat) : Nat := 0x2E1002 + 256 * n
abbrev calCoef (n : Nat) : Nat := 0x2E1003 + 256 * n
abbrev calLimit (n : Nat) : Nat := 0x2E1004 + 256 * n
abbrev agePeriod : Nat := 0x2F0001
abbrev ageRo : Nat := 0x2F0002
abbrev ageRoWorst : Nat := 0x2F0003
abbrev ageRoLimit : Nat := 0x2F0004
abbrev ageVcoreBase : Nat := 0x2F0005
abbrev ageVcoreK : Nat := 0x2F0006
abbrev ageVcoreTarget : Nat := 0x2F0007
abbrev ageVcoreProp : Nat := 0x2F0008
abbrev ageDdrEye : Nat := 0x2F0009
abbrev ageDdrMin : Nat := 0x2F000A
abbrev ageDdrProp : Nat := 0x2F000B
abbrev ageEthEye : Nat := 0x2F000C
abbrev ageMlaneErr : Nat := 0x2F000D
abbrev ageHeadroom : Nat := 0x2F000E
abbrev ageTRef : Nat := 0x2F000F
abbrev ageBankIFull (n : Nat) : Nat := 0x2F1001 + 256 * n
abbrev ageBankTc (n : Nat) : Nat := 0x2F1002 + 256 * n
abbrev ageBankSlope (n : Nat) : Nat := 0x2F1003 + 256 * n
abbrev ageBankThresh (n : Nat) : Nat := 0x2F1004 + 256 * n
abbrev ageBankEff (n : Nat) : Nat := 0x2F1005 + 256 * n
abbrev ageBankEff0 (n : Nat) : Nat := 0x2F1006 + 256 * n
abbrev ageBankCeilProp (n : Nat) : Nat := 0x2F1007 + 256 * n
abbrev ptlState : Nat := 0x310001
abbrev pwrStateReq : Nat := 0x310002
abbrev pwrBootTarget : Nat := 0x310003
abbrev pwrRecoveryCause : Nat := 0x310004
abbrev ptlEvalPeriod : Nat := 0x310005
abbrev ptlWakeAt : Nat := 0x310006
abbrev ptlWakeResult : Nat := 0x310007
abbrev ptlWarm : Nat := 0x310008
abbrev ptlWakeSuppressed : Nat := 0x310009
abbrev ptlHostFlag : Nat := 0x31000A
abbrev ptlResetCause : Nat := 0x31000B
abbrev ptlLog : Nat := 0x31000C
abbrev pwrRailTimeout : Nat := 0x31000D
abbrev pwrRetryDelay : Nat := 0x31000E
abbrev pwrPmbusPec : Nat := 0x31000F
abbrev pwrStandbyCount : Nat := 0x310010
abbrev ptlChSource (n : Nat) : Nat := 0x311001 + 256 * n
abbrev ptlChPeriod (n : Nat) : Nat := 0x311002 + 256 * n
abbrev ptlChFilter (n : Nat) : Nat := 0x311003 + 256 * n
abbrev ptlChIirK (n : Nat) : Nat := 0x311004 + 256 * n
abbrev ptlChDebounce (n : Nat) : Nat := 0x311005 + 256 * n
abbrev ptlChValue (n : Nat) : Nat := 0x311006 + 256 * n
abbrev ptlChValid (n : Nat) : Nat := 0x311007 + 256 * n
abbrev ptlRule (n : Nat) : Nat := 0x312001 + 256 * n
abbrev ptlRuleState (n : Nat) : Nat := 0x312002 + 256 * n
abbrev ptlRuleClear (n : Nat) : Nat := 0x312003 + 256 * n
abbrev ptlRuleCount (n : Nat) : Nat := 0x312004 + 256 * n
abbrev pwrRailNom (n : Nat) : Nat := 0x314001 + 256 * n
abbrev pwrRailPmbus (n : Nat) : Nat := 0x314002 + 256 * n
abbrev pwrRailState (n : Nat) : Nat := 0x314003 + 256 * n
abbrev pwrRailMv (n : Nat) : Nat := 0x314004 + 256 * n
abbrev pwrRailIout (n : Nat) : Nat := 0x314005 + 256 * n
abbrev pwrRailStatus (n : Nat) : Nat := 0x314006 + 256 * n
abbrev evtMask : Nat := 0x320001
abbrev evtRingPolicy : Nat := 0x320002
abbrev evtLog : Nat := 0x320003
abbrev evtLogWrite : Nat := 0x320004
abbrev evtLogRead : Nat := 0x320005
abbrev evtRingFull : Nat := 0x320006
abbrev evtLogReset : Nat := 0x320007
abbrev evtOverwritten : Nat := 0x320008
abbrev evtLostMap : Nat := 0x320009
abbrev evtLost : Nat := 0x32000A
abbrev evtCount : Nat := 0x32000B
abbrev evtCountClear : Nat := 0x32000C
abbrev evtCountSat : Nat := 0x32000D
abbrev evtSatList : Nat := 0x32000E
abbrev evtSatOverflow : Nat := 0x32000F
abbrev evtLayout : Nat := 0x320010
abbrev evtCoalesced : Nat := 0x320011
abbrev evtFifoFill : Nat := 0x320012
abbrev secFwSlot : Nat := 0x330001
abbrev secFwVersion : Nat := 0x330002
abbrev secBootRecord : Nat := 0x330003
abbrev secSlotState : Nat := 0x330004
abbrev secStage : Nat := 0x330005
abbrev secStageState : Nat := 0x330006
abbrev secActivate : Nat := 0x330007
abbrev secActivateState : Nat := 0x330008
abbrev secConfirmTime : Nat := 0x330009
abbrev secRollback : Nat := 0x33000A
abbrev secRollbackAdvance : Nat := 0x33000B
abbrev secIdCert : Nat := 0x33000C
abbrev secIdKey : Nat := 0x33000D
abbrev secQuoteReq : Nat := 0x33000E
abbrev secQuote : Nat := 0x33000F
abbrev secQuoteState : Nat := 0x330010
abbrev secMeas : Nat := 0x330011
abbrev secLog : Nat := 0x330012
abbrev secLogCount : Nat := 0x330013
abbrev secExtend : Nat := 0x330014
abbrev secKey (j : Nat) : Nat := 0x330014 + j
abbrev secKeyState : Nat := 0x330019
abbrev secKeyEnrol : Nat := 0x33001A
abbrev secKeyRevoke : Nat := 0x33001B
abbrev secConfigSave : Nat := 0x33001C
abbrev secJtagState : Nat := 0x33001D
abbrev secJtagChallenge : Nat := 0x33001E
abbrev secJtagUnlock : Nat := 0x33001F
abbrev secJtagLock : Nat := 0x330020
abbrev secMgmtRestarts : Nat := 0x330021
abbrev secFwClear : Nat := 0x330022

end Sys2Proof.Machine.O
end

