-- ==== Sys2Proof/Machine/Objects.lean ====
section
/-! DEFINITION. The object dictionary of the device, table by table: for every object the sub-index, name, type, access
code, default, length rule, value range, counter flag and units that the object tables of chapters 01 to 19 give it
(R13, R14, R16, R392, R395, R557). Families of instances share one list of rows. The reference of an object is the number index × 256 + sub-index;
`Sys2Proof.Machine.O` names each of them. -/

namespace Sys2Proof.Machine

/-- The object types of Table 00-5. -/
inductive ObjType where
  | u8 | u16 | u32 | u64 | i32 | bool | str | stime | ratio | handle | domain
deriving DecidableEq, Repr

/-- The access codes of Table 00-6. -/
inductive Access where
  | ro | rw | wo | rws | rwi
deriving DecidableEq, Repr

/-- The forms in which the object tables give a default. -/
inductive Dflt where
  /-- a number -/
  | num (n : Nat)
  /-- the number of the instance itself (`MOUT_TILE_LEADER`, `LAY_Z`) -/
  | inst
  /-- one number per instance, 0 beyond the list -/
  | table (l : List Nat)
  /-- one number per instance, `d` beyond the list -/
  | tableElse (l : List Nat) (d : Nat)
  /-- bytes of a DOMAIN or STR -/
  | bytes (l : List Nat)
  /-- `count` little-endian words of `size` bytes, each `v` -/
  | words (count size v : Nat)
  /-- the default compensation table of R128 -/
  | ttable
  /-- the identity matrix in Q2.14 (R126) -/
  | identity
  /-- the default rules of Table 17-7 (R480) -/
  | rule
  /-- OTP: grade, serial number, MAC from the identity, band-gap factory curve, VDD_CORE base (R3, Config) -/
  | grade | serial | mac | bgFactory | vcoreBase
  /-- principal 0: the vendor key, level VENDOR, enabled (R396, Config) -/
  | vendorPrincipal
deriving DecidableEq, Repr

/-- One object of a table. `lens` is (lowest, highest, step) of the byte lengths a DOMAIN or STR allows;
`ok` lists the closed intervals of values R557 allows (none listed: every value of the type); `ctr` marks a saturating
counter of Table 18-4. -/
structure ObjRow where
  sub   : Nat
  name  : String
  ty    : ObjType
  acc   : Access
  dflt  : Dflt
  lens  : Nat × Nat × Nat
  ok    : List (Nat × Nat)
  ctr   : Bool
  units : String
deriving DecidableEq, Repr

/-- The instances `base .. base + count - 1` of one object table. -/
structure ObjFam where
  base  : Nat
  count : Nat
  rows  : List ObjRow
deriving DecidableEq, Repr

/-- `MOUT_WIDTH`: the multiples of 64 from 64 to 4,096 (Table 06-10). -/
def mirrorWidths : List (Nat × Nat) := (List.range 64).map fun k => (64 * (k + 1), 64 * (k + 1))

/-- Objects at index 0x2000 (01_studio_time.md, R43). -/
def rows2000 : List ObjRow := [
  ⟨0x01, "TIME_NOW", .stime, .ro, .num 0, (0, 0, 1), [], false, ""⟩,
  ⟨0x02, "TIME_STATE", .u8, .ro, .num 0, (0, 0, 1), [], false, ""⟩,
  ⟨0x03, "TIME_SRC_ACTIVE", .u8, .ro, .num 0, (0, 0, 1), [], false, ""⟩,
  ⟨0x04, "TIME_SRC_PRIORITY", .u32, .rw, .num 308674559, (0, 0, 1), [], false, ""⟩,
  ⟨0x05, "TIME_SEL_MODE", .u8, .rw, .num 0, (0, 0, 1), [(0, 2)], false, ""⟩,
  ⟨0x06, "TIME_SRC_MANUAL", .u8, .rw, .num 1, (0, 0, 1), [(0, 15)], false, ""⟩,
  ⟨0x07, "TIME_QUAL_TIME", .u16, .rw, .num 10, (0, 0, 1), [(1, 3600)], false, "s"⟩,
  ⟨0x08, "TIME_SERVO_BW", .u32, .rw, .num 100, (0, 0, 1), [(10, 10000)], false, "mHz"⟩,
  ⟨0x09, "TIME_LOCK_THRESH", .u32, .rw, .num 100, (0, 0, 1), [], false, "ns"⟩,
  ⟨0x0A, "TIME_UNLOCK_THRESH", .u32, .rw, .num 1000, (0, 0, 1), [], false, "ns"⟩,
  ⟨0x0B, "TIME_STEP_POLICY", .u8, .rw, .num 0, (0, 0, 1), [(0, 1)], false, ""⟩,
  ⟨0x0C, "TIME_STEP_THRESH", .u32, .rw, .num 1000000, (0, 0, 1), [], false, "ns"⟩,
  ⟨0x0D, "TIME_SLEW_MAX", .u32, .rw, .num 10000, (0, 0, 1), [(1, 100000)], false, "ppb"⟩,
  ⟨0x0E, "TIME_FREQ_CORR", .i32, .ro, .num 0, (0, 0, 1), [], false, "0.001 ppb"⟩,
  ⟨0x0F, "TIME_PHASE_ERR", .i32, .ro, .num 0, (0, 0, 1), [], false, "ps"⟩,
  ⟨0x10, "TIME_HOLDOVER_BUDGET", .u32, .rw, .num 1000, (0, 0, 1), [], false, "ns"⟩,
  ⟨0x11, "TIME_OSC_STAB", .u32, .rw, .num 10000, (0, 0, 1), [], false, "0.001 ppb"⟩,
  ⟨0x12, "TIME_OSC_AGEING", .u32, .rw, .num 1000, (0, 0, 1), [], false, "0.001 ppb/day"⟩,
  ⟨0x13, "TIME_HOLDOVER_EST", .u32, .ro, .num 0, (0, 0, 1), [], false, "ns"⟩,
  ⟨0x14, "TIME_HOLDOVER_ELAPSED", .u32, .ro, .num 0, (0, 0, 1), [], false, "s"⟩,
  ⟨0x15, "TIME_SET", .stime, .wo, .num 0, (0, 0, 1), [], false, ""⟩,
  ⟨0x16, "TIME_TAI_UTC", .i32, .rw, .num 37, (0, 0, 1), [], false, "s"⟩,
  ⟨0x17, "TIME_PTP_DOMAIN", .u8, .rw, .num 127, (0, 0, 1), [(0, 127)], false, ""⟩,
  ⟨0x18, "TIME_PTP_ROLE", .u8, .rw, .num 3, (0, 0, 1), [(0, 4)], false, ""⟩,
  ⟨0x19, "TIME_PTP_PRIORITY1", .u8, .rw, .num 128, (0, 0, 1), [], false, ""⟩,
  ⟨0x1A, "TIME_PTP_PRIORITY2", .u8, .rw, .num 128, (0, 0, 1), [], false, ""⟩,
  ⟨0x1B, "TIME_PTP_LOG_SYNC", .i32, .rw, .num 4294967293, (0, 0, 1), [(4294967289, 4294967295)], false, "log₂ s"⟩,
  ⟨0x1C, "TIME_PTP_LOG_ANNOUNCE", .i32, .rw, .num 4294967294, (0, 0, 1), [(0, 1), (4294967293, 4294967295)], false, "log₂ s"⟩,
  ⟨0x1D, "TIME_PTP_LOG_DELAY_REQ", .i32, .rw, .num 4294967293, (0, 0, 1), [(0, 5), (4294967289, 4294967295)], false, "log₂ s"⟩,
  ⟨0x1E, "TIME_PTP_ANNOUNCE_TIMEOUT", .u8, .rw, .num 3, (0, 0, 1), [(2, 10)], false, "intervals"⟩,
  ⟨0x1F, "TIME_PTP_TWO_STEP", .bool, .rw, .num 1, (0, 0, 1), [], false, ""⟩,
  ⟨0x20, "TIME_PTP_GM_ID", .u64, .ro, .num 0, (0, 0, 1), [], false, ""⟩,
  ⟨0x21, "TIME_PTP_SLAVE_PORT", .u8, .ro, .num 255, (0, 0, 1), [], false, ""⟩,
  ⟨0x22, "TIME_REF_FORMAT", .u8, .rw, .num 22, (0, 0, 1), [(1, 2), (16, 23), (32, 34)], false, ""⟩,
  ⟨0x23, "TIME_REF_MEASURED", .u8, .ro, .num 0, (0, 0, 1), [], false, ""⟩,
  ⟨0x24, "TIME_PPS_EDGE", .u8, .rw, .num 0, (0, 0, 1), [(0, 1)], false, ""⟩,
  ⟨0x25, "TIME_PPS_OFFSET", .i32, .rw, .num 0, (0, 0, 1), [], false, "ps"⟩,
  ⟨0x26, "TIME_REF_OFFSET", .i32, .rw, .num 0, (0, 0, 1), [], false, "ps"⟩,
  ⟨0x27, "TIME_SM_TLV", .domain, .ro, .bytes [], (0, 1024, 1), [], false, ""⟩,
  ⟨0x28, "TIME_ANNOUNCE_HOLDOVER", .bool, .rw, .num 0, (0, 0, 1), [], false, ""⟩]

/-- Objects at index 0x2110 + i (01_studio_time.md, R50). -/
def rows2110 : List ObjRow := [
  ⟨0x01, "TG_ENABLE", .bool, .rws, .num 0, (0, 0, 1), [], false, ""⟩,
  ⟨0x02, "TG_PERIOD", .ratio, .rws, .num (1001 * 4294967296 + 60000), (0, 0, 1), [], false, "s"⟩,
  ⟨0x03, "TG_PHASE", .i32, .rws, .num 0, (0, 0, 1), [], false, "ticks"⟩,
  ⟨0x04, "TG_SLOT_COUNT", .u8, .rws, .num 0, (0, 0, 1), [(0, 16)], false, ""⟩,
  ⟨0x05, "TG_COMMIT_STATE", .u8, .ro, .num 0, (0, 0, 1), [], false, ""⟩,
  ⟨0x06, "TG_COMMIT_RESULT", .u16, .ro, .num 0, (0, 0, 1), [], false, ""⟩,
  ⟨0x07, "TG_B_OLD", .stime, .ro, .num 0, (0, 0, 1), [], false, ""⟩,
  ⟨0x08, "TG_B_NEW", .stime, .ro, .num 0, (0, 0, 1), [], false, ""⟩,
  ⟨0x09, "TG_FRAME", .u64, .ro, .num 0, (0, 0, 1), [], false, ""⟩,
  ⟨0x0A, "TG_FRAME_START", .stime, .ro, .num 0, (0, 0, 1), [], false, ""⟩,
  ⟨0x0B, "TG_COMMITS", .u32, .ro, .num 0, (0, 0, 1), [], true, ""⟩,
  ⟨0x0C, "TG_REFUSALS", .u32, .ro, .num 0, (0, 0, 1), [], true, ""⟩,
  ⟨0x0D, "TG_CANCEL", .u8, .wo, .num 0, (0, 0, 1), [(1, 1)], false, ""⟩,
  ⟨0x40, "TG_SLOT_0", .u64, .rws, .num 0, (0, 0, 1), [], false, ""⟩,
  ⟨0x41, "TG_SLOT_1", .u64, .rws, .num 0, (0, 0, 1), [], false, ""⟩,
  ⟨0x42, "TG_SLOT_2", .u64, .rws, .num 0, (0, 0, 1), [], false, ""⟩,
  ⟨0x43, "TG_SLOT_3", .u64, .rws, .num 0, (0, 0, 1), [], false, ""⟩,
  ⟨0x44, "TG_SLOT_4", .u64, .rws, .num 0, (0, 0, 1), [], false, ""⟩,
  ⟨0x45, "TG_SLOT_5", .u64, .rws, .num 0, (0, 0, 1), [], false, ""⟩,
  ⟨0x46, "TG_SLOT_6", .u64, .rws, .num 0, (0, 0, 1), [], false, ""⟩,
  ⟨0x47, "TG_SLOT_7", .u64, .rws, .num 0, (0, 0, 1), [], false, ""⟩,
  ⟨0x48, "TG_SLOT_8", .u64, .rws, .num 0, (0, 0, 1), [], false, ""⟩,
  ⟨0x49, "TG_SLOT_9", .u64, .rws, .num 0, (0, 0, 1), [], false, ""⟩,
  ⟨0x4A, "TG_SLOT_10", .u64, .rws, .num 0, (0, 0, 1), [], false, ""⟩,
  ⟨0x4B, "TG_SLOT_11", .u64, .rws, .num 0, (0, 0, 1), [], false, ""⟩,
  ⟨0x4C, "TG_SLOT_12", .u64, .rws, .num 0, (0, 0, 1), [], false, ""⟩,
  ⟨0x4D, "TG_SLOT_13", .u64, .rws, .num 0, (0, 0, 1), [], false, ""⟩,
  ⟨0x4E, "TG_SLOT_14", .u64, .rws, .num 0, (0, 0, 1), [], false, ""⟩,
  ⟨0x4F, "TG_SLOT_15", .u64, .rws, .num 0, (0, 0, 1), [], false, ""⟩]

/-- Objects at index 0x2200 (02_bit_planes.md, R87). -/
def rows2200 : List ObjRow := [
  ⟨0x01, "SLM_COMPRESSION_CREDIT", .bool, .rw, .num 0, (0, 0, 1), [], false, ""⟩,
  ⟨0x02, "SLM_PLANE_COMPRESS", .bool, .rwi, .num 1, (0, 0, 1), [], false, ""⟩,
  ⟨0x03, "SLM_BW_CEILING", .u32, .ro, .num 352000, (0, 0, 1), [], false, "MB/s"⟩,
  ⟨0x04, "SLM_BW_FIXED", .u32, .ro, .num 5000, (0, 0, 1), [], false, "MB/s"⟩,
  ⟨0x05, "SLM_COMP_GUARD", .u32, .ro, .num 6554, (0, 0, 1), [], false, "2⁻¹⁶"⟩,
  ⟨0x06, "SLM_BW_ADMITTED", .u32, .ro, .num 5000, (0, 0, 1), [], false, "MB/s"⟩,
  ⟨0x07, "SLM_BW_ADMITTED_RAW", .u32, .ro, .num 5000, (0, 0, 1), [], false, "MB/s"⟩,
  ⟨0x08, "SLM_BW_LAST_REQUEST", .u32, .ro, .num 0, (0, 0, 1), [], false, "MB/s"⟩]

/-- Objects at index 0x2210 + i (02_bit_planes.md, R88). -/
def rows2210 : List ObjRow := [
  ⟨0x01, "SLM_PLAN_MODE", .u8, .rws, .num 0, (0, 0, 1), [(0, 2)], false, ""⟩,
  ⟨0x02, "SLM_DEPTH", .u8, .rws, .num 16, (0, 0, 1), [(1, 16)], false, "bits"⟩,
  ⟨0x03, "SLM_PRIMARIES", .u8, .rws, .num 63, (0, 0, 1), [(0, 63)], false, ""⟩,
  ⟨0x04, "SLM_MIN_DWELL", .u32, .rws, .num 412500, (0, 0, 1), [], false, "ticks"⟩,
  ⟨0x05, "SLM_MIN_WINDOW", .u32, .rws, .num 207, (0, 0, 1), [], false, "ticks"⟩,
  ⟨0x06, "SLM_GUARD", .u32, .rws, .num 2063, (0, 0, 1), [], false, "ticks"⟩,
  ⟨0x07, "SLM_LSB_WEIGHT", .u32, .rws, .num 786432, (0, 0, 1), [], false, "2⁻¹⁵ tick"⟩,
  ⟨0x08, "SLM_SPLIT_BITS", .u8, .rws, .num 1, (0, 0, 1), [], false, ""⟩,
  ⟨0x09, "SLM_SPLIT_MAX", .u8, .rws, .num 2, (0, 0, 1), [(1, 2), (4, 4), (8, 8), (16, 16)], false, ""⟩,
  ⟨0x0A, "SLM_LEVEL_POLICY", .u8, .rws, .num 0, (0, 0, 1), [(0, 1)], false, ""⟩,
  ⟨0x0B, "SLM_BUF_PLANES", .u16, .rws, .num 417, (0, 0, 1), [(1, 512)], false, "slots"⟩,
  ⟨0x0C, "SLM_SETTLE_0", .u32, .rws, .num 41250, (0, 0, 1), [], false, "ticks"⟩,
  ⟨0x0D, "SLM_SETTLE_1", .u32, .rws, .num 41250, (0, 0, 1), [], false, "ticks"⟩,
  ⟨0x0E, "SLM_SETTLE_2", .u32, .rws, .num 41250, (0, 0, 1), [], false, "ticks"⟩,
  ⟨0x0F, "SLM_SETTLE_3", .u32, .rws, .num 41250, (0, 0, 1), [], false, "ticks"⟩,
  ⟨0x10, "SLM_LADDER_0", .u16, .rws, .num 32768, (0, 0, 1), [], false, "1/32,768"⟩,
  ⟨0x11, "SLM_LADDER_1", .u16, .rws, .num 16384, (0, 0, 1), [], false, "1/32,768"⟩,
  ⟨0x12, "SLM_LADDER_2", .u16, .rws, .num 8192, (0, 0, 1), [], false, "1/32,768"⟩,
  ⟨0x13, "SLM_LADDER_3", .u16, .rws, .num 4096, (0, 0, 1), [], false, "1/32,768"⟩,
  ⟨0x14, "SLM_LADDER_4", .u16, .rws, .num 2048, (0, 0, 1), [], false, "1/32,768"⟩,
  ⟨0x15, "SLM_LADDER_5", .u16, .rws, .num 1024, (0, 0, 1), [], false, "1/32,768"⟩,
  ⟨0x16, "SLM_LADDER_6", .u16, .rws, .num 512, (0, 0, 1), [], false, "1/32,768"⟩,
  ⟨0x17, "SLM_LADDER_7", .u16, .rws, .num 256, (0, 0, 1), [], false, "1/32,768"⟩,
  ⟨0x18, "SLM_LADDER_8", .u16, .rws, .num 128, (0, 0, 1), [], false, "1/32,768"⟩,
  ⟨0x19, "SLM_LADDER_9", .u16, .rws, .num 0, (0, 0, 1), [], false, "1/32,768"⟩,
  ⟨0x1A, "SLM_LADDER_10", .u16, .rws, .num 0, (0, 0, 1), [], false, "1/32,768"⟩,
  ⟨0x1B, "SLM_LADDER_11", .u16, .rws, .num 0, (0, 0, 1), [], false, "1/32,768"⟩,
  ⟨0x1C, "SLM_LADDER_12", .u16, .rws, .num 0, (0, 0, 1), [], false, "1/32,768"⟩,
  ⟨0x1D, "SLM_LADDER_13", .u16, .rws, .num 0, (0, 0, 1), [], false, "1/32,768"⟩,
  ⟨0x1E, "SLM_LADDER_14", .u16, .rws, .num 0, (0, 0, 1), [], false, "1/32,768"⟩,
  ⟨0x1F, "SLM_LADDER_15", .u16, .rws, .num 0, (0, 0, 1), [], false, "1/32,768"⟩,
  ⟨0x40, "SLM_PLAN_ACTIVE", .domain, .ro, .bytes [], (8192, 8192, 1), [], false, ""⟩,
  ⟨0x41, "SLM_PLAN_STAGE", .domain, .rw, .bytes [], (8192, 8192, 1), [], false, ""⟩,
  ⟨0x42, "SLM_PLAN_SWAP", .u64, .wo, .num 0, (0, 0, 1), [], false, ""⟩,
  ⟨0x43, "SLM_PLAN_ENTRIES", .u16, .ro, .num 0, (0, 0, 1), [], false, ""⟩,
  ⟨0x44, "SLM_PLAN_SLACK", .u32, .ro, .num 0, (0, 0, 1), [], false, "ticks"⟩,
  ⟨0x45, "SLM_HIST", .domain, .ro, .bytes [], (3072, 3072, 1), [], false, ""⟩,
  ⟨0x46, "SLM_COMP_RATIO", .u32, .ro, .num 65536, (0, 0, 1), [], false, "2⁻¹⁶"⟩,
  ⟨0x47, "SLM_FALLBACKS", .u32, .ro, .num 0, (0, 0, 1), [], true, ""⟩,
  ⟨0x48, "SLM_LATE_PLANS", .u32, .ro, .num 0, (0, 0, 1), [], true, ""⟩,
  ⟨0x49, "SLM_REPEATS", .u32, .ro, .num 0, (0, 0, 1), [], true, ""⟩,
  ⟨0x4A, "SLM_ZERO_BLOCKS", .u32, .ro, .num 0, (0, 0, 1), [], true, ""⟩,
  ⟨0x4B, "SLM_MANUAL_REFUSED", .u32, .ro, .num 0, (0, 0, 1), [], true, ""⟩,
  ⟨0x4C, "SLM_IMAGES", .u16, .ro, .num 0, (0, 0, 1), [], false, ""⟩,
  ⟨0x4D, "SLM_MANUAL_RESULT", .u32, .ro, .num 0, (0, 0, 1), [], false, ""⟩]

/-- Objects at index 0x2300 (03_light_drive.md, R115). -/
def rows2300 : List ObjRow := [
  ⟨0x01, "LW_PERIOD", .u32, .rwi, .num 1000, (0, 0, 1), [(500, 10000)], false, "µs"⟩,
  ⟨0x02, "GATE_INTLK_STATE", .u8, .ro, .num 0, (0, 0, 1), [], false, ""⟩,
  ⟨0x03, "GATE_INTLK_REARM", .u8, .wo, .num 0, (0, 0, 1), [(1, 1)], false, ""⟩,
  ⟨0x04, "GATE_INTLK_COUNT", .u32, .ro, .num 0, (0, 0, 1), [], true, ""⟩,
  ⟨0x05, "LW_SLOT", .u64, .ro, .num 0, (0, 0, 1), [], false, ""⟩]

/-- Objects at index 0x2310 + i (03_light_drive.md, R116). -/
def rows2310 : List ObjRow := [
  ⟨0x01, "GATE_ENABLE", .bool, .rw, .num 1, (0, 0, 1), [], false, ""⟩,
  ⟨0x02, "GATE_OUTPUT", .u8, .rwi, .num 255, (0, 0, 1), [(0, 3), (255, 255)], false, ""⟩,
  ⟨0x03, "GATE_PRIMARY", .u8, .rwi, .num 7, (0, 0, 1), [(0, 5), (7, 7)], false, ""⟩,
  ⟨0x04, "GATE_LEVEL_FLOOR", .u16, .rwi, .num 128, (0, 0, 1), [], false, "1/32,768"⟩,
  ⟨0x05, "GATE_DRV_LATENCY", .u16, .rws, .num 0, (0, 0, 1), [(0, 4095)], false, "ticks"⟩,
  ⟨0x06, "GATE_VERNIER", .u8, .rw, .num 0, (0, 0, 1), [(0, 7)], false, "1/8 tick"⟩,
  ⟨0x07, "GATE_FORCE_CAUSE", .u16, .ro, .num 384, (0, 0, 1), [], false, ""⟩,
  ⟨0x08, "GATE_FORCE_LATCH", .u16, .ro, .num 0, (0, 0, 1), [], false, ""⟩,
  ⟨0x09, "GATE_REARM", .u8, .wo, .num 0, (0, 0, 1), [(1, 1)], false, ""⟩,
  ⟨0x0A, "GATE_TABLE", .u8, .ro, .num 0, (0, 0, 1), [], false, ""⟩,
  ⟨0x0B, "GATE_FADE_LEVEL", .u16, .rw, .num 32768, (0, 0, 1), [], false, "1/32,768"⟩,
  ⟨0x0C, "GATE_FADE_TIME", .u16, .rw, .num 0, (0, 0, 1), [], false, "ms"⟩,
  ⟨0x0D, "GATE_FADE_CURVE", .u8, .rw, .num 0, (0, 0, 1), [(0, 1)], false, ""⟩,
  ⟨0x0E, "GATE_FADE_NOW", .u16, .ro, .num 32768, (0, 0, 1), [], false, "1/32,768"⟩,
  ⟨0x0F, "GATE_HEADERS", .u32, .ro, .num 0, (0, 0, 1), [], true, ""⟩,
  ⟨0x10, "GATE_WINDOWS_CUT", .u32, .ro, .num 0, (0, 0, 1), [], true, ""⟩]

/-- Objects at index 0x2320 + i (03_light_drive.md, R117). -/
def rows2320 : List ObjRow := [
  ⟨0x01, "LW_ENABLE", .bool, .rw, .num 0, (0, 0, 1), [], false, ""⟩,
  ⟨0x02, "LW_DRIVERS", .u8, .rwi, .num 0, (0, 0, 1), [(0, 64)], false, ""⟩,
  ⟨0x03, "LW_FAULT_ACTION", .u8, .rw, .num 1, (0, 0, 1), [(0, 2)], false, ""⟩,
  ⟨0x04, "LW_FAULT_STATE", .u8, .ro, .num 0, (0, 0, 1), [], false, ""⟩,
  ⟨0x05, "LW_REARM", .u8, .wo, .num 0, (0, 0, 1), [(1, 1)], false, ""⟩,
  ⟨0x06, "LW_TRIM", .domain, .rw, .words 1024 2 32768, (2048, 2048, 1), [], false, "2⁻¹⁵"⟩,
  ⟨0x07, "LW_LIMITS", .domain, .rw, .words 1024 2 65535, (2048, 2048, 1), [], false, "I_RATED / 65,535"⟩,
  ⟨0x08, "LW_SET_IMAGE", .domain, .ro, .words 1024 2 0, (2048, 2048, 1), [], false, "I_RATED / 65,535"⟩,
  ⟨0x09, "LW_FRAMES", .u32, .ro, .num 0, (0, 0, 1), [], true, ""⟩,
  ⟨0x0A, "LW_AUX_FRAMES", .u32, .ro, .num 0, (0, 0, 1), [], true, ""⟩,
  ⟨0x0B, "LW_FAULTS", .u32, .ro, .num 0, (0, 0, 1), [], true, ""⟩,
  ⟨0x0C, "LW_LOAD_STATE", .u8, .ro, .num 0, (0, 0, 1), [], false, ""⟩]

/-- Objects at index 0x2400 (04_colour.md, R138). -/
def rows2400 : List ObjRow := [
  ⟨0x01, "COL_WORK_GAMUT", .u8, .rwi, .num 1, (0, 0, 1), [], false, ""⟩,
  ⟨0x02, "COL_WORK_TF", .u8, .rwi, .num 2, (0, 0, 1), [], false, ""⟩,
  ⟨0x03, "COL_SDR_WHITE", .u16, .rw, .num 203, (0, 0, 1), [], false, "cd/m²"⟩,
  ⟨0x04, "COL_PD_SETTLE", .u32, .rw, .num 2063, (0, 0, 1), [], false, "ticks"⟩,
  ⟨0x05, "COL_PD_TAIL", .u32, .rw, .num 2063, (0, 0, 1), [], false, "ticks"⟩,
  ⟨0x06, "COL_PD_MIN_SAMPLES", .u16, .rw, .num 16, (0, 0, 1), [], false, ""⟩]

/-- Objects at index 0x2410 + i (04_colour.md, R139). -/
def rows2410 : List ObjRow := [
  ⟨0x01, "COL_PRIM_X", .u32, .rw, .num 0, (0, 0, 1), [], false, "10⁻⁶"⟩,
  ⟨0x02, "COL_PRIM_Y", .u32, .rw, .num 0, (0, 0, 1), [], false, "10⁻⁶"⟩,
  ⟨0x03, "COL_PRIM_EFFICACY", .u32, .rw, .num 0, (0, 0, 1), [], false, "0.001 lm/W"⟩,
  ⟨0x04, "COL_PRIM_TTABLE", .domain, .rw, .ttable, (128, 128, 1), [], false, ""⟩,
  ⟨0x05, "COL_PRIM_PARTNERS", .u8, .rw, .num 63, (0, 0, 1), [(0, 63)], false, ""⟩]

/-- Objects at index 0x2430 + i (04_colour.md, R139). -/
def rows2430 : List ObjRow := [
  ⟨0x01, "COL_COMP_MODE", .u8, .rw, .num 1, (0, 0, 1), [(0, 2)], false, ""⟩,
  ⟨0x02, "COL_CEIL_POLICY", .u8, .rw, .num 0, (0, 0, 1), [(0, 1)], false, ""⟩,
  ⟨0x03, "COL_MATRIX", .domain, .ro, .identity, (72, 72, 1), [], false, "Q2.14"⟩,
  ⟨0x04, "COL_MATRIX_HOST", .domain, .rw, .identity, (72, 72, 1), [], false, "Q2.14"⟩,
  ⟨0x05, "COL_SET_ID", .u16, .ro, .num 0, (0, 0, 1), [], false, ""⟩,
  ⟨0x06, "COL_HEADROOM_H", .u16, .ro, .num 32768, (0, 0, 1), [], false, "1/32,768"⟩,
  ⟨0x07, "COL_MATRIX_LATE", .u32, .ro, .num 0, (0, 0, 1), [], true, ""⟩,
  ⟨0x08, "COL_CLIPS", .u32, .ro, .num 0, (0, 0, 1), [], true, ""⟩,
  ⟨0x10, "COL_PRIM_LUM_A", .u32, .rw, .num 0, (0, 0, 1), [], false, "lm"⟩,
  ⟨0x11, "COL_PRIM_LUM_B", .u32, .rw, .num 0, (0, 0, 1), [], false, "lm"⟩,
  ⟨0x12, "COL_PRIM_LUM_C", .u32, .rw, .num 0, (0, 0, 1), [], false, "lm"⟩,
  ⟨0x13, "COL_PRIM_LUM_D", .u32, .rw, .num 0, (0, 0, 1), [], false, "lm"⟩,
  ⟨0x14, "COL_PRIM_LUM_E", .u32, .rw, .num 0, (0, 0, 1), [], false, "lm"⟩,
  ⟨0x15, "COL_PRIM_LUM_F", .u32, .rw, .num 0, (0, 0, 1), [], false, "lm"⟩,
  ⟨0x18, "COL_PRIM_TEMP_A", .i32, .ro, .num 25000, (0, 0, 1), [], false, "m°C"⟩,
  ⟨0x19, "COL_PRIM_TEMP_B", .i32, .ro, .num 25000, (0, 0, 1), [], false, "m°C"⟩,
  ⟨0x1A, "COL_PRIM_TEMP_C", .i32, .ro, .num 25000, (0, 0, 1), [], false, "m°C"⟩,
  ⟨0x1B, "COL_PRIM_TEMP_D", .i32, .ro, .num 25000, (0, 0, 1), [], false, "m°C"⟩,
  ⟨0x1C, "COL_PRIM_TEMP_E", .i32, .ro, .num 25000, (0, 0, 1), [], false, "m°C"⟩,
  ⟨0x1D, "COL_PRIM_TEMP_F", .i32, .ro, .num 25000, (0, 0, 1), [], false, "m°C"⟩]

/-- Objects at index 0x2420 + i (04_colour.md, R139). -/
def rows2420 : List ObjRow := [
  ⟨0x01, "COL_LUT", .domain, .ro, .bytes [], (431244, 431244, 1), [], false, ""⟩,
  ⟨0x02, "COL_LUT_STAGE", .domain, .rw, .bytes [], (431244, 431244, 1), [], false, ""⟩,
  ⟨0x03, "COL_LUT_LOADED", .bool, .ro, .num 0, (0, 0, 1), [], false, ""⟩,
  ⟨0x04, "COL_LUT_SWITCHES", .u32, .ro, .num 0, (0, 0, 1), [], true, ""⟩]

/-- Objects at index 0x2440 + i (04_colour.md, R140). -/
def rows2440 : List ObjRow := [
  ⟨0x01, "COL_BANK_TSENSOR", .u8, .rw, .num 255, (0, 0, 1), [(0, 63), (255, 255)], false, ""⟩,
  ⟨0x02, "COL_BANK_PD", .u8, .rw, .num 255, (0, 0, 1), [(0, 23), (255, 255)], false, ""⟩,
  ⟨0x03, "COL_PD_SCALE", .u32, .rw, .num 0, (0, 0, 1), [], false, "2⁻¹⁶ lm/count"⟩,
  ⟨0x04, "COL_BANK_TEMP", .i32, .ro, .num 25000, (0, 0, 1), [], false, "m°C"⟩,
  ⟨0x05, "COL_BANK_TARGET", .u32, .ro, .num 0, (0, 0, 1), [], false, "1/256 count"⟩,
  ⟨0x06, "COL_BANK_CEILING", .u32, .rw, .num 4294967295, (0, 0, 1), [], false, "1/256 count"⟩,
  ⟨0x07, "COL_PD_READING", .u32, .ro, .num 0, (0, 0, 1), [], false, "1/256 count"⟩,
  ⟨0x08, "COL_PD_TIME", .stime, .ro, .num 0, (0, 0, 1), [], false, ""⟩,
  ⟨0x09, "COL_BANK_POWER", .u32, .ro, .num 0, (0, 0, 1), [], false, "mW"⟩,
  ⟨0x0A, "COL_PD_INVALID", .u32, .ro, .num 0, (0, 0, 1), [], true, ""⟩,
  ⟨0x0B, "COL_TARGET_LATE", .u32, .ro, .num 0, (0, 0, 1), [], true, ""⟩]

/-- Objects at index 0x2500 (05_camera_views.md, R157). -/
def rows2500 : List ObjRow := [
  ⟨0x01, "CAM_DEGLITCH", .u8, .rw, .num 4, (0, 0, 1), [(1, 255)], false, "PERI periods"⟩,
  ⟨0x02, "CAM_CLEAR_FRAMES", .u8, .rw, .num 8, (0, 0, 1), [(1, 255)], false, "frames"⟩,
  ⟨0x03, "CAM_MISS_FRAMES", .u8, .rw, .num 3, (0, 0, 1), [(1, 255)], false, "frames"⟩,
  ⟨0x04, "VIEW_PLACE_DETAIL", .u32, .ro, .num 0, (0, 0, 1), [], false, ""⟩]

/-- Objects at index 0x2510 + i (05_camera_views.md, R158). -/
def rows2510 : List ObjRow := [
  ⟨0x01, "VIEW_LABEL", .str, .rw, .bytes [], (0, 255, 1), [], false, ""⟩,
  ⟨0x02, "VIEW_ON_OUTPUTS", .u8, .ro, .num 0, (0, 0, 1), [], false, ""⟩,
  ⟨0x03, "VIEW_CAMERAS", .u8, .ro, .num 0, (0, 0, 1), [], false, ""⟩,
  ⟨0x04, "VIEW_DUTY_0", .u32, .ro, .num 0, (0, 0, 1), [], false, "2⁻¹⁶ of frame"⟩,
  ⟨0x05, "VIEW_DUTY_1", .u32, .ro, .num 0, (0, 0, 1), [], false, "2⁻¹⁶ of frame"⟩,
  ⟨0x06, "VIEW_DUTY_2", .u32, .ro, .num 0, (0, 0, 1), [], false, "2⁻¹⁶ of frame"⟩,
  ⟨0x07, "VIEW_DUTY_3", .u32, .ro, .num 0, (0, 0, 1), [], false, "2⁻¹⁶ of frame"⟩]

/-- Objects at index 0x2520 + i (05_camera_views.md, R159). -/
def rows2520 : List ObjRow := [
  ⟨0x01, "CAM_OUTPUT", .u8, .rwi, .num 255, (0, 0, 1), [(0, 3), (255, 255)], false, ""⟩,
  ⟨0x02, "CAM_VIEW", .u8, .rws, .num 255, (0, 0, 1), [(0, 7), (255, 255)], false, ""⟩,
  ⟨0x03, "CAM_OPEN", .u32, .rws, .num 0, (0, 0, 1), [], false, "ticks"⟩,
  ⟨0x04, "CAM_LENGTH", .u32, .rws, .num 0, (0, 0, 1), [], false, "ticks"⟩,
  ⟨0x05, "CAM_GUARD", .u32, .rws, .num 20625, (0, 0, 1), [], false, "ticks"⟩,
  ⟨0x06, "CAM_DIVIDER", .u8, .rw, .num 1, (0, 0, 1), [(1, 8)], false, "frames"⟩,
  ⟨0x07, "CAM_DIV_PHASE", .u8, .rw, .num 0, (0, 0, 1), [], false, "frames"⟩,
  ⟨0x08, "CAM_SHUT_POLARITY", .u8, .rw, .num 0, (0, 0, 1), [(0, 1)], false, ""⟩,
  ⟨0x09, "CAM_SHUT_DELAY", .i32, .rw, .num 0, (0, 0, 1), [], false, "ticks"⟩,
  ⟨0x0A, "CAM_MONITOR", .bool, .rw, .num 1, (0, 0, 1), [], false, ""⟩,
  ⟨0x0B, "CAM_SHUT_STATE", .u8, .ro, .num 0, (0, 0, 1), [], false, ""⟩,
  ⟨0x0C, "CAM_DRIFT_OPEN", .i32, .ro, .num 0, (0, 0, 1), [], false, "ticks"⟩,
  ⟨0x0D, "CAM_DRIFT_CLOSE", .i32, .ro, .num 0, (0, 0, 1), [], false, "ticks"⟩,
  ⟨0x0E, "CAM_DRIFT_PEAK", .u32, .rw, .num 0, (0, 0, 1), [(0, 0)], false, "ticks"⟩,
  ⟨0x0F, "CAM_SUGGEST_OPEN", .i32, .ro, .num 0, (0, 0, 1), [], false, "ticks"⟩,
  ⟨0x10, "CAM_SUGGEST_LENGTH", .u32, .ro, .num 0, (0, 0, 1), [], false, "ticks"⟩,
  ⟨0x11, "CAM_PERIOD_ERR", .i32, .ro, .num 0, (0, 0, 1), [], false, "ticks"⟩,
  ⟨0x12, "CAM_PERIOD_BAD", .bool, .ro, .num 0, (0, 0, 1), [], false, ""⟩,
  ⟨0x13, "CAM_DRIFT_FRAMES", .u32, .ro, .num 0, (0, 0, 1), [], true, ""⟩,
  ⟨0x14, "CAM_MISSED", .u32, .ro, .num 0, (0, 0, 1), [], true, ""⟩,
  ⟨0x15, "CAM_EXTRA_EDGES", .u32, .ro, .num 0, (0, 0, 1), [], true, ""⟩,
  ⟨0x16, "CAM_LAST_OPEN", .stime, .ro, .num 0, (0, 0, 1), [], false, ""⟩]

/-- Objects at index 0x2100 (06_mirror_outputs.md, R188). -/
def rows2100 : List ObjRow := [
  ⟨0x01, "MOUT_POLL_PERIOD", .u16, .rw, .num 1000, (0, 0, 1), [(250, 10000)], false, "µs"⟩]

/-- Objects at index 0x2120 + i (06_mirror_outputs.md, R189). -/
def rows2120 : List ObjRow := [
  ⟨0x01, "MOUT_ENABLE", .bool, .rwi, .num 0, (0, 0, 1), [], false, ""⟩,
  ⟨0x02, "MOUT_WIDTH", .u16, .rwi, .num 4096, (0, 0, 1), mirrorWidths, false, "mirrors"⟩,
  ⟨0x03, "MOUT_HEIGHT", .u16, .rwi, .num 2160, (0, 0, 1), [(1, 2160)], false, "mirrors"⟩,
  ⟨0x04, "MOUT_TILE_LEADER", .u8, .rwi, .inst, (0, 0, 1), [(0, 3)], false, ""⟩,
  ⟨0x05, "MOUT_TILE_X", .u8, .rwi, .num 0, (0, 0, 1), [(0, 1)], false, ""⟩,
  ⟨0x06, "MOUT_TILE_Y", .u8, .rwi, .num 0, (0, 0, 1), [(0, 1)], false, ""⟩,
  ⟨0x07, "MOUT_ARRAY_SETUP", .u32, .rwi, .num 1650, (0, 0, 1), [], false, "ticks"⟩,
  ⟨0x08, "MOUT_BRINGUP_TIMEOUT", .u16, .rw, .num 100, (0, 0, 1), [], false, "ms"⟩,
  ⟨0x09, "MOUT_TL_LATENCY", .u16, .rws, .num 0, (0, 0, 1), [(0, 4095)], false, "ticks"⟩,
  ⟨0x0A, "MOUT_TL_VERNIER", .u8, .rw, .num 0, (0, 0, 1), [(0, 7)], false, "1/8 tick"⟩,
  ⟨0x0B, "MOUT_LANE_ERR_POLLS", .u8, .rw, .num 3, (0, 0, 1), [(1, 255)], false, "polls"⟩,
  ⟨0x0C, "MOUT_SHORT_ACTION", .u8, .rw, .num 0, (0, 0, 1), [(0, 1)], false, ""⟩,
  ⟨0x0D, "MOUT_LANE_RESTORE", .u32, .wo, .num 0, (0, 0, 1), [], false, ""⟩,
  ⟨0x0E, "MOUT_FREEZE_ACTION", .u8, .rw, .num 0, (0, 0, 1), [(0, 1)], false, ""⟩,
  ⟨0x0F, "MOUT_FREEZE_FRAMES", .u8, .rw, .num 2, (0, 0, 1), [(1, 255)], false, "frames"⟩,
  ⟨0x10, "MOUT_FREEZE_CLEAR", .u8, .wo, .num 0, (0, 0, 1), [(1, 1)], false, ""⟩,
  ⟨0x40, "MOUT_STATE", .u8, .ro, .num 0, (0, 0, 1), [], false, ""⟩,
  ⟨0x41, "MOUT_LANES_ACTIVE", .u32, .ro, .num 8388607, (0, 0, 1), [], false, ""⟩,
  ⟨0x42, "MOUT_LANES_DOWN", .u32, .ro, .num 0, (0, 0, 1), [], false, ""⟩,
  ⟨0x43, "MOUT_LOAD_TIME", .u32, .ro, .num 412434, (0, 0, 1), [], false, "ticks"⟩,
  ⟨0x44, "MOUT_SHORT", .bool, .ro, .num 0, (0, 0, 1), [], false, ""⟩,
  ⟨0x45, "MOUT_BLANK_REASON", .u8, .ro, .num 0, (0, 0, 1), [], false, ""⟩,
  ⟨0x46, "MOUT_TOLERANCE", .u32, .ro, .num 4294967295, (0, 0, 1), [], false, "ns"⟩,
  ⟨0x47, "MOUT_TOL_MIN", .u32, .rw, .num 4294967295, (0, 0, 1), [(4294967295, 4294967295)], false, "ns"⟩,
  ⟨0x48, "MOUT_FIFO_FILL", .u32, .ro, .num 0, (0, 0, 1), [], false, "B"⟩,
  ⟨0x49, "MOUT_FREEZE", .u8, .ro, .num 0, (0, 0, 1), [], false, ""⟩,
  ⟨0x4A, "MOUT_SIG_LAST", .domain, .ro, .bytes [], (64, 64, 1), [], false, ""⟩,
  ⟨0x4B, "MOUT_FREEZE_COUNT", .u32, .ro, .num 0, (0, 0, 1), [], true, ""⟩,
  ⟨0x4C, "MOUT_UNDERRUNS", .u32, .ro, .num 0, (0, 0, 1), [], true, ""⟩,
  ⟨0x4D, "MOUT_PLANES_TRUNCATED", .u32, .ro, .num 0, (0, 0, 1), [], true, ""⟩,
  ⟨0x4E, "MOUT_ARRAY_DROPS", .u32, .ro, .num 0, (0, 0, 1), [], true, ""⟩,
  ⟨0x4F, "MOUT_ARRAY_PLANE_ERR", .u32, .ro, .num 0, (0, 0, 1), [], true, ""⟩,
  ⟨0x50, "MOUT_PARKS", .u32, .ro, .num 0, (0, 0, 1), [], true, ""⟩,
  ⟨0x51, "MOUT_PLANES_SENT", .u64, .ro, .num 0, (0, 0, 1), [], true, ""⟩,
  ⟨0x52, "MOUT_FRAMES_SHOWN", .u64, .ro, .num 0, (0, 0, 1), [], true, ""⟩]

/-- Objects at index 0x2600 (07_layers.md, R220). -/
def rows2600 : List ObjRow := [
  ⟨0x01, "LAY_ALLOC", .domain, .wo, .bytes [], (24, 24, 1), [], false, ""⟩,
  ⟨0x02, "LAY_FLATTEN", .u8, .rws, .num 15, (0, 0, 1), [(0, 15)], false, ""⟩,
  ⟨0x03, "LAY_STATIC_FRAMES", .u8, .rw, .num 4, (0, 0, 1), [(1, 255)], false, "frames"⟩,
  ⟨0x04, "LAY_FENCE_TIMEOUT", .u16, .rw, .num 100, (0, 0, 1), [(1, 65535)], false, "ms"⟩,
  ⟨0x05, "LAY_COMMIT_STATE", .u8, .ro, .num 0, (0, 0, 1), [], false, ""⟩,
  ⟨0x06, "LAY_COMMIT_RESULT", .u16, .ro, .num 0, (0, 0, 1), [], false, ""⟩,
  ⟨0x07, "LAY_CANCEL", .u8, .wo, .num 0, (0, 0, 1), [(1, 1)], false, ""⟩,
  ⟨0x08, "LAY_HANDLES_FREE", .u16, .ro, .num 16383, (0, 0, 1), [], false, ""⟩,
  ⟨0x09, "LAY_SCALERS_USED", .u8, .ro, .num 0, (0, 0, 1), [], false, ""⟩,
  ⟨0x0A, "LAY_CACHE_FAILS", .u32, .ro, .num 0, (0, 0, 1), [], true, ""⟩]

/-- Objects at index 0x2610 + i (07_layers.md, R220). -/
def rows2610 : List ObjRow := [
  ⟨0x01, "LAY_ENABLE", .bool, .rws, .num 0, (0, 0, 1), [], false, ""⟩,
  ⟨0x02, "LAY_OUTPUT", .u8, .rws, .num 255, (0, 0, 1), [(0, 3), (15, 15), (255, 255)], false, ""⟩,
  ⟨0x03, "LAY_VIEWS", .u8, .rws, .num 1, (0, 0, 1), [], false, ""⟩,
  ⟨0x04, "LAY_KIND", .u8, .rws, .num 0, (0, 0, 1), [(0, 3)], false, ""⟩,
  ⟨0x05, "LAY_FORMAT", .u8, .rws, .num 80, (0, 0, 1), [], false, ""⟩,
  ⟨0x06, "LAY_ENCODING", .u8, .rws, .num 18, (0, 0, 1), [(0, 4), (16, 20), (32, 36)], false, ""⟩,
  ⟨0x07, "LAY_ALPHA_MODE", .u8, .rws, .num 0, (0, 0, 1), [(0, 2)], false, ""⟩,
  ⟨0x08, "LAY_SRC_X", .u16, .rws, .num 0, (0, 0, 1), [], false, "px"⟩,
  ⟨0x09, "LAY_SRC_Y", .u16, .rws, .num 0, (0, 0, 1), [], false, "px"⟩,
  ⟨0x0A, "LAY_SRC_W", .u16, .rws, .num 0, (0, 0, 1), [], false, "px"⟩,
  ⟨0x0B, "LAY_SRC_H", .u16, .rws, .num 0, (0, 0, 1), [], false, "px"⟩,
  ⟨0x0C, "LAY_DST_W", .u16, .rws, .num 0, (0, 0, 1), [], false, "px"⟩,
  ⟨0x0D, "LAY_DST_H", .u16, .rws, .num 0, (0, 0, 1), [], false, "px"⟩,
  ⟨0x0E, "LAY_SCALE_FILTER", .u8, .rws, .num 2, (0, 0, 1), [(0, 2)], false, ""⟩,
  ⟨0x0F, "LAY_BLEND", .u8, .rws, .num 0, (0, 0, 1), [(0, 1)], false, ""⟩,
  ⟨0x10, "LAY_GROUP", .u8, .rws, .num 0, (0, 0, 1), [(0, 32)], false, ""⟩,
  ⟨0x11, "LAY_CADENCE", .u8, .rws, .num 0, (0, 0, 1), [], false, "frames"⟩,
  ⟨0x40, "LAY_DST_X", .i32, .rw, .num 0, (0, 0, 1), [], false, "px"⟩,
  ⟨0x41, "LAY_DST_Y", .i32, .rw, .num 0, (0, 0, 1), [], false, "px"⟩,
  ⟨0x42, "LAY_Z", .u8, .rw, .inst, (0, 0, 1), [], false, ""⟩,
  ⟨0x43, "LAY_OPACITY", .u16, .rw, .num 65535, (0, 0, 1), [], false, "1/65,535"⟩,
  ⟨0x44, "LAY_FILL", .u64, .rw, .num 65535, (0, 0, 1), [], false, ""⟩,
  ⟨0x45, "LAY_PATTERN", .u8, .rw, .num 0, (0, 0, 1), [], false, ""⟩,
  ⟨0x46, "LAY_STALE_POLICY", .u8, .rw, .num 0, (0, 0, 1), [(0, 2)], false, ""⟩,
  ⟨0x47, "LAY_STALE_FRAMES", .u8, .rw, .num 3, (0, 0, 1), [(1, 255)], false, "frames"⟩,
  ⟨0x48, "LAY_STALE_FADE", .u16, .rw, .num 500, (0, 0, 1), [(1, 65535)], false, "ms"⟩,
  ⟨0x49, "LAY_FLIP", .domain, .wo, .bytes [], (24, 24, 1), [], false, ""⟩,
  ⟨0x4A, "LAY_FENCE_DONE", .u32, .rw, .num 0, (0, 0, 1), [], false, ""⟩,
  ⟨0x4B, "LAY_PLAYLIST", .domain, .rw, .bytes [], (0, 16384, 1), [], false, ""⟩,
  ⟨0x4C, "LAY_PLAY", .stime, .wo, .num 0, (0, 0, 1), [], false, ""⟩,
  ⟨0x50, "LAY_STATE", .u8, .ro, .num 0, (0, 0, 1), [], false, ""⟩,
  ⟨0x51, "LAY_CURRENT", .handle, .ro, .num 0, (0, 0, 1), [], false, ""⟩,
  ⟨0x52, "LAY_QUEUE", .u8, .ro, .num 0, (0, 0, 1), [], false, ""⟩,
  ⟨0x53, "LAY_SHOWN_FRAME", .u64, .ro, .num 0, (0, 0, 1), [], false, ""⟩,
  ⟨0x54, "LAY_FENCE_GEN", .u32, .ro, .num 0, (0, 0, 1), [], false, ""⟩,
  ⟨0x55, "LAY_CLIP_POS", .u32, .ro, .num 0, (0, 0, 1), [], false, ""⟩,
  ⟨0x56, "LAY_SCALER", .u8, .ro, .num 255, (0, 0, 1), [], false, ""⟩,
  ⟨0x57, "LAY_LATE_RUN", .u8, .ro, .num 0, (0, 0, 1), [], false, "frames"⟩,
  ⟨0x58, "LAY_LATE", .u32, .ro, .num 0, (0, 0, 1), [], true, ""⟩,
  ⟨0x59, "LAY_SKIPPED", .u32, .ro, .num 0, (0, 0, 1), [], true, ""⟩,
  ⟨0x5A, "LAY_FENCE_TIMEOUTS", .u32, .ro, .num 0, (0, 0, 1), [], true, ""⟩,
  ⟨0x5B, "LAY_POISON_TILES", .u32, .ro, .num 0, (0, 0, 1), [], true, ""⟩]

/-- Objects at index 0x4001 + i (07_layers.md, R220). -/
def rows4001 : List ObjRow := [
  ⟨0x01, "LAY_BUF_HANDLE", .handle, .ro, .num 0, (0, 0, 1), [], false, ""⟩,
  ⟨0x02, "LAY_BUF_STATE", .u8, .ro, .num 0, (0, 0, 1), [], false, ""⟩,
  ⟨0x03, "LAY_BUF_FORMAT", .u8, .ro, .num 0, (0, 0, 1), [], false, ""⟩,
  ⟨0x04, "LAY_BUF_WIDTH", .u16, .ro, .num 0, (0, 0, 1), [], false, "px"⟩,
  ⟨0x05, "LAY_BUF_HEIGHT", .u16, .ro, .num 0, (0, 0, 1), [], false, "px"⟩,
  ⟨0x06, "LAY_BUF_STRIDE", .u32, .ro, .num 0, (0, 0, 1), [], false, "B"⟩,
  ⟨0x07, "LAY_BUF_FRAMES", .u32, .ro, .num 0, (0, 0, 1), [], false, ""⟩,
  ⟨0x08, "LAY_BUF_PERIOD", .ratio, .ro, .num (1 * 4294967296 + 1), (0, 0, 1), [], false, "s"⟩,
  ⟨0x09, "LAY_BUF_LOADED", .u32, .ro, .num 0, (0, 0, 1), [], false, ""⟩,
  ⟨0x0A, "LAY_BUF_REFS", .u16, .ro, .num 0, (0, 0, 1), [], false, ""⟩,
  ⟨0x0B, "LAY_BUF_DATA", .domain, .rw, .bytes [], (0, 274877906944, 1), [], false, ""⟩,
  ⟨0x0C, "LAY_BUF_FREE", .handle, .wo, .num 0, (0, 0, 1), [], false, ""⟩,
  ⟨0x0D, "LAY_BUF_WRITTEN", .stime, .ro, .num 0, (0, 0, 1), [], false, ""⟩]

/-- Objects at index 0x2700 (08_carve_engines.md, R259). -/
def rows2700 : List ObjRow := [
  ⟨0x01, "CRV_LOAD_CEILING", .u8, .rw, .num 90, (0, 0, 1), [(50, 100)], false, "%"⟩,
  ⟨0x02, "CRV_FAULT_LIMIT", .u8, .rw, .num 3, (0, 0, 1), [(1, 255)], false, "faults/s"⟩,
  ⟨0x03, "CRV_ENGINES_ONLINE", .u16, .ro, .num 1024, (0, 0, 1), [], false, ""⟩,
  ⟨0x04, "CRV_CAPACITY", .u32, .ro, .num 1760000, (0, 0, 1), [], false, "M cycles/s"⟩,
  ⟨0x05, "CRV_DEMAND", .u32, .ro, .num 0, (0, 0, 1), [], false, "M cycles/s"⟩,
  ⟨0x06, "CRV_DEMAND_LAST", .u32, .ro, .num 0, (0, 0, 1), [], false, "M cycles/s"⟩,
  ⟨0x07, "CRV_KERNEL_STAGE", .domain, .wo, .bytes [], (0, 131072, 1), [], false, ""⟩,
  ⟨0x08, "CRV_KERNEL_RESULT", .u32, .ro, .num 0, (0, 0, 1), [], false, ""⟩,
  ⟨0x09, "CRV_KERNEL_REMOVE", .u16, .wo, .num 0, (0, 0, 1), [], false, ""⟩,
  ⟨0x0A, "CRV_KERNEL_LIST", .domain, .ro, .bytes [], (512, 512, 1), [], false, ""⟩,
  ⟨0x0B, "CRV_CODE_FREE", .u32, .ro, .num 0, (0, 0, 1), [], false, "B"⟩,
  ⟨0x0C, "CRV_CHAIN_INGEST", .domain, .rws, .bytes [0x12, 0x00], (2, 32, 2), [], false, ""⟩,
  ⟨0x0D, "CRV_JOB", .domain, .wo, .bytes [], (32, 32, 1), [], false, ""⟩,
  ⟨0x0E, "CRV_JOB_CANCEL", .u8, .wo, .num 0, (0, 0, 1), [(0, 3)], false, ""⟩,
  ⟨0x0F, "CRV_TILES", .u64, .ro, .num 0, (0, 0, 1), [], true, ""⟩,
  ⟨0x10, "CRV_FAULTS", .u32, .ro, .num 0, (0, 0, 1), [], true, ""⟩,
  ⟨0x11, "CRV_REDISPATCHED", .u32, .ro, .num 0, (0, 0, 1), [], true, ""⟩,
  ⟨0x12, "CRV_SUBSTITUTED", .u32, .ro, .num 0, (0, 0, 1), [], true, ""⟩,
  ⟨0x13, "CRV_DISCARDED", .u32, .ro, .num 0, (0, 0, 1), [], true, ""⟩,
  ⟨0x14, "CRV_SAT_TILES", .u32, .ro, .num 0, (0, 0, 1), [], true, ""⟩,
  ⟨0x18, "CRV_JOB_STATE_0", .u32, .ro, .num 0, (0, 0, 1), [], false, ""⟩,
  ⟨0x19, "CRV_JOB_STATE_1", .u32, .ro, .num 0, (0, 0, 1), [], false, ""⟩,
  ⟨0x1A, "CRV_JOB_STATE_2", .u32, .ro, .num 0, (0, 0, 1), [], false, ""⟩,
  ⟨0x1B, "CRV_JOB_STATE_3", .u32, .ro, .num 0, (0, 0, 1), [], false, ""⟩,
  ⟨0x20, "CRV_CHAIN_0", .domain, .rws, .bytes [0x02, 0x00, 0x10, 0x00, 0x21, 0x00], (2, 32, 2), [], false, ""⟩,
  ⟨0x21, "CRV_CHAIN_1", .domain, .rws, .bytes [0x02, 0x00, 0x10, 0x00, 0x21, 0x00], (2, 32, 2), [], false, ""⟩,
  ⟨0x22, "CRV_CHAIN_2", .domain, .rws, .bytes [0x02, 0x00, 0x10, 0x00, 0x21, 0x00], (2, 32, 2), [], false, ""⟩,
  ⟨0x23, "CRV_CHAIN_3", .domain, .rws, .bytes [0x02, 0x00, 0x10, 0x00, 0x21, 0x00], (2, 32, 2), [], false, ""⟩,
  ⟨0x24, "CRV_MESH_0", .domain, .rws, .bytes [], (0, 4194304, 1), [], false, "2⁻¹² px"⟩,
  ⟨0x25, "CRV_MESH_1", .domain, .rws, .bytes [], (0, 4194304, 1), [], false, "2⁻¹² px"⟩,
  ⟨0x26, "CRV_MESH_2", .domain, .rws, .bytes [], (0, 4194304, 1), [], false, "2⁻¹² px"⟩,
  ⟨0x27, "CRV_MESH_3", .domain, .rws, .bytes [], (0, 4194304, 1), [], false, "2⁻¹² px"⟩,
  ⟨0x28, "CRV_BLEND_0", .domain, .rws, .bytes [], (0, 4194304, 1), [], false, "1/32,768"⟩,
  ⟨0x29, "CRV_BLEND_1", .domain, .rws, .bytes [], (0, 4194304, 1), [], false, "1/32,768"⟩,
  ⟨0x2A, "CRV_BLEND_2", .domain, .rws, .bytes [], (0, 4194304, 1), [], false, "1/32,768"⟩,
  ⟨0x2B, "CRV_BLEND_3", .domain, .rws, .bytes [], (0, 4194304, 1), [], false, "1/32,768"⟩]

/-- Objects at index 0x2710 + i (08_carve_engines.md, R260). -/
def rows2710 : List ObjRow := [
  ⟨0x01, "CRV_CL_ONLINE", .bool, .rw, .num 1, (0, 0, 1), [], false, ""⟩,
  ⟨0x02, "CRV_CL_STATE", .u8, .ro, .num 0, (0, 0, 1), [], false, ""⟩,
  ⟨0x03, "CRV_CL_VIEW", .u8, .ro, .num 0, (0, 0, 1), [], false, ""⟩,
  ⟨0x04, "CRV_CL_PAGES_FREE", .u16, .ro, .num 640, (0, 0, 1), [], false, "pages"⟩,
  ⟨0x05, "CRV_CL_BUSY", .u16, .ro, .num 0, (0, 0, 1), [], false, "‰"⟩,
  ⟨0x06, "CRV_CL_TILES", .u64, .ro, .num 0, (0, 0, 1), [], true, ""⟩,
  ⟨0x07, "CRV_CL_FAULTS", .u32, .ro, .num 0, (0, 0, 1), [], true, ""⟩,
  ⟨0x08, "CRV_CL_LAST_FAULT", .u32, .ro, .num 0, (0, 0, 1), [], false, ""⟩,
  ⟨0x09, "CRV_CL_CORRECTED", .u32, .ro, .num 0, (0, 0, 1), [], true, ""⟩]

/-- Objects at index 0x2800 (09_block_codec.md, R278). -/
def rows2800 : List ObjRow := [
  ⟨0x01, "CODEC_JOB", .domain, .wo, .bytes [], (32, 32, 1), [], false, ""⟩,
  ⟨0x02, "CODEC_JOB_CANCEL", .u8, .wo, .num 0, (0, 0, 1), [(0, 1)], false, ""⟩,
  ⟨0x03, "CODEC_JOB_STATE_0", .u32, .ro, .num 0, (0, 0, 1), [], false, ""⟩,
  ⟨0x04, "CODEC_JOB_STATE_1", .u32, .ro, .num 0, (0, 0, 1), [], false, ""⟩,
  ⟨0x05, "CODEC_JOB_DONE_0", .u32, .ro, .num 0, (0, 0, 1), [], false, "blocks"⟩,
  ⟨0x06, "CODEC_JOB_DONE_1", .u32, .ro, .num 0, (0, 0, 1), [], false, "blocks"⟩,
  ⟨0x07, "CODEC_JOB_GRANULES_0", .u32, .ro, .num 0, (0, 0, 1), [], false, "granules"⟩,
  ⟨0x08, "CODEC_JOB_GRANULES_1", .u32, .ro, .num 0, (0, 0, 1), [], false, "granules"⟩,
  ⟨0x10, "CODEC_BLOCKS_COMP", .u64, .ro, .num 0, (0, 0, 1), [], true, ""⟩,
  ⟨0x11, "CODEC_NO_GAIN", .u64, .ro, .num 0, (0, 0, 1), [], true, ""⟩,
  ⟨0x12, "CODEC_ZERO", .u64, .ro, .num 0, (0, 0, 1), [], true, ""⟩,
  ⟨0x13, "CODEC_BYPASS", .u32, .ro, .num 0, (0, 0, 1), [], true, ""⟩,
  ⟨0x14, "CODEC_BLOCKS_DECOMP", .u64, .ro, .num 0, (0, 0, 1), [], true, ""⟩,
  ⟨0x15, "CODEC_DECODE_ERR", .u32, .ro, .num 0, (0, 0, 1), [], true, ""⟩,
  ⟨0x16, "CODEC_GRANULES_OUT", .u64, .ro, .num 0, (0, 0, 1), [], true, "granules"⟩,
  ⟨0x17, "CODEC_COMP_BUSY", .u16, .ro, .num 0, (0, 0, 1), [], false, "‰"⟩,
  ⟨0x18, "CODEC_DECOMP_BUSY", .u16, .ro, .num 0, (0, 0, 1), [], false, "‰"⟩]

/-- Objects at index 0x2900 (10_memory.md, R310). -/
def rows2900 : List ObjRow := [
  ⟨0x01, "MEM_SETPOINT", .u8, .ro, .num 0, (0, 0, 1), [], false, ""⟩,
  ⟨0x02, "MEM_FREQ_TARGET", .u8, .rw, .num 0, (0, 0, 1), [(0, 2)], false, ""⟩,
  ⟨0x03, "MEM_FREQ_STATE", .u8, .ro, .num 0, (0, 0, 1), [], false, ""⟩,
  ⟨0x04, "MEM_FREQ_RESULT", .u16, .ro, .num 0, (0, 0, 1), [], false, ""⟩,
  ⟨0x05, "MEM_FREQ_BLACKOUT", .u32, .ro, .num 10770, (0, 0, 1), [], false, "ns"⟩,
  ⟨0x06, "MEM_FREQ_MARGIN", .u32, .rw, .num 2000, (0, 0, 1), [(0, 100000)], false, "ns"⟩,
  ⟨0x07, "MEM_FREQ_WAIT", .u16, .rw, .num 1000, (0, 0, 1), [(1, 65535)], false, "ms"⟩,
  ⟨0x08, "MEM_TSET_SEL", .u8, .rw, .num 0, (0, 0, 1), [(0, 7)], false, ""⟩,
  ⟨0x09, "MEM_TSET", .domain, .rw, .bytes [], (384, 384, 1), [], false, ""⟩,
  ⟨0x0A, "MEM_INTERLEAVE", .u8, .rwi, .num 12, (0, 0, 1), [(8, 16)], false, "log₂ B"⟩,
  ⟨0x0B, "MEM_HASH", .bool, .rwi, .num 1, (0, 0, 1), [], false, ""⟩,
  ⟨0x0C, "MEM_BANK_HASH", .bool, .rwi, .num 1, (0, 0, 1), [], false, ""⟩,
  ⟨0x0D, "MEM_PEAK", .u32, .ro, .num 440000, (0, 0, 1), [], false, "MB/s"⟩,
  ⟨0x0E, "MEM_CEILING", .u32, .ro, .num 352000, (0, 0, 1), [], false, "MB/s"⟩,
  ⟨0x0F, "MEM_URGENT", .u32, .rw, .num 14000, (0, 0, 1), [(0, 18000)], false, "ns"⟩,
  ⟨0x10, "MEM_STARVE", .u32, .rw, .num 4000, (0, 0, 1), [(500, 100000)], false, "ns"⟩,
  ⟨0x11, "MEM_REF_HOLD", .u32, .rw, .num 16000, (0, 0, 1), [], false, "ns"⟩,
  ⟨0x12, "MEM_PD_ENABLE", .bool, .rw, .num 1, (0, 0, 1), [], false, ""⟩,
  ⟨0x13, "MEM_TOL_MIN", .u32, .ro, .num 4294967295, (0, 0, 1), [], false, "ns"⟩,
  ⟨0x14, "MEM_FREQ_CHANGES", .u32, .ro, .num 0, (0, 0, 1), [], true, ""⟩,
  ⟨0x15, "MEM_CAPACITY", .u64, .ro, .num 0, (0, 0, 1), [], false, "B"⟩,
  ⟨0x16, "MEM_BW_NOW", .u32, .ro, .num 0, (0, 0, 1), [], false, "MB/s"⟩,
  ⟨0x17, "MEM_ISO_LATE", .u32, .ro, .num 0, (0, 0, 1), [], true, ""⟩]

/-- Objects at index 0x2910 + i (10_memory.md, R311). -/
def rows2910 : List ObjRow := [
  ⟨0x01, "MEM_CH_STATE", .u8, .ro, .num 0, (0, 0, 1), [], false, ""⟩,
  ⟨0x02, "MEM_CH_KIND", .u8, .ro, .num 0, (0, 0, 1), [], false, ""⟩,
  ⟨0x03, "MEM_CH_ORG", .u32, .ro, .num 0, (0, 0, 1), [], false, ""⟩,
  ⟨0x04, "MEM_CH_SIZE", .u64, .ro, .num 0, (0, 0, 1), [], false, "B"⟩,
  ⟨0x05, "MEM_CH_DOWN_CFG", .u32, .rwi, .num 0, (0, 0, 1), [], false, ""⟩,
  ⟨0x06, "MEM_REF_ZONE_R0", .u8, .ro, .num 0, (0, 0, 1), [], false, ""⟩,
  ⟨0x07, "MEM_REF_ZONE_R1", .u8, .ro, .num 0, (0, 0, 1), [], false, ""⟩,
  ⟨0x08, "MEM_REF_OWED_R0", .u8, .ro, .num 0, (0, 0, 1), [], false, ""⟩,
  ⟨0x09, "MEM_REF_OWED_R1", .u8, .ro, .num 0, (0, 0, 1), [], false, ""⟩,
  ⟨0x0A, "MEM_REF_FORCED", .u32, .ro, .num 0, (0, 0, 1), [], true, ""⟩,
  ⟨0x0B, "MEM_REF_CONVERSIONS", .u32, .ro, .num 0, (0, 0, 1), [], true, ""⟩,
  ⟨0x0C, "MEM_RD_FORWARDED", .u64, .ro, .num 0, (0, 0, 1), [], true, ""⟩,
  ⟨0x0D, "MEM_RD_HAZARD_WAITS", .u32, .ro, .num 0, (0, 0, 1), [], true, ""⟩,
  ⟨0x0E, "MEM_RMW", .u64, .ro, .num 0, (0, 0, 1), [], true, ""⟩,
  ⟨0x0F, "MEM_ROW_HITS", .u64, .ro, .num 0, (0, 0, 1), [], true, ""⟩,
  ⟨0x10, "MEM_BUSY", .u16, .ro, .num 0, (0, 0, 1), [], false, "‰"⟩,
  ⟨0x11, "MEM_ALERTS", .u32, .ro, .num 0, (0, 0, 1), [], true, ""⟩]

/-- Objects at index 0x2920 + i (10_memory.md, R312). -/
def rows2920 : List ObjRow := [
  ⟨0x01, "MEM_PORT_CLASS", .u8, .ro, .table [0, 0, 0, 0, 2, 2, 2, 2, 2, 2, 2, 2, 2, 2, 0, 2, 1, 1, 1, 1, 2, 1, 1, 1, 255, 255, 255, 255, 255, 255, 255, 255], (0, 0, 1), [], false, ""⟩,
  ⟨0x02, "MEM_PORT_RATE", .u32, .rw, .num 440000, (0, 0, 1), [], false, "MB/s"⟩,
  ⟨0x03, "MEM_PORT_BURST", .u32, .rw, .num 256, (0, 0, 1), [(1, 65536)], false, "KiB"⟩,
  ⟨0x04, "MEM_PORT_INORDER", .bool, .ro, .num 0, (0, 0, 1), [], false, ""⟩,
  ⟨0x05, "MEM_PORT_INORDER_COUNT", .u32, .ro, .num 0, (0, 0, 1), [], true, ""⟩,
  ⟨0x06, "MEM_PORT_BYTES", .u64, .ro, .num 0, (0, 0, 1), [], true, "B"⟩,
  ⟨0x07, "MEM_PORT_THROTTLED", .u32, .ro, .num 0, (0, 0, 1), [], true, "µs"⟩,
  ⟨0x08, "MEM_PORT_LAT_MAX", .u32, .rw, .num 0, (0, 0, 1), [(0, 0)], false, "ns"⟩]

/-- Objects at index 0x2A00 (11_integrity.md, R340). -/
def rows2A00 : List ObjRow := [
  ⟨0x01, "INTG_SETTLE", .u32, .rw, .num 100, (0, 0, 1), [(10, 10000)], false, "ms"⟩,
  ⟨0x02, "INTG_ROUND", .u32, .rw, .num 86400, (0, 0, 1), [(3600, 2592000)], false, "s"⟩,
  ⟨0x03, "INTG_WB_THRESH", .u8, .rw, .num 4, (0, 0, 1), [(1, 15)], false, ""⟩,
  ⟨0x04, "INTG_RETIRE_AFTER", .u8, .rw, .num 2, (0, 0, 1), [(1, 15)], false, ""⟩,
  ⟨0x05, "INTG_GROOM_ENABLE", .bool, .rw, .num 1, (0, 0, 1), [], false, ""⟩,
  ⟨0x06, "INTG_CLEAR_TIME", .u32, .ro, .num 0, (0, 0, 1), [], false, "µs"⟩,
  ⟨0x07, "INTG_ROUND_PROGRESS", .u16, .ro, .num 0, (0, 0, 1), [], false, "‰"⟩,
  ⟨0x08, "INTG_ROUND_LAST", .stime, .ro, .num 0, (0, 0, 1), [], false, ""⟩,
  ⟨0x09, "INTG_SWEEP", .domain, .wo, .bytes [], (16, 16, 1), [], false, ""⟩,
  ⟨0x0A, "INTG_SWEEP_CANCEL", .u8, .wo, .num 0, (0, 0, 1), [(1, 1)], false, ""⟩,
  ⟨0x0B, "INTG_SWEEP_STATE", .u32, .ro, .num 0, (0, 0, 1), [], false, ""⟩,
  ⟨0x0C, "INTG_SWEEP_RESULT", .domain, .ro, .bytes [], (32, 32, 1), [], false, ""⟩,
  ⟨0x0D, "INTG_RETIRE_LIST", .domain, .rwi, .bytes [], (0, 65536, 8), [], false, ""⟩,
  ⟨0x0E, "INTG_STALE_PAGES", .u32, .ro, .num 0, (0, 0, 1), [], false, "pages"⟩]

/-- Objects at index 0x2A10 + i (11_integrity.md, R341). -/
def rows2A10 : List ObjRow := [
  ⟨0x01, "INTG_CORRECTED", .u64, .ro, .num 0, (0, 0, 1), [], true, ""⟩,
  ⟨0x02, "INTG_PAGE_REPAIRS", .u32, .ro, .num 0, (0, 0, 1), [], true, ""⟩,
  ⟨0x03, "INTG_POISONED", .u32, .ro, .num 0, (0, 0, 1), [], true, ""⟩,
  ⟨0x04, "INTG_POISON_READS", .u32, .ro, .num 0, (0, 0, 1), [], true, ""⟩,
  ⟨0x05, "INTG_WRITEBACKS", .u32, .ro, .num 0, (0, 0, 1), [], true, ""⟩,
  ⟨0x06, "INTG_RETIRED", .u16, .ro, .num 0, (0, 0, 1), [], false, "pages"⟩,
  ⟨0x07, "INTG_SPARES_FREE", .u16, .ro, .num 1024, (0, 0, 1), [], false, "pages"⟩,
  ⟨0x08, "INTG_TRACKER", .domain, .ro, .bytes [], (4096, 4096, 1), [], false, ""⟩,
  ⟨0x09, "INTG_TRACK_EVICT", .u32, .ro, .num 0, (0, 0, 1), [], true, ""⟩,
  ⟨0x0A, "INTG_STALE_OVERFLOW", .u32, .ro, .num 0, (0, 0, 1), [], true, ""⟩,
  ⟨0x0B, "INTG_GROOMED_PAGES", .u64, .ro, .num 0, (0, 0, 1), [], false, ""⟩,
  ⟨0x0C, "INTG_CONFLICTS", .u32, .ro, .num 0, (0, 0, 1), [], true, ""⟩,
  ⟨0x0D, "INTG_RECODED", .u32, .ro, .num 0, (0, 0, 1), [], true, ""⟩,
  ⟨0x0E, "INTG_RETIRE_RETRIES", .u32, .ro, .num 0, (0, 0, 1), [], true, ""⟩,
  ⟨0x0F, "INTG_META_ERRORS", .u32, .ro, .num 0, (0, 0, 1), [], true, ""⟩]

/-- Objects at index 0x2B00 (12_network.md, R368). -/
def rows2B00 : List ObjRow := [
  ⟨0x01, "NET_MAC", .u64, .rwi, .mac, (0, 0, 1), [(0, 281474976710655)], false, ""⟩,
  ⟨0x02, "NET_IPV4_ADDR", .u32, .rw, .num 0, (0, 0, 1), [], false, ""⟩,
  ⟨0x03, "NET_IPV4_PREFIX", .u8, .rw, .num 24, (0, 0, 1), [(0, 32)], false, "bits"⟩,
  ⟨0x04, "NET_IPV4_GW", .u32, .rw, .num 0, (0, 0, 1), [], false, ""⟩,
  ⟨0x05, "NET_IPV6_ADDR", .domain, .rw, .bytes [], (16, 16, 1), [], false, ""⟩,
  ⟨0x06, "NET_IPV6_PREFIX", .u8, .rw, .num 64, (0, 0, 1), [(0, 128)], false, "bits"⟩,
  ⟨0x07, "NET_MGMT_VLAN", .u16, .rw, .num 1, (0, 0, 1), [(1, 4094)], false, ""⟩,
  ⟨0x08, "NET_JUMBO", .bool, .rwi, .num 0, (0, 0, 1), [], false, ""⟩,
  ⟨0x09, "NET_VLAN_TABLE", .domain, .rw, .bytes [0x01, 0x00, 0x1F, 0x1F, 0x00, 0x00, 0x00, 0x00], (0, 512, 8), [], false, ""⟩,
  ⟨0x0A, "NET_MAC_AGE", .u16, .rw, .num 300, (0, 0, 1), [(10, 65535)], false, "s"⟩,
  ⟨0x0B, "NET_INGRESS_BW", .u32, .ro, .num 0, (0, 0, 1), [], false, "MB/s"⟩,
  ⟨0x0C, "NET_WAKE_PORT", .u16, .rw, .num 9, (0, 0, 1), [], false, ""⟩,
  ⟨0x0D, "NET_WAKE_TOKEN", .u64, .rw, .num 0, (0, 0, 1), [], false, ""⟩,
  ⟨0x0E, "NET_RX_UNHANDLED", .u32, .ro, .num 0, (0, 0, 1), [], true, ""⟩,
  ⟨0x0F, "NET_MAC_ENTRIES", .u16, .ro, .num 0, (0, 0, 1), [], false, ""⟩]

/-- Objects at index 0x2B10 + i (12_network.md, R369). -/
def rows2B10 : List ObjRow := [
  ⟨0x01, "NET_PORT_ENABLE", .bool, .rw, .table [1, 0, 0, 0], (0, 0, 1), [], false, ""⟩,
  ⟨0x02, "NET_PORT_FEC", .bool, .rw, .num 0, (0, 0, 1), [], false, ""⟩,
  ⟨0x03, "NET_PORT_STATE", .u8, .ro, .num 0, (0, 0, 1), [], false, ""⟩,
  ⟨0x04, "NET_PORT_PVID", .u16, .rw, .num 1, (0, 0, 1), [(1, 4094)], false, ""⟩,
  ⟨0x05, "NET_PORT_PRIO", .u8, .rw, .num 0, (0, 0, 1), [(0, 7)], false, ""⟩,
  ⟨0x06, "NET_PORT_MROUTER", .bool, .rw, .num 0, (0, 0, 1), [], false, ""⟩,
  ⟨0x07, "NET_PORT_PTP", .bool, .rw, .num 1, (0, 0, 1), [], false, ""⟩,
  ⟨0x08, "NET_PORT_TX_LAT", .u32, .rw, .num 0, (0, 0, 1), [], false, "ps"⟩,
  ⟨0x09, "NET_PORT_RX_LAT", .u32, .rw, .num 0, (0, 0, 1), [], false, "ps"⟩,
  ⟨0x0A, "NET_PORT_ASYM", .i32, .rw, .num 0, (0, 0, 1), [], false, "ps"⟩,
  ⟨0x0B, "NET_PORT_RX_FRAMES", .u64, .ro, .num 0, (0, 0, 1), [], true, ""⟩,
  ⟨0x0C, "NET_PORT_TX_FRAMES", .u64, .ro, .num 0, (0, 0, 1), [], true, ""⟩,
  ⟨0x0D, "NET_PORT_FCS_ERRORS", .u32, .ro, .num 0, (0, 0, 1), [], true, ""⟩,
  ⟨0x0E, "NET_PORT_FEC_CORRECTED", .u32, .ro, .num 0, (0, 0, 1), [], true, ""⟩,
  ⟨0x0F, "NET_PORT_FEC_UNCORRECTED", .u32, .ro, .num 0, (0, 0, 1), [], true, ""⟩,
  ⟨0x10, "NET_PORT_EGRESS_DROPS", .u32, .ro, .num 0, (0, 0, 1), [], true, ""⟩,
  ⟨0x11, "NET_PORT_PAUSE_RX", .u32, .ro, .num 0, (0, 0, 1), [], true, ""⟩,
  ⟨0x12, "NET_PORT_OVERSIZE", .u32, .ro, .num 0, (0, 0, 1), [], true, ""⟩]

/-- Objects at index 0x2B20 + i (12_network.md, R369). -/
def rows2B20 : List ObjRow := [
  ⟨0x01, "NET_FLOW_ENABLE", .bool, .rws, .num 0, (0, 0, 1), [], false, ""⟩,
  ⟨0x02, "NET_FLOW_LEG_A", .domain, .rws, .bytes [], (40, 40, 1), [], false, ""⟩,
  ⟨0x03, "NET_FLOW_LEG_B", .domain, .rws, .bytes [], (0, 40, 40), [], false, ""⟩,
  ⟨0x04, "NET_FLOW_SAMPLING", .u8, .rws, .num 0, (0, 0, 1), [(0, 2)], false, ""⟩,
  ⟨0x05, "NET_FLOW_DEPTH", .u8, .rws, .num 10, (0, 0, 1), [(8, 8), (10, 10), (12, 12)], false, "bits"⟩,
  ⟨0x06, "NET_FLOW_WIDTH", .u16, .rws, .num 3840, (0, 0, 1), [], false, "px"⟩,
  ⟨0x07, "NET_FLOW_HEIGHT", .u16, .rws, .num 2160, (0, 0, 1), [], false, "px"⟩,
  ⟨0x08, "NET_FLOW_PERIOD", .ratio, .rws, .num (1 * 4294967296 + 50), (0, 0, 1), [], false, "s"⟩,
  ⟨0x09, "NET_FLOW_COLORIMETRY", .u8, .rws, .num 1, (0, 0, 1), [(0, 1)], false, ""⟩,
  ⟨0x0A, "NET_FLOW_TCS", .u8, .rws, .num 1, (0, 0, 1), [(0, 2)], false, ""⟩,
  ⟨0x0B, "NET_FLOW_RANGE", .u8, .rws, .num 0, (0, 0, 1), [(0, 1)], false, ""⟩,
  ⟨0x0C, "NET_FLOW_PT", .u8, .rws, .num 96, (0, 0, 1), [(96, 127)], false, ""⟩,
  ⟨0x0D, "NET_FLOW_RX_TYPE", .u8, .rws, .num 0, (0, 0, 1), [(0, 1)], false, ""⟩,
  ⟨0x0E, "NET_FLOW_LAYER", .u8, .rws, .num 255, (0, 0, 1), [(0, 63), (255, 255)], false, ""⟩,
  ⟨0x0F, "NET_FLOW_POOL", .domain, .rws, .bytes [], (8, 32, 4), [], false, ""⟩,
  ⟨0x10, "NET_FLOW_JOIN", .u8, .rws, .num 255, (0, 0, 1), [(0, 7), (255, 255)], false, ""⟩,
  ⟨0x11, "NET_FLOW_ROW0", .u16, .rws, .num 0, (0, 0, 1), [], false, "rows"⟩,
  ⟨0x12, "NET_FLOW_MODE", .u8, .rws, .num 0, (0, 0, 1), [(0, 1)], false, ""⟩,
  ⟨0x13, "NET_FLOW_DELAY", .u32, .rws, .num 40000, (0, 0, 1), [(0, 1000000)], false, "µs"⟩,
  ⟨0x14, "NET_FLOW_SKEW", .u16, .rws, .num 10000, (0, 0, 1), [(0, 10000)], false, "µs"⟩,
  ⟨0x40, "NET_FLOW_STATE", .u8, .ro, .num 0, (0, 0, 1), [], false, ""⟩,
  ⟨0x41, "NET_FLOW_ENCODING", .u8, .ro, .num 18, (0, 0, 1), [], false, ""⟩,
  ⟨0x42, "NET_FLOW_FORMAT", .u8, .ro, .num 64, (0, 0, 1), [], false, ""⟩,
  ⟨0x43, "NET_FLOW_FRAMES", .u64, .ro, .num 0, (0, 0, 1), [], true, ""⟩,
  ⟨0x44, "NET_FLOW_INCOMPLETE", .u32, .ro, .num 0, (0, 0, 1), [], true, ""⟩,
  ⟨0x45, "NET_FLOW_NO_BUFFER", .u32, .ro, .num 0, (0, 0, 1), [], true, ""⟩,
  ⟨0x46, "NET_FLOW_FLIP_REFUSED", .u32, .ro, .num 0, (0, 0, 1), [], true, ""⟩,
  ⟨0x47, "NET_FLOW_LATE", .u32, .ro, .num 0, (0, 0, 1), [], true, ""⟩,
  ⟨0x48, "NET_FLOW_LOST_PKTS", .u32, .ro, .num 0, (0, 0, 1), [], true, ""⟩,
  ⟨0x49, "NET_FLOW_RECOVERED", .u32, .ro, .num 0, (0, 0, 1), [], true, ""⟩,
  ⟨0x4A, "NET_FLOW_SKEW_MEAS", .i32, .ro, .num 0, (0, 0, 1), [], false, "µs"⟩,
  ⟨0x4B, "NET_FLOW_VRX_PEAK", .u32, .rw, .num 0, (0, 0, 1), [(0, 0)], false, "packets"⟩,
  ⟨0x4C, "NET_FLOW_NONCONFORM", .u32, .ro, .num 0, (0, 0, 1), [], true, ""⟩,
  ⟨0x4D, "NET_FLOW_DISCARDED", .u32, .ro, .num 0, (0, 0, 1), [], true, ""⟩,
  ⟨0x4E, "NET_FLOW_LAST_T", .stime, .ro, .num 0, (0, 0, 1), [], false, ""⟩]

/-- Objects at index 0x1000 (13_resil_dictionary.md, R396). -/
def rows1000 : List ObjRow := [
  ⟨0x01, "DICT_VENDOR", .u32, .ro, .num 45274, (0, 0, 1), [], false, ""⟩,
  ⟨0x02, "DICT_PRODUCT", .u16, .ro, .num 34838, (0, 0, 1), [], false, ""⟩,
  ⟨0x03, "DICT_STEPPING", .u8, .ro, .num 176, (0, 0, 1), [], false, ""⟩,
  ⟨0x04, "DICT_GRADE", .u8, .ro, .grade, (0, 0, 1), [], false, ""⟩,
  ⟨0x05, "DICT_SERIAL", .u64, .ro, .serial, (0, 0, 1), [], false, ""⟩,
  ⟨0x06, "DICT_NODE_ID", .u16, .ro, .num 0, (0, 0, 1), [], false, ""⟩]

/-- Objects at index 0x1010 (13_resil_dictionary.md, R396). -/
def rows1010 : List ObjRow := [
  ⟨0x01, "DICT_UDP_PORT", .u16, .rw, .num 60470, (0, 0, 1), [(1024, 65535)], false, ""⟩,
  ⟨0x02, "DICT_SESSION_IDLE", .u16, .rw, .num 60, (0, 0, 1), [(5, 3600)], false, "s"⟩,
  ⟨0x03, "DICT_XFER_IDLE", .u16, .rw, .num 2000, (0, 0, 1), [(10, 60000)], false, "ms"⟩,
  ⟨0x04, "DICT_RESTORE", .u32, .wo, .num 0, (0, 0, 1), [], false, ""⟩,
  ⟨0x05, "DICT_SESSIONS", .u8, .ro, .num 0, (0, 0, 1), [], false, ""⟩,
  ⟨0x06, "DICT_QUEUE_DEPTH", .u16, .ro, .num 0, (0, 0, 1), [], false, ""⟩,
  ⟨0x07, "DICT_QUEUE_PEAK", .u16, .rw, .num 0, (0, 0, 1), [(0, 0)], false, ""⟩,
  ⟨0x08, "DICT_BUSY_COUNT", .u32, .ro, .num 0, (0, 0, 1), [], true, ""⟩,
  ⟨0x09, "DICT_BAD_TAGS", .u32, .ro, .num 0, (0, 0, 1), [], true, ""⟩,
  ⟨0x0A, "DICT_BAD_MESSAGES", .u32, .ro, .num 0, (0, 0, 1), [], true, ""⟩,
  ⟨0x0B, "DICT_HANDSHAKE_FAILS", .u32, .ro, .num 0, (0, 0, 1), [], true, ""⟩,
  ⟨0x0C, "DICT_FAST_REQUESTS", .u64, .ro, .num 0, (0, 0, 1), [], true, ""⟩,
  ⟨0x0D, "DICT_PROC_REQUESTS", .u64, .ro, .num 0, (0, 0, 1), [], true, ""⟩]

/-- Objects at index 0x1020 (13_resil_dictionary.md, R396). -/
def rows1020 : List ObjRow := [
  ⟨0x00, "DICT_PRINCIPAL_0", .domain, .ro, .vendorPrincipal, (1808, 1808, 1), [], false, ""⟩,
  ⟨0x01, "DICT_PRINCIPAL_1", .domain, .rw, .bytes [], (1808, 1808, 1), [], false, ""⟩,
  ⟨0x02, "DICT_PRINCIPAL_2", .domain, .rw, .bytes [], (1808, 1808, 1), [], false, ""⟩,
  ⟨0x03, "DICT_PRINCIPAL_3", .domain, .rw, .bytes [], (1808, 1808, 1), [], false, ""⟩,
  ⟨0x04, "DICT_PRINCIPAL_4", .domain, .rw, .bytes [], (1808, 1808, 1), [], false, ""⟩,
  ⟨0x05, "DICT_PRINCIPAL_5", .domain, .rw, .bytes [], (1808, 1808, 1), [], false, ""⟩,
  ⟨0x06, "DICT_PRINCIPAL_6", .domain, .rw, .bytes [], (1808, 1808, 1), [], false, ""⟩,
  ⟨0x07, "DICT_PRINCIPAL_7", .domain, .rw, .bytes [], (1808, 1808, 1), [], false, ""⟩,
  ⟨0x08, "DICT_PRINCIPAL_8", .domain, .rw, .bytes [], (1808, 1808, 1), [], false, ""⟩,
  ⟨0x09, "DICT_PRINCIPAL_9", .domain, .rw, .bytes [], (1808, 1808, 1), [], false, ""⟩,
  ⟨0x0A, "DICT_PRINCIPAL_10", .domain, .rw, .bytes [], (1808, 1808, 1), [], false, ""⟩,
  ⟨0x0B, "DICT_PRINCIPAL_11", .domain, .rw, .bytes [], (1808, 1808, 1), [], false, ""⟩,
  ⟨0x0C, "DICT_PRINCIPAL_12", .domain, .rw, .bytes [], (1808, 1808, 1), [], false, ""⟩,
  ⟨0x0D, "DICT_PRINCIPAL_13", .domain, .rw, .bytes [], (1808, 1808, 1), [], false, ""⟩,
  ⟨0x0E, "DICT_PRINCIPAL_14", .domain, .rw, .bytes [], (1808, 1808, 1), [], false, ""⟩,
  ⟨0x0F, "DICT_PRINCIPAL_15", .domain, .rw, .bytes [], (1808, 1808, 1), [], false, ""⟩]

/-- Objects at index 0x2C00 (14_manager_worker.md, R425). -/
def rows2C00 : List ObjRow := [
  ⟨0x01, "HIER_ROLE", .u8, .rw, .num 0, (0, 0, 1), [(0, 2)], false, ""⟩,
  ⟨0x02, "HIER_ROLE_NOW", .u8, .ro, .num 0, (0, 0, 1), [], false, ""⟩,
  ⟨0x03, "HIER_STATE", .u8, .ro, .num 0, (0, 0, 1), [], false, ""⟩,
  ⟨0x04, "HIER_NODE_ID", .u16, .rw, .num 0, (0, 0, 1), [], false, ""⟩,
  ⟨0x05, "HIER_NODE_LIMIT", .u16, .rwi, .num 65535, (0, 0, 1), [], false, ""⟩,
  ⟨0x06, "HIER_NODES_JOINED", .u16, .ro, .num 0, (0, 0, 1), [], false, ""⟩,
  ⟨0x07, "HIER_DISCOVER_PERIOD", .u16, .rw, .num 1000, (0, 0, 1), [(100, 60000)], false, "ms"⟩,
  ⟨0x08, "HIER_HEARTBEAT", .u16, .rw, .num 50, (0, 0, 1), [(10, 1000)], false, "ms"⟩,
  ⟨0x09, "HIER_MGR_PRINCIPAL", .u8, .rw, .num 1, (0, 0, 1), [(1, 15)], false, ""⟩,
  ⟨0x0A, "HIER_SYS_KEY", .domain, .wo, .bytes [], (32, 32, 1), [], false, ""⟩,
  ⟨0x0B, "HIER_SYS_GROUP", .u8, .rws, .num 0, (0, 0, 1), [(0, 32)], false, ""⟩,
  ⟨0x0C, "HIER_SYS_SCOPE", .u8, .rws, .num 0, (0, 0, 1), [(0, 1)], false, ""⟩,
  ⟨0x0D, "HIER_SYS_PERIOD", .ratio, .rw, .num (1001 * 4294967296 + 60000), (0, 0, 1), [], false, "s"⟩,
  ⟨0x0E, "HIER_SYS_PHASE", .i32, .rw, .num 0, (0, 0, 1), [], false, "ticks"⟩,
  ⟨0x0F, "HIER_WIN_A", .u32, .rw, .num 500, (0, 0, 1), [], false, "µs"⟩,
  ⟨0x10, "HIER_WIN_B", .u32, .rw, .num 300, (0, 0, 1), [], false, "µs"⟩,
  ⟨0x11, "HIER_WIN_END", .u32, .rw, .num 210, (0, 0, 1), [], false, "µs"⟩,
  ⟨0x12, "HIER_SEGMENT", .u16, .ro, .num 0, (0, 0, 1), [], false, ""⟩,
  ⟨0x13, "HIER_STB_LEADER", .bool, .rw, .num 0, (0, 0, 1), [], false, ""⟩,
  ⟨0x14, "HIER_STB_STATE", .u8, .ro, .num 0, (0, 0, 1), [], false, ""⟩,
  ⟨0x15, "HIER_STUCK_ACTION", .u8, .rw, .num 0, (0, 0, 1), [(0, 1)], false, ""⟩,
  ⟨0x16, "HIER_STB_PROBE", .u8, .wo, .num 0, (0, 0, 1), [(1, 1)], false, ""⟩,
  ⟨0x17, "HIER_STB_PROBE_SEEN", .u32, .ro, .num 0, (0, 0, 1), [], false, "cycles"⟩,
  ⟨0x18, "HIER_FENCE", .u64, .wo, .num 0, (0, 0, 1), [], false, ""⟩,
  ⟨0x19, "HIER_SERVICE_MODE", .u8, .rw, .num 0, (0, 0, 1), [(0, 1)], false, ""⟩,
  ⟨0x1A, "HIER_SERVICE_NOW", .u8, .ro, .num 0, (0, 0, 1), [], false, ""⟩,
  ⟨0x1B, "HIER_AUTO_ADOPT", .bool, .rw, .num 0, (0, 0, 1), [], false, ""⟩,
  ⟨0x1C, "HIER_SEG_MAP", .domain, .rw, .bytes [], (0, 1048560, 16), [], false, ""⟩,
  ⟨0x1D, "HIER_FLIPS", .u32, .ro, .num 0, (0, 0, 1), [], true, ""⟩,
  ⟨0x1E, "HIER_HOLDS", .u32, .ro, .num 0, (0, 0, 1), [], true, ""⟩,
  ⟨0x1F, "HIER_SPLITS", .u32, .ro, .num 0, (0, 0, 1), [], true, ""⟩]

/-- Objects at index 0x2C10 (14_manager_worker.md, R425). -/
def rows2C10 : List ObjRow := [
  ⟨0x01, "HIER_NODE_SEL", .u16, .rw, .num 1, (0, 0, 1), [], false, ""⟩,
  ⟨0x02, "HIER_NODE_STATE", .u16, .ro, .num 0, (0, 0, 1), [], false, ""⟩,
  ⟨0x03, "HIER_NODE_SERIAL", .u64, .ro, .num 0, (0, 0, 1), [], false, ""⟩,
  ⟨0x04, "HIER_NODE_PATH", .u64, .ro, .num 0, (0, 0, 1), [], false, ""⟩,
  ⟨0x05, "HIER_NODE_SLOT", .u8, .ro, .num 0, (0, 0, 1), [], false, ""⟩,
  ⟨0x06, "HIER_NODE_SEGMENT", .u16, .ro, .num 0, (0, 0, 1), [], false, ""⟩,
  ⟨0x07, "HIER_NODE_FW", .u32, .ro, .num 0, (0, 0, 1), [], false, ""⟩,
  ⟨0x08, "HIER_NODE_LAST_SEEN", .stime, .ro, .num 0, (0, 0, 1), [], false, ""⟩,
  ⟨0x09, "HIER_NODE_RINGS", .domain, .ro, .bytes [], (16, 16, 1), [], false, ""⟩,
  ⟨0x0A, "HIER_NODE_CONFIG", .handle, .ro, .num 0, (0, 0, 1), [], false, ""⟩,
  ⟨0x0B, "HIER_NODE_CAL", .handle, .ro, .num 0, (0, 0, 1), [], false, ""⟩,
  ⟨0x0C, "HIER_NODE_CAPTURE", .u8, .wo, .num 0, (0, 0, 1), [(1, 1)], false, ""⟩,
  ⟨0x0D, "HIER_NODE_RELEASE", .u8, .wo, .num 0, (0, 0, 1), [(1, 1)], false, ""⟩,
  ⟨0x0E, "HIER_NODE_ADOPT", .u64, .wo, .num 0, (0, 0, 1), [], false, ""⟩]

/-- Objects at index 0x3000 (15_control_loops.md, R446). -/
def rows3000Shared : List ObjRow := [
  ⟨0x80, "LOOP_LOAD", .u16, .ro, .num 0, (0, 0, 1), [], false, "‰"⟩,
  ⟨0x81, "LOOP_OVERRUNS", .u32, .ro, .num 0, (0, 0, 1), [], true, ""⟩]

/-- Objects at index 0x3000 + i (15_control_loops.md, R446). -/
def rows3000Loops : List ObjRow := [
  ⟨0x01, "LOOP_MODE", .u8, .rw, .num 0, (0, 0, 1), [(0, 2)], false, ""⟩,
  ⟨0x02, "LOOP_SET", .u8, .rwi, .num 0, (0, 0, 1), [(0, 15)], false, ""⟩,
  ⟨0x03, "LOOP_ACTUATOR", .u8, .rwi, .num 255, (0, 0, 1), [(0, 15), (32, 55), (255, 255)], false, ""⟩,
  ⟨0x04, "LOOP_MEAS_SRC", .u8, .rwi, .num 255, (0, 0, 1), [(0, 23), (32, 56), (64, 111), (255, 255)], false, ""⟩,
  ⟨0x05, "LOOP_FF_SRC", .u8, .rwi, .num 255, (0, 0, 1), [(0, 23), (32, 56), (64, 111), (255, 255)], false, ""⟩,
  ⟨0x06, "LOOP_SCHED_SRC", .u8, .rwi, .num 255, (0, 0, 1), [(0, 23), (32, 56), (64, 111), (254, 255)], false, ""⟩,
  ⟨0x07, "LOOP_POLARITY", .u8, .rwi, .num 0, (0, 0, 1), [(0, 1)], false, ""⟩,
  ⟨0x08, "LOOP_SP_SRC", .u8, .rw, .num 255, (0, 0, 1), [(80, 95), (255, 255)], false, ""⟩,
  ⟨0x09, "LOOP_SETPOINT", .i32, .rw, .num 0, (0, 0, 1), [], false, "Measurement"⟩,
  ⟨0x0A, "LOOP_RAMP_RATE", .u32, .rw, .num 0, (0, 0, 1), [], false, "Measurement per period"⟩,
  ⟨0x0B, "LOOP_BIAS", .i32, .rw, .num 0, (0, 0, 1), [], false, "Code"⟩,
  ⟨0x0C, "LOOP_OUT_MIN", .i32, .rw, .num 0, (0, 0, 1), [], false, "Code"⟩,
  ⟨0x0D, "LOOP_OUT_MAX", .i32, .rw, .num 65535, (0, 0, 1), [], false, "Code"⟩,
  ⟨0x0E, "LOOP_SAFE_OUT", .i32, .rw, .num 0, (0, 0, 1), [], false, "Code"⟩,
  ⟨0x0F, "LOOP_MANUAL_OUT", .i32, .rw, .num 0, (0, 0, 1), [], false, "Code"⟩,
  ⟨0x10, "LOOP_MAN_RATE", .u32, .rw, .num 0, (0, 0, 1), [], false, "Code per period"⟩,
  ⟨0x11, "LOOP_FF_REF", .i32, .rw, .num 0, (0, 0, 1), [], false, "Source"⟩,
  ⟨0x12, "LOOP_REGIONS", .u8, .rw, .num 1, (0, 0, 1), [(1, 4)], false, ""⟩,
  ⟨0x13, "LOOP_BOUND_1", .i32, .rw, .num 0, (0, 0, 1), [], false, "Schedule"⟩,
  ⟨0x14, "LOOP_BOUND_2", .i32, .rw, .num 0, (0, 0, 1), [], false, "Schedule"⟩,
  ⟨0x15, "LOOP_BOUND_3", .i32, .rw, .num 0, (0, 0, 1), [], false, "Schedule"⟩,
  ⟨0x16, "LOOP_HYST", .u32, .rw, .num 0, (0, 0, 1), [], false, "Schedule"⟩,
  ⟨0x17, "LOOP_MISS_ACTION", .u8, .rw, .num 0, (0, 0, 1), [(0, 1)], false, ""⟩,
  ⟨0x18, "LOOP_MISS_LIMIT", .u16, .rw, .num 10, (0, 0, 1), [(1, 65535)], false, "periods"⟩,
  ⟨0x20, "LOOP_KP_0", .u32, .rw, .num 0, (0, 0, 1), [], false, "Coefficient word"⟩,
  ⟨0x21, "LOOP_KI_0", .u32, .rw, .num 0, (0, 0, 1), [], false, "Coefficient word"⟩,
  ⟨0x22, "LOOP_KD_0", .u32, .rw, .num 0, (0, 0, 1), [], false, "Coefficient word"⟩,
  ⟨0x23, "LOOP_AD_0", .u32, .rw, .num 0, (0, 0, 1), [], false, "Coefficient word"⟩,
  ⟨0x24, "LOOP_KFF_0", .u32, .rw, .num 0, (0, 0, 1), [], false, "Coefficient word"⟩,
  ⟨0x28, "LOOP_KP_1", .u32, .rw, .num 0, (0, 0, 1), [], false, "Coefficient word"⟩,
  ⟨0x29, "LOOP_KI_1", .u32, .rw, .num 0, (0, 0, 1), [], false, "Coefficient word"⟩,
  ⟨0x2A, "LOOP_KD_1", .u32, .rw, .num 0, (0, 0, 1), [], false, "Coefficient word"⟩,
  ⟨0x2B, "LOOP_AD_1", .u32, .rw, .num 0, (0, 0, 1), [], false, "Coefficient word"⟩,
  ⟨0x2C, "LOOP_KFF_1", .u32, .rw, .num 0, (0, 0, 1), [], false, "Coefficient word"⟩,
  ⟨0x30, "LOOP_KP_2", .u32, .rw, .num 0, (0, 0, 1), [], false, "Coefficient word"⟩,
  ⟨0x31, "LOOP_KI_2", .u32, .rw, .num 0, (0, 0, 1), [], false, "Coefficient word"⟩,
  ⟨0x32, "LOOP_KD_2", .u32, .rw, .num 0, (0, 0, 1), [], false, "Coefficient word"⟩,
  ⟨0x33, "LOOP_AD_2", .u32, .rw, .num 0, (0, 0, 1), [], false, "Coefficient word"⟩,
  ⟨0x34, "LOOP_KFF_2", .u32, .rw, .num 0, (0, 0, 1), [], false, "Coefficient word"⟩,
  ⟨0x38, "LOOP_KP_3", .u32, .rw, .num 0, (0, 0, 1), [], false, "Coefficient word"⟩,
  ⟨0x39, "LOOP_KI_3", .u32, .rw, .num 0, (0, 0, 1), [], false, "Coefficient word"⟩,
  ⟨0x3A, "LOOP_KD_3", .u32, .rw, .num 0, (0, 0, 1), [], false, "Coefficient word"⟩,
  ⟨0x3B, "LOOP_AD_3", .u32, .rw, .num 0, (0, 0, 1), [], false, "Coefficient word"⟩,
  ⟨0x3C, "LOOP_KFF_3", .u32, .rw, .num 0, (0, 0, 1), [], false, "Coefficient word"⟩,
  ⟨0x40, "LOOP_STATE", .u8, .ro, .num 0, (0, 0, 1), [], false, ""⟩,
  ⟨0x41, "LOOP_REGION", .u8, .ro, .num 0, (0, 0, 1), [], false, ""⟩,
  ⟨0x42, "LOOP_MEAS", .i32, .ro, .num 0, (0, 0, 1), [], false, "Measurement"⟩,
  ⟨0x43, "LOOP_SP_NOW", .i32, .ro, .num 0, (0, 0, 1), [], false, "Measurement"⟩,
  ⟨0x44, "LOOP_OUT", .i32, .ro, .num 0, (0, 0, 1), [], false, "Code"⟩,
  ⟨0x45, "LOOP_INT", .i32, .ro, .num 0, (0, 0, 1), [], false, "Code"⟩,
  ⟨0x46, "LOOP_DER", .i32, .ro, .num 0, (0, 0, 1), [], false, "Code"⟩,
  ⟨0x47, "LOOP_FLAGS", .u16, .rw, .num 0, (0, 0, 1), [], false, ""⟩,
  ⟨0x48, "LOOP_WIN_PERIODS", .u32, .ro, .num 0, (0, 0, 1), [], false, "slots"⟩,
  ⟨0x49, "LOOP_MISSED", .u32, .ro, .num 0, (0, 0, 1), [], true, ""⟩]

/-- Objects at index 0x3010 + i (15_control_loops.md, R446). -/
def rows3010 : List ObjRow := [
  ⟨0x80, "LOOP_SET_PERIOD", .u16, .rwi, .num 1, (0, 0, 1), [(1, 1000)], false, "lamp-wire periods"⟩,
  ⟨0x81, "LOOP_SET_PHASE", .u16, .rwi, .num 0, (0, 0, 1), [], false, "lamp-wire periods"⟩,
  ⟨0x82, "LOOP_SET_STATE", .u8, .ro, .num 0, (0, 0, 1), [], false, ""⟩,
  ⟨0x83, "LOOP_SET_CONSEC", .u8, .ro, .num 0, (0, 0, 1), [], false, ""⟩,
  ⟨0x84, "LOOP_SET_OVERRUNS", .u32, .ro, .num 0, (0, 0, 1), [], true, ""⟩,
  ⟨0x85, "LOOP_SET_CLEAR", .u8, .wo, .num 0, (0, 0, 1), [(1, 1)], false, ""⟩,
  ⟨0x86, "LOOP_SET_TIME_MAX", .u32, .rw, .num 0, (0, 0, 1), [(0, 0)], false, "ns"⟩]

/-- Objects at index 0x3020 + i (15_control_loops.md, R446). -/
def rows3020 : List ObjRow := [
  ⟨0x80, "LOOP_AIN_AVG", .u8, .rw, .num 5, (0, 0, 1), [(0, 10)], false, "log₂ conversions"⟩,
  ⟨0x81, "LOOP_AIN_TABLE", .domain, .rw, .bytes [], (16, 128, 8), [], false, ""⟩,
  ⟨0x82, "LOOP_AIN_VALID_MIN", .i32, .rw, .num 2147483648, (0, 0, 1), [], false, "µV"⟩,
  ⟨0x83, "LOOP_AIN_VALID_MAX", .i32, .rw, .num 2147483647, (0, 0, 1), [], false, "µV"⟩,
  ⟨0x84, "LOOP_AIN_UV", .i32, .ro, .num 0, (0, 0, 1), [], false, "µV"⟩,
  ⟨0x85, "LOOP_AIN_VALUE", .i32, .ro, .num 0, (0, 0, 1), [], false, "Table"⟩,
  ⟨0x86, "LOOP_AIN_VALID", .bool, .ro, .num 0, (0, 0, 1), [], false, ""⟩]

/-- Objects at index 0x3040 + i (15_control_loops.md, R446). -/
def rows3040 : List ObjRow := [
  ⟨0x80, "LOOP_DIE_VALUE", .i32, .ro, .num 0, (0, 0, 1), [], false, "m°C or mV"⟩,
  ⟨0x81, "LOOP_DIE_VALID", .bool, .ro, .num 0, (0, 0, 1), [], false, ""⟩]

/-- Objects at index 0x3060 + i (15_control_loops.md, R446). -/
def rows3060 : List ObjRow := [
  ⟨0x80, "LOOP_PWM_PERIOD", .u32, .rwi, .num 6875, (0, 0, 1), [(172, 1718750)], false, "PERI cycles"⟩,
  ⟨0x81, "LOOP_PWM_POLARITY", .u8, .rwi, .num 0, (0, 0, 1), [(0, 1)], false, ""⟩,
  ⟨0x82, "LOOP_PWM_DEFAULT", .u16, .rw, .num 0, (0, 0, 1), [], false, "Code"⟩,
  ⟨0x83, "LOOP_PWM_DUTY", .u16, .ro, .num 0, (0, 0, 1), [], false, "Code"⟩,
  ⟨0x84, "LOOP_PWM_WINNER", .u8, .ro, .num 255, (0, 0, 1), [], false, ""⟩]

/-- Objects at index 0x3080 + i (15_control_loops.md, R446). -/
def rows3080 : List ObjRow := [
  ⟨0x80, "LOOP_BANK_DEFAULT", .u16, .rw, .num 0, (0, 0, 1), [], false, "Code"⟩,
  ⟨0x81, "LOOP_BANK_CODE", .u16, .ro, .num 0, (0, 0, 1), [], false, "Code"⟩,
  ⟨0x82, "LOOP_BANK_WINNER", .u8, .ro, .num 255, (0, 0, 1), [], false, ""⟩]

/-- Objects at index 0x2E00 (16_calibration_ageing.md, R465). -/
def rows2E00 : List ObjRow := [
  ⟨0x01, "CAL_RUN", .domain, .wo, .bytes [], (8, 8, 1), [], false, ""⟩,
  ⟨0x02, "CAL_CANCEL", .u16, .wo, .num 0, (0, 0, 1), [], false, ""⟩,
  ⟨0x03, "CAL_RUNNING", .domain, .ro, .bytes [], (0, 16, 4), [], false, ""⟩,
  ⟨0x04, "CAL_SNAPSHOT", .domain, .ro, .bytes [], (0, 65536, 1), [], false, ""⟩,
  ⟨0x05, "CAL_RESTORE", .domain, .wo, .bytes [], (0, 1048576, 1), [], false, ""⟩,
  ⟨0x06, "CAL_AUTO_PERIOD", .u32, .rw, .num 3600, (0, 0, 1), [], false, "s"⟩,
  ⟨0x07, "CAL_ALLOW_MISS", .bool, .rw, .num 1, (0, 0, 1), [], false, ""⟩,
  ⟨0x08, "CAL_TEMP_REF", .u8, .rw, .num 255, (0, 0, 1), [(0, 23), (255, 255)], false, ""⟩,
  ⟨0x09, "CAL_PD_FLUX", .u32, .rw, .num 0, (0, 0, 1), [], false, "mlm"⟩,
  ⟨0x0A, "CAL_BANK_MOVE", .u16, .rw, .num 100, (0, 0, 1), [], false, "ms"⟩,
  ⟨0x0B, "CAL_BANK_SETTLE", .u16, .rw, .num 50, (0, 0, 1), [], false, "periods"⟩,
  ⟨0x0C, "CAL_BANK_TOL", .u16, .rw, .num 100, (0, 0, 1), [], false, "0.01 %"⟩,
  ⟨0x0D, "CAL_BG_FACTORY", .domain, .ro, .bgFactory, (24, 24, 1), [], false, ""⟩,
  ⟨0x0E, "CAL_RUNS", .u32, .ro, .num 0, (0, 0, 1), [], true, ""⟩,
  ⟨0x0F, "CAL_REJECTS", .u32, .ro, .num 0, (0, 0, 1), [], true, ""⟩]

/-- Objects at index 0x2E11 + i (16_calibration_ageing.md, R465). -/
def rows2E11 : List ObjRow := [
  ⟨0x01, "CAL_RESULT", .u32, .ro, .num 0, (0, 0, 1), [], false, ""⟩,
  ⟨0x02, "CAL_LAST", .stime, .ro, .num 0, (0, 0, 1), [], false, ""⟩,
  ⟨0x03, "CAL_COEF", .domain, .ro, .bytes [], (0, 4096, 1), [], false, ""⟩,
  ⟨0x04, "CAL_LIMIT", .u32, .rw, .table [200, 100, 250, 2, 50, 100], (0, 0, 1), [], false, "µV, ppm, m°C, 0.01 % or ms"⟩]

/-- Objects at index 0x2E20 + i (16_calibration_ageing.md, R465). -/
def rows2E20 : List ObjRow := [
  ⟨0x01, "CAL_RESULT", .u32, .ro, .num 0, (0, 0, 1), [], false, ""⟩,
  ⟨0x02, "CAL_LAST", .stime, .ro, .num 0, (0, 0, 1), [], false, ""⟩,
  ⟨0x03, "CAL_COEF", .domain, .ro, .bytes [], (0, 4096, 1), [], false, ""⟩,
  ⟨0x04, "CAL_LIMIT", .u32, .rw, .table [50, 500, 100, 200, 10], (0, 0, 1), [], false, "µV, ppm, m°C, 0.01 % or ms"⟩]

/-- Objects at index 0x2F00 (16_calibration_ageing.md, R466). -/
def rows2F00 : List ObjRow := [
  ⟨0x01, "AGE_PERIOD", .u32, .rw, .num 3600, (0, 0, 1), [(60, 604800)], false, "s"⟩,
  ⟨0x02, "AGE_RO", .domain, .ro, .bytes [], (256, 256, 1), [], false, "ppm"⟩,
  ⟨0x03, "AGE_RO_WORST", .i32, .ro, .num 0, (0, 0, 1), [], false, "ppm"⟩,
  ⟨0x04, "AGE_RO_LIMIT", .i32, .rw, .num 30000, (0, 0, 1), [], false, "ppm"⟩,
  ⟨0x05, "AGE_VCORE_BASE", .u16, .ro, .vcoreBase, (0, 0, 1), [], false, "mV"⟩,
  ⟨0x06, "AGE_VCORE_K", .u16, .rw, .num 2000, (0, 0, 1), [], false, "µV/ppm"⟩,
  ⟨0x07, "AGE_VCORE_TARGET", .u16, .rw, .num 760, (0, 0, 1), [], false, "mV"⟩,
  ⟨0x08, "AGE_VCORE_PROP", .u16, .ro, .num 760, (0, 0, 1), [], false, "mV"⟩,
  ⟨0x09, "AGE_DDR_EYE", .domain, .ro, .bytes [], (32, 32, 1), [], false, "1/64 UI"⟩,
  ⟨0x0A, "AGE_DDR_MIN", .u16, .rw, .num 20, (0, 0, 1), [], false, "1/64 UI"⟩,
  ⟨0x0B, "AGE_DDR_PROP", .u8, .ro, .num 0, (0, 0, 1), [], false, ""⟩,
  ⟨0x0C, "AGE_ETH_EYE", .domain, .ro, .bytes [], (8, 8, 1), [], false, "mV"⟩,
  ⟨0x0D, "AGE_MLANE_ERR", .domain, .ro, .bytes [], (384, 384, 1), [], false, ""⟩,
  ⟨0x0E, "AGE_HEADROOM", .u8, .rw, .num 15, (0, 0, 1), [(5, 50)], false, "%"⟩,
  ⟨0x0F, "AGE_T_REF", .i32, .rw, .num 25000, (0, 0, 1), [], false, "m°C"⟩]

/-- Objects at index 0x2F10 + i (16_calibration_ageing.md, R466). -/
def rows2F10 : List ObjRow := [
  ⟨0x01, "AGE_BANK_I_FULL", .u32, .rw, .num 0, (0, 0, 1), [], false, "mA"⟩,
  ⟨0x02, "AGE_BANK_TC", .i32, .rw, .num 0, (0, 0, 1), [], false, "ppm/°C"⟩,
  ⟨0x03, "AGE_BANK_SLOPE", .u32, .ro, .num 0, (0, 0, 1), [], false, "2⁻¹⁶ count/code"⟩,
  ⟨0x04, "AGE_BANK_THRESH", .u16, .ro, .num 0, (0, 0, 1), [], false, "Code"⟩,
  ⟨0x05, "AGE_BANK_EFF", .u32, .ro, .num 0, (0, 0, 1), [], false, "mW/A"⟩,
  ⟨0x06, "AGE_BANK_EFF0", .u32, .ro, .num 0, (0, 0, 1), [], false, "mW/A"⟩,
  ⟨0x07, "AGE_BANK_CEIL_PROP", .u32, .ro, .num 4294967295, (0, 0, 1), [], false, "1/256 count"⟩]

/-- Objects at index 0x3100 (17_patrol_power.md, R487). -/
def rows3100 : List ObjRow := [
  ⟨0x01, "PTL_STATE", .u8, .ro, .num 0, (0, 0, 1), [], false, ""⟩,
  ⟨0x02, "PWR_STATE_REQ", .u8, .wo, .num 0, (0, 0, 1), [(3, 4), (6, 6)], false, ""⟩,
  ⟨0x03, "PWR_BOOT_TARGET", .u8, .rw, .num 3, (0, 0, 1), [(3, 4)], false, ""⟩,
  ⟨0x04, "PWR_RECOVERY_CAUSE", .u8, .ro, .num 0, (0, 0, 1), [], false, ""⟩,
  ⟨0x05, "PTL_EVAL_PERIOD", .u32, .rw, .num 1000, (0, 0, 1), [(100, 100000)], false, "µs"⟩,
  ⟨0x06, "PTL_WAKE_AT", .stime, .rw, .num 0, (0, 0, 1), [], false, ""⟩,
  ⟨0x07, "PTL_WAKE_RESULT", .u8, .ro, .num 0, (0, 0, 1), [], false, ""⟩,
  ⟨0x08, "PTL_WARM", .bool, .ro, .num 0, (0, 0, 1), [], false, ""⟩,
  ⟨0x09, "PTL_WAKE_SUPPRESSED", .u32, .ro, .num 0, (0, 0, 1), [], true, ""⟩,
  ⟨0x0A, "PTL_HOST_FLAG", .bool, .rw, .num 0, (0, 0, 1), [], false, ""⟩,
  ⟨0x0B, "PTL_RESET_CAUSE", .u8, .ro, .num 0, (0, 0, 1), [], false, ""⟩,
  ⟨0x0C, "PTL_LOG", .domain, .ro, .bytes [], (0, 1024, 16), [], false, ""⟩,
  ⟨0x0D, "PWR_RAIL_TIMEOUT", .u16, .rw, .num 5, (0, 0, 1), [(1, 100)], false, "ms"⟩,
  ⟨0x0E, "PWR_RETRY_DELAY", .u16, .rw, .num 1000, (0, 0, 1), [(100, 60000)], false, "ms"⟩,
  ⟨0x0F, "PWR_PMBUS_PEC", .bool, .rw, .num 1, (0, 0, 1), [], false, ""⟩,
  ⟨0x10, "PWR_STANDBY_COUNT", .u32, .ro, .num 0, (0, 0, 1), [], true, ""⟩]

/-- Objects at index 0x3110 + i (17_patrol_power.md, R488). -/
def rows3110 : List ObjRow := [
  ⟨0x01, "PTL_CH_SOURCE", .u8, .rw, .table [0x20, 0x80, 255, 255, 255, 255, 255, 255, 255, 255, 255, 255, 255, 255, 255, 255], (0, 0, 1), [(0, 23), (32, 56), (64, 111), (128, 132), (255, 255)], false, ""⟩,
  ⟨0x02, "PTL_CH_PERIOD", .u32, .rw, .tableElse [1000, 100] 1000, (0, 0, 1), [(10, 1000000)], false, "µs"⟩,
  ⟨0x03, "PTL_CH_FILTER", .u8, .rw, .table [2, 1], (0, 0, 1), [(0, 4)], false, ""⟩,
  ⟨0x04, "PTL_CH_IIR_K", .u8, .rw, .num 2, (0, 0, 1), [(1, 15)], false, ""⟩,
  ⟨0x05, "PTL_CH_DEBOUNCE", .u8, .rw, .num 3, (0, 0, 1), [(1, 255)], false, "samples"⟩,
  ⟨0x06, "PTL_CH_VALUE", .i32, .ro, .num 0, (0, 0, 1), [], false, "Source"⟩,
  ⟨0x07, "PTL_CH_VALID", .bool, .ro, .num 0, (0, 0, 1), [], false, ""⟩]

/-- Objects at index 0x3120 + i (17_patrol_power.md, R489). -/
def rows3120 : List ObjRow := [
  ⟨0x01, "PTL_RULE", .domain, .rw, .rule, (32, 32, 1), [], false, ""⟩,
  ⟨0x02, "PTL_RULE_STATE", .u8, .ro, .num 0, (0, 0, 1), [], false, ""⟩,
  ⟨0x03, "PTL_RULE_CLEAR", .u8, .wo, .num 0, (0, 0, 1), [(1, 1)], false, ""⟩,
  ⟨0x04, "PTL_RULE_COUNT", .u32, .ro, .num 0, (0, 0, 1), [], true, ""⟩]

/-- Objects at index 0x3140 + i (17_patrol_power.md, R490). -/
def rows3140 : List ObjRow := [
  ⟨0x01, "PWR_RAIL_NOM", .u16, .ro, .table [760, 800, 800, 1200, 1100, 1800, 3300, 800, 0], (0, 0, 1), [], false, "mV"⟩,
  ⟨0x02, "PWR_RAIL_PMBUS", .u8, .rwi, .num 255, (0, 0, 1), [(0, 127), (255, 255)], false, ""⟩,
  ⟨0x03, "PWR_RAIL_STATE", .u8, .ro, .num 0, (0, 0, 1), [], false, ""⟩,
  ⟨0x04, "PWR_RAIL_MV", .u16, .ro, .num 0, (0, 0, 1), [], false, "mV"⟩,
  ⟨0x05, "PWR_RAIL_IOUT", .u32, .ro, .num 0, (0, 0, 1), [], false, "mA"⟩,
  ⟨0x06, "PWR_RAIL_STATUS", .u16, .ro, .num 0, (0, 0, 1), [], false, ""⟩]

/-- Objects at index 0x3200 (18_events_counters.md, R508). -/
def rows3200 : List ObjRow := [
  ⟨0x01, "EVT_MASK", .domain, .rw, .words 8 4 0, (32, 32, 1), [], false, ""⟩,
  ⟨0x02, "EVT_RING_POLICY", .u8, .rw, .num 0, (0, 0, 1), [(0, 1)], false, ""⟩,
  ⟨0x03, "EVT_LOG", .domain, .ro, .bytes [], (131072, 131072, 1), [], false, ""⟩,
  ⟨0x04, "EVT_LOG_WRITE", .u32, .ro, .num 0, (0, 0, 1), [], false, ""⟩,
  ⟨0x05, "EVT_LOG_READ", .u32, .rw, .num 0, (0, 0, 1), [], false, ""⟩,
  ⟨0x06, "EVT_RING_FULL", .bool, .ro, .num 0, (0, 0, 1), [], false, ""⟩,
  ⟨0x07, "EVT_LOG_RESET", .u8, .wo, .num 0, (0, 0, 1), [(1, 1)], false, ""⟩,
  ⟨0x08, "EVT_OVERWRITTEN", .u32, .ro, .num 0, (0, 0, 1), [], true, ""⟩,
  ⟨0x09, "EVT_LOST_MAP", .domain, .rw, .words 8 4 0, (32, 32, 1), [], false, ""⟩,
  ⟨0x0A, "EVT_LOST", .domain, .ro, .words 256 4 0, (1024, 1024, 1), [], false, ""⟩,
  ⟨0x0B, "EVT_COUNT", .domain, .ro, .words 256 4 0, (1024, 1024, 1), [], false, ""⟩,
  ⟨0x0C, "EVT_COUNT_CLEAR", .domain, .wo, .bytes [], (32, 32, 1), [], false, ""⟩,
  ⟨0x0D, "EVT_COUNT_SAT", .domain, .ro, .words 16 4 0, (64, 64, 1), [], false, ""⟩,
  ⟨0x0E, "EVT_SAT_LIST", .domain, .ro, .bytes [], (0, 1024, 4), [], false, ""⟩,
  ⟨0x0F, "EVT_SAT_OVERFLOW", .bool, .ro, .num 0, (0, 0, 1), [], false, ""⟩,
  ⟨0x10, "EVT_LAYOUT", .domain, .ro, .bytes [], (4096, 4096, 1), [], false, ""⟩,
  ⟨0x11, "EVT_COALESCED", .u32, .ro, .num 0, (0, 0, 1), [], true, ""⟩,
  ⟨0x12, "EVT_FIFO_FILL", .u8, .ro, .num 0, (0, 0, 1), [], false, "entries"⟩]

/-- Objects at index 0x3300 (19_security_firmware.md, R531). -/
def rows3300 : List ObjRow := [
  ⟨0x01, "SEC_FW_SLOT", .u8, .ro, .num 0, (0, 0, 1), [], false, ""⟩,
  ⟨0x02, "SEC_FW_VERSION", .u32, .ro, .num 0, (0, 0, 1), [], false, ""⟩,
  ⟨0x03, "SEC_BOOT_RECORD", .domain, .ro, .bytes [], (64, 64, 1), [], false, ""⟩,
  ⟨0x04, "SEC_SLOT_STATE", .u16, .ro, .num 0, (0, 0, 1), [], false, ""⟩,
  ⟨0x05, "SEC_STAGE", .domain, .wo, .bytes [], (0, 134217728, 1), [], false, ""⟩,
  ⟨0x06, "SEC_STAGE_STATE", .u32, .ro, .num 0, (0, 0, 1), [], false, ""⟩,
  ⟨0x07, "SEC_ACTIVATE", .u8, .wo, .num 0, (0, 0, 1), [(1, 1)], false, ""⟩,
  ⟨0x08, "SEC_ACTIVATE_STATE", .u8, .ro, .num 0, (0, 0, 1), [], false, ""⟩,
  ⟨0x09, "SEC_CONFIRM_TIME", .u16, .rw, .num 60, (0, 0, 1), [(10, 3600)], false, "s"⟩,
  ⟨0x0A, "SEC_ROLLBACK", .u8, .ro, .num 0, (0, 0, 1), [], false, "steps"⟩,
  ⟨0x0B, "SEC_ROLLBACK_ADVANCE", .u8, .wo, .num 0, (0, 0, 1), [], false, "steps"⟩,
  ⟨0x0C, "SEC_ID_CERT", .domain, .ro, .bytes [], (3112, 3112, 1), [], false, ""⟩,
  ⟨0x0D, "SEC_ID_KEY", .domain, .ro, .bytes [], (1793, 1793, 1), [], false, ""⟩,
  ⟨0x0E, "SEC_QUOTE_REQ", .domain, .wo, .bytes [], (32, 32, 1), [], false, ""⟩,
  ⟨0x0F, "SEC_QUOTE", .domain, .ro, .bytes [], (1928, 1928, 1), [], false, ""⟩,
  ⟨0x10, "SEC_QUOTE_STATE", .u8, .ro, .num 0, (0, 0, 1), [], false, ""⟩,
  ⟨0x11, "SEC_MEAS", .domain, .ro, .words 128 4 0, (512, 512, 1), [], false, ""⟩,
  ⟨0x12, "SEC_LOG", .domain, .ro, .bytes [], (0, 1048576, 96), [], false, ""⟩,
  ⟨0x13, "SEC_LOG_COUNT", .u32, .ro, .num 0, (0, 0, 1), [], false, ""⟩,
  ⟨0x14, "SEC_EXTEND", .domain, .wo, .bytes [], (64, 64, 1), [], false, ""⟩,
  ⟨0x15, "SEC_KEY_1", .domain, .ro, .bytes [], (1808, 1808, 1), [], false, ""⟩,
  ⟨0x16, "SEC_KEY_2", .domain, .ro, .bytes [], (0, 0, 1), [], false, ""⟩,
  ⟨0x17, "SEC_KEY_3", .domain, .ro, .bytes [], (0, 0, 1), [], false, ""⟩,
  ⟨0x18, "SEC_KEY_4", .domain, .ro, .bytes [], (0, 0, 1), [], false, ""⟩,
  ⟨0x19, "SEC_KEY_STATE", .u8, .ro, .num 0, (0, 0, 1), [], false, ""⟩,
  ⟨0x1A, "SEC_KEY_ENROL", .domain, .wo, .bytes [], (1808, 1808, 1), [], false, ""⟩,
  ⟨0x1B, "SEC_KEY_REVOKE", .u8, .wo, .num 0, (0, 0, 1), [(1, 4)], false, ""⟩,
  ⟨0x1C, "SEC_CONFIG_SAVE", .u8, .wo, .num 0, (0, 0, 1), [(1, 1)], false, ""⟩,
  ⟨0x1D, "SEC_JTAG_STATE", .u8, .ro, .num 0, (0, 0, 1), [], false, ""⟩,
  ⟨0x1E, "SEC_JTAG_CHALLENGE", .domain, .ro, .bytes [], (48, 48, 1), [], false, ""⟩,
  ⟨0x1F, "SEC_JTAG_UNLOCK", .domain, .wo, .bytes [], (1288, 1288, 1), [], false, ""⟩,
  ⟨0x20, "SEC_JTAG_LOCK", .u8, .wo, .num 0, (0, 0, 1), [(1, 1)], false, ""⟩,
  ⟨0x21, "SEC_MGMT_RESTARTS", .u32, .ro, .num 0, (0, 0, 1), [], true, ""⟩,
  ⟨0x22, "SEC_FW_CLEAR", .u8, .wo, .num 0, (0, 0, 1), [(1, 1)], false, ""⟩]

/-- Every object table of the device (R395). -/
def objFams : List ObjFam := [
  ⟨0x2000, 1, rows2000⟩,
  ⟨0x2110, 4, rows2110⟩,
  ⟨0x2200, 1, rows2200⟩,
  ⟨0x2210, 4, rows2210⟩,
  ⟨0x2300, 1, rows2300⟩,
  ⟨0x2310, 16, rows2310⟩,
  ⟨0x2320, 16, rows2320⟩,
  ⟨0x2400, 1, rows2400⟩,
  ⟨0x2410, 6, rows2410⟩,
  ⟨0x2430, 4, rows2430⟩,
  ⟨0x2420, 8, rows2420⟩,
  ⟨0x2440, 16, rows2440⟩,
  ⟨0x2500, 1, rows2500⟩,
  ⟨0x2510, 8, rows2510⟩,
  ⟨0x2520, 8, rows2520⟩,
  ⟨0x2100, 1, rows2100⟩,
  ⟨0x2120, 4, rows2120⟩,
  ⟨0x2600, 1, rows2600⟩,
  ⟨0x2610, 64, rows2610⟩,
  ⟨0x4001, 16383, rows4001⟩,
  ⟨0x2700, 1, rows2700⟩,
  ⟨0x2710, 16, rows2710⟩,
  ⟨0x2800, 1, rows2800⟩,
  ⟨0x2900, 1, rows2900⟩,
  ⟨0x2910, 8, rows2910⟩,
  ⟨0x2920, 32, rows2920⟩,
  ⟨0x2A00, 1, rows2A00⟩,
  ⟨0x2A10, 8, rows2A10⟩,
  ⟨0x2B00, 1, rows2B00⟩,
  ⟨0x2B10, 4, rows2B10⟩,
  ⟨0x2B20, 8, rows2B20⟩,
  ⟨0x1000, 1, rows1000⟩,
  ⟨0x1010, 1, rows1010⟩,
  ⟨0x1020, 1, rows1020⟩,
  ⟨0x2C00, 1, rows2C00⟩,
  ⟨0x2C10, 1, rows2C10⟩,
  ⟨0x3000, 1, rows3000Shared⟩,
  ⟨0x3000, 256, rows3000Loops⟩,
  ⟨0x3010, 16, rows3010⟩,
  ⟨0x3020, 24, rows3020⟩,
  ⟨0x3040, 32, rows3040⟩,
  ⟨0x3060, 24, rows3060⟩,
  ⟨0x3080, 16, rows3080⟩,
  ⟨0x2E00, 1, rows2E00⟩,
  ⟨0x2E11, 6, rows2E11⟩,
  ⟨0x2E20, 5, rows2E20⟩,
  ⟨0x2F00, 1, rows2F00⟩,
  ⟨0x2F10, 16, rows2F10⟩,
  ⟨0x3100, 1, rows3100⟩,
  ⟨0x3110, 16, rows3110⟩,
  ⟨0x3120, 32, rows3120⟩,
  ⟨0x3140, 9, rows3140⟩,
  ⟨0x3200, 1, rows3200⟩,
  ⟨0x3300, 1, rows3300⟩]

end Sys2Proof.Machine
end

