-- ==== Sys2Proof/Machine/Dict.lean ====
section
/-! DEFINITION. Looking an object up in the dictionary (R13, R50, R395): its row, its instance, its default, its width and its levels. -/

namespace Sys2Proof.Machine

/-- The row of sub-index `sub` in a list of rows. -/
def rowOf (rows : List ObjRow) (sub : Nat) : Option ObjRow := rows.find? fun r => r.sub == sub

/-- The row and instance of (index, sub) in the tables. -/
def findIn : List ObjFam → Nat → Nat → Option (ObjRow × Nat)
  | [], _, _ => none
  | f :: fs, ix, sub =>
    if f.base ≤ ix && ix < f.base + f.count then
      match rowOf f.rows sub with
      | some r => some (r, ix - f.base)
      | none => findIn fs ix sub
    else findIn fs ix sub

/-- Index and sub-index of a reference. -/
def refIndex (ref : Nat) : Nat := ref / 256
def refSub (ref : Nat) : Nat := ref % 256

/-- The object a table lists at a reference. -/
def findObj (ref : Nat) : Option (ObjRow × Nat) := findIn objFams (refIndex ref) (refSub ref)

/-- The row a request finds: a listed object, or the read-only staged copy 0x20 above an RWS object (R16, R50). -/
def findRef (ref : Nat) : Option (ObjRow × Nat) :=
  match findObj ref with
  | some x => some x
  | none =>
    if 0x20 ≤ refSub ref then
      match findObj (ref - 0x20) with
      | some (r, n) => if r.acc = .rws then some ({ r with acc := .ro, sub := refSub ref }, n) else none
      | none => none
    else none

/-- The staged copy of an RWS object is kept under the reference at which it is read. -/
def staged (ref : Nat) : Nat := ref + 0x20

/-- The bytes of a default that is a byte string. -/
def dfltBytes (d : Dflt) (n : Nat) : List Byte :=
  match d with
  | .bytes l => l.map (BitVec.ofNat 8)
  | .words c z v => (List.replicate c (leBytes z v)).flatten
  | .ttable => (List.range 8).flatMap fun i => leBytes 4 (10000 * i) ++ leBytes 4 65536 ++ fill 8 0
  | .identity => (List.range 6).flatMap fun i => (List.range 6).flatMap fun j => leBytes 2 (if i = j then 16384 else 0)
  | .rule =>
    -- Table 17-7 in the layout of Table 17-6
    match n with
    | 0 => [1, 0, 0x1E, 0x1F] ++ leBytes 4 105000 ++ fill 4 0 ++ leBytes 4 5000 ++ leBytes 2 3 ++ fill 6 0 ++ leBytes 2 0xFFFF ++ fill 6 0
    | 1 => [9, 2, 0x1E, 0x1E] ++ fill 12 0 ++ leBytes 2 1 ++ fill 6 0 ++ leBytes 2 0xFFFF ++ fill 6 0
    | 2 => [9, 0, 0x19, 0x20] ++ fill 12 0 ++ leBytes 2 1 ++ fill 14 0
    | 3 => [9, 1, 0x11, 0x20] ++ fill 12 0 ++ leBytes 2 1 ++ fill 14 0
    | _ => fill 32 0
  | .bgFactory => Config.bgFactory
  | .vendorPrincipal => [4, 1] ++ fill 6 0 ++ Config.vendorKey ++ fill 7 0
  | _ => []

/-- The number of a default that is a number, for instance `n`. -/
def dfltNum (d : Dflt) (n : Nat) : Nat :=
  match d with
  | .num v => v
  | .inst => n
  | .table l => l.getD n 0
  | .tableElse l e => l.getD n e
  | .grade => Config.grade
  | .serial => Config.serial
  | .mac => Config.mac
  | .vcoreBase => Config.vcoreBase
  | _ => 0

/-- What the number of an object reads before anything is written. -/
def numDefault (ref : Nat) : Nat :=
  match findRef ref with
  | some (r, n) => dfltNum r.dflt n
  | none => 0

/-- What the bytes of an object read before anything is written. -/
def blobDefault (ref : Nat) : List Byte :=
  match findRef ref with
  | some (r, n) => dfltBytes r.dflt n
  | none => []

/-- The bytes of a value of the type; 0 where the length varies (Table 00-5). -/
def ObjType.size : ObjType → Nat
  | .u8 | .bool => 1
  | .u16 => 2
  | .u32 | .i32 | .handle => 4
  | .u64 | .ratio => 8
  | .stime => 12
  | .str | .domain => 0

/-- Whether the object's value is a byte string. -/
def ObjType.isBlob : ObjType → Bool
  | .str | .domain => true
  | _ => false

/-- The access levels of R380. -/
def levelObserver : Nat := 0
def levelOperator : Nat := 1
def levelEngineer : Nat := 2
def levelCustodian : Nat := 3
def levelVendor : Nat := 4

/-- The write level of an object (Table 13-7 with its exceptions). Every range reads at OBSERVER. -/
def writeLevel (ref : Nat) : Nat :=
  let ix := refIndex ref
  let sub := refSub ref
  if 0x1020 ≤ ix && ix < 0x1030 then levelCustodian
  else if ix < 0x2000 then levelEngineer
  else if 0x2310 ≤ ix && ix < 0x2320 && (sub == 0x01 || (0x0B ≤ sub && sub ≤ 0x0D)) then levelOperator
  else if 0x2600 ≤ ix && ix < 0x2700 then (if ref == O.layFlatten then levelEngineer else levelOperator)
  else if ref == O.crvJob || ref == O.crvJobCancel then levelOperator
  else if 0x2800 ≤ ix && ix < 0x2900 then levelOperator
  else if ref == O.intgRetireList then levelCustodian
  else if 0x2C00 ≤ ix && ix < 0x2D00 then levelCustodian
  else if 0x2E00 ≤ ix && ix < 0x2F00 then levelCustodian
  else if 0x3200 ≤ ix && ix < 0x3300 then levelOperator
  else if 0x3300 ≤ ix && ix < 0x3400 then levelCustodian
  else if 0x4000 ≤ ix && ix < 0x8000 then levelOperator
  else levelEngineer

/-- Whether a read of the object is FAST (R382). -/
def fastRead (r : ObjRow) (ref : Nat) : Bool :=
  let ix := refIndex ref
  !r.ty.isBlob && ((0x2000 ≤ ix && ix < 0x3000) || (0x3000 ≤ ix && ix < 0x3300) || (0x4000 ≤ ix && ix < 0x8000))

/-- Whether a write of the object is FAST (R382). -/
def fastWrite (ref : Nat) : Bool :=
  let ix := refIndex ref
  let sub := refSub ref
  (0x2610 ≤ ix && ix < 0x2650 && (sub == 0x49 || sub == 0x4A || sub == 0x40 || sub == 0x41 || sub == 0x42 || sub == 0x43 || sub == 0x44 || sub == 0x4C))
  || (0x2310 ≤ ix && ix < 0x2320 && (sub == 0x01 || sub == 0x0B || sub == 0x0C || sub == 0x0D))
  || (0x2110 ≤ ix && ix < 0x2114 && sub == 0x0D)
  || ref == O.layCancel || ref == O.crvJobCancel || ref == O.codecJobCancel || ref == O.intgSweepCancel

/-- The type code of DESCRIBE (R392). -/
def ObjType.code : ObjType → Nat
  | .u8 => 1 | .u16 => 2 | .u32 => 3 | .u64 => 4 | .i32 => 5 | .bool => 7 | .str => 8
  | .stime => 9 | .ratio => 10 | .handle => 11 | .domain => 12

/-- The access code of DESCRIBE (R392). -/
def Access.code : Access → Nat
  | .ro => 0 | .rw => 1 | .wo => 2 | .rws => 3 | .rwi => 4

end Sys2Proof.Machine
end

