-- ==== Sys2Proof/Machine/Keccak.lean ====
section
/-! DEFINITION. The hash functions the device names: Keccak-f[1600], SHAKE256 (FIPS 202) and KMAC256 (NIST SP 800-185), for
the message tag of R374, the session key of R377 and the digests of R513, R519 and R524. -/

namespace Sys2Proof.Machine

/-- Rotation offsets, lane x + 5·y. -/
def keccakRot : List Nat :=
  [0, 1, 62, 28, 27, 36, 44, 6, 55, 20, 3, 10, 43, 25, 39, 41, 45, 15, 21, 8, 18, 2, 61, 56, 14]

/-- Round constants. -/
def keccakRC : List (BitVec 64) :=
  [0x0000000000000001, 0x0000000000008082, 0x800000000000808A, 0x8000000080008000,
   0x000000000000808B, 0x0000000080000001, 0x8000000080008081, 0x8000000000008009,
   0x000000000000008A, 0x0000000000000088, 0x0000000080008009, 0x000000008000000A,
   0x000000008000808B, 0x800000000000008B, 0x8000000000008089, 0x8000000000008003,
   0x8000000000008002, 0x8000000000000080, 0x000000000000800A, 0x800000008000000A,
   0x8000000080008081, 0x8000000000008080, 0x0000000080000001, 0x8000000080008008]

/-- Lane (x, y) of a state, indices modulo 5. -/
def keccakLane (a : List (BitVec 64)) (x y : Nat) : BitVec 64 := a.getD (x % 5 + 5 * (y % 5)) 0

/-- One round: θ, ρ, π, χ, ι. -/
def keccakRound (a : List (BitVec 64)) (rc : BitVec 64) : List (BitVec 64) :=
  let c := (List.range 5).map fun x =>
    keccakLane a x 0 ^^^ keccakLane a x 1 ^^^ keccakLane a x 2 ^^^ keccakLane a x 3 ^^^ keccakLane a x 4
  let d := (List.range 5).map fun x => c.getD ((x + 4) % 5) 0 ^^^ (c.getD ((x + 1) % 5) 0).rotateLeft 1
  let t := (List.range 25).map fun i => (a.getD i 0 ^^^ d.getD (i % 5) 0).rotateLeft (keccakRot.getD i 0)
  -- π: lane (x, y) of the result is lane (x + 3y, x) of the rotated state
  let b := (List.range 25).map fun i => keccakLane t (i % 5 + 3 * (i / 5)) (i % 5)
  let e := (List.range 25).map fun i =>
    keccakLane b (i % 5) (i / 5) ^^^ (~~~ keccakLane b (i % 5 + 1) (i / 5) &&& keccakLane b (i % 5 + 2) (i / 5))
  (e.getD 0 0 ^^^ rc) :: e.drop 1

/-- Keccak-f[1600]. -/
def keccakF (a : List (BitVec 64)) : List (BitVec 64) := keccakRC.foldl keccakRound a

/-- XOR one block of `rate` bytes into the state. -/
def keccakXor (a : List (BitVec 64)) (blk : List Byte) : List (BitVec 64) :=
  (List.range 25).map fun i => a.getD i 0 ^^^ BitVec.ofNat 64 (leAt blk (8 * i) 8)

/-- Absorb `n` blocks of 136 bytes (the rate of capacity 512). -/
def keccakAbsorb : Nat → List (BitVec 64) → List Byte → List (BitVec 64)
  | 0, a, _ => a
  | n + 1, a, l => keccakAbsorb n (keccakF (keccakXor a (l.take 136))) (l.drop 136)

/-- Squeeze `n` blocks of 136 bytes. -/
def keccakSqueeze : Nat → List (BitVec 64) → List Byte
  | 0, _ => []
  | n + 1, a => ((a.flatMap fun w => leBytes 8 w.toNat).take 136) ++ keccakSqueeze n (keccakF a)

/-- The sponge with rate 136 bytes: message, domain suffix byte, output length. -/
def sponge (m : List Byte) (suffix : Byte) (outLen : Nat) : List Byte :=
  let q := 136 - m.length % 136
  let pad := if q = 1 then [suffix ||| 0x80] else suffix :: (fill (q - 2) 0 ++ [0x80])
  let p := m ++ pad
  (keccakSqueeze (outLen / 136 + 1) (keccakAbsorb (p.length / 136) (List.replicate 25 0) p)).take outLen

/-- SHAKE256 with `outLen` bytes of output. -/
def shake256 (m : List Byte) (outLen : Nat) : List Byte := sponge m 0x1F outLen

/-- The number of bytes that hold `v`, at least 1. -/
def byteWidth (v : Nat) : Nat := if v < 256 then 1 else if v < 65536 then 2 else if v < 16777216 then 3 else 4

/-- left_encode of SP 800-185. -/
def leftEncode (v : Nat) : List Byte := BitVec.ofNat 8 (byteWidth v) :: beBytes (byteWidth v) v

/-- right_encode of SP 800-185. -/
def rightEncode (v : Nat) : List Byte := beBytes (byteWidth v) v ++ [BitVec.ofNat 8 (byteWidth v)]

/-- encode_string of SP 800-185. -/
def encodeString (l : List Byte) : List Byte := leftEncode (8 * l.length) ++ l

/-- bytepad of SP 800-185 with w = 136. -/
def bytepad136 (l : List Byte) : List Byte :=
  let x := leftEncode 136 ++ l
  x ++ fill ((136 - x.length % 136) % 136) 0

/-- KMAC256: key, message, output length in bytes, customisation string. -/
def kmac256 (key msg : List Byte) (outLen : Nat) (custom : List Byte) : List Byte :=
  let x := bytepad136 (encodeString key) ++ msg ++ rightEncode (8 * outLen)
  sponge (bytepad136 (encodeString [0x4B, 0x4D, 0x41, 0x43] ++ encodeString custom) ++ x) 0x04 outLen

end Sys2Proof.Machine
end

