-- ==== Sys2Proof/Machine/State.lean ====
section
/-! DEFINITION. The state of the device as plain data: the object store, byte strings and DRAM as sparse tables, and for each chapter the
machine state that no object shows; the two outcomes that are no next state; and the state after power-on reset. -/

namespace Sys2Proof.Machine

/-- A step that the device cannot take. -/
inductive Fault where
  /-- Raised by `execMemRequest` for an address outside the device's 256 GiB physical address space (R280, R284): the spec gives no memory
  there. Safe: the model stops where nothing is said. -/
  | noSuchAddress
deriving DecidableEq, Repr

/-- A command without a meaning. -/
inductive Refusal where
  /-- Raised by `exec` for a row of the table whose meaning is not written; safe, since nothing is claimed of it. -/
  | notModelled (mnemonic : String)
deriving DecidableEq, Repr

/-- An instant on the studio time axis in root ticks from the epoch, as an exact fraction (R8, R45). -/
structure Instant where
  num : Int
  den : Nat
deriving DecidableEq, Repr

/-- A Resil message as sent: header fields, payload, tag (R373, R374). -/
structure Msg where
  op      : Nat
  flags   : Nat
  node    : Nat
  session : Nat
  seq     : Nat
  status  : Nat
  payload : List Byte
  tag     : List Byte
deriving DecidableEq, Repr

/-- What the device emits during one step: messages and frames it sends, and what its lanes and pins carry. -/
inductive Tx where
  /-- a Resil message to an address, at priority 6 (R371) -/
  | resil (port : Nat) (dst : Nat) (m : Msg)
  /-- a PTP message: port, message type, sequence number, body (R34 to R36) -/
  | ptp (port type seq : Nat) (body : List Int)
  /-- an Ethernet frame: egress port, VLAN, priority, bytes -/
  | frame (port vlan prio : Nat) (bytes : List Byte)
  /-- an ARP reply, and a Neighbour Advertisement: port, VLAN, the address they give the MAC of, the asker's MAC (R350) -/
  | arp (port vlan addr mac : Nat)
  | neighbour (port vlan : Nat) (addr : List Byte) (mac : Nat)
  /-- an echo reply: port, VLAN, IPv6, destination, data (R350) -/
  | echo (port vlan : Nat) (v6 : Bool) (dst data : List Byte)
  /-- a membership report (R351): port, VLAN, family, group, kind (0 INCLUDE the source, 1 EXCLUDE none, 2 INCLUDE none), source -/
  | report (port vlan family : Nat) (group : List Byte) (kind : Nat) (source : List Byte)
  /-- a hierarchy datagram (Table 14-1): port (4 for all), root tick, bytes -/
  | hier (port at_ : Nat) (bytes : List Byte)
  /-- a message on the hierarchy session of a worker: node, message (R408) -/
  | toWorker (node : Nat) (m : Msg)
  /-- a high pulse on a gate lane: bank, first root tick, length in ticks, vernier in eighths (R92, R96) -/
  | gate (bank : Nat) (start : Int) (len vernier : Nat)
  /-- a level header on a gate lane: bank, first root tick, bits (R93) -/
  | gateHeader (bank : Nat) (start : Int) (bits : Nat)
  /-- a gate lane forced low at a root tick (R98, R100) -/
  | gateLow (bank : Nat) (tick : Int)
  /-- a timing-lane symbol: output, root tick of its first edge, width in ticks, vernier in eighths (R172, R173) -/
  | timing (output : Nat) (tick : Int) (width vernier : Nat)
  /-- the 66-bit blocks of one lane in a plane transfer, scrambled, sync header on top: output, lane, start tick (R162 to R168) -/
  | lane (output lane : Nat) (start : Int) (blocks : List Nat)
  /-- a lamp-wire frame: wire, slot, bytes (R103 to R106) -/
  | lamp (wire slot : Nat) (bytes : List Byte)
  /-- a command on an array's or regulator's serial bus: bus, address, bytes (R175, R475) -/
  | bus (which addr : Nat) (bytes : List Byte)
  /-- the PWM pin: number, duty in PERI cycles (R430) -/
  | pwm (n duty : Nat)
  /-- a supply enable pin (R473): group, level -/
  | pwrEn (group : Nat) (on : Bool)
  /-- the NRDY driver of the strobe bus (R413): asserted -/
  | nrdy (asserted : Bool)
  /-- the STB_CLK driver (R413): driven from a studio tick on, or off -/
  | stbClk (from_ : Option Int)
  /-- a DRAM command: channel, subchannel, rank, command code, row or other argument (R292, R300) -/
  | dram (ch sub rank cmd arg : Nat)
  /-- data returned to a memory port: port, address, bytes, poisoned words (R327) -/
  | readData (port addr : Nat) (data : List Byte) (poison : List Nat)
  /-- a TAP response (R524) -/
  | tap (value : Nat)
deriving DecidableEq, Repr

/-- A raise of an event source: number, detail bytes, root tick, studio time and validity at that instant (R494 to R497). -/
structure Raised where
  src    : Nat
  detail : List Byte
  at_    : Nat
  secs   : Nat
  nanos  : Nat
  free   : Bool
deriving DecidableEq, Repr

/-- A record in the capture FIFO (Table 18-2); `seq` is given when it is written to the ring. -/
structure Record where
  src    : Nat
  detail : List Byte
  repeats : Nat
  at_    : Nat
  secs   : Nat
  nanos  : Nat
  lastUs : Nat
  free   : Bool
deriving DecidableEq, Repr

/-- The event system (R493 to R508). -/
structure EvSt where
  /-- raises not yet captured, oldest first -/
  raised  : List Raised := []
  /-- the capture FIFO, head first; a record with detail over 12 bytes counts as two entries -/
  fifo    : List Record := []
  /-- EVT_COUNT, EVT_LOST: sparse, default 0 -/
  counts  : List (Nat × Nat) := []
  losts   : List (Nat × Nat) := []
  /-- EVT_LOST_MAP as a 256-bit number -/
  lostMap : Nat := 0
  /-- SAT flags: bit e for EVT_COUNT, 256 + e for EVT_LOST -/
  satBits : Nat := 0
  /-- EVT_SAT_LIST -/
  satList : List Nat := []
  /-- E253 still owed in this episode, and whether an episode runs (R498) -/
  lostOwed : Bool := false
  lostEpisode : Bool := false
  /-- where the log ring lies in memory; empty before it exists (R497, R499) -/
  ringAt  : List (Nat × Nat) := []
  /-- last drain cycle, in PERI cycles -/
  lastDrain : Nat := 0
deriving DecidableEq, Repr

/-- The best Announce a port holds (R35). -/
structure PtpForeign where
  gm         : Nat
  priority1  : Nat
  clockClass : Nat
  accuracy   : Nat
  variance   : Nat
  priority2  : Nat
  steps      : Nat
  sender     : Nat
  senderPort : Nat
  utcOffset  : Int
  leap       : Nat
  rx         : Nat
deriving DecidableEq, Repr

/-- PTP state of one port: its foreign master and its send sequence numbers. -/
structure PtpPort where
  foreign  : Option PtpForeign := none
  syncSeq  : Nat := 0
  annSeq   : Nat := 0
  delaySeq : Nat := 0
deriving DecidableEq, Repr

/-- The root clock and the time servo (R18 to R42). -/
structure TimeSt where
  /-- studio time minus root ticks, in ticks (R27, R559) -/
  offset    : Int := 0
  pllLocked : Bool := false
  /-- qualified source codes (R31), rising -/
  qualified : List Nat := []
  tenOk     : Bool := false
  /-- a PTP source has given time, TIME_SET has been written (R39, R40) -/
  ptpTime   : Bool := false
  timeSet   : Bool := false
  /-- since when the phase error has stayed below the lock threshold (R24) -/
  lockSince : Option Nat := none
  unlockRun : Nat := 0
  clamped   : Bool := false
  /-- integrator, in 10⁻²⁴ (R25) -/
  freqEst   : Int := 0
  lastMeas  : Option Nat := none
  lastSteer : Option Nat := none
  lockedAt  : Option Nat := none
  /-- (tick, freqEst) of the measurements of the last 60 s of LOCKED, newest first (R41) -/
  hist      : List (Nat × Int) := []
  firstEst  : Int := 0
  /-- holdover: entry tick, |e₀| in ps, frozen fraction in 10⁻¹², ramp in 10⁻²⁴ per second -/
  holdAt    : Nat := 0
  e0        : Nat := 0
  frozen    : Int := 0
  ramp      : Int := 0
  ptp       : List (Nat × PtpPort) := []
  ptpIgnored : Nat := 0
  /-- the last selected PPS edge, and edges out of window in a row (R31) -/
  lastPps   : Option Nat := none
  ppsMiss   : Nat := 0
  /-- pending leap second of the last valid Announce (R37) -/
  leap      : Nat := 0
deriving DecidableEq, Repr

/-- One entry of a plan (Table 02-1). -/
structure Entry where
  start   : Nat
  winLen  : Nat
  winOff  : Nat
  banks   : Nat
  plane   : Nat
  view    : Nat
  prim    : Nat
  bit     : Nat
  sub     : Nat
  level   : Nat
  settle  : Nat
  sample  : Bool
  last    : Bool
  rsv     : Bool
deriving DecidableEq, Repr

/-- A timing change in progress on a generator: a host COMMIT, a step of studio time, or both (R51 to R55, R559). -/
structure TgCommit where
  /-- a host COMMIT takes part, with the staged values it captured (R17): (reference, value) -/
  host      : Bool
  vals      : List (Nat × Nat)
  enabling  : Bool
  disabling : Bool
  /-- the timing was disabled before and stays so (R55) -/
  idle      : Bool
  /-- a step of studio time takes part (R559) -/
  stepped   : Bool
  /-- T_req as an STIME96 code; none for NEXT (R51) -/
  treq      : Option Nat
  bOld      : Instant
  /-- first new boundary and its frame index; none after a disabling commit -/
  bNew      : Option (Instant × Nat)
  /-- the commit point has passed -/
  passed    : Bool
  /-- the base plan or the verified manual table that the first new frame shows (R71, R76) -/
  plan      : List Entry
  /-- plane-buffer halves allocated for the new timing where the old ones do not fit (R78): two for each output of the group -/
  halves    : List (List (Nat × Nat))
  /-- the admission figures to put back if the commit is cancelled -/
  before    : List (Nat × Nat)
deriving DecidableEq, Repr

/-- A timing generator (R45 to R56). -/
structure TgSt where
  /-- frames are being shown: the current frame index and whether one is in progress -/
  running : Bool := false
  frame   : Nat := 0
  dark    : Bool := false
  commit  : Option TgCommit := none
deriving DecidableEq, Repr

/-- One half of a plane buffer (R78, R80): its extents in memory, the block bytes (R79) and which blocks of each image are written. -/
structure PlaneHalf where
  /-- memory extents, (address, length) -/
  extents : List (Nat × Nat) := []
  /-- image → bit set of the blocks written -/
  done    : List (Nat × Nat) := []
  /-- (image × 65536 + block) → index byte of R79 -/
  index   : List (Nat × Nat) := []
  /-- image → "content changed" tag (R77) -/
  changed : List (Nat × Bool) := []
deriving DecidableEq, Repr

/-- The Slalom sequencer of one output (R57 to R89). -/
structure SlmSt where
  active    : List Entry := []
  inactive  : Option (List Entry) := none
  /-- frame for which the planner runs (R75) -/
  planning  : Option Nat := none
  /-- a plan for that frame has been written -/
  planned   : Bool := false
  /-- the next new frame is the first after a timing commit -/
  firstFrame : Bool := false
  /-- requested manual swap and the table verified for it (R76) -/
  swapReq   : Option Nat := none
  swapTable : Option (Nat × List Entry) := none
  /-- plane buffer halves; `front` is the one being shown -/
  half0     : PlaneHalf := {}
  half1     : PlaneHalf := {}
  front     : Bool := false
  /-- the plan that the front half's images belong to (R80) -/
  frontPlan : List Entry := []
  /-- bytes stored and raw of the frame in progress, and the ratios of the last frames, newest first (R82) -/
  stored    : Nat := 0
  raw       : Nat := 0
  ratios    : List Nat := []
  /-- events of Table 02-6 already raised in this frame -/
  raised    : List Nat := []
  /-- bit occupancy of the frame being composed: (v × 6 + p) × 16 + j → pixels -/
  occ       : List (Nat × Nat) := []
  /-- SLM_HIST of the last frame whose composition completed -/
  hist      : List (Nat × Nat) := []
  /-- frame being composed, and whether its composition is done or abandoned -/
  composing : Option Nat := none
  composed  : Bool := false
  /-- blocks of the slicer that wait for a compress unit: (image, block, bytes) (R272), and a bypass in this frame -/
  outQ      : List (Nat × Nat × List Byte) := []
  bypassed  : Bool := false
deriving DecidableEq, Repr

/-- A header and window on a gate lane (R92): root ticks of the header's start, the window's start and the window's end, and what its photodiode sample
will give when it completes: nothing sampled, an invalid reading, or a reading in 1/256 count (R137). -/
structure GateWin where
  hs : Int
  ws : Int
  we : Int
  pd : Option (Option Int)
deriving DecidableEq, Repr

/-- A fade in progress (R114): F₀, F₁ in 1/32,768, T in ms, curve, and the slot start tick it started from (none: starts at the next slot). -/
structure Fade where
  f0    : Nat
  f1    : Nat
  ms    : Nat
  curve : Nat
  start : Option Int
deriving DecidableEq, Repr

/-- A move of the target fraction of a bank during BANK_EFF (R460): from a fraction, to eighths, the tick it starts at and its length in ticks. -/
structure Sweep where
  num   : Int
  den   : Nat
  to_   : Nat
  start : Nat
  len   : Nat
deriving DecidableEq, Repr

/-- One laser bank and its gate lane (R90 to R101, R114, R137). -/
structure BankSt where
  /-- the tick at which the last active cause cleared (R101) -/
  clearedAt : Nat := 0
  /-- since when the lane has been low -/
  lowSince  : Int := 0
  /-- vernier in force, and the instant from which a new one may apply (R96) -/
  vernier   : Nat := 0
  vernierFrom : Option Nat := none
  /-- the emitted boundary at which GATE_ENABLE false sets the HOST cause (Table 03-3) -/
  hostFrom  : Option Int := none
  cur       : Option GateWin := none
  fade      : Option Fade := none
  /-- table to use from B_new on (R112) -/
  tableNext : Option Nat := none
  /-- photodiode readings completed since the loop's last boundary, newest first: (tick, value in 1/256 count) (R137, Table 15-1) -/
  readings  : List (Nat × Int) := []
  /-- base target in force and next (R134) -/
  base      : Nat := 0
  baseNext  : Option Nat := none
  /-- the fraction of its share while BANK_EFF sweeps the bank -/
  sweep     : Option Sweep := none
deriving DecidableEq, Repr

/-- A LEVEL frame that waits for a slot (R110, R112): table, ladder, and the generator whose commit queued it. -/
structure LevelFrame where
  table  : Nat
  ladder : List Nat
  tg     : Option Nat
deriving DecidableEq, Repr

/-- One lamp wire (R102 to R113). -/
structure WireSt where
  /-- a LIMIT frame is queued -/
  limitQ   : Bool := false
  /-- LEVEL frames queued, oldest first -/
  levelQ   : List LevelFrame := []
  /-- ladders the drivers' two tables hold -/
  held0    : List Nat := []
  held1    : List Nat := []
  /-- initialisation frames still to send: 3 LIMIT, 2 LEVEL 0, 1 LEVEL 1 (R111) -/
  initLeft : Nat := 0
  /-- slot of the third initialisation frame -/
  initSlot : Option Nat := none
deriving DecidableEq, Repr

/-- The interlock pin and latch (R99). -/
structure IntlkSt where
  low     : Bool := false
  latched : Bool := false
  /-- INTLK_N was low at some time during standby (R486) -/
  inStandby : Bool := false
deriving DecidableEq, Repr

/-- Colour state of one output (R125 to R137). -/
structure ColSt where
  /-- matrix computed for a frame and not yet in force (R131, R132) -/
  matrixNext : Option (Nat × List Byte) := none
  matrixLate : Bool := false
  /-- primary temperatures latched at recent slot starts, newest first: (slot start tick, six temperatures) (R132) -/
  temps     : List (Int × List Int) := []
  /-- primaries whose last temperature is held (E083 raised), and whose column stays unit (E084 raised), as bit sets -/
  held      : Nat := 0
  noPartner : Nat := 0
  /-- view → LUT in force on this output (R125) -/
  luts      : List (Nat × List Byte) := []
  /-- views whose accepted LUT takes force at the next composition start -/
  lutPend   : List Nat := []
  /-- headroom limiting entered (E080 raised) -/
  limited   : Bool := false
deriving DecidableEq, Repr

/-- The edges of one exposure frame (R151): open and close offsets from the tick of B_k. -/
structure CamMeas where
  frame : Nat
  open_ : Option Int
  close : Option Int
deriving DecidableEq, Repr

/-- One camera channel (R143 to R155). -/
structure CamSt where
  measuring : Bool := false
  meas      : List CamMeas := []
  /-- next exposure frame to evaluate -/
  next      : Nat := 0
  missRun   : Nat := 0
  guardRun  : Nat := 0
  /-- matched open edges of the group in progress: count and root tick of the first (R153) -/
  groupN    : Nat := 0
  group0    : Int := 0
  groupFrame : Nat := 0
  /-- (open offset, length) of the last 64 matched exposure frames, newest first (R154) -/
  last64    : List (Int × Int) := []
  /-- E089 raised in this episode -/
  periodEp  : Bool := false
deriving DecidableEq, Repr

/-- The blocks of an entry's image on their way to the lanes (R182): which entry of which frame, from which half, and what has been read. -/
structure Fetch where
  frame : Nat
  index : Nat
  entry : Entry
  half  : Bool
  /-- next block to read -/
  next  : Nat
  /-- (block, root tick of arrival, bytes) in the plane FIFO -/
  got   : List (Nat × Nat × List Byte)
  /-- (block, index byte, slot bytes) at a decompress unit (R271) -/
  coded : List (Nat × Nat × List Byte)
deriving DecidableEq, Repr

/-- A plane transfer on the data lanes (R165 to R171, R178). -/
structure Transfer where
  /-- frame index and entry index announced, and the entry shown -/
  frame   : Nat
  index   : Nat
  entry   : Entry
  half    : Bool
  /-- first tick, active lanes as a mask, packets sent -/
  start   : Int
  lanes   : Nat
  packets : Nat
deriving DecidableEq, Repr

/-- One mirror output (R161 to R189). -/
structure MoutSt where
  arrStat   : Bool := false
  /-- tick from which the bring-up limit counts (R176) -/
  bringupAt : Nat := 0
  /-- step 3 was re-entered from READY or RUNNING (R180) -/
  rejoin    : Bool := false
  lastPoll  : Nat := 0
  /-- LOCK bits of the last read -/
  lock      : Nat := 0
  /-- lane → consecutive polls with ERR set -/
  errRuns   : List (Nat × Nat) := []
  /-- lanes to return to the active set at the next transfer start (R179) -/
  restore   : Nat := 0
  vernier   : Nat := 0
  vernierFrom : Option Nat := none
  /-- end of the last timing-lane symbol, tick of the last PARK -/
  lowSince  : Int := 0
  lastPark  : Option Int := none
  transfer  : Option Transfer := none
  /-- reads for this transfer and the ones after it, oldest first -/
  fetches   : List Fetch := []
  /-- end of the last transfer, from which AM stripes of the idle run count (R165) -/
  idleSince : Int := 0
  /-- scrambler state of each data lane (R162) -/
  scramble  : List (Nat × Nat) := []
  /-- signatures of the frame in progress: view → S_v, and images already signed (R184) -/
  sigs      : List (Nat × Nat) := []
  signed    : List Nat := []
  /-- views with CHG set in this frame -/
  chg       : Nat := 0
  /-- view → consecutive frozen frames (R185) -/
  frozen    : List (Nat × Nat) := []
  /-- the frame in progress is not compared (R185): first after B_new or enable, or repeated -/
  skipCmp   : Bool := true
  /-- an ARR_STAT edge asks for a read of the registers (R175) -/
  pollAsked : Bool := false
  /-- ERR readings summed per lane (R458) -/
  errSums   : List (Nat × Nat) := []
deriving DecidableEq, Repr
/-- What a handle index holds beside its objects (R196 to R201). -/
structure BufSt where
  /-- where its content lies, (address, length) -/
  extents : List (Nat × Nat) := []
  /-- generation of the index: of the object in use, or of the next one -/
  gen     : Nat := 1
  /-- frame → tick of the last completed write; none listed for a frame not written since allocation -/
  wrote   : List (Nat × Nat) := []
  /-- byte ranges (first, end) that block transfers have written since allocation, rising and apart (R200) -/
  cover   : List (Nat × Nat) := []
deriving DecidableEq, Repr

/-- A queued flip (Table 07-6), and the composition start at which it was first found due (R204). -/
structure Flip where
  handle : Nat
  fence  : Nat
  ticket : Nat
  flags  : Nat
  target : Nat
  dueAt  : Option Instant := none
deriving DecidableEq, Repr

/-- A playlist entry (Table 07-7). -/
structure PlayEnt where
  handle : Nat
  inn    : Nat
  out    : Nat
  loops  : Nat
  flags  : Nat
deriving DecidableEq, Repr

/-- A held previous source (R205): the output and frame whose composition keeps it, what was shown before, and the flip taken then (none where the layer was disabled). -/
structure Held where
  output : Nat
  frame  : Nat
  handle : Nat
  fence  : Nat
  shown  : Nat
  flip   : Option Flip
deriving DecidableEq, Repr

/-- A layer (R191 to R213). -/
structure LaySt where
  /-- queued flips, head first -/
  queue  : List Flip := []
  held   : List Held := []
  /-- frame of the last take, for the cadence (R204) -/
  kLast  : Option Nat := none
  /-- the latched playlist, its start instant (none: at the next composition start), and whether it has ended (R209, R210) -/
  play   : List PlayEnt := []
  start  : Option Instant := none
  ended  : Bool := false
  /-- B_stale while the layer is STALE (R212), and whether the last frame was late -/
  stale  : Option Instant := none
  late   : Bool := false
  /-- latched RW values of the last composition start, and composition starts since the last flip or change (R213) -/
  latch  : List Nat := []
  quiet  : Nat := 0
deriving DecidableEq, Repr

/-- What a layer contributes to an output in one frame (R193, R207, R213). -/
structure Shot where
  layer  : Nat
  views  : Nat
  z      : Nat
  dstX   : Int
  dstY   : Int
  dstW   : Nat
  dstH   : Nat
  srcX   : Nat
  srcY   : Nat
  srcW   : Nat
  srcH   : Nat
  /-- 0 source pixels, 1 fill, 2 pattern -/
  kind   : Nat
  /-- handle and clip frame shown, and the held previous source -/
  handle : Nat
  frame  : Nat
  prev   : Nat
  format : Nat
  encoding : Nat
  alphaMode : Nat
  filter : Nat
  blend  : Nat
  /-- effective opacity as a fraction -/
  opNum  : Nat
  opDen  : Nat
  fill   : Nat
  pattern : Nat
  changed : Bool
  static : Bool
  /-- FENCE_GEN of the current flip -/
  fence  : Nat
deriving DecidableEq, Repr

/-- The cache surface of a view (R214): its handle index, the layers it stands for, whether it may be read, whether its allocation failed. -/
structure CacheSt where
  view   : Nat
  index  : Nat
  layers : List Nat
  ready  : Bool
  failed : Bool
deriving DecidableEq, Repr

/-- A stream of FRAME tiles of one view (R233): tiles issued, and tiles whose result has reached the slicer. -/
structure StreamSt where
  issued : Nat := 0
  done   : Nat := 0
deriving DecidableEq, Repr

/-- The compositor's side of an output (R193, R214, R230, R233). -/
structure CompSt where
  /-- the frame's layers from the bottom up; the leader's serve its group -/
  scene  : List Shot := []
  /-- the frame's chain, and CSET, chain, mesh and blend map of the frame before (R230) -/
  chain  : List Nat := []
  cset   : Nat := 0
  /-- the correction matrix of the frame before (Table 08-1) -/
  lastMatrix : List Byte := []
  lastMesh : List Byte := []
  lastBlend : List Byte := []
  /-- CHG on every tile of the frame -/
  allChg : Bool := false
  streams : List (Nat × StreamSt) := []
  caches : List CacheSt := []
  /-- WORK tiles of layers: layer × 2²⁰ + y × 2¹⁰ + x → bytes; an empty list for a source region that cannot be read (R237) -/
  work   : List (Nat × List Byte) := []
  /-- layers that have raised E097 in this frame -/
  poisoned : List Nat := []
  /-- the slicer's band: image × 65536 + block → bytes, and how many 8-byte groups are in place (R77) -/
  band   : List (Nat × (Nat × List Byte)) := []
deriving DecidableEq, Repr

/-- A pending compositor commit (R218): acceptance and T_req, the staged values it captured, the outputs that have not yet taken it, the old values those still compose with, and the
admission figures to put back if it is cancelled. -/
structure LayCommit where
  accAt  : Instant
  treq   : Option Nat
  vals   : List (Nat × Nat)
  blobs  : List (Nat × List Byte)
  outs   : List Nat
  taken  : Bool
  oldVals : List (Nat × Nat)
  oldBlobs : List (Nat × List Byte)
  before : List (Nat × Nat)
deriving DecidableEq, Repr

/-- An installed kernel (R247, R248): header values, code and parameters, and where they lie in CODE and PARAM. -/
structure Kernel where
  id      : Nat
  version : Nat
  wcet    : Nat
  inFmt   : Nat
  outFmt  : Nat
  cls     : Nat
  keySlot : Nat
  apron   : Nat
  jobScale : Nat
  codeAt  : Nat
  code    : List Byte
  paramAt : Nat
  param   : List Byte
deriving DecidableEq, Repr

/-- A tile (R227, R228): the header fields that are not computed from others, its place in the queues, its pages and input. -/
structure Tile where
  /-- a number of its own, rising with issue; and its place in the order of R234 -/
  id      : Nat
  order   : Nat
  output  : Nat
  view    : Nat
  chg     : Bool
  poison  : Bool
  redisp  : Bool
  prio    : Nat
  layerMask : Nat
  frame   : Nat
  fence   : Nat
  tx      : Nat
  ty      : Nat
  format  : Nat
  comp    : Nat
  cset    : Nat
  chain   : Nat
  stage   : Nat
  cluster : Nat
  engine  : Nat
  cls     : Nat
  /-- an INGEST tile of a held previous source -/
  prev    : Bool
  /-- PATCH pages: first page, count; and the input bytes there -/
  page    : Nat
  pages   : Nat
  input   : List Byte
deriving DecidableEq, Repr

/-- A tile on an engine: the kernels of its chain, the stage's cycles so far, and whether its final output is ready, with the bytes. -/
structure Run where
  tile    : Tile
  chain   : List Nat
  cycles  : Nat
  out     : Option (List Byte)
  /-- tick of its dispatch -/
  since   : Nat
deriving DecidableEq, Repr

/-- A Carve engine (R242). Lane l of v register r is under 16·r + l; s0 and p0 are not stored. -/
structure Eng where
  v    : List (Nat × Word) := []
  s    : List (Nat × Word) := []
  p    : List (Nat × Half) := []
  pc   : Nat := 0
  sat  : Bool := false
  /-- local memory by address -/
  loc  : List (Nat × Byte) := []
  run  : Option Run := none
deriving DecidableEq, Repr

/-- A cluster (R222, R232): its queued tiles, the ticks of its recent tile faults (R238), the view it is to join once it has finished the tiles it holds (R225), and the (start, end) of
its engines' runs that ended in the last second. -/
structure ClusterSt where
  queue  : List Tile := []
  faults : List Nat := []
  next   : Option Nat := none
  busy   : List (Nat × Nat) := []
deriving DecidableEq, Repr

/-- A Carve job (R256, R257). -/
structure Job where
  kernel : Nat
  prio   : Nat
  src    : Nat
  dst    : Nat
  srcX   : Nat
  srcY   : Nat
  srcW   : Nat
  srcH   : Nat
  /-- tiles issued; tiles written, as (x, y) -/
  issued : Nat
  written : List (Nat × Nat)
  /-- it has failed, and with what status -/
  failed : Option Nat
deriving DecidableEq, Repr

/-- The Carve block (R222 to R261). -/
structure CarveSt where
  kernels  : List Kernel := []
  clusters : List (Nat × ClusterSt) := []
  engines  : List (Nat × Eng) := []
  jobs     : List (Nat × Job) := []
  nextTile : Nat := 0
  /-- tiles that wait for a cluster of their view or for pages -/
  waiting  : List Tile := []
  /-- exact demand in force, cycles per second (R258) -/
  demand   : Nat × Nat := (0, 1)
  /-- results accepted in the frames in production: (class, output, view, frame, TSEQ) (R235) -/
  seen     : List (Nat × Nat × Nat × Nat × Nat) := []
  /-- views that are unserved, with E120 raised (R239) -/
  unserved : List Nat := []
  /-- view → the LUT slot of the newest accepted LUT, and the image in the other slot (R226) -/
  lutSlot  : List (Nat × (Nat × List Byte)) := []
  /-- demand of each view in use at the last admission, in proportion (R225, R258) -/
  demands  : List (Nat × Nat) := []
deriving DecidableEq, Repr

/-- A codec job (R275, R276). -/
structure CodecJob where
  op     : Nat
  mode   : Nat
  format : Nat
  src    : Nat
  dst    : Nat
  first  : Nat
  count  : Nat
  row    : Nat
deriving DecidableEq, Repr

/-- Memory in use (R319): first address, length, class GROOMED, and whether its valid bits are being cleared after a free (R322). -/
structure Alloc where
  addr     : Nat
  len      : Nat
  groomed  : Bool
  clearing : Bool
deriving DecidableEq, Repr

/-- A burst request at a port, in a subchannel queue or on its way back (R288, R291, R295). -/
structure MemReq where
  id    : Nat
  port  : Nat
  write : Bool
  addr  : Nat
  len   : Nat
  data  : List Byte
  /-- it was in profile when it entered its queue -/
  paid  : Bool := false
  /-- tick at which it reached the port, and whether its reader was urgent then -/
  since : Nat
  urgent : Bool := false
  /-- the queued write it waits for (R295) -/
  waits : Option Nat := none
  /-- its row had to be opened for it -/
  opened : Bool := false
deriving DecidableEq, Repr

/-- A port's token bucket, in 1/82,500 B, with the tick it was last filled (R288), the requests that wait at the port (R291), and since when out-of-profile requests wait. -/
structure PortSt where
  tokens  : Nat := 0
  at_     : Nat := 0
  waiting : List MemReq := []
  oop     : Option Nat := none
deriving DecidableEq, Repr

/-- A subchannel: its queued requests, oldest first, and its direction (R291, R293). -/
structure SubSt where
  queue   : List MemReq := []
  writing : Bool := false
deriving DecidableEq, Repr

/-- A rank of a channel (R294, R299 to R301). -/
structure RankSt where
  /-- tick of the next tREFI tick, of the last MR4 read -/
  nextRef : Nat := 0
  lastMr4 : Nat := 0
  /-- a forced refresh is due; a conversion is in progress -/
  forced  : Bool := false
  conv    : Bool := false
  /-- precharge power-down, and the tick of the last request -/
  pd      : Bool := false
  lastReq : Nat := 0
  /-- end of the last refresh at the forced level -/
  forcedEnd : Nat := 0
deriving DecidableEq, Repr

/-- The memory controller's state that no object shows (chapter 10). -/
structure MemSt where
  /-- usable channels (R283) -/
  n      : Nat := 0
  /-- the timing sets as STARTUP left them, the default of `MEM_TSET` -/
  tsetDflt : List Byte := []
  /-- memory in use, rising addresses -/
  allocs : List Alloc := []
  /-- a buffer, plane buffer, cache surface or ring has been allocated since STARTUP began (R286) -/
  ever   : Bool := false
  ports  : List (Nat × PortSt) := []
  subs   : List (Nat × SubSt) := []
  ranks  : List (Nat × RankSt) := []
  /-- open rows: (((channel × 2 + subchannel) × 2 + rank) × 32 + bank group × 4 + bank) → (row, tick of the last request) -/
  rows   : List (Nat × (Nat × Nat)) := []
  /-- reads whose data are on their way back, oldest first -/
  back   : List MemReq := []
  nextId : Nat := 0
  /-- bursts moved in the last second: (tick, channel, bytes), newest first -/
  moved  : List (Nat × Nat × Nat) := []
  /-- timing set in force, 0 NOMINAL, 1 MARGIN (R305) -/
  tset   : Nat := 0
  /-- a change waits since; a change runs since, and its target (R306, R307) -/
  freqReq : Option Nat := none
  freqRun : Option (Nat × Nat × Nat) := none
  /-- end of the last change sequence -/
  freqEnd : Nat := 0
  /-- a clear of the whole valid bitmap runs since (R286, R324) -/
  clearing : Option Nat := none
deriving DecidableEq, Repr

/-- An entry of a correction tracker (Table 11-4). -/
structure TrackEnt where
  addr  : Nat
  count : Nat
  post  : Nat
  state : Nat
  last  : Nat
  /-- tick of the last correction -/
  at_   : Nat
deriving DecidableEq, Repr

/-- A host sweep (R339): the pages still to visit, its start, and the result so far. -/
structure SweepSt where
  pages : List Nat
  since : Nat
  visited : Nat := 0
  repaired : Nat := 0
  corrected : Nat := 0
  poisoned : Nat := 0
  recoded : Nat := 0
  skipped : Nat := 0
deriving DecidableEq, Repr

/-- Stored-data integrity (R314 to R342). A page is named by channel × 2²⁸ + page of the channel; a block and a word by their device address over 64 and over 8. -/
structure IntgSt where
  /-- blocks marked valid -/
  valid  : List (Nat × Bool) := []
  /-- pages in state CURRENT -/
  current : List (Nat × Bool) := []
  /-- page → its 512 PSHARE values, all zero where not listed -/
  pshare : List (Nat × List Nat) := []
  /-- words with POISON = 1 -/
  poison : List (Nat × Bool) := []
  /-- stale trackers: (page, tick of the last port write), oldest first -/
  stale  : List (Nat × Nat) := []
  /-- a tracker was full, so the page-state array is to be scanned (R332), by channel -/
  scan   : List (Nat × Bool) := []
  /-- correction trackers: channel × 256 + entry → entry -/
  track  : List (Nat × TrackEnt) := []
  /-- word addresses whose write-back is queued, oldest first -/
  wbQ    : List Nat := []
  /-- pages to retire: (page, tick from which the copy may be tried, a copy has been abandoned) -/
  retireQ : List (Nat × Nat × Bool) := []
  /-- remap tables: page → spare (R337), and spares handed out per channel -/
  remap  : List (Nat × Nat) := []
  sparesUsed : List (Nat × Nat) := []
  /-- pages for which E167 has been raised -/
  noSpare : List Nat := []
  /-- read-path repairs in progress: page, the read, its corrected and uncorrectable words -/
  repairs : List (Nat × MemReq × List Nat × List Nat) := []
  /-- background round: start tick, last page visited, whether it has visited all, whether it ran over its period -/
  roundAt  : Nat := 0
  roundPos : Option Nat := none
  roundDone : Bool := false
  roundOver : Bool := false
  /-- tick at which STARTUP began -/
  startAt  : Nat := 0
  sweep  : Option SweepSt := none
deriving DecidableEq, Repr

/-- A frame in an egress queue (R348): bytes without VLAN tag, and for a PTP message to correct the tick at which it came in and its port (R353). -/
structure EgFrame where
  queue : Nat
  vid   : Nat
  untag : Bool
  prio  : Nat
  bytes : List Byte
  at_   : Nat
  ptp   : Option (Nat × Nat)
deriving DecidableEq, Repr

/-- An egress port: its queued frames, oldest first, the tick from which its line is free, and the bytes that queues 0 to 5 have sent since they were last all empty. -/
structure NetPort where
  queue  : List EgFrame := []
  freeAt : Nat := 0
  served : List (Nat × Nat) := []
deriving DecidableEq, Repr

/-- A frame being received by a flow (R359 to R362), held by its leader: RTP timestamp, pool buffer (none: dropped), first arrival, studio instant, since when a newer timestamp has arrived; and for
the parts their received samples, (flow, row × 2¹⁶ + column) → components, whether the marker has arrived, and whether a complete frame waits for its write. -/
structure FlowFrame where
  ts      : Nat
  index   : Option Nat
  first   : Nat
  inst    : Instant
  newer   : Option Nat
  samples : List (Nat × (Nat × Nat × Nat))
  markers : List Nat
  /-- the frame breaks the declared sender model -/
  broken  : Bool
deriving DecidableEq, Repr

/-- A sequence number seen or declared lost (R363): first arrival and its leg (2 for lost), arrivals on the two legs. -/
structure SeqSeen where
  seq   : Nat
  first : Nat
  leg   : Nat
  a     : Option Nat
  b     : Option Nat
deriving DecidableEq, Repr

/-- A media flow (R354 to R365). -/
structure FlowSt where
  frames  : List FlowFrame := []
  /-- newest timestamp seen -/
  newest  : Option Nat := none
  /-- numbers up to this one are settled; those above that are known -/
  floor   : Option Nat := none
  seen    : List SeqSeen := []
  /-- last packet of each leg, and legs that are down as a bit set -/
  last    : List (Nat × Nat) := []
  down    : Nat := 0
  /-- tick at which it was enabled; legs whose report is still to be repeated; pool handles it refers to -/
  since   : Nat := 0
  repeats : List Nat := []
  holds   : List Nat := []
  /-- no frame has completed since it was enabled -/
  fresh   : Bool := true
  /-- sum in ticks and count of measured skews -/
  skewSum : Int := 0
  skewN   : Nat := 0
  /-- episodes: 0 discarded, 1 no buffer, 2 incomplete, 3 flip refused, 4 skew, 5 model -/
  episodes : Nat := 0
deriving DecidableEq, Repr

/-- The network (R343 to R370). -/
structure NetSt where
  ports  : List (Nat × NetPort) := []
  /-- MAC table: VID × 2⁴⁸ + address → (port, tick of the last frame) -/
  macs   : List (Nat × (Nat × Nat)) := []
  /-- snooped memberships: (port, group of 4 or 16 bytes, tick of the last report) -/
  groups : List (Nat × List Byte × Nat) := []
  /-- residence of two-step Sync messages on an egress port until their Follow_Up: (port, identity and sequence, units of correctionField) -/
  tc     : List (Nat × List Byte × Int) := []
  flows  : List (Nat × FlowSt) := []
  /-- a wake frame has matched in standby (R367) -/
  wake   : Bool := false
deriving DecidableEq, Repr

/-- An EVENT sent and not yet acknowledged (R390): device SEQ, tick of the last sending, sendings so far, subscription, message. -/
structure SentEvent where
  seq   : Nat
  at_   : Nat
  tries : Nat
  sub   : Nat
  msg   : Msg
deriving DecidableEq, Repr

/-- An open Resil session (R376 to R378), keyed by its number. -/
structure Session where
  principal : Nat
  level     : Nat
  src       : Nat
  port      : Nat
  /-- a hierarchy session (R404) -/
  hier      : Bool
  key       : List Byte
  /-- h of R378, and the cached responses of the last 64 requests, newest first -/
  high      : Nat
  cache     : List (Nat × Msg)
  /-- SEQs answered BUSY and not yet executed -/
  busied    : List Nat
  /-- SEQs carried to a worker and not yet answered (R408) -/
  inflight  : List Nat
  requests  : Nat
  expired   : Bool
  lastAuth  : Nat
  /-- episode flags of E203 and E208 -/
  badTag    : Bool
  stale     : Bool
  /-- the last device SEQ, and the EVENTs not acknowledged -/
  devSeq    : Nat
  sent      : List SentEvent
  /-- HIER_NODE_SEL (R425) -/
  nodeSel   : Nat
  /-- FENCEs that wait, each with the SEQs carried to a worker whose answers it waits for (R384) -/
  fences    : List (Req × List Nat)
deriving DecidableEq, Repr

/-- A handshake answered with CHALLENGE and not yet with PROVE (R376), keyed by its session number. -/
structure Attempt where
  principal : Nat
  level     : Nat
  src       : Nat
  port      : Nat
  /-- T, the digest of the two payloads, and the session key -/
  digest    : List Byte
  key       : List Byte
  /-- the principal's public key when the handshake began (R396) -/
  pub       : List Byte
  since     : Nat
deriving DecidableEq, Repr

/-- An open block transfer (R385 to R387), keyed by its TRANSFER number. -/
structure Xfer where
  session : Nat
  ref     : Nat
  toHost  : Bool
  block   : Nat
  handle  : Nat
  off     : Nat
  len     : Nat
  /-- blocks held by the receiver, as a bit set, and CUM -/
  held    : Nat
  cum     : Nat
  /-- new blocks since the last BLOCK_ACK, and the tick of the last of them -/
  fresh   : Nat
  lastNew : Nat
  /-- the tick of the last block (R387) -/
  lastBlock : Nat
  /-- bytes received for an object that is not buffer-backed, or the value that is sent -/
  data    : List Byte
  /-- blocks sent by the device: (block, tick of the last sending); and those acknowledged are in `held` -/
  sentAt  : List (Nat × Nat)
  /-- every block is held, and its checks have still to end (R226, R248, R457, R525) -/
  whole   : Bool
deriving DecidableEq, Repr

/-- A subscription (R388 to R390), keyed by its SUB_ID. -/
structure Sub where
  session   : Nat
  /-- an object subscription -/
  object    : Bool
  periodic  : Bool
  interval  : Nat
  /-- the 32 bytes of TARGET -/
  target    : List Byte
  /-- tick of the last sending (none: nothing sent yet), and the value then sent -/
  lastAt    : Option Nat
  lastVal   : List Byte
  /-- records that wait to be sent, each 32 bytes with the tick it entered the ring -/
  records   : List (Nat × List Byte)
  suspended : Bool
  /-- after a resume, an object subscription owes the current value -/
  owed      : Bool
deriving DecidableEq, Repr

/-- The Resil endpoint (R371 to R397). -/
structure ResilSt where
  sessions : List (Nat × Session) := []
  attempts : List (Nat × Attempt) := []
  xfers    : List (Nat × Xfer) := []
  /-- ended transfers: transfer → session, blocks held, final status -/
  ended    : List (Nat × (Nat × Nat × Nat)) := []
  subs     : List (Nat × Sub) := []
  /-- an episode of BUSY runs (R383) -/
  busyEp   : Bool := false
  /-- the management processor is restarting (R383, R528) -/
  procDown : Bool := false
  /-- the port served before a write of DICT_UDP_PORT, until the switch (R396) -/
  oldPort  : Option Nat := none
  /-- tick of that write's response -/
  portAt   : Nat := 0
deriving DecidableEq, Repr

/-- A request that the manager has placed on a worker's command ring (R407, R408). -/
structure ProxyCmd where
  hostSession : Nat
  hostSeq     : Nat
  op          : Nat
  payload     : List Byte
  /-- where the request came from: port, address -/
  port        : Nat
  src         : Nat
  /-- SEQ on the hierarchy session, entries it takes on the ring, tick of sending -/
  seq         : Nat
  entries     : Nat
  sentAt      : Nat
deriving DecidableEq, Repr

/-- What the manager holds of one node (R403 to R408, R420), keyed by node number. -/
structure HierNode where
  /-- 0 FREE, 1 RESERVED, 2 JOINING, 3 JOINED, 4 LOST, 5 CONFLICT -/
  state   : Nat := 0
  status  : Nat := 0
  serial  : Nat := 0
  path    : Nat := 0
  slot    : Nat := 0
  segment : Nat := 0
  fw      : Nat := 0
  /-- STIME96 code of the last heartbeat answer -/
  lastSeen : Nat := 0
  /-- producer and consumer positions of the four rings -/
  prod    : List Nat := [0, 0, 0, 0]
  cons    : List Nat := [0, 0, 0, 0]
  /-- custody: handles and lengths of the configuration image and the calibration snapshot (R420) -/
  config  : Nat := 0
  configLen : Nat := 0
  cal     : Nat := 0
  calLen  : Nat := 0
  /-- serial the calibration snapshot came from -/
  calSerial : Nat := 0
  /-- the hierarchy session: number, key, last SEQ used -/
  sess    : Nat := 0
  key     : List Byte := []
  seq     : Nat := 0
  cmds    : List ProxyCmd := []
  /-- SEQs of the heartbeat reads sent since the last answered one, newest first -/
  beats   : List Nat := []
  /-- round trips of the last 100 ms: (tick of the answer, ticks) -/
  trips   : List (Nat × Nat) := []
  /-- round in which its device was last placed or enumerated -/
  tried   : Nat := 0
  /-- serial that may be adopted, and the replacement that waits (R422) -/
  adopt   : Nat := 0
  repl    : Nat := 0
  /-- left out of system flips (R412); last frame it reported as a segment of one (R419); it drives STB_CLK, as far as the manager knows -/
  stbOut  : Bool := false
  alone   : Option Nat := none
  leader  : Bool := false
  lostAt  : Nat := 0
deriving DecidableEq, Repr

/-- An ANNOUNCE of the present round (R402): the smallest PATH answered by a device. -/
structure Announced where
  serial : Nat
  path   : Nat
  slot   : Nat
  state  : Nat
  node   : Nat
  fw     : Nat
deriving DecidableEq, Repr

/-- The hierarchy and the strobe bus (R398 to R427). -/
structure HierSt where
  /-- the manager's round number, and the answers of the round -/
  round    : Nat := 0
  answers  : List Announced := []
  /-- manager serial → last round relayed (R401) -/
  relayed  : List (Nat × Nat) := []
  nodes    : List (Nat × HierNode) := []
  /-- the serial of the worker's own manager, once it has one -/
  manager  : Option Nat := none
  /-- where the manager's ring arena lies (R405) -/
  arena    : List (Nat × Nat) := []
  /-- ticks of the manager's last DISCOVER and heartbeat -/
  lastDiscover : Option Nat := none
  lastBeat : Option Nat := none
  /-- SLOT_ID straps as sampled at the cold start (R400) -/
  slotId   : Nat := 0
  /-- studio tick from which the device drives STB_CLK (R413, R417) -/
  stbFrom  : Option Int := none
  /-- received strobe edges: cycle index and tick of the last (R413) -/
  cycle    : Int := 0
  lastEdge : Option Nat := none
  /-- own NRDY driver asserted, and the bus as last sampled -/
  nrdy     : Bool := false
  bus      : Bool := false
  /-- samples in a row outside every window: asserted, released (R419) -/
  stuckRun : Nat := 0
  freeRun  : Nat := 0
  /-- cycles of a probe still to drive (R412) -/
  probe    : Nat := 0
  /-- frame for which the device has been ready and pinned its heads (R415) -/
  pinned   : Option Nat := none
  /-- frame for which the segment has consensus, and frame whose flip is decided -/
  consensus : Option Nat := none
  decided  : Option Nat := none
  /-- frame whose FLIP the device holds (R416) -/
  flipFor  : Option Nat := none
  holdEp   : Bool := false
  /-- manager: (frame, segment, state) reported, and the last frame FLIP was sent for -/
  reports  : List (Nat × Nat × Nat) := []
  flipSent : Option Nat := none
  /-- frames already found split -/
  splits   : List Nat := []
deriving DecidableEq, Repr

/-- What a loop samples at a boundary (R429, R432): measurement, feed-forward, scheduling variable, target, applied value of its actuator and its own contribution in force. -/
structure LoopSample where
  y : Option Int
  v : Option Int
  x : Option Int
  target : Int
  a : Int
  c : Int
  /-- it computes by hand-over, and starts a ramp -/
  hand : Bool
  ramp : Bool
deriving DecidableEq, Repr

/-- The shadow state of one loop after its computation (R442). -/
structure LoopNext where
  u      : Int
  i      : Int
  d      : Int
  y      : Int
  r      : Int
  ramp   : Option Int
  region : Nat
  flags  : Nat
deriving DecidableEq, Repr

/-- What a loop holds beside its objects (R432 to R445). -/
structure LoopSt where
  yPrev   : Int := 0
  /-- the ramp value, while a ramp runs -/
  ramp    : Option Int := none
  /-- causes of R439 and R435 that wait for the next boundary -/
  hand    : Bool := false
  rampReq : Bool := false
  /-- a contribution is in force: the loop's own, last latched -/
  offers  : Bool := false
  own     : Int := 0
  missRun : Nat := 0
  /-- in SAFE by LOOP_MISS_LIMIT (R444) -/
  safeMiss : Bool := false
deriving DecidableEq, Repr

/-- A loop set (R442, R445). -/
structure LoopSetSt where
  /-- root tick of the boundary whose computation runs or is done -/
  boundary : Option Nat := none
  samples  : List (Nat × LoopSample) := []
  /-- the shadow copy, once the computation has completed -/
  shadow   : Option (List (Nat × LoopNext)) := none
  /-- root tick of the last boundary, for R137 -/
  lastAt   : Nat := 0
  overrun  : Bool := false
  /-- cleared from SAFE, and SAFE_OUT still offered up to the next latch (R445) -/
  clearing : Bool := false
deriving DecidableEq, Repr

/-- A calibration run (R450 to R455, R460): identifier, instance in hand, the instances left, the tick it started. -/
structure CalRunSt where
  id    : Nat
  inst  : Nat
  /-- 0xFF or the instance requested -/
  asked : Nat
  left  : List Nat
  since : Nat
  /-- BANK_EFF: point in hand, tick its phase started, loop boundaries since the move ended, and the sums over the averaging periods -/
  point   : Nat := 0
  phaseAt : Nat := 0
  skip    : Nat := 0
  sumR    : Int := 0
  nR      : Nat := 0
  sumA    : Nat := 0
  nA      : Nat := 0
  /-- the points gathered: sum and count of readings, sum of codes -/
  means   : List (Int × Nat × Nat) := []
  /-- the status that ends the run early (0 none) -/
  ending  : Nat := 0
deriving DecidableEq, Repr

/-- Calibration (R449 to R468). -/
structure CalSt where
  runs    : List CalRunSt := []
  /-- coefficients in force: identifier × 256 + instance → bytes; and the end of their run -/
  coefs   : List (Nat × List Byte) := []
  ends    : List (Nat × Nat) := []
  /-- coefficients that take effect at the next slot start (R451, R457) -/
  waiting : List (Nat × List Byte) := []
  /-- AIN → tick at which its last ADC run ended (R453) -/
  adcEnd  : List (Nat × Nat) := []
  /-- runs of STARTUP still to start, (identifier, instance) (R454) -/
  startQ  : List (Nat × Nat) := []
  /-- last automatic run and last ageing period, root ticks (R454, R458) -/
  autoAt  : Nat := 0
  ageAt   : Nat := 0
  /-- the last ROOTPLL run failed; retried every second (R451) -/
  pllFailed : Option Nat := none
deriving DecidableEq, Repr

/-- A Patrol channel's filter (R477): the last samples, newest first; the filtered value; the candidate of DEBOUNCE and its run; the values of the last samples, newest first (Table 17-6, WINDOW). -/
structure ChanSt where
  samples : List Int := []
  y       : Int := 0
  cand    : Int := 0
  run     : Nat := 0
  hist    : List Int := []
  /-- tick of the last sample -/
  at_     : Option Nat := none
deriving DecidableEq, Repr

/-- A Patrol rule (R478): evaluations in a row with its condition true, or false while asserted; and whether it is asserted. -/
structure RuleSt where
  run      : Nat := 0
  asserted : Bool := false
deriving DecidableEq, Repr

/-- Patrol, standby and power (R469 to R486). -/
structure PowerSt where
  /-- VAUX_WARN is presented -/
  warn     : Bool := false
  /-- groups whose enable is asserted, and those that are good, as bit sets -/
  groups   : Nat := 0
  good     : Nat := 0
  /-- the group a start sequence waits for, since when -/
  step     : Option Nat := none
  stepAt   : Nat := 0
  /-- failed attempts of the cold start, and when it tries again; after three it stays off -/
  tries    : Nat := 0
  retryAt  : Option Nat := none
  /-- the state held at entry, and the end of the entry (R481, R482) -/
  held     : Nat := 0
  entryEnd : Nat := 0
  /-- a standby has been decided and not begun; a wake has been decided, for this tick -/
  standbyReq : Bool := false
  wakeReq  : Option Nat := none
  /-- decision tick of the warm wake in progress; its domains run again -/
  wakeAt   : Option Nat := none
  awake    : Bool := false
  chans    : List (Nat × ChanSt) := []
  rules    : List (Nat × RuleSt) := []
  lastEval : Option Nat := none
  /-- a wake frame has matched since the last evaluation -/
  netwake  : Bool := false
  /-- rails that present RAIL_FAULT, as a bit set -/
  faults   : Nat := 0
  /-- last VOUT_COMMAND of VDD_CORE in mV (0 none) and its tick -/
  vcmd     : Nat := 0
  vcmdAt   : Nat := 0
  lastPoll : Option Nat := none
deriving DecidableEq, Repr

/-- Firmware, identity and attestation (R511 to R530): the boot flash, the OTP steps, and what no object shows. -/
structure SecSt where
  /-- boot flash: record copies, bundle slots, key area, configuration copies with their generations -/
  records  : List (List Byte) := [Config.flashRecord 0, Config.flashRecord 1]
  slots    : List (List Byte) := [Config.flashSlot 0, Config.flashSlot 1]
  keys     : List (List Byte) := [Config.flashKey 1, Config.flashKey 2, Config.flashKey 3, Config.flashKey 4]
  configs  : List (Nat × List Byte) := [(Config.flashConfigGen 0, Config.flashConfig 0), (Config.flashConfigGen 1, Config.flashConfig 1)]
  /-- OTP: rollback steps, key digests (empty: none), revocation bits -/
  rollback : Nat := Config.otpRollback
  digests  : List (List Byte) := [Config.otpKey 1, Config.otpKey 2, Config.otpKey 3, Config.otpKey 4]
  revoked  : Nat := Config.otpRevoked
  /-- RESCUE (R518) -/
  rescue   : Bool := false
  /-- an entry of the measurement log has been dropped since BOOT (R519) -/
  truncated : Bool := false
  /-- the TAP has been unlocked since BOOT (R524); the challenge that may be answered, with its tick; challenges given; the TAP's instruction -/
  debugged : Bool := false
  challenge : Option (List Byte × Nat) := none
  counter  : Nat := 0
  tapInstr : Nat := 0
  /-- nonce of the quote being signed (R520) -/
  quote    : Option (List Byte) := none
  /-- activation (R526): the slot it goes to and the slot it came from, outputs that have not swapped Slalom as a bit set -/
  target   : Nat := 0
  old      : Nat := 0
  swapLeft : Nat := 0
  /-- the restart in progress loads new firmware; tick of its start, tick from which it is confirmed, a revert is due -/
  newCode  : Bool := false
  started  : Nat := 0
  revertDue : Bool := false
  /-- ticks of the restarts of the last 60 s (R528) -/
  restarts : List Nat := []
deriving DecidableEq, Repr



/-- The whole state of the device. Objects of the dictionary are in `objs` (numbers, keyed by reference) and `blobs` (byte strings); a key
that is not listed reads the default of its table. -/
structure State where
  /-- commands waiting, first in first out -/
  pending : List Instr := []
  /-- root ticks since power-on (R8, R22) -/
  tick    : Nat := 0
  /-- index of the next free value (Config.freeValue): the model's own field -/
  free    : Nat := 0
  objs    : List (Nat × Nat) := []
  blobs   : List (Nat × List Byte) := []
  /-- DRAM, device physical addresses; an unlisted byte reads 0 (R322) -/
  mem     : List Host.Cell := []
  /-- what the last command emitted -/
  tx      : List Tx := []
  ev      : EvSt := {}
  time    : TimeSt := {}
  tgs     : List (Nat × TgSt) := []
  slms    : List (Nat × SlmSt) := []
  banks   : List (Nat × BankSt) := []
  wires   : List (Nat × WireSt) := []
  intlk   : IntlkSt := {}
  cols    : List (Nat × ColSt) := []
  /-- accepted view LUTs (R125): view → image -/
  lutAcc  : List (Nat × List Byte) := []
  cams    : List (Nat × CamSt) := []
  mouts   : List (Nat × MoutSt) := []
  /-- handle indices -/
  bufs    : List (Nat × BufSt) := []
  lays    : List (Nat × LaySt) := []
  comps   : List (Nat × CompSt) := []
  layCommit : Option LayCommit := none
  carve   : CarveSt := {}
  codecJobs : List (Nat × CodecJob) := []
  /-- blocks through the inline units in the last second: (tick, through a compress unit), oldest first -/
  codecRecent : List (Nat × Bool) := []
  memc    : MemSt := {}
  intg    : IntgSt := {}
  net     : NetSt := {}
  /-- port → frames of the device's own that it has sent, beside those the switch forwards (`NET_PORT_TX_FRAMES`) -/
  sent    : List (Nat × Nat) := []
  resil   : ResilSt := {}
  hier    : HierSt := {}
  loops   : List (Nat × LoopSt) := []
  loopSets : List (Nat × LoopSetSt) := []
  cal     : CalSt := {}
  power   : PowerSt := {}
  sec     : SecSt := {}
deriving DecidableEq, Repr

/-- The device right after power-on: state COLD, every object at its default, nothing in memory, no command waiting. -/
def State.reset : State := {}

end Sys2Proof.Machine
end

