-- ==== Sys2Proof/Machine/Status.lean ====
section
/-! DEFINITION. The status codes of responses (Table 13-6 and the chapters that R394 names). -/


namespace Sys2Proof.Machine.St

abbrev ok : Nat := 0x0000
abbrev freeDeferred : Nat := 0x0001
abbrev notActive : Nat := 0x0002
abbrev badMessage : Nat := 0x0101
abbrev badOpcode : Nat := 0x0102
abbrev tooLong : Nat := 0x0103
abbrev staleSeq : Nat := 0x0104
abbrev sessionExpired : Nat := 0x0105
abbrev noRoute : Nat := 0x0106
abbrev busy : Nat := 0x0107
abbrev aborted : Nat := 0x0108
abbrev noObject : Nat := 0x0201
abbrev readOnly : Nat := 0x0202
abbrev writeOnly : Nat := 0x0203
abbrev accessLevel : Nat := 0x0204
abbrev notIdle : Nat := 0x0205
abbrev badType : Nat := 0x0206
abbrev badTime : Nat := 0x0207
abbrev badValue : Nat := 0x0301
abbrev badSize : Nat := 0x0302
abbrev badFormat : Nat := 0x0303
abbrev badTable : Nat := 0x0304
abbrev badImage : Nat := 0x0305
abbrev badHandle : Nat := 0x0306
abbrev staleHandle : Nat := 0x0307
abbrev playlistBad : Nat := 0x0308
abbrev decode : Nat := 0x0309
abbrev poisoned : Nat := 0x030A
abbrev commitPending : Nat := 0x0401
abbrev notReady : Nat := 0x0402
abbrev interlocked : Nat := 0x0403
abbrev bufferWriting : Nat := 0x0404
abbrev bufferRetiring : Nat := 0x0405
abbrev bufferInUse : Nat := 0x0406
abbrev layerOff : Nat := 0x0407
abbrev queueFull : Nat := 0x0408
abbrev flipMismatch : Nat := 0x0409
abbrev creditInUse : Nat := 0x040A
abbrev kernelExists : Nat := 0x040B
abbrev kernelInUse : Nat := 0x040C
abbrev noMemory : Nat := 0x0501
abbrev noHandle : Nat := 0x0502
abbrev noSlot : Nat := 0x0503
abbrev scalers : Nat := 0x0504
abbrev capacity : Nat := 0x0505
abbrev planInfeasible : Nat := 0x0601
abbrev windowMin : Nat := 0x0602
abbrev planeRate : Nat := 0x0603
abbrev levelFloor : Nat := 0x0604
abbrev planTooLarge : Nat := 0x0605
abbrev bandwidth : Nat := 0x0606
abbrev compute : Nat := 0x0607
abbrev cameraOutput : Nat := 0x0608
abbrev cameraWindow : Nat := 0x0609
abbrev viewPlacement : Nat := 0x060A
abbrev tileConfig : Nat := 0x060B
abbrev tileMember : Nat := 0x060C
abbrev layerBinding : Nat := 0x060D
abbrev groupSpan : Nat := 0x060E
abbrev scaleRange : Nat := 0x060F
abbrev warpRange : Nat := 0x0610
abbrev chainBad : Nat := 0x0611
abbrev flowConfig : Nat := 0x0612
abbrev flowRate : Nat := 0x0613
abbrev flowBinding : Nat := 0x0614
abbrev lwTiming : Nat := 0x0615
abbrev lwLate : Nat := 0x0616
abbrev noKey : Nat := 0x0701
abbrev signature : Nat := 0x0702
abbrev nodeLost : Nat := 0x0801
abbrev role : Nat := 0x0802
abbrev positionConflict : Nat := 0x0803
abbrev sysTiming : Nat := 0x0804
abbrev loopConfig : Nat := 0x0901
abbrev calBusy : Nat := 0x0A01
abbrev calState : Nat := 0x0A02
abbrev calRepeat : Nat := 0x0A03
abbrev calTimeout : Nat := 0x0A04
abbrev snapshotSerial : Nat := 0x0A05
abbrev snapshotDigest : Nat := 0x0A06
abbrev calSourceInUse : Nat := 0x0A07
abbrev headroom : Nat := 0x0A08
abbrev calInterrupted : Nat := 0x0A09
abbrev stateRequest : Nat := 0x0B01
abbrev recoveryCause : Nat := 0x0B02
abbrev wakeTime : Nat := 0x0B03
abbrev ruleBad : Nat := 0x0B04
abbrev logRange : Nat := 0x0C01
abbrev rollback : Nat := 0x0D01
abbrev rollbackSlot : Nat := 0x0D02
abbrev keyUsed : Nat := 0x0D03
abbrev bundleIncomplete : Nat := 0x0D04
abbrev notStaged : Nat := 0x0D05
abbrev fwState : Nat := 0x0D06
abbrev reserved : Nat := 0x2D00

end Sys2Proof.Machine.St
end

