-- ==== Sys2Proof/Machine/Store.lean ====
section
/-! DEFINITION. Sparse tables as plain data: a list of (key, value) pairs with strictly rising keys and no pair whose
value is what an unlisted key reads as, so that equal tables are equal lists. Every store of State (objects, byte strings, memory,
instances of a unit) is read and written through these operations. -/

namespace Sys2Proof.Machine

variable {α : Type}

/-- The value listed at key `k`. -/
def kvFind : List (Nat × α) → Nat → Option α
  | [], _ => none
  | (j, v) :: m, k => if j = k then some v else kvFind m k

/-- The table without key `k`. -/
def kvErase : List (Nat × α) → Nat → List (Nat × α)
  | [], _ => []
  | (j, v) :: m, k => if j = k then kvErase m k else (j, v) :: kvErase m k

/-- The table with `v` at key `k`, keys rising. -/
def kvInsert : List (Nat × α) → Nat → α → List (Nat × α)
  | [], k, v => [(k, v)]
  | (j, w) :: m, k, v =>
    if k < j then (k, v) :: (j, w) :: m
    else if j = k then (k, v) :: m
    else (j, w) :: kvInsert m k v

/-- What key `k` reads: its listed value, or `d k`. -/
def kvGet (d : Nat → α) (m : List (Nat × α)) (k : Nat) : α := (kvFind m k).getD (d k)

/-- The table after writing `v` at key `k`. Writing what an unlisted key reads as removes the entry. -/
def kvPut [DecidableEq α] (d : Nat → α) (m : List (Nat × α)) (k : Nat) (v : α) : List (Nat × α) :=
  if v = d k then kvErase m k else kvInsert m k v

/-- The table without the keys that satisfy `q`. -/
def kvDrop (q : Nat → Bool) (m : List (Nat × α)) : List (Nat × α) := m.filter fun e => !q e.1

/-- The canonical form: keys strictly rising, every listed value different from the default of its key. -/
def kvWf [DecidableEq α] (d : Nat → α) : List (Nat × α) → Bool
  | [] => true
  | [(k, v)] => decide (v ≠ d k)
  | (k, v) :: (j, w) :: m => decide (v ≠ d k) && decide (k < j) && kvWf d ((j, w) :: m)

end Sys2Proof.Machine
end

