-- ==== Sys2Proof/Machine/Ops.lean ====
section
/-! DEFINITION. The operations over State that every chapter shares: the clock, objects and byte strings, DRAM bytes, free values,
counters that saturate (R503, R504), and the raising of an event (R494, R496). -/

namespace Sys2Proof.Machine

/-! ### The clock -/

/-- Root ticks in one second at the nominal rate (R46). -/
def ticksPerSec : Nat := 10312500000

/-- The state when the clock stands at tick `t`, never earlier than it stands, with the last command's emissions gone. -/
def State.at (s : State) (t : Nat) : State := { s with tick := max s.tick t, tx := [] }

/-- The ports by which the device's own frame leaves; what the switch forwards is counted there. -/
def Tx.ports : Tx → List Nat
  | .resil p _ _ => [p]
  | .ptp p _ _ _ => [p]
  | .arp p _ _ _ => [p]
  | .neighbour p _ _ _ => [p]
  | .echo p _ _ _ _ => [p]
  | .report p _ _ _ _ _ => [p]
  | .hier p _ _ => if p = 4 then [0, 1, 2, 3] else [p]
  | _ => []

/-- The state after emitting `x`. -/
def State.emit (s : State) (x : Tx) : State :=
  { s with tx := s.tx ++ [x], sent := x.ports.foldl (fun m p => kvPut (fun _ => 0) m p (kvGet (fun _ => 0) m p + 1)) s.sent }

/-- The studio tick count that root tick `t` names (R559). -/
def State.studioAt (s : State) (t : Nat) : Int := (t : Int) + s.time.offset

/-- The studio tick count now. -/
def State.studio (s : State) : Int := s.studioAt s.tick

/-- Units of 2⁻¹⁶ ns that `n` ticks make, rounded to the nearest, halves up (R12): a tick is 16/165 ns. -/
def stimeUnits (num : Int) (den : Nat) : Int := roundDiv (num * 1048576) (165 * den)

/-- The STIME96 code of an instant (Table 00-4). A negative instant has no code and reads 0. -/
def Instant.stime (i : Instant) : Nat :=
  let u := (stimeUnits i.num i.den).toNat
  let sec := u / 65536000000000
  let ns := u % 65536000000000 / 65536
  sec % 2 ^ 48 * 2 ^ 48 + ns * 65536 + u % 65536

/-- The STIME96 code of a studio tick count. -/
def stimeOf (n : Int) : Nat := (Instant.mk n 1).stime

/-- Whether an STIME96 code is well formed (R11). -/
def stimeOk (v : Nat) : Bool := decide (v / 65536 % 2 ^ 32 ≤ 999999999)

/-- The instant that a well-formed STIME96 code names: units of 2⁻¹⁶ ns are 165/1048576 ticks. -/
def stimeInstant (v : Nat) : Instant :=
  ⟨((v / 2 ^ 48 * 1000000000 + v / 65536 % 2 ^ 32) * 65536 + v % 65536 : Nat) * 165, 1048576⟩

/-- Order of instants. -/
def Instant.le (a b : Instant) : Bool := decide (a.num * b.den ≤ b.num * a.den)
def Instant.lt (a b : Instant) : Bool := decide (a.num * b.den < b.num * a.den)
def Instant.max (a b : Instant) : Instant := if a.lt b then b else a

/-- The instant `n` ticks later. -/
def Instant.plus (a : Instant) (n : Int) : Instant := ⟨a.num + n * a.den, a.den⟩

/-- The instant a fraction of a tick count later. -/
def Instant.plusFrac (a : Instant) (num : Int) (den : Nat) : Instant := ⟨a.num * den + num * a.den, a.den * den⟩

/-- The instant of a studio tick. -/
def tickInstant (n : Int) : Instant := ⟨n, 1⟩

/-- The studio tick nearest to an instant, halves to the later tick (R46). -/
def Instant.place (a : Instant) : Int := roundDiv a.num a.den

/-- The root tick on which an instant falls. -/
def State.rootTick (s : State) (a : Instant) : Int := a.place - s.time.offset

/-- The instant has come: its tick is not after now. -/
def State.reached (s : State) (a : Instant) : Bool := decide (s.rootTick a ≤ s.tick)

/-- Ticks in `n` nanoseconds, rounded up: a nanosecond is 165/16 ticks. -/
def nsTicks (n : Nat) : Nat := ceilDiv (n * 165) 16
/-- Ticks in `n` microseconds, milliseconds, seconds. -/
def usTicks (n : Nat) : Nat := ceilDiv (n * 20625) 2
def msTicks (n : Nat) : Nat := n * 10312500
def secTicks (n : Nat) : Nat := n * ticksPerSec

/-! ### Objects -/

/-- The number an object holds. -/
def State.obj (s : State) (ref : Nat) : Nat := kvGet numDefault s.objs ref

/-- The state with number `v` in an object. -/
def State.setObj (s : State) (ref v : Nat) : State := { s with objs := kvPut numDefault s.objs ref v }

/-- An I32 object as an integer. -/
def State.objI (s : State) (ref : Nat) : Int := toI32 (s.obj ref)

/-- A BOOL object. -/
def State.objB (s : State) (ref : Nat) : Bool := s.obj ref != 0

/-- The state with an I32 object at `i`, held to the I32 range. -/
def State.setObjI (s : State) (ref : Nat) (i : Int) : State := s.setObj ref (satI32 i)

/-- The bytes an object holds. -/
def State.blob (s : State) (ref : Nat) : List Byte := kvGet blobDefault s.blobs ref

/-- The state with bytes `l` in an object. -/
def State.setBlob (s : State) (ref : Nat) (l : List Byte) : State := { s with blobs := kvPut blobDefault s.blobs ref l }

/-- Numerator and denominator of a RATIO value (R15). -/
def ratioNum (v : Nat) : Nat := v / 4294967296
def ratioDen (v : Nat) : Nat := v % 4294967296

/-- Write several numbers. -/
def State.setObjs (s : State) (l : List (Nat × Nat)) : State := l.foldl (fun s p => s.setObj p.1 p.2) s

/-! ### Memory bytes -/

/-- The byte at a device physical address. -/
def State.byte (s : State) (a : Nat) : Byte := kvGet (fun _ => 0) s.mem a

/-- The state with byte `b` at address `a`. -/
def State.setByte (s : State) (a : Nat) (b : Byte) : State := { s with mem := kvPut (fun _ => 0) s.mem a b }

/-- `n` bytes from address `a`. -/
def State.bytes (s : State) (a : Nat) : Nat → List Byte
  | 0 => []
  | n + 1 => s.byte a :: s.bytes (a + 1) n

/-- The state with the bytes `l` from address `a`. -/
def State.setBytes (s : State) (a : Nat) : List Byte → State
  | [] => s
  | b :: l => (s.setByte a b).setBytes (a + 1) l

/-! ### Free values -/

/-- The state after one free value has been taken. The value is `Config.freeValue s.free`. -/
def State.took (s : State) : State := { s with free := s.free + 1 }

/-- The free value the next take yields. -/
def State.fresh (s : State) : Nat := Config.freeValue s.free

/-- A quotient whose rounding the spec leaves open: exact where it divides, else one of the two neighbours, by a free value. -/
def State.openRound (s : State) (num : Int) (den : Nat) : Int × State :=
  if num % (den : Int) = 0 then (num / (den : Int), s) else (num / (den : Int) + (s.fresh % 2 : Nat), s.took)

/-- The nearest integer to a quotient; a tie goes to either neighbour, by a free value, where the spec does not say which. -/
def State.openNearest (s : State) (num : Int) (den : Nat) : Int × State :=
  if (2 * num) % (2 * (den : Int)) = (den : Int) then (num / (den : Int) + (s.fresh % 2 : Nat), s.took) else (roundDiv num den, s)

/-! ### Events (R494 to R496) -/

/-- The size in bytes of a detail field by its type code (R496). -/
def fieldSize (code : Nat) : Nat := [0, 1, 2, 4, 8, 4, 4, 12].getD code 0

/-- Consecutive detail layouts from event `e` on: `(first event, layouts)`. Type codes of R496; an event not listed has no detail. -/
def eventLayouts : List (Nat × List Nat) := [
  -- chapter 06: output; lanes
  (20, [1]), (21, [1]), (22, [1]), (23, [1, 1]), (24, [1, 1]), (25, [1]), (26, [1]), (27, [1]),
  -- chapter 02: output
  (40, [1]), (41, [1]), (42, [1]), (43, [1]), (44, [1]),
  -- chapter 03: bank or wire
  (50, []), (51, []), (52, [1]), (53, [1]), (60, [1]), (61, [1]), (62, [1]), (63, [1]),
  -- chapter 04, 05
  (80, [1]), (81, [1]), (82, [1]), (83, [1, 1]), (84, [1, 1]), (85, [1, 5, 5]), (86, [1, 5, 5]), (87, [1, 5, 5]), (88, [1, 5, 5]), (89, [1, 5]),
  -- chapter 07
  (90, [1, 4]), (91, [1, 4]), (92, [1, 4]), (93, [1, 4]), (94, [1, 4]), (95, [1, 4]), (96, [1, 4]), (97, [1, 6, 4, 2, 2]), (101, [6, 4]),
  -- chapter 08
  (110, [1, 1, 2, 3, 3]), (111, [1, 1, 2, 3, 3]), (112, [1, 1, 2, 3, 3]), (113, [1, 1, 2, 3, 3]), (114, [1, 1, 2, 3, 3]), (115, [1, 1, 2, 3, 3]),
  (116, [1, 1, 2, 3, 3]), (117, [1, 1, 2, 3, 3]), (118, [1, 1, 2, 3, 3, 1]), (119, [1, 1, 2, 3, 3]), (120, [1, 2, 3, 3]),
  -- chapter 09
  (130, [1, 4, 1]), (131, [1, 1, 2]), (132, []),
  -- chapter 10
  (140, [1]), (141, [1]), (142, [1]), (143, [1]), (144, [1, 1]), (145, [1, 1]), (147, [1, 1]), (149, [1]), (150, [1]), (151, [1, 1, 1, 1]), (152, [1, 1]),
  -- chapter 11
  (160, [1, 4]), (161, [1, 4]), (162, [1, 4]), (163, [1, 4, 4, 6, 3, 1]), (164, [1, 4]), (165, [1, 4]), (166, [1, 4, 2]), (167, [1, 4]), (168, [1, 4]),
  (169, [1, 4]), (170, [1, 4, 1]),
  -- chapter 12
  (180, [1]), (181, [1]), (182, [1, 1, 3]), (183, [1, 1, 3]), (184, [1, 1, 3]), (185, [1, 1, 3]), (186, [1, 1, 3]), (187, [1, 1, 3]), (188, [1, 1, 3]), (189, [1, 1, 3]),
  (190, [1, 1, 3]), (192, [1]), (193, [1, 1, 3]),
  -- chapter 13: session, principal (and cause)
  (200, [2, 1]), (201, [2, 1, 1]), (202, [2, 1]), (203, [2, 1]), (204, [2, 1]), (205, [2, 1]), (206, [2, 1]), (207, [2, 1]), (208, [2, 1]), (209, [2, 1]),
  -- chapter 14
  (210, [2]), (211, [2]), (212, [2, 2, 3]), (213, [2, 2]), (214, [2, 2, 3]), (215, [2]), (216, [2]), (217, [2, 2]), (218, [2]), (219, [2, 2]),
  -- chapter 15
  (220, [1, 1]), (221, [1, 1]), (222, [1, 1]), (223, [1, 1]), (224, [1]), (225, [1, 1]), (226, [1, 1]),
  -- chapter 16
  (230, [1, 1, 2]), (231, [1, 1, 2]), (232, []), (233, [2]), (234, [1]), (235, [1]), (236, [1]), (237, [1, 1, 2]),
  -- chapter 17
  (238, [1, 5]), (239, []), (240, []), (241, [1]), (242, []), (243, []), (244, [1]), (245, [1, 1, 1]),
  -- chapter 19
  (246, [1, 3]), (247, [1, 1, 2]), (248, []), (249, [1, 2]), (250, []), (251, []),
  -- chapter 18
  (252, []), (253, [2]), (254, [3, 2]), (255, [])]

/-- The detail layout of an event source (`EVT_LAYOUT`, R496). -/
def eventLayout (e : Nat) : List Nat := (kvFind eventLayouts e).getD []

/-- The detail bytes: fields in the order listed, packed, little-endian (R495, R496). -/
def packDetail : List Nat → List Nat → List Byte
  | [], _ => []
  | c :: cs, [] => leBytes (fieldSize c) 0 ++ packDetail cs []
  | c :: cs, v :: vs => leBytes (fieldSize c) v ++ packDetail cs vs

/-- The studio time an event record takes: SECONDS [31:0] and NANOSECONDS. -/
def State.stampSecs (s : State) : Nat := stimeOf s.studio / 2 ^ 48 % 2 ^ 32
def State.stampNanos (s : State) : Nat := stimeOf s.studio / 65536 % 2 ^ 32

/-- EVT_MASK bit of a source, in the byte order of Table 13-5 TARGET. -/
def maskBit (m : List Byte) (e : Nat) : Bool := (m.getD (31 - e / 8) 0).getLsbD (e % 8)

/-- Put a raise among those that wait for capture, unless its source is masked; E252 to E255 cannot be masked (R494). -/
def State.queueRaise (s : State) (e : Nat) (vals : List Nat) : State :=
  if e < 252 && maskBit (s.blob O.evtMask) e then s
  else
    let r : Raised := ⟨e, packDetail (eventLayout e) vals, s.tick, s.stampSecs, s.stampNanos, s.obj O.timeState == 0⟩
    { s with ev := { s.ev with raised := s.ev.raised ++ [r] } }

/-- One more in an EVT_COUNT or EVT_LOST entry: it sticks at all-ones and sets its SAT flag; whether it did so now (R503). -/
def State.countUp (s : State) (lost : Bool) (e : Nat) : Bool × State :=
  let m := if lost then s.ev.losts else s.ev.counts
  let v' := min (kvGet (fun _ => 0) m e + 1) 0xFFFFFFFF
  let m' := kvPut (fun _ => 0) m e v'
  let b := if lost then 256 + e else e
  let s := { s with ev := if lost then { s.ev with losts := m' } else { s.ev with counts := m' } }
  if v' = 0xFFFFFFFF && !bit s.ev.satBits b then (true, { s with ev := { s.ev with satBits := setBit s.ev.satBits b } }) else (false, s)

/-- Count an occurrence in an EVT_COUNT or EVT_LOST entry; an entry that saturates raises E254 once (R503, R504), which counts in its own entry. -/
def State.countEntry (s : State) (lost : Bool) (e : Nat) : State :=
  let report (s : State) (lost : Bool) (e : Nat) : State := s.queueRaise 254 [(if lost then O.evtLost else O.evtCount) * 256, e]
  match s.countUp lost e with
  | (false, s) => s
  | (true, s) =>
    match s.countUp false 254 with
    | (false, s) => report s lost e
    | (true, s) => report (report s lost e) false 254

/-- An event source is raised (R494): counted, and queued for capture unless masked. -/
def State.raise (s : State) (e : Nat) (vals : List Nat) : State := (s.countEntry false e).queueRaise e vals

/-! ### Counters (R503 to R505) -/

/-- The largest value of an object's type. -/
def topOf (ref : Nat) : Nat :=
  match findRef ref with
  | some (r, _) => 2 ^ (8 * r.ty.size) - 1
  | none => 0

/-- A saturating counter reaches its top: its reference enters EVT_SAT_LIST, or EVT_SAT_OVERFLOW is set, and E254 is raised (R504). -/
def State.saturate (s : State) (ref : Nat) : State :=
  if s.ev.satList.contains ref then s
  else
    let s := if s.ev.satList.length < 256 then { s with ev := { s.ev with satList := s.ev.satList ++ [ref] } }
             else s.setObj O.evtSatOverflow 1
    s.raise 254 [ref * 256, 0]

/-- A saturating counter counts `n` more (R503). -/
def State.bumpBy (s : State) (ref n : Nat) : State :=
  if n = 0 then s
  else if s.obj ref + n < topOf ref then s.setObj ref (s.obj ref + n)
  else if s.obj ref = topOf ref then s
  else (s.setObj ref (topOf ref)).saturate ref

/-- A saturating counter counts one more. -/
def State.bump (s : State) (ref : Nat) : State := s.bumpBy ref 1

/-- A write of 0 clears a saturating counter and its SAT flag (R505); EVT_SAT_OVERFLOW clears when the list falls below 256 (Table 18-5). -/
def State.clearCounter (s : State) (ref : Nat) : State :=
  let l := s.ev.satList.filter (· != ref)
  let s := { s.setObj ref 0 with ev := { s.ev with satList := l } }
  if l.length < 256 then s.setObj O.evtSatOverflow 0 else s

/-- A position or sequence object moves on by `n`, modulo 2ⁿ of its type (Table 18-4). -/
def State.advance (s : State) (ref n : Nat) : State := s.setObj ref ((s.obj ref + n) % (topOf ref + 1))

/-- A run length stops at the largest value of its type (R503, R558). -/
def State.runUp (s : State) (ref : Nat) : State := s.setObj ref (min (s.obj ref + 1) (topOf ref))

/-! ### Answers to requests -/

/-- What the device makes of a request: the status, the bytes of the answer that follow it, and the state. -/
structure Ans where
  status : Nat
  result : List Byte
  st     : State

/-- Refused with a status; nothing changes. -/
def refuse (s : State) (status : Nat) : Ans := ⟨status, [], s⟩
/-- Done. -/
def done (s : State) : Ans := ⟨St.ok, [], s⟩
/-- Done, with bytes in the answer. -/
def doneWith (s : State) (r : List Byte) : Ans := ⟨St.ok, r, s⟩

end Sys2Proof.Machine
end

