-- ==== Sys2Proof/Machine/Access.lean ====
section
/-! DEFINITION. Reading and writing the per-instance state of each unit, the tiling groups (R69, R181), and the frame
boundaries of a timing (R45, R66). -/

namespace Sys2Proof.Machine

/-! ### Instances -/

def State.tg (s : State) (n : Nat) : TgSt := kvGet (fun _ => {}) s.tgs n
def State.setTg (s : State) (n : Nat) (x : TgSt) : State := { s with tgs := kvPut (fun _ => {}) s.tgs n x }
def State.slm (s : State) (n : Nat) : SlmSt := kvGet (fun _ => {}) s.slms n
def State.setSlm (s : State) (n : Nat) (x : SlmSt) : State := { s with slms := kvPut (fun _ => {}) s.slms n x }
def State.bank (s : State) (n : Nat) : BankSt := kvGet (fun _ => {}) s.banks n
def State.setBank (s : State) (n : Nat) (x : BankSt) : State := { s with banks := kvPut (fun _ => {}) s.banks n x }
def State.wire (s : State) (n : Nat) : WireSt := kvGet (fun _ => {}) s.wires n
def State.setWire (s : State) (n : Nat) (x : WireSt) : State := { s with wires := kvPut (fun _ => {}) s.wires n x }
def State.col (s : State) (n : Nat) : ColSt := kvGet (fun _ => {}) s.cols n
def State.setCol (s : State) (n : Nat) (x : ColSt) : State := { s with cols := kvPut (fun _ => {}) s.cols n x }
def State.cam (s : State) (n : Nat) : CamSt := kvGet (fun _ => {}) s.cams n
def State.setCam (s : State) (n : Nat) (x : CamSt) : State := { s with cams := kvPut (fun _ => {}) s.cams n x }
def State.mout (s : State) (n : Nat) : MoutSt := kvGet (fun _ => {}) s.mouts n
def State.setMout (s : State) (n : Nat) (x : MoutSt) : State := { s with mouts := kvPut (fun _ => {}) s.mouts n x }

/-! ### Memory by extents -/

/-- The address of byte `off` of an object laid out over extents (address, length). -/
def extentAddr : List (Nat × Nat) → Nat → Nat
  | [], _ => 0
  | (a, l) :: es, off => if off < l then a + off else extentAddr es (off - l)

/-! ### Tiling groups and banks -/

/-- The outputs. -/
def outputs : List Nat := [0, 1, 2, 3]
/-- The banks, and the wires of the same numbers. -/
def allBanks : List Nat := List.range 16

/-- The leader an output names (R181). -/
def State.leader (s : State) (n : Nat) : Nat := s.obj (O.moutTileLeader n)

/-- The outputs of the group that output `n` leads: itself and its members. -/
def State.group (s : State) (n : Nat) : List Nat := outputs.filter fun m => m == n || s.leader m == n

/-- The leader of the group that output `n` is in: `n` itself when it stands alone. -/
def State.leadOf (s : State) (n : Nat) : Nat := if s.leader n < n then s.leader n else n

/-- The banks owned by any output of a list. -/
def State.banksOf (s : State) (outs : List Nat) : List Nat :=
  allBanks.filter fun b => outs.contains (s.obj (O.gateOutput b))

/-- The banks of the group of leader `n` assigned to primary `p`, as a mask (Table 02-2). -/
def State.bankMask (s : State) (n p : Nat) : Nat :=
  (s.banksOf (s.group n)).foldl (fun m b => if s.obj (O.gatePrimary b) == p then m + 2 ^ b else m) 0

/-- A bank names no output, or no primary (R98, bit 7). -/
def State.unowned (s : State) (b : Nat) : Bool := s.obj (O.gateOutput b) > 3 || s.obj (O.gatePrimary b) > 5

/-! ### Frame boundaries -/

/-- A timing: numerator and denominator of the period in seconds and the phase in ticks (R45). -/
structure Timing where
  num : Nat
  den : Nat
  phase : Int
deriving DecidableEq, Repr

/-- The period as a fraction of ticks. -/
def Timing.pNum (g : Timing) : Nat := g.num * ticksPerSec

/-- B_k (R45). -/
def Timing.boundary (g : Timing) (k : Int) : Instant := ⟨k * g.pNum + g.phase * g.den, g.den⟩

/-- The index of the first boundary at or after an instant. -/
def Timing.firstFrom (g : Timing) (i : Instant) : Int :=
  -- least k with k * pNum / den + phase ≥ i
  let num := (i.num - g.phase * i.den) * g.den
  let den := g.pNum * i.den
  Int.neg ((-num) / (den : Int))

/-- The shorter whole number of ticks of a frame (R66). -/
def Timing.frameTicks (g : Timing) : Nat := g.pNum / g.den

/-- The timing in force of generator `n`. -/
def State.timing (s : State) (n : Nat) : Timing :=
  ⟨ratioNum (s.obj (O.tgPeriod n)), ratioDen (s.obj (O.tgPeriod n)), s.objI (O.tgPhase n)⟩

/-- The timing that a list of staged values gives generator `n`. -/
def timingIn (val : Nat → Nat) (n : Nat) : Timing :=
  ⟨ratioNum (val (O.tgPeriod n)), ratioDen (val (O.tgPeriod n)), toI32 (val (O.tgPhase n))⟩

/-- The root tick on which boundary `k` of generator `n` is placed. -/
def State.boundaryTick (s : State) (n : Nat) (k : Int) : Int := s.rootTick ((s.timing n).boundary k)

/-- Whether output `n` shows frames: its leader's generator runs and it is not dark. -/
def State.showing (s : State) (n : Nat) : Bool := (s.tg (s.leadOf n)).running

end Sys2Proof.Machine
end

