-- ==== Sys2Proof/Machine/Mem.lean ====
section
/-! DEFINITION. The memory of the device (chapters 10 and 11): address mapping (R284, R285), allocation by region class (R319, R320), the metadata that
a port write changes (R316, R321, R322, R332), and the page code (R317). -/

namespace Sys2Proof.Machine

def State.setMemc (s : State) (x : MemSt) : State := { s with memc := x }
def State.setIntg (s : State) (x : IntgSt) : State := { s with intg := x }

/-! ### Address mapping (R284, R285) -/

/-- log₂ of the number of usable channels. -/
def State.chanBits (s : State) : Nat := if s.memc.n = 2 then 1 else if s.memc.n = 4 then 2 else if s.memc.n = 8 then 3 else 0

/-- Size of one usable channel, of the address space, and of the integrity reservation at the top of a channel (R283, R320). -/
def State.chanSize (s : State) : Nat := s.obj (O.memChSize 0)
def State.dpaSize (s : State) : Nat := s.memc.n * s.chanSize
def chanReserve (size : Nat) : Nat := 4194304 + 1048576 + size / 16384 + size / 512

/-- The exclusive or of the `w`-bit fields of `a` from bit `g + w` upward, `k` of them. -/
def hashFields (a g w : Nat) : Nat → Nat
  | 0 => 0
  | k + 1 => Nat.xor (a / 2 ^ (g + w * (k + 1)) % 2 ^ w) (hashFields a g w k)

/-- Channel and channel address of a device address (R284). -/
def State.chan (s : State) (a : Nat) : Nat × Nat :=
  let g := s.obj O.memInterleave
  let w := s.chanBits
  if w = 0 then (0, a)
  else
    let f := a / 2 ^ g % 2 ^ w
    (if s.objB O.memHash then Nat.xor f (hashFields a g w (38 / w)) else f, a / 2 ^ (g + w) * 2 ^ g + a % 2 ^ g)

/-- The device address of a channel address. -/
def State.dpa (s : State) (c ca : Nat) : Nat :=
  let g := s.obj O.memInterleave
  let w := s.chanBits
  if w = 0 then ca
  else
    let b := ca / 2 ^ g * 2 ^ (g + w) + ca % 2 ^ g
    b + (if s.objB O.memHash then Nat.xor c (hashFields b g w (38 / w)) else c) * 2 ^ g

/-- Column bits and ranks of a channel (Tables 10-1, 10-2; `MEM_CH_ORG`). -/
def State.colBits (s : State) (c : Nat) : Nat := if bits (s.obj (O.memChOrg c)) 31 24 = 4 then 7 else 6
def State.rankCount (s : State) (c : Nat) : Nat := max 1 (bits (s.obj (O.memChOrg c)) 15 8)

/-- Where a channel address lies in DRAM. -/
structure DramPos where
  sub  : Nat
  rank : Nat
  bg   : Nat
  bank : Nat
  row  : Nat
  col  : Nat
deriving DecidableEq, Repr

/-- The fields of a channel address (R285). -/
def State.dramPos (s : State) (c ca : Nat) : DramPos :=
  let hi := s.colBits c - 2
  let rb := if s.rankCount c = 2 then 1 else 0
  let bg := bits ca 11 9
  let bank := ca / 2 ^ (12 + hi) % 4
  let rank := ca / 2 ^ (14 + hi) % 2 ^ rb
  let row := ca / 2 ^ (14 + hi + rb)
  let col := bits ca 8 7 + 4 * (ca / 4096 % 2 ^ hi)
  if s.objB O.memBankHash then ⟨ca / 64 % 2, rank, Nat.xor bg (row % 8), Nat.xor bank (row / 8 % 4), row, col⟩
  else ⟨ca / 64 % 2, rank, bg, bank, row, col⟩

/-- The page of a channel that holds a device address, and the index of its word in the page. -/
def State.pageOf (s : State) (a : Nat) : Nat := let p := s.chan a; p.1 * 2 ^ 28 + p.2 / 4096
def State.wordIn (s : State) (a : Nat) : Nat := (s.chan a).2 / 8 % 512

/-- The channel of a page, and the device address of its byte `o`. -/
def pageChan (p : Nat) : Nat := p / 2 ^ 28
def State.pageAddr (s : State) (p o : Nat) : Nat := s.dpa (pageChan p) (p % 2 ^ 28 * 4096 + o)

/-! ### Allocation (R319, R320, R322) -/

/-- Bytes of one extent. -/
def State.extentSize (s : State) : Nat := max 1 s.memc.n * 65536

/-- The gaps between rising intervals (start, end) from `cur` to `hi`. -/
def gaps : Nat → Nat → List (Nat × Nat) → List (Nat × Nat)
  | cur, hi, [] => if cur < hi then [(cur, hi)] else []
  | cur, hi, (a, e) :: l => (if cur < min a hi then [(cur, min a hi)] else []) ++ gaps (max cur e) hi l

/-- What the allocations leave no room in for class `g`: an extent of the other class is barred whole. -/
def State.barred (s : State) (g : Bool) : List (Nat × Nat) :=
  let x := s.extentSize
  s.memc.allocs.map fun a =>
    if a.groomed = g then (a.addr, a.addr + a.len) else (a.addr / x * x, (a.addr + a.len + x - 1) / x * x)

/-- The first `need` bytes of gaps, as (address, length); none where they are not enough. -/
def takeGaps : Nat → List (Nat × Nat) → Option (List (Nat × Nat))
  | 0, _ => some []
  | _ + 1, [] => none
  | n + 1, (a, e) :: l =>
    if n + 1 ≤ e - a then some [(a, n + 1)]
    else (takeGaps (n + 1 - (e - a)) l).map fun r => (a, e - a) :: r

/-- Insert an allocation by address. -/
def insertAlloc (x : Alloc) : List Alloc → List Alloc
  | [] => [x]
  | y :: l => if x.addr < y.addr then x :: y :: l else y :: insertAlloc x l

/-- The end of the memory that may be allocated. -/
def State.allocEnd (s : State) : Nat := s.memc.n * (s.chanSize - chanReserve s.chanSize)

/-- Allocate `len` bytes, rounded up to pages, of class GROOMED or VOLATILE: the lowest free pages of extents of the class or unassigned (log entry 11). -/
def State.alloc (s : State) (len : Nat) (groomed : Bool) : Option (List (Nat × Nat) × State) :=
  match takeGaps (ceilDiv len 4096 * 4096) (gaps 0 s.allocEnd (s.barred groomed)) with
  | none => none
  | some es => some (es, s.setMemc { s.memc with
      allocs := es.foldl (fun l e => insertAlloc ⟨e.1, e.2, groomed, false⟩ l) s.memc.allocs, ever := true })

/-- Several pieces of one class, all or none. -/
def State.allocAll (s : State) (groomed : Bool) : List Nat → Option (List (List (Nat × Nat)) × State)
  | [] => some ([], s)
  | n :: l =>
    match s.alloc n groomed with
    | none => none
    | some (es, s) => (s.allocAll groomed l).map fun r => (es :: r.1, r.2)

/-- Memory given back: the clear of its valid bits starts, and its space returns when that is done (R322). -/
def State.freeMem (s : State) (es : List (Nat × Nat)) : State :=
  s.setMemc { s.memc with allocs := s.memc.allocs.map fun a => if es.any (fun e => e.1 == a.addr) then { a with clearing := true } else a }

/-- An address lies in memory of class GROOMED. -/
def State.groomedAt (s : State) (a : Nat) : Bool :=
  s.memc.allocs.any fun x => x.groomed && decide (x.addr ≤ a) && decide (a < x.addr + x.len)

/-- The blocks of [a, a + len) are invalid from now on: they read as zeros and their poison is gone (R322). -/
def State.invalidate (s : State) (a len : Nat) : State :=
  let blk (k : Nat) : Bool := decide (a ≤ 64 * k) && decide (64 * k < a + len)
  let y := s.intg
  { s with
    mem := kvDrop (fun k => decide (a ≤ k) && decide (k < a + len)) s.mem
    intg := { y with
      valid := kvDrop blk y.valid
      poison := kvDrop (fun k => decide (a ≤ 8 * k) && decide (8 * k < a + len)) y.poison } }

/-- FREE_BITMAP_CLEAR_DONE (R322): the clear of the freed memory at address `a` is complete, and its space is free again. -/
def State.freeCleared (s : State) (a : Nat) : State :=
  match s.memc.allocs.find? fun x => x.addr == a && x.clearing with
  | none => s
  | some x =>
    let s := s.invalidate x.addr x.len
    s.setMemc { s.memc with allocs := s.memc.allocs.filter fun y => !(y.addr == a && y.clearing) }

def execFreeBitmapClearDone (t a : Nat) (s : State) : Host.Outcome State Fault Refusal := .next ((s.at t).freeCleared a)

/-! ### Metadata of a port write (R316, R321, R322, R332) -/

/-- A block is valid; a word is poisoned; a page is CURRENT. -/
def State.blockValid (s : State) (a : Nat) : Bool := kvGet (fun _ => false) s.intg.valid (a / 64)
def State.wordPoisoned (s : State) (a : Nat) : Bool := kvGet (fun _ => false) s.intg.poison (a / 8)
def State.pageCurrent (s : State) (p : Nat) : Bool := kvGet (fun _ => false) s.intg.current p

/-- A page is of class GROOMED, and has a valid block. -/
def State.pageGroomed (s : State) (p : Nat) : Bool := s.groomedAt (s.pageAddr p 0)
def State.pageUsed (s : State) (p : Nat) : Bool := (List.range 64).any fun k => s.blockValid (s.pageAddr p (64 * k))

/-- The stale tracker of the page's channel takes a port write to it (R332). -/
def State.staleTouch (s : State) (p : Nat) : State :=
  let c := pageChan p
  let y := s.intg
  if y.stale.any fun e => e.1 == p then
    s.setIntg { y with stale := (y.stale.filter fun e => e.1 != p) ++ [(p, s.tick)] }
  else if (y.stale.filter fun e => pageChan e.1 == c).length < 4096 then s.setIntg { y with stale := y.stale ++ [(p, s.tick)] }
  else (s.setIntg { y with scan := kvPut (fun _ => false) y.scan c true }).bump (O.intgStaleOverflow c)

/-- Bytes [a, a + len) of one block are written by a port: the block becomes valid, words written whole lose their poison, PSHARE is zero, and a GROOMED page is STALE. -/
def State.blockWritten (s : State) (a len : Nat) : State :=
  let p := s.pageOf a
  let y := s.intg
  let words := (List.range 8).map fun i => a / 64 * 8 + i
  let hit := words.filter fun w => decide (8 * w < a + len) && decide (a < 8 * w + 8)
  let whole := words.filter fun w => decide (a ≤ 8 * w) && decide (8 * w + 8 ≤ a + len)
  let ps := kvGet (fun _ => []) y.pshare p
  let ps := if ps.isEmpty then ps else hit.foldl (fun l w => l.set (s.wordIn (8 * w)) 0) ps
  let s := s.setIntg { y with
    valid := kvPut (fun _ => false) y.valid (a / 64) true
    poison := whole.foldl (fun m w => kvPut (fun _ => false) m w false) y.poison
    pshare := kvPut (fun _ => []) y.pshare p ps
    current := kvPut (fun _ => false) y.current p false }
  if s.groomedAt a then s.staleTouch p else s

/-- The metadata of a write of `len` bytes at `a`, block by block. -/
def State.written (s : State) : Nat → Nat → Nat → State
  | 0, _, _ => s
  | fuel + 1, a, len =>
    if len = 0 then s
    else
      let k := min len (64 - a % 64)
      (s.blockWritten a k).written fuel (a + k) (len - k)

/-- A write by a port of the device: the bytes change, and the metadata with them (R295, R316, R322). -/
def State.portWrite (s : State) (a : Nat) (l : List Byte) : State :=
  (s.setBytes a l).written (l.length / 64 + 2) a l.length

/-- Write bytes over extents from offset `off` on. -/
def State.extentWrite (s : State) (es : List (Nat × Nat)) (off : Nat) : List Byte → State := fun l =>
  match es with
  | [] => s
  | (a, n) :: es =>
    if n ≤ off then s.extentWrite es (off - n) l
    else
      let k := n - off
      if l.length ≤ k then s.portWrite (a + off) l
      else (s.portWrite (a + off) (l.take k)).extentWrite es 0 (l.drop k)

/-- `n` bytes over extents from offset `off` on. -/
def State.extentBytes (s : State) : List (Nat × Nat) → Nat → Nat → List Byte
  | [], _, _ => []
  | (a, len) :: es, off, n =>
    if len ≤ off then s.extentBytes es (off - len) n
    else
      let k := min n (len - off)
      s.bytes (a + off) k ++ s.extentBytes es 0 (n - k)

/-- The device address of the first poisoned word among `n` bytes over extents from offset `off` on. -/
def State.extentPoison (s : State) : List (Nat × Nat) → Nat → Nat → Option Nat
  | [], _, _ => none
  | (a, len) :: es, off, n =>
    if len ≤ off then s.extentPoison es (off - len) n
    else
      let k := min n (len - off)
      match (s.intg.poison.find? fun e => decide (a + off < 8 * e.1 + 8) && decide (8 * e.1 < a + off + k)) with
      | some e => some (8 * e.1)
      | none => s.extentPoison es 0 (n - k)

/-! ### The page code (R317) -/

/-- Multiplication by α = 2 in GF(2⁸) with the polynomial 0x11D. -/
def gfDouble (a : Nat) : Nat := if a < 128 then 2 * a else Nat.xor (2 * a) 0x11D

/-- Multiplication in GF(2⁸) over the low `n` bits of `b`. -/
def gfMul (a : Nat) (b : Nat) : Nat → Nat
  | 0 => 0
  | n + 1 => Nat.xor (if b % 2 = 1 then a else 0) (gfMul (gfDouble a) (b / 2) n)

/-- The generator ∏ (x − αⁱ) for i below `k`, coefficients from the highest power down. -/
def rsGen : Nat → List Nat
  | 0 => [1]
  | k + 1 =>
    let g := rsGen k
    let root := (List.range k).foldl (fun a _ => gfDouble a) 1
    List.zipWith Nat.xor (g ++ [0]) (0 :: g.map fun c => gfMul c root 8)

/-- The 14 parity symbols of the data symbols of a codeword. -/
def rsParity (data : List Nat) : List Nat :=
  let g := (rsGen 14).drop 1
  data.foldl (fun (r : List Nat) d =>
    let f := Nat.xor d (r.headD 0)
    List.zipWith Nat.xor (r.drop 1 ++ [0]) (g.map fun c => gfMul c f 8)) (List.replicate 14 0)

/-- The 448 parity bytes of a page of 4,096 bytes: parity symbol i of codeword j is byte 32i + j. -/
def pageParity (page : List Byte) : List Nat :=
  let ps := (List.range 32).map fun j => rsParity ((List.range 128).map fun i => (nth page (32 * i + j) 0).toNat)
  (List.range 14).flatMap fun i => ps.map fun p => nth p i 0

/-- The 512 PSHARE values of a page: word w holds stream bits 7w to 7w + 6, bit 7w in PSHARE[6]. -/
def pageShares (page : List Byte) : List Nat :=
  let par := pageParity page
  let sbit (k : Nat) : Nat := nth par (k / 8) 0 / 2 ^ (7 - k % 8) % 2
  (List.range 512).map fun w => (List.range 7).foldl (fun a i => 2 * a + sbit (7 * w + i)) 0

/-- The 4,096 bytes of a page as stored. -/
def State.pageBytes (s : State) (p : Nat) : List Byte := (List.range 64).flatMap fun k => s.bytes (s.pageAddr p (64 * k)) 64

end Sys2Proof.Machine
end

