-- ==== Sys2Proof/Machine/Idle.lean ====
section
/-! DEFINITION. When a block is idle, so that its RWI objects may be written (R16; R79, R90, R109, R110, R117, R144, R189, R286, R311, R338, R350,
R425, R441, R442, R490). -/

namespace Sys2Proof.Machine

/-- The operating states (Table 17-11, `PTL_STATE`). -/
abbrev cold : Nat := 0
abbrev boot : Nat := 1
abbrev startup : Nat := 2
abbrev normal : Nat := 3
abbrev test : Nat := 4
abbrev recovery : Nat := 5
abbrev standby : Nat := 6

/-- The operating state in force (R471). -/
def State.opState (s : State) : Nat := s.obj O.ptlState

/-- The TAP runs an instruction that drives the pins: the boundary cells of gate lanes, timing lanes and lamp wires are low or idle (R524). -/
def State.jtagDrives (s : State) : Bool := decide (3 ≤ s.sec.tapInstr)

/-- The timing generator of an output is disabled. -/
def State.tgOff (s : State) (n : Nat) : Bool := !s.objB (O.tgEnable n)

/-- No output is enabled. -/
def State.noOutput (s : State) : Bool := outputs.all fun n => !s.objB (O.moutEnable n)

/-- An output is idle when its own timing generator and its leader's are disabled (R189). -/
def State.outputIdle (s : State) (n : Nat) : Bool := s.tgOff n && s.tgOff (s.leadOf n)

/-- No active plan of any output names the bank (R90). -/
def State.bankIdle (s : State) (b : Nat) : Bool :=
  outputs.all fun n => s.tgOff n || (s.slm n).active.all fun e => !bit e.banks b

/-- The memory block is idle in STARTUP before the first allocation (R286). -/
def State.memIdle (s : State) : Bool := s.opState == startup && !s.memc.ever

/-- The loops. -/
def allLoops : List Nat := List.range 256

/-- The number of the PWM actuator k (Table 15-2 code 0x00 + k), and whether a loop that is not OFF names it (Table 15-9). -/
def State.pwmIdle (s : State) (k : Nat) : Bool :=
  allLoops.all fun i => s.obj (O.loopMode i) == 0 || s.obj (O.loopActuator i) != k

/-- The rails of each switched group (Table 17-3); rail 8 is VAUX. -/
def railGroup (r : Nat) : Nat := [2, 2, 1, 1, 3, 0, 0, 1, 4].getD r 4

/-- Whether the block of an RWI object is idle (R16). -/
def State.idle (s : State) (ref : Nat) : Bool :=
  let ix := refIndex ref
  if ref == O.slmPlaneCompress || ix == 0x2400 then s.noOutput
  else if ix == 0x2300 then allBanks.all fun w => !s.objB (O.lwEnable w)
  else if 0x2310 ≤ ix && ix < 0x2320 then s.bankIdle (ix - 0x2310)
  else if 0x2320 ≤ ix && ix < 0x2330 then !s.objB (O.lwEnable (ix - 0x2320))
  else if 0x2520 ≤ ix && ix < 0x2530 then
    let c := ix - 0x2520
    s.obj (O.camView c) == 0xFF || s.obj (O.camOutput c) == 0xFF || s.tgOff (s.obj (O.camOutput c))
  else if 0x2120 ≤ ix && ix < 0x2124 then s.outputIdle (ix - 0x2120)
  else if ix == 0x2900 || ix == 0x2A00 then s.memIdle
  else if 0x2910 ≤ ix && ix < 0x2920 then s.obj (O.memChState (ix - 0x2910)) == 0 || s.obj (O.memChState (ix - 0x2910)) == 3
  else if ix == 0x2B00 then (List.range 4).all fun p => !s.objB (O.netPortEnable p)
  else if ix == 0x2C00 then s.hier.nodes.all fun x => x.2.state != 3
  else if 0x3140 ≤ ix && ix < 0x3149 then s.obj (O.pwrRailState (ix - 0x3140)) == 0
  else if 0x3000 ≤ ix && ix < 0x3100 && refSub ref < 0x80 then s.obj (O.loopMode (ix - 0x3000)) == 0
  else if 0x3010 ≤ ix && ix < 0x3020 then
    allLoops.all fun i => s.obj (O.loopSet i) != ix - 0x3010 || s.obj (O.loopMode i) == 0
  else if 0x3060 ≤ ix && ix < 0x3078 then s.pwmIdle (ix - 0x3060)
  else true

end Sys2Proof.Machine
end

