-- ==== Sys2Proof/Machine/Stage.lean ====
section
/-! DEFINITION. The boot record and the slots (R516), and the end of a staging (R525). -/

namespace Sys2Proof.Machine

def State.setSec (s : State) (x : SecSt) : State := { s with sec := x }

/-- `a` is above `b` in serial order modulo 2³². -/
def serialAbove (a b : Nat) : Bool :=
  let d := (a + 4294967296 - b % 4294967296) % 4294967296
  decide (0 < d) && decide (d < 2147483648)

/-- The 64 bytes of a record. -/
def recordBytes (gen pref tries : Nat) : List Byte :=
  let b := leBytes 4 0x52544F42 ++ leBytes 4 gen ++ leBytes 1 pref ++ leBytes 1 tries ++ [0, 0]
  b ++ leBytes 2 (crc 16 0x1021 0xFFFF b) ++ fill 50 0

/-- A valid copy. -/
def recordOk (l : List Byte) : Bool := l.length == 64 && decide (leAt l 8 1 ≤ 1) && l == recordBytes (leAt l 4 4) (leAt l 8 1) (leAt l 9 1)

/-- The copy in force. -/
def SecSt.recordIn (x : SecSt) : Option Nat :=
  let a := x.records.getD 0 []
  let b := x.records.getD 1 []
  match recordOk a, recordOk b with
  | true, true => some (if serialAbove (leAt b 4 4) (leAt a 4 4) then 1 else 0)
  | true, false => some 0
  | false, true => some 1
  | false, false => none

/-- `SEC_BOOT_RECORD`. -/
def SecSt.record (x : SecSt) : List Byte := match x.recordIn with | some k => x.records.getD k [] | none => []

/-- PREFERRED and TRIES; with no valid copy slot A, confirmed. -/
def SecSt.preferred (x : SecSt) : Nat := leAt x.record 8 1
def SecSt.tries (x : SecSt) : Nat := if x.recordIn.isNone then 0xFF else leAt x.record 9 1

/-- The state of a slot in `SEC_SLOT_STATE`. -/
abbrev slotEmpty : Nat := 0
abbrev slotStaging : Nat := 1
abbrev slotStaged : Nat := 2
abbrev slotActive : Nat := 3
abbrev slotFallback : Nat := 4
abbrev slotInvalid : Nat := 5
def State.slotState (s : State) (k : Nat) : Nat := if k = 0 then s.obj O.secSlotState / 256 else s.obj O.secSlotState % 256
def State.setSlotState (s : State) (k v : Nat) : State :=
  s.setObj O.secSlotState (if k = 0 then v * 256 + s.slotState 1 else s.slotState 0 * 256 + v)

/-- The slot a bundle is staged to: the one that is not running; in RESCUE the one that is not preferred. -/
def State.stageSlot (s : State) : Nat := if s.sec.rescue then 1 - s.sec.preferred else 1 - s.obj O.secFwSlot

/-- A staging ends: 3 COMPLETED, 4 ABORTED, 5 FAILED, with E249. -/
def State.stageEnd (s : State) (outcome status : Nat) : State := (s.setObj O.secStageState (outcome * 2 ^ 24 + status)).raise 249 [outcome, status]

/-- An uncompleted bundle leaves its slot EMPTY. -/
def State.stageDrop (s : State) : State :=
  let k := s.stageSlot
  if s.slotState k = slotStaging then (s.setSlotState k slotEmpty).setSec { s.sec with slots := s.sec.slots.set k [] } else s

/-- A staging whose transfer ends before it is whole is ABORTED. -/
def State.stageAbort (s : State) : State := s.stageDrop.stageEnd 4 St.aborted

end Sys2Proof.Machine
end

