-- ==== Sys2Proof/Machine/Resil.lean ====
section
/-! DEFINITION. The Resil endpoint: messages and tags (R371 to R375), sessions and the repeat window (R377, R378), the order of the
checks (R379 to R381), the two paths (R382, R383), the way to a worker (R408) and the writing of one object (R14, R16, R505, R557, R558). Every
request row of the table runs through `State.request`. -/

namespace Sys2Proof.Machine

/-! ### Lookups -/

def State.session? (s : State) (n : Nat) : Option Session := kvFind s.resil.sessions n
def State.setSession (s : State) (n : Nat) (x : Session) : State :=
  { s with resil := { s.resil with sessions := kvInsert s.resil.sessions n x } }
def State.setXfers (s : State) (m : List (Nat × Xfer)) : State := { s with resil := { s.resil with xfers := m } }
def State.setSubs (s : State) (m : List (Nat × Sub)) : State := { s with resil := { s.resil with subs := m } }
def State.node (s : State) (n : Nat) : HierNode := kvGet (fun _ => {}) s.hier.nodes n
def State.setNode (s : State) (n : Nat) (x : HierNode) : State :=
  { s with hier := { s.hier with nodes := kvPut (fun _ => {}) s.hier.nodes n x } }

/-- From `start`, cyclically among `lo … lo + n − 1`, the first number not in use: which one the device takes is open (log entry 13). -/
def pickFrom (used : Nat → Bool) (lo n start : Nat) : Nat → Option Nat
  | 0 => none
  | k + 1 =>
    let v := lo + (start + (n - (k + 1))) % n
    if used v then pickFrom used lo n start k else some v

/-- A number not in use among `lo … lo + n − 1`, with the state after the free value that chose it. -/
def State.pick (s : State) (used : Nat → Bool) (lo n : Nat) : Option Nat × State :=
  (pickFrom used lo n s.fresh n, s.took)

/-! ### Bytes of messages -/

/-- An object reference as bytes (R375). -/
def refBytes (ref : Nat) : List Byte := beBytes 2 (refIndex ref) ++ beBytes 1 (refSub ref) ++ [0]

/-- The reference that four bytes spell. -/
def refOf (l : List Byte) : Nat := beAt l 0 2 * 256 + beAt l 2 1

/-- Reference and value (R375). -/
def valueForm (ref : Nat) (v : List Byte) : List Byte := refBytes ref ++ beBytes 2 v.length ++ [0, 0] ++ v

/-- Header and payload as they are tagged (Table 13-1, R374). -/
def Msg.bytes (m : Msg) : List Byte :=
  [1] ++ beBytes 1 m.op ++ beBytes 1 m.flags ++ [0] ++ beBytes 2 m.node ++ beBytes 2 m.session ++ beBytes 4 m.seq
    ++ beBytes 2 m.payload.length ++ beBytes 2 m.status ++ m.payload

/-- The five bytes "RESIL". -/
def resilCustom : List Byte := nameBytes "RESIL"

/-- The tag of a message under a session key (R374). -/
def tagOf (key : List Byte) (m : Msg) : List Byte := kmac256 key m.bytes 16 resilCustom

/-- A message with its tag. -/
def Msg.tagged (m : Msg) (key : List Byte) : Msg := { m with tag := tagOf key m }

/-- The request a datagram carries. -/
def reqMsg (q : Req) (op : Nat) (payload : List Byte) : Msg :=
  ⟨op, 0, q.node, q.session, q.seq, 0, payload, q.tag⟩

/-- The longest message (R371). -/
def State.maxMessage (s : State) : Nat := if s.objB O.netJumbo then 8960 else 1472

/-! ### Sessions -/

/-- E-numbers with session and principal (R397). -/
def State.raiseSession (s : State) (e num : Nat) (x : Session) (more : List Nat) : State := s.raise e ([num, x.principal] ++ more)

/-- An ended session leaves no transfer and no subscription behind (R377); a staging is ABORTED with its transfer (R525). -/
def State.dropOf (s : State) (num : Nat) : State :=
  let s := if s.resil.xfers.any (fun x => x.2.session == num && x.2.ref == O.secStage) then s.stageAbort else s
  { s with resil := { s.resil with
      xfers := s.resil.xfers.filter fun x => x.2.session != num
      subs := s.resil.subs.filter fun x => x.2.session != num
      ended := s.resil.ended.filter fun x => x.2.1 != num } }

/-- Sessions that count toward the 32 of R376 (R404). -/
def State.openSessions (s : State) : Nat := (s.resil.sessions.filter fun x => !x.2.hier && !x.2.expired).length

/-- `DICT_SESSIONS` follows the sessions. -/
def State.countSessions (s : State) : State := s.setObj O.dictSessions s.openSessions

/-- A session ends (R377): causes 0 CLOSE, 1 idle, 2 request limit, 3 replaced (their codes in E201 are Config's). After the request limit its number stays known, so
that further requests can be answered SESSION_EXPIRED. -/
def State.endSession (s : State) (num cause : Nat) : State :=
  match s.session? num with
  | none => s
  | some x =>
    let s := s.dropOf num
    let s :=
      if cause = 2 then s.setSession num { x with expired := true, sent := [] }
      else { s with resil := { s.resil with sessions := kvErase s.resil.sessions num } }
    s.countSessions.raiseSession 201 num x [Config.causeCode 201 cause]

/-- `a` lies within `h − 63 … h` modulo 2³². -/
def inWindow (a h : Nat) : Bool := decide ((h + 4294967296 - a) % 4294967296 < 64)

/-- Answer a request: the response is sent to where the request came from and, unless it is BUSY, cached under its SEQ (R371, R378). `x` is the session as it
stood when the request came. -/
def State.respond (s : State) (x : Session) (q : Req) (op status : Nat) (payload : List Byte) : State :=
  let m : Msg := (⟨op, 0x80, q.node, q.session, q.seq, status, payload, []⟩ : Msg).tagged x.key
  let s :=
    match s.session? q.session with
    | none => s
    | some y =>
      if status = St.busy then
        s.setSession q.session { y with busied := q.seq :: y.busied.filter (· != q.seq) }
      else
        s.setSession q.session { y with
          cache := ((q.seq, m) :: y.cache.filter fun c => c.1 != q.seq).take 64
          busied := y.busied.filter (· != q.seq) }
  s.emit (.resil q.port q.src m)

/-- An answer that is not cached: STALE_SEQ and SESSION_EXPIRED. -/
def State.respondOnce (s : State) (x : Session) (q : Req) (op status : Nat) : State :=
  s.emit (.resil q.port q.src ((⟨op, 0x80, q.node, q.session, q.seq, status, [], []⟩ : Msg).tagged x.key))

/-- One of a session's requests on its way to a worker has been answered: fences that waited for it alone are answered with `TIME_NOW` (R384). -/
def State.answerFences (s : State) (num seq : Nat) : State :=
  match s.session? num with
  | none => s
  | some y =>
    let fs := y.fences.map fun f => (f.1, f.2.filter (· != seq))
    let s := s.setSession num { y with fences := fs.filter fun f => !f.2.isEmpty }
    (fs.filter fun f => f.2.isEmpty).reverse.foldl (fun s f => s.respond y f.1 0x09 St.ok (beBytes 12 (stimeOf s.studio))) s

/-- The suspended subscriptions of a session resume with its next authenticated request; an object subscription then owes the current value (R390). -/
def State.resumeSubs (s : State) (num : Nat) : State :=
  s.setSubs (s.resil.subs.map fun p =>
    if p.2.session = num && p.2.suspended then (p.1, { p.2 with suspended := false, owed := p.2.object }) else p)

/-! ### Levels and existence (R380) -/

/-- Checks 7 and 8 of R381 for one object: existence, then the level the operation needs. -/
def objectCheck (x : Session) (ref : Nat) (write : Bool) : Option Nat :=
  match findRef ref with
  | none => some St.noObject
  | some _ => if write && decide (x.level < writeLevel ref) then some St.accessLevel else none

/-! ### Proxied access (R405 to R408) -/

/-- Ring entries that a message takes (R406): 224 bytes of header, payload and tag in each. -/
def ringEntries (payload : List Byte) : Nat := ceilDiv (payload.length + 32) 224

/-- One ring entry (Table 14-2). -/
def ringEntry (pos kind flags node hostSeq stamp hostSession : Nat) (part : List Byte) : List Byte :=
  leBytes 2 pos ++ leBytes 1 kind ++ leBytes 1 flags ++ leBytes 2 node ++ leBytes 2 part.length ++ leBytes 4 hostSeq ++ leBytes 12 stamp
    ++ leBytes 2 hostSession ++ fill 6 0 ++ padTo 224 part

/-- Write a message's bytes on ring `r` of node `n`, entry after entry, from the producer position on (R405, R406). -/
def State.ringWrite (s : State) (n r kind hostSeq hostSession : Nat) (first : Bool) : Nat → List Byte → State
  | 0, _ => s
  | k + 1, l =>
    let x := s.node n
    let pos := x.prod.getD r 0
    let last := l.length ≤ 224
    let e := ringEntry pos kind (boolNat first + 2 * boolNat last) n hostSeq (stimeOf s.studio) hostSession (l.take 224)
    let s := s.extentWrite s.hier.arena ((4 * n + r) * 16384 + pos % 64 * 256) e
    let s := s.setNode n { x with prod := x.prod.set r ((pos + 1) % 65536) }
    if last then s else s.ringWrite n r kind hostSeq hostSession false k (l.drop 224)

/-- Put a message on ring `r` of node `n`. -/
def State.ringPut (s : State) (n r kind hostSeq hostSession : Nat) (bytes : List Byte) : State :=
  s.ringWrite n r kind hostSeq hostSession true (ceilDiv bytes.length 224) bytes

/-- Consume `k` entries of ring `r` of node `n`. -/
def State.ringTake (s : State) (n r k : Nat) : State :=
  let x := s.node n
  s.setNode n { x with cons := x.cons.set r ((x.cons.getD r 0 + k) % 65536) }

/-- Entries in use on ring `r` (R405). -/
def HierNode.used (x : HierNode) (r : Nat) : Nat := (x.prod.getD r 0 + 65536 - x.cons.getD r 0) % 65536

/-- RETRY_AFTER of a full command ring: 64 mean round trips in µs, at least 1,000 (R408). -/
def HierNode.retryAfter (x : HierNode) (now : Nat) : Nat :=
  let l := x.trips.filter fun p => decide (now ≤ p.1 + msTicks 100)
  let sum := l.foldl (fun a p => a + p.2) 0
  if l.isEmpty then 1000 else max 1000 (ceilDiv (64 * sum * 2) (l.length * 20625))

/-- A request message on the hierarchy session of node `n`, under its next SEQ, with the NODE field `node` (R379, R403, R404). -/
def State.sendTo (s : State) (n node op : Nat) (payload : List Byte) : State :=
  let x := s.node n
  let seq := (x.seq + 1) % 4294967296
  let m : Msg := (⟨op, 0, node, x.sess, seq, 0, payload, []⟩ : Msg).tagged x.key
  (s.setNode n { x with seq := seq }).emit (.toWorker n m)

/-- The same to a worker that has its node number. -/
def State.sendWorker (s : State) (n op : Nat) (payload : List Byte) : State := s.sendTo n n op payload

/-- A request for a worker (R408): the answer it gets at once, or the state in which it is on its way. -/
def State.proxy (s : State) (q : Req) (op : Nat) (payload : List Byte) : Option (Nat × List Byte) × State :=
  let n := q.node
  let x := s.node n
  if x.state = 0 then (some (St.noRoute, []), s)
  else if x.state = 1 || x.state = 4 then (some (St.nodeLost, []), s)
  else if x.state = 5 || x.state = 2 then (some (St.busy, beBytes 4 100000), s)
  else if 64 < x.used 0 + ringEntries payload then (some (St.busy, beBytes 4 (x.retryAfter s.tick)), s)
  else
    let s := s.ringPut n 0 1 q.seq q.session ((reqMsg q op payload).bytes ++ q.tag)
    let s := s.sendWorker n op payload
    let y := s.node n
    let c : ProxyCmd := ⟨q.session, q.seq, op, payload, q.port, q.src, y.seq, ringEntries payload, s.tick⟩
    (none, s.setNode n { y with cmds := y.cmds ++ [c] })

/-! ### The processor path (R383) -/

/-- RETRY_AFTER at the measured service time (R383). -/
def retryAfter (serviceNs : Nat) : Nat := max 100 (ceilDiv (256 * serviceNs) 1000)

/-- A request enters the processor queue, or finds no entry it may use: the BUSY answer and the state. -/
def State.enqueue (s : State) (num : Nat) (x : Session) (q : Req) : Option (List Byte) × State :=
  let s := s.setObj O.dictQueueDepth (min q.depth 512)
  let full := decide (512 ≤ q.depth) || (decide (x.level < levelEngineer) && decide (480 ≤ q.depth))
  if s.resil.procDown || full then
    let s := s.bump O.dictBusyCount
    let s := if s.resil.busyEp then s else ({ s with resil := { s.resil with busyEp := true } }).raiseSession 204 num x []
    (some (beBytes 4 (if s.resil.procDown then 100000 else retryAfter q.service)), s)
  else
    let s := (s.bump O.dictProcRequests).setObj O.dictQueuePeak (max (s.obj O.dictQueuePeak) (q.depth + 1))
    let s := if s.resil.busyEp then ({ s with resil := { s.resil with busyEp := false } }).raiseSession 205 num x [] else s
    (none, s)

/-! ### One request -/

/-- The states in which the device serves Resil: from STARTUP to RECOVERY, in RESCUE at the HOST0 port (R518), and during a warm wake once the management processor runs again (R482). In
COLD, in BOOT and in STANDBY nothing serves it; the wake frame is heard alone (R367, R481). -/
def State.servesAt (s : State) (port : Nat) : Bool :=
  let st := s.opState
  (decide (startup ≤ st) && decide (st ≤ recovery)) || (port == 0 && ((st == boot && s.sec.rescue) || (st == standby && s.power.awake)))

/-- A request is heard on the management VLAN and on a port served (R371, R396). -/
def State.serves (s : State) (q : Req) : Bool :=
  s.servesAt q.port.val && q.vlan == s.obj O.netMgmtVlan && (q.udp == s.obj O.dictUdpPort || s.resil.oldPort == some q.udp)

/-- In RESCUE only reads, writes and descriptions of the identity and SEC_ objects, transfers to `SEC_STAGE` and CLOSE are served (R518); by opcode and payload. -/
def State.rescueBars (s : State) (op : Nat) (payload : List Byte) : Bool :=
  let ix := refIndex (refOf payload)
  s.sec.rescue && !(((op == 1 || op == 2 || op == 5) && (ix == 0x1000 || ix == 0x3300)) || (op == 0x10 && refOf payload == O.secStage) || op == 0x13 || op == 0x24)

/-- Execute a request that has passed the window: NODE (R379), then the checks `front` that a manager makes for a worker too, then the path, then `act`. -/
def State.execute (s : State) (num : Nat) (x : Session) (q : Req) (op : Nat) (payload : List Byte) (fast : Bool)
    (front : Session → State → Option Nat) (act : Nat → Session → State → Ans) : State :=
  if s.rescueBars op payload then s.respond x q op St.noObject []
  else if q.node = s.obj O.dictNodeId then
    match (if fast then (none, s.bump O.dictFastRequests) else s.enqueue num x q) with
    | (some retry, s) => s.respond x q op St.busy retry
    | (none, s) =>
      match front x s with
      | some st => s.respond x q op st []
      | none =>
        if op = 0x09 && !x.inflight.isEmpty then s.setSession num { x with fences := (q, x.inflight) :: x.fences, busied := x.busied.filter (· != q.seq) }
        else
          let a := act num x s
          a.st.respond x q op a.status a.result
  else if s.obj O.hierRoleNow != 1 then s.respond x q op St.noRoute []
  else
    match front x s with
    | some st => s.respond x q op st []
    | none =>
      match s.proxy q op payload with
      | (some (st, r), s) => s.respond x q op st r
      | (none, s) =>
        match s.session? num with
        | none => s
        | some y => s.setSession num { y with inflight := q.seq :: y.inflight, busied := y.busied.filter (· != q.seq) }

/-- The 2³¹st request ends its session (R377). -/
def State.limitSession (s : State) (num : Nat) : State :=
  match s.session? num with
  | some x => if 2147483648 ≤ x.requests && !x.expired then s.endSession num 2 else s
  | none => s

/-- A tagged request (R381): VER, LENGTH and size; session; tag; SEQ; opcode (the row's); then `execute`. -/
def State.request (s : State) (q : Req) (op : Nat) (payload : List Byte) (fast : Bool)
    (front : Session → State → Option Nat) (act : Nat → Session → State → Ans) : State :=
  if !s.serves q then s
  else if q.ver ≠ 1 || q.length ≠ payload.length || s.maxMessage < payload.length + 32 then s.bump O.dictBadMessages
  else
    match s.session? q.session with
    | none => s.bump O.dictBadMessages
    | some x =>
      if q.tag ≠ tagOf x.key (reqMsg q op payload) then
        let s := s.bump O.dictBadTags
        if x.badTag then s else (s.setSession q.session { x with badTag := true }).raiseSession 203 q.session x []
      else if x.expired then s.respondOnce x q op St.sessionExpired
      else
        let x := { x with badTag := false, lastAuth := s.tick, requests := x.requests + 1 }
        let s := (s.setSession q.session x).resumeSubs q.session
        let new := serialAbove q.seq x.high
        let s :=
          if x.inflight.contains q.seq || x.fences.any (fun f => f.1.seq == q.seq) then s
          else if new || x.busied.contains q.seq then
            let x := { x with high := if new then q.seq else x.high, stale := false }
            (s.setSession q.session x).execute q.session x q op payload fast front act
          else
            match (if inWindow q.seq x.high then kvFind x.cache q.seq else none) with
            | some m => s.emit (.resil q.port q.src m)
            | none =>
              let s := if x.stale then s else (s.setSession q.session { x with stale := true }).raiseSession 208 q.session x []
              s.respondOnce x q op St.staleSeq
        s.limitSession q.session

/-! ### Writing one object -/

/-- Whether bytes are valid UTF-8: lead byte, continuation bytes, no overlong form, no surrogate, at most U+10FFFF. -/
def utf8Ok : List Byte → Bool
  | [] => true
  | a :: l =>
    if a.toNat < 0x80 then utf8Ok l
    else
      match l with
      | [] => false
      | b :: l =>
        let cont (x : Byte) : Bool := decide (0x80 ≤ x.toNat) && decide (x.toNat < 0xC0)
        if 0xC2 ≤ a.toNat && a.toNat < 0xE0 then cont b && utf8Ok l
        else
          match l with
          | [] => false
          | c :: l =>
            if 0xE0 ≤ a.toNat && a.toNat < 0xF0 then
              cont b && cont c && !(a.toNat == 0xE0 && decide (b.toNat < 0xA0)) && !(a.toNat == 0xED && decide (0xA0 ≤ b.toNat)) && utf8Ok l
            else
              match l with
              | [] => false
              | d :: l =>
                decide (0xF0 ≤ a.toNat) && decide (a.toNat < 0xF5) && cont b && cont c && cont d
                  && !(a.toNat == 0xF0 && decide (b.toNat < 0x90)) && !(a.toNat == 0xF4 && decide (0x90 ≤ b.toNat)) && utf8Ok l

/-- Check 10 of R381 on the bytes of a value, then the ranges of R557 and R558: the first failure, if any (R14, R375). -/
def valueFault (r : ObjRow) (v : List Byte) : Option Nat :=
  let n := beNat v
  match r.ty with
  | .domain | .str =>
    let (lo, hi, step) := r.lens
    if r.ty = .str && !utf8Ok v then some St.badValue
    else if v.length < lo || hi < v.length || (v.length - lo) % step ≠ 0 then some St.badSize
    else none
  | t =>
    if v.length ≠ t.size then some St.badType
    else if t = .bool && 1 < n then some St.badValue
    else if t = .ratio && ratioDen n = 0 then some St.badValue
    -- a malformed instant has a status of its own for PTL_WAKE_AT (R483)
    else if t = .stime && !stimeOk n then some (if r.name = "PTL_WAKE_AT" then St.wakeTime else St.badTime)
    else if r.ok.isEmpty || r.ok.any fun p => decide (p.1 ≤ n) && decide (n ≤ p.2) then none
    else some St.badValue

/-- Store a value: an RWS object changes its staged copy (R16). -/
def State.store (s : State) (r : ObjRow) (ref : Nat) (v : List Byte) : State :=
  let at_ := if r.acc = .rws then staged ref else ref
  if r.ty.isBlob then s.setBlob at_ v else s.setObj at_ (beNat v)

/-- What a write does after the checks of R381 to 10: the session's number and record, the object, the value. -/
abbrev Effect := Nat → Session → ObjRow → Nat → List Byte → State → Ans

/-- The effect of a write to an object with no behaviour of its own. -/
def storeEffect : Effect := fun _ _ r ref v s => done (s.store r ref v)

/-- Checks 9 and 10 of R381 on a write that has passed 7 and 8, then the effect. A write of 0 to a saturating counter clears it, whatever its access code (R505). -/
def writeOne (eff : Effect) (num : Nat) (x : Session) (ref : Nat) (v : List Byte) (s : State) : Ans :=
  match findRef ref with
  | none => refuse s St.noObject
  | some (r, _) =>
    if r.ctr && v.length == r.ty.size && beNat v == 0 then done (s.clearCounter ref)
    else if r.acc = .ro then refuse s St.readOnly
    else if r.acc = .rwi && !s.idle ref then refuse s St.notIdle
    else
      match valueFault r v with
      -- a malformed instant for `PTL_WAKE_AT` has a code of its own (R483)
      | some st => refuse s (if ref = O.ptlWakeAt && st = St.badTime then St.wakeTime else st)
      | none => eff num x r ref v s

/-- The answer of a write carries the reference before its result (R375). -/
def Ans.withRef (a : Ans) (ref : Nat) : Ans := { a with result := refBytes ref ++ a.result }

/-- A WRITE request (OP 0x02) for an object, with what the object's chapter makes of it. -/
def State.hostWrite (s : State) (q : Req) (ref : Nat) (v : List Byte) (eff : Effect) : State :=
  s.request q 0x02 (valueForm ref v) (fastWrite ref) (fun x _ => objectCheck x ref true)
    (fun num x s => (writeOne eff num x ref v s).withRef ref)

/-- The WHEN field of a COMMIT: NEXT, or an STIME96 code. -/
def whenCode (treq : Option Nat) : Nat := treq.getD Config.whenNext

/-- A COMMIT request (OP 0x08) for an owner (R375, R380): it needs the write level of its owner's range, and a well-formed WHEN (R11). -/
def State.hostCommit (s : State) (q : Req) (owner : Nat) (treq : Option Nat) (act : Nat → Session → State → Ans) : State :=
  s.request q 0x08 (beBytes 2 owner ++ [0, 0] ++ beBytes 12 (whenCode treq)) false
    (fun x _ => if x.level < writeLevel (owner * 256) then some St.accessLevel else none)
    (fun num x s =>
      match treq with
      | some t => if stimeOk t then act num x s else refuse s St.badTime
      | none => act num x s)

end Sys2Proof.Machine
end

