-- ==== Sys2Proof/Machine/Force.lean ====
section
/-! DEFINITION. The causes that force a gate lane low (R98 to R101, Table 03-3) and the change of operating state (R471), which sets and
clears one of them. -/

namespace Sys2Proof.Machine

/-- The bits of `GATE_FORCE_CAUSE` (Table 03-3). -/
abbrev causeIntlk : Nat := 0
abbrev causeState : Nat := 1
abbrev causeDark : Nat := 2
abbrev causeFault : Nat := 3
abbrev causePatrol : Nat := 4
abbrev causeHost : Nat := 5
abbrev causeBlank : Nat := 6
abbrev causeUnowned : Nat := 7
abbrev causeLoad : Nat := 8

/-- The causes active on bank `b`. -/
def State.causes (s : State) (b : Nat) : Nat := s.obj (O.gateForceCause b)

/-- A window that has ended leaves the lane low and gives its reading, if it was sampled (R137). -/
def State.settleWin (s : State) (b : Nat) : State :=
  let x := s.bank b
  match x.cur with
  | none => s
  | some w =>
    if (s.tick : Int) < w.we then s
    else
      let s := s.setBank b { x with cur := none, lowSince := w.we }
      match w.pd with
      | none => s
      | some none => s.bump (O.colPdInvalid b)
      | some (some v) =>
        let s := s.setBank b { s.bank b with readings := (w.we.toNat, v) :: (s.bank b).readings }
        (s.setObj (O.colPdReading b) (min 0xFFFFFFFF v.toNat)).setObj (O.colPdTime b) (stimeOf (w.ws + s.obj (O.gateDrvLatency b) + s.time.offset))

/-- A header or window under way is cut at this instant: the lane goes low, a cut window is counted, and its photodiode sample is invalid (R100, R137). -/
def State.cutLane (s : State) (b : Nat) : State :=
  let s := s.settleWin b
  let x := s.bank b
  match x.cur with
  | none => s
  | some w =>
    let s := s.setBank b { x with cur := none, lowSince := s.tick }
    let s := if w.ws ≤ s.tick then s.bump (O.gateWindowsCut b) else s
    let s := if w.pd.isSome then s.bump (O.colPdInvalid b) else s
    s.emit (.gateLow b s.tick)

/-- Two banks carry the same primary of the same output or group. -/
def State.samePrimary (s : State) (a b : Nat) : Bool :=
  !s.unowned a && !s.unowned b && s.leadOf (s.obj (O.gateOutput a)) == s.leadOf (s.obj (O.gateOutput b)) && s.obj (O.gatePrimary a) == s.obj (O.gatePrimary b)

/-- The BANK_EFF runs that satisfy `q` are interrupted (R461). -/
def State.interruptRuns (s : State) (q : Nat → Bool) : State :=
  { s with cal := { s.cal with runs := s.cal.runs.map fun r =>
      if r.id == 6 && r.ending == 0 && q r.inst then { r with ending := St.calInterrupted } else r } }

/-- A cause becomes active on bank `b` (R98); a BANK_EFF run of its primary is interrupted (R461). -/
def State.forceSet (s : State) (b c : Nat) : State :=
  if bit (s.causes b) c then s
  else ((s.setObj (O.gateForceCause b) (setBit (s.causes b) c)).cutLane b).interruptRuns fun r => r == b || s.samePrimary r b

/-- A cause of bank `b` clears; with the last one, the lane may resume from the next emitted boundary (R101). -/
def State.forceClear (s : State) (b c : Nat) : State :=
  if bit (s.causes b) c then
    let v := clearBit (s.causes b) c
    let s := s.setObj (O.gateForceCause b) v
    if v = 0 then s.setBank b { s.bank b with clearedAt := s.tick } else s
  else s

/-- Set or clear a cause by a condition. -/
def State.forcePut (s : State) (b c : Nat) (on : Bool) : State := if on then s.forceSet b c else s.forceClear b c

/-- Set a cause on several banks; clear it. -/
def State.forceAll (s : State) (bs : List Nat) (c : Nat) : State := bs.foldl (fun s b => s.forceSet b c) s
def State.clearAll (s : State) (bs : List Nat) (c : Nat) : State := bs.foldl (fun s b => s.forceClear b c) s

/-- Set a latched cause: its bit in `GATE_FORCE_LATCH` too. -/
def State.latchAll (s : State) (bs : List Nat) (c : Nat) : State :=
  (s.forceAll bs c).setObjs (bs.map fun b => (O.gateForceLatch b, setBit (s.obj (O.gateForceLatch b)) c))

/-- Clear a latched cause. -/
def State.unlatchAll (s : State) (bs : List Nat) (c : Nat) : State :=
  (s.clearAll bs c).setObjs (bs.map fun b => (O.gateForceLatch b, clearBit (s.obj (O.gateForceLatch b)) c))

/-- The states in which every gate lane is low (R6, Table 03-3). -/
def lowState (st : Nat) : Bool := st == cold || st == boot || st == standby

/-- The loop engine starts again (R428): every loop that is not OFF re-enters by hand-over with a ramp, nothing is offered yet, no computation is under way. -/
def State.engineStart (s : State) : State :=
  let s := { s with loopSets := s.loopSets.map fun x => (x.1, { x.2 with boundary := none, samples := [], shadow := none }) }
  allLoops.foldl (fun s l =>
    if s.obj (O.loopMode l) = 0 then s
    else
      let x : LoopSt := kvGet (fun _ => {}) s.loops l
      { s with loops := kvPut (fun _ => {}) s.loops l { x with hand := true, rampReq := true, ramp := none, offers := false } }) s

/-- The operating state changes: E245 with the old and new state and the cause, and the STATE cause follows (R471, Table 03-3). -/
def State.setOp (s : State) (st cause : Nat) : State :=
  if s.opState = st then s
  else
    let old := s.opState
    let s := (s.setObj O.ptlState st).raise 245 [old, st, Config.causeCode 245 cause]
    let s := if st = startup then s.setIntg { s.intg with startAt := s.tick, roundAt := s.tick } else s
    -- a warm wake has restarted the engine before READY (Table 17-9)
    let s := if lowState old && !lowState st && !s.power.awake then s.engineStart else s
    if lowState st then s.forceAll allBanks causeState
    else if s.time.pllLocked then s.clearAll allBanks causeState
    else s

/-- The bits of `PWR_RECOVERY_CAUSE` (Table 17-11). -/
abbrev recPll : Nat := 0
abbrev recWake : Nat := 1
abbrev recFirmware : Nat := 2

/-- A recovery cause is set: NORMAL and TEST go to RECOVERY (Table 17-2). -/
def State.setRecovery (s : State) (c : Nat) : State :=
  let s := s.setObj O.pwrRecoveryCause (setBit (s.obj O.pwrRecoveryCause) c)
  if s.opState = normal || s.opState = test then s.setOp recovery c else s

/-- A recovery cause clears; the device stays in RECOVERY until the host leaves it (R22, R472). -/
def State.clearRecovery (s : State) (c : Nat) : State :=
  s.setObj O.pwrRecoveryCause (clearBit (s.obj O.pwrRecoveryCause) c)

/-- The tick on which boundary `k` of generator `n` is emitted on bank `b` (R96). -/
def State.emittedBoundary (s : State) (n b : Nat) (k : Int) : Int :=
  s.boundaryTick n k - (s.obj (O.gateDrvLatency b) : Int)

/-- The generator whose frames bank `b` follows, while its output shows frames. -/
def State.bankTg (s : State) (b : Nat) : Option Nat :=
  let n := s.obj (O.gateOutput b)
  if s.unowned b then none else if s.showing n then some (s.leadOf n) else none

/-- The index of the first boundary whose emission on bank `b` is not before tick `at_`. -/
def State.nextEmitted (s : State) (n b : Nat) (at_ : Int) : Int :=
  let k : Int := (s.tg n).frame
  if at_ ≤ s.emittedBoundary n b k then k
  else if at_ ≤ s.emittedBoundary n b (k + 1) then k + 1
  else k + 2

/-- The HOST cause whose emitted boundary has come is set (Table 03-3). -/
def State.hostDue (s : State) (b : Nat) : State :=
  let x := s.bank b
  match x.hostFrom with
  | some f => if f ≤ s.tick then (s.setBank b { x with hostFrom := none }).forceSet b causeHost else s
  | none => s

/-- The DARK cause of bank `b` clears at B_new, which on its lane is the emitted B_new, so that the first frame is emitted whole (Table 03-3, R96, R101). -/
def State.darkClear (s : State) (n b : Nat) (k : Int) : State :=
  let v := clearBit (s.causes b) causeDark
  if bit (s.causes b) causeDark then
    let s := s.setObj (O.gateForceCause b) v
    if v = 0 then s.setBank b { s.bank b with clearedAt := (s.emittedBoundary n b k).toNat } else s
  else s

/-- Lane `b` emits in frame `k` of generator `n`: no cause is active, and the last cleared at or before the emitted boundary
(R98, R101). In the dark interval, `k` is the first new frame, whose emitted boundary ends the DARK cause.  -/
def State.laneEmits (s : State) (n b : Nat) (k : Int) : Bool :=
  !s.jtagDrives && (if (s.tg n).dark then clearBit (s.causes b) causeDark else s.causes b) == 0 && decide (((s.bank b).clearedAt : Int) ≤ s.emittedBoundary n b k)

end Sys2Proof.Machine
end

