-- ==== Sys2Proof/Machine/Lamp.lean ====
section
/-! DEFINITION. The lamp-wire slots and the queue of a wire (R103 to R105, R109 to R112). -/

namespace Sys2Proof.Machine

/-- The instant at which slot `m` begins, in studio ticks (R109): a microsecond is 20,625/2 ticks. -/
def State.slotInstant (s : State) (m : Nat) : Instant := ⟨(m * s.obj O.lwPeriod * 20625 : Nat), 2⟩

/-- The root tick on which slot `m` begins. -/
def State.slotStart (s : State) (m : Nat) : Int := s.rootTick (s.slotInstant m)

/-- The index of the slot in which the present tick lies; 0 before the epoch. -/
def State.slotNow (s : State) : Nat :=
  let u := (2 * s.studio + 1).toNat
  let m := u / (s.obj O.lwPeriod * 20625)
  if s.slotStart m ≤ s.tick then m else m - 1

/-- The next slot that has not begun: one whose start falls on this tick counts until its LW_SLOT_START. -/
def State.nextSlot (s : State) : Nat :=
  let m := s.slotNow
  if s.obj O.lwSlot == m || s.slotStart m < s.tick then m + 1 else m

/-- Ticks of a frame of `n` shares (R103, R109). -/
def frameTicks (n : Nat) : Nat := 21025 + n * 108800

/-- A slot of `period` µs holds a frame of `n` shares and two idle cells (R109). -/
def slotFits (period n : Nat) : Bool := decide (2 * (frameTicks n + 800) ≤ period * 20625)

/-- The ladder of the owner of bank `b`, of its leader in a group; every entry unused without an owner (R58, R69, R104, R111). -/
def State.ladderOf (s : State) (b : Nat) : List Nat :=
  let n := s.obj (O.gateOutput b)
  if n > 3 then List.replicate 16 0 else (List.range 16).map fun i => s.obj (O.slmLadder (s.leadOf n) i)

/-- A LEVEL frame for table `t` of wire `w` may be sent: the table is not in use, or the lane is forced low by a cause other than HOST (R112). -/
def State.mayWrite (s : State) (w t : Nat) : Bool :=
  t != s.obj (O.gateTable w) || clearBit (s.causes w) causeHost != 0

/-- Replace the queued frame for the same table, or join the end (R112). -/
def queueLevel (f : LevelFrame) : List LevelFrame → List LevelFrame
  | [] => [f]
  | g :: l => if g.table = f.table then f :: l else g :: queueLevel f l

/-- The ladder table `t` of wire `w` holds once the frames queued for it are sent (R112). -/
def State.tableHolds (s : State) (w t : Nat) : List Nat :=
  let x := s.wire w
  match x.levelQ.find? fun f => f.table == t with
  | some f => f.ladder
  | none => if x.initLeft = 0 || (x.initLeft = 1 && t = 0) then (if t = 0 then x.held0 else x.held1) else s.ladderOf w

/-- The position, from the next slot on, of the slot that carries the queued LEVEL frame at index `i` of the wire (R110). -/
def State.levelPos (s : State) (w i : Nat) : Nat :=
  let x := s.wire w
  x.initLeft + (if x.limitQ && x.initLeft < 3 then 1 else 0) + ((x.levelQ.take i).filter fun f => s.mayWrite w f.table).length

/-- The root tick at which that frame ends. -/
def State.levelEnd (s : State) (w i : Nat) : Int :=
  s.slotStart (s.nextSlot + s.levelPos w i) + (frameTicks (s.obj (O.lwDrivers w)) : Int)

/-- The latest end among the LEVEL frames that the commit of generator `n` has queued and that are not yet sent. -/
def State.levelsEnd (s : State) (n : Nat) : Option Int :=
  let ends := allBanks.flatMap fun w =>
    let q := (s.wire w).levelQ
    ((List.range q.length).filter fun i => (q[i]?.bind (·.tg)) == some n).map fun i => s.levelEnd w i
  ends.foldl (fun m e => match m with | none => some e | some d => some (max d e)) none

/-- LEVEL frames must end before B_new − 100 µs (R112). -/
def levelMargin : Nat := 1031250

/-- The boundary index, from `k` on, at which frames that end at `e` are in time (R112, R559). -/
def State.afterLevels (s : State) (g : Timing) (k : Int) : Option Int → Int
  | none => k
  | some e => max k (g.firstFrom ⟨2 * (e + levelMargin + s.time.offset) + 1, 2⟩)

/-- The bits of a LEVEL payload word i (R104). -/
def levelWord (table i l : Nat) : Nat := (if i = 0 then table * 32768 else 0) + (l - 1)

/-- A share: sixteen words, most significant byte first, and the CRC over kind byte and words (R103, R105). -/
def share (kind : Nat) (words : List Nat) : List Byte :=
  let p := words.flatMap fun w => beBytes 2 w
  p ++ beBytes 2 (crc 16 0x1021 0xFFFF (beBytes 1 kind ++ p))

/-- The shares of a frame, each the sixteen words of its driver. -/
def frameBytes (kind n : Nat) (words : Nat → List Nat) : List Byte := (List.range n).flatMap fun d => share kind (words d)

/-- The sixteen U16 words of driver `d` in an image of Table 03-9. -/
def imageWords (img : List Byte) (d : Nat) : List Nat := (List.range 16).map fun c => leAt img ((d * 16 + c) * 2) 2

/-- A SET word (R104). -/
def setWord (code trim : Nat) : Nat := min 0xFFFF ((code * trim + 16384) / 32768)

end Sys2Proof.Machine
end

