-- ==== Sys2Proof/Machine/Rails.lean ====
section
/-! DEFINITION. The supply groups and the cold start's way through them (R473, R474, Table 17-4). -/

namespace Sys2Proof.Machine

def State.setPower (s : State) (x : PowerSt) : State := { s with power := x }

/-- The rails of a group (Table 17-3). -/
def groupRails (g : Nat) : List Nat := (List.range 8).filter fun r => railGroup r == g

/-- A VOUT_COMMAND of VDD_CORE, in mV (R475); without a regulator there is none. -/
def State.vcore (s : State) (mv : Nat) : State :=
  if s.obj (O.pwrRailPmbus 0) = 0xFF || s.obj (O.pwrRailState 0) = 3 || mv < 720 || 840 < mv then s
  else (s.setPower { s.power with vcmd := mv, vcmdAt := s.tick }).emit (.bus 4 (s.obj (O.pwrRailPmbus 0)) (0x21 :: leBytes 2 mv))

/-- The enable of group `g` goes on, and the sequence waits for it. -/
def State.groupOn (s : State) (g : Nat) : State :=
  let p := s.power
  (s.setPower { p with groups := setBit p.groups g, good := clearBit p.good g, step := some g, stepAt := s.tick }).emit (.pwrEn g true)

/-- Groups go off in the order given. -/
def State.groupsOff (s : State) (l : List Nat) : State :=
  let s := l.foldl (fun s g =>
    if bit s.power.groups g then
      let p := s.power
      let s := (s.setPower { p with groups := clearBit p.groups g, good := clearBit p.good g }).emit (.pwrEn g false)
      s.setObjs ((groupRails g).map fun r => (O.pwrRailState r, 0))
    else s) s
  s.setPower { s.power with step := none, faults := andNot 9 s.power.faults (l.foldl (fun m g => (groupRails g).foldl setBit m) 0) }

/-- Group `g` of a cold start is good: the next step (Table 17-4). EN2 waits for the root PLL. -/
def State.coldNext (s : State) (g : Nat) : State :=
  match g with
  | 0 => s.groupOn 1
  | 1 => if s.time.pllLocked then (s.vcore (s.obj O.ageVcoreBase)).groupOn 2 else s
  | 2 => s.groupOn 3
  | _ => s.setPower { s.power with step := none, tries := 0 }

/-- The root PLL has locked: a cold start in step 3 goes on. -/
def State.pllGoOn (s : State) : State := if s.opState = boot && s.power.step = some 1 && bit s.power.good 1 then s.coldNext 1 else s

/-- The last step of a late warm wake has finished: its recovery cause goes (R482). -/
def State.lateDone (s : State) : State :=
  if bit (s.obj O.pwrRecoveryCause) recWake && s.power.wakeAt.isNone && !s.resil.procDown then s.clearRecovery recWake else s

end Sys2Proof.Machine
end

