-- ==== Sys2Proof/Machine/Time.lean ====
section
/-! DEFINITION. The root clock and the time servo (R18 to R42), the step of studio time (R27, R559), and the meanings of their
commands. -/

namespace Sys2Proof.Machine

/-! ### Servo states and sources -/

/-- The servo states of Table 01-2. -/
abbrev freerun : Nat := 0
abbrev acquiring : Nat := 1
abbrev locked : Nat := 2
abbrev holdover : Nat := 3
abbrev expired : Nat := 4

/-- The source codes of Table 01-3 that name a source. -/
def isSource (c : Nat) : Bool := decide (1 ≤ c) && decide (c ≤ 6)

/-- The source codes of `TIME_SRC_PRIORITY`, first to last, up to the first 0xF (Table 01-5). -/
def priorityList (v : Nat) : List Nat :=
  (((List.range 8).map fun i => bits v (31 - 4 * i) (28 - 4 * i)).takeWhile (· != 15)).filter isSource

/-- The source the selection mode names among the qualified ones; 0 none (R32). -/
def State.selectSource (s : State) : Nat :=
  let active := s.obj O.timeSrcActive
  let ok (c : Nat) : Bool := s.time.qualified.contains c
  let best := ((priorityList (s.obj O.timeSrcPriority)).find? ok).getD 0
  match s.obj O.timeSelMode with
  | 2 => if ok (s.obj O.timeSrcManual) then s.obj O.timeSrcManual else 0
  | 1 => if active != 0 && ok active then active else best
  | _ => best

def State.setTime (s : State) (x : TimeSt) : State := { s with time := x }

/-! ### Holdover (R41, R42) -/

/-- The seconds of 24 hours, in ticks. -/
def dayTicks : Nat := 86400 * ticksPerSec

/-- The mean of a list of integers, rounded down; `d` for an empty list. -/
def meanInt (l : List Int) (d : Int) : Int :=
  if l.isEmpty then d else (l.foldl (· + ·) 0) / (l.length : Int)

/-- Enter HOLDOVER (R41): freeze the mean frequency estimate, learn the drift of a lock of 24 h or more, and note the error at entry. -/
def State.enterHoldover (s : State) : State :=
  let x := s.time
  let mean := meanInt (x.hist.map (·.2)) x.freqEst
  let ramp : Int :=
    match x.lockedAt with
    | some a =>
      if a + dayTicks ≤ s.tick then (x.freqEst - x.firstEst) * ticksPerSec / ((s.tick - a : Nat) : Int) else 0
    | none => 0
  let (frozen, s) := s.openRound mean 1000000000000
  let s := s.setTime { x with
    holdAt := s.tick, e0 := (s.objI O.timePhaseErr).natAbs, frozen := frozen, ramp := ramp, lastMeas := none, lockSince := none }
  ((s.setObj O.timeState holdover).setObjI O.timeFreqCorr s.time.frozen).raise 4 []

/-- The holdover error in ps at the present tick, as an exact fraction: |e₀| + y·t + a·t²/2 (R42). -/
def State.holdoverError (s : State) : Nat × Nat :=
  let t := s.tick - s.time.holdAt
  let den := 172800 * ticksPerSec * ticksPerSec
  (s.time.e0 * den + s.obj O.timeOscStab * t * (172800 * ticksPerSec) + s.obj O.timeOscAgeing * t * t, den)

/-- The estimate exceeds the budget (R42). -/
def State.holdoverOver (s : State) : Bool :=
  let e := s.holdoverError
  decide (s.obj O.timeHoldoverBudget * 1000 * e.2 < e.1)

/-- `TIME_HOLDOVER_EST` in ns, its rounding open, and `TIME_HOLDOVER_ELAPSED` in s, as a read finds them (R42). -/
def State.holdoverEst (s : State) : Nat × State :=
  if s.obj O.timeState = holdover || s.obj O.timeState = expired then
    let (v, s') := s.openRound (s.holdoverError.1 : Int) (s.holdoverError.2 * 1000)
    (min 0xFFFFFFFF v.toNat, s')
  else (0, s)
def State.holdoverElapsed (s : State) : Nat :=
  if s.obj O.timeState = holdover || s.obj O.timeState = expired then min 0xFFFFFFFF ((s.tick - s.time.holdAt) / ticksPerSec) else 0

/-- The steering fraction in force: in holdover, the frozen fraction and its ageing ramp, in steps of 0.001 ppb whose rounding is open, within ±100 ppm (R19, R41). -/
def State.freqCorr (s : State) : Int × State :=
  if s.obj O.timeState = holdover || s.obj O.timeState = expired then
    let (r, s') := s.openRound (s.time.ramp * ((s.tick - s.time.holdAt : Nat) : Int)) (ticksPerSec * 1000000000000)
    (clampInt (-100000000) 100000000 (s.time.frozen + r), s')
  else (s.objI O.timeFreqCorr, s)

/-! ### Switching (R32, R33) -/

/-- Leave LOCKED: E003 where the servo was locked (Table 01-7). -/
def State.leaveLocked (s : State) : State := if s.obj O.timeState = locked then s.raise 3 [] else s

/-- Take the source the selection names: a switch raises E001 and goes to ACQUIRING; with none left the servo goes to HOLDOVER, or stays in FREERUN. -/
def State.reselect (s : State) : State :=
  let old := s.obj O.timeSrcActive
  let new := s.selectSource
  if new = old then s
  else if new = 0 then
    let s := s.leaveLocked.setObj O.timeSrcActive 0
    if s.obj O.timeState = acquiring || s.obj O.timeState = locked then s.enterHoldover else s
  else
    let s := s.leaveLocked
    let s := if old = 0 then s else s.raise 1 []
    let s := (s.setObj O.timeSrcActive new).setObj O.timeState acquiring
    s.setTime { s.time with lastMeas := none, lockSince := none, unlockRun := 0 }

/-- A source is no longer qualified (R31): its event, E000 if it is the active one, then the selection (R32). -/
def State.disqualify (s : State) (c : Nat) : State :=
  if !s.time.qualified.contains c then s
  else
    let s := s.setTime { s.time with qualified := s.time.qualified.filter (· != c), ppsMiss := 0 }
    let s := s.raise (if c = 5 then 11 else if c = 6 then 12 else 10) []
    let s := if s.obj O.timeSrcActive = c then s.raise 0 [] else s
    s.reselect

/-! ### The step of studio time (R26, R27, R559) -/

/-- One millisecond in ticks, the least dark interval (R52). -/
def darkTicks : Int := 10312500

/-- The first boundary index of `g` with B ≥ `from_` + 1 ms + P (R55). -/
def Timing.enableFrom (g : Timing) (from_ : Instant) : Int :=
  g.firstFrom ((from_.plus darkTicks).plusFrac g.pNum g.den)

/-- The value an object will have under a list of captured staged values. -/
def valIn (s : State) (vals : List (Nat × Nat)) (ref : Nat) : Nat := (kvFind vals ref).getD (s.obj ref)

/-- Place a generator's timing change again at a step (R559). `s` already reads stepped time; `d` is the root tick of D. -/
def State.replace (s : State) (n : Nat) (d : Int) (dark : Bool) : State :=
  let x := s.tg n
  let c : TgCommit := x.commit.getD ⟨false, [], false, false, false, true, none, ⟨0, 1⟩, none, false, [], [], []⟩
  let g := timingIn (valIn s c.vals) n
  let bOld := tickInstant (d + s.time.offset)
  let k := s.afterLevels g (g.enableFrom bOld) (s.levelsEnd n)
  let bNew := if c.disabling then none else some (g.boundary k, k.toNat)
  let s := s.setTg n { x with commit := some { c with stepped := true, bOld := bOld, bNew := bNew } }
  s.setObjs [(O.tgBOld n, bOld.stime), (O.tgBNew n, match bNew with | some b => b.1.stime | none => 0),
    (O.tgCommitState n, if dark then 2 else 1)]

/-- A pending enabling commit whose B_old has not come is placed again under R55, with T_acc at the step. -/
def State.replaceEnabling (s : State) (n : Nat) (c : TgCommit) : State :=
  let now := tickInstant s.studio
  let bOld := match c.treq with | some t => now.max (stimeInstant t) | none => now
  let g := timingIn (valIn s c.vals) n
  let k := s.afterLevels g (g.enableFrom bOld) (s.levelsEnd n)
  let s := s.setTg n { s.tg n with commit := some { c with stepped := true, bOld := bOld, bNew := some (g.boundary k, k.toNat) } }
  s.setObjs [(O.tgBOld n, bOld.stime), (O.tgBNew n, (g.boundary k).stime)]

/-- What a step does to generator `n`; `d` is where the unstepped timing places its next boundary. -/
def State.stepTg (s : State) (n : Nat) (d : Int) : State :=
  let x := s.tg n
  if x.running then s.replace n d false
  else
    match x.commit with
    | some c => if x.dark then s.replace n s.tick true else if c.enabling then s.replaceEnabling n c else s
    | none => s

/-- Studio time steps by `ticks` at the present tick; a step of zero moves nothing (R27, R559). -/
def State.stepTime (s : State) (ticks : Int) : State :=
  if ticks = 0 then s
  else
    let ends := outputs.map fun n =>
      let k : Int := (s.tg n).frame
      if s.tick ≤ s.boundaryTick n k then s.boundaryTick n k else s.boundaryTick n (k + 1)
    let s := s.setTime { s.time with offset := s.time.offset + ticks }
    outputs.foldl (fun s n => s.stepTg n (ends.getD n 0)) s

/-! ### The loop (R25) -/

/-- π and π², in units of 10⁻²⁰. -/
def pi20 : Int := 314159265358979323846
def piSq20 : Int := 986960440108935861883

/-- The servo bandwidth in mHz: 0.1 Hz at most on PPS alone (R31). -/
def State.bandwidth (s : State) : Int :=
  let b : Nat := s.obj O.timeServoBw
  if s.obj O.timeSrcActive = 6 && !s.time.tenOk then (min b 100 : Nat) else b

/-- Picoseconds to ticks, nearest: a tick is 3200/33 ps. -/
def psTicks (ps : Int) : Int := roundDiv (ps * 33) 3200

/-- Steering changes come no more often than once every 1 ms (R19). -/
def State.maySteer (s : State) : Bool :=
  match s.time.lastSteer with
  | some t => decide (t + 10312500 ≤ s.tick)
  | none => true

/-- The new frequency estimate, in 10⁻²⁴: wn² · err · dt, with err in ps and dt in ticks; `r` 0 or 1 stands for the rounding the spec leaves open. -/
def State.nextFreq (s : State) (err : Int) (dt : Nat) (r : Nat) : Int :=
  let bw := s.bandwidth
  -- (2π·bw/2480)² · err·10⁻¹² · dt/10312500000, in 10⁻²⁴
  s.time.freqEst + 4 * piSq20 * bw * bw * err * (dt : Int) / (2480 * 2480 * 10312500000 * 100000000) + (r % 2 : Nat)

/-- The proportional term in 10⁻²⁴, clamped to `TIME_SLEW_MAX` (R25). -/
def State.propTerm (s : State) (err : Int) : Int :=
  let m : Int := (s.obj O.timeSlewMax : Int) * 1000000000000000
  clampInt (-m) m (4 * pi20 * s.bandwidth * err / (2480 * 100000000))

/-- The lock criteria after a measurement (R24). -/
def State.lockCheck (s : State) (err : Int) : State :=
  let x := s.time
  let mag := err.natAbs
  if s.obj O.timeState = acquiring then
    if mag < s.obj O.timeLockThresh * 1000 && !x.clamped then
      match x.lockSince with
      | none => s.setTime { x with lockSince := some s.tick }
      | some a =>
        if a + secTicks 16 ≤ s.tick then
          ((s.setTime { x with lockedAt := some s.tick, hist := [(s.tick, x.freqEst)], firstEst := x.freqEst, unlockRun := 0 }).setObj O.timeState locked).raise 2 []
        else s
    else s.setTime { x with lockSince := none }
  else if s.obj O.timeState = locked then
    let run := if s.obj O.timeUnlockThresh * 1000 < mag then x.unlockRun + 1 else 0
    if 2 ≤ run then
      ((s.setTime { x with unlockRun := 0, lockSince := none }).setObj O.timeState acquiring).raise 3 []
    else
      s.setTime { x with unlockRun := run, hist := (s.tick, x.freqEst) :: x.hist.filter fun h => decide (s.tick ≤ h.1 + secTicks 60) }
  else s

/-- One measurement of the active reference: the phase error in ps, after the configured offsets (R25). -/
def State.servo (s : State) (err : Int) : State :=
  if !(s.obj O.timeState = acquiring || s.obj O.timeState = locked) || !s.time.pllLocked then s
  else
    let s := s.setObjI O.timePhaseErr err
    if s.obj O.timeStepPolicy = 1 && decide (s.obj O.timeStepThresh * 1000 < err.natAbs) then
      ((s.setTime { s.time with lastMeas := some s.tick }).stepTime (psTicks err)).raise 7 []
    else
      let dt := match s.time.lastMeas with | some t => s.tick - t | none => 0
      let f := s.nextFreq err dt s.fresh
      let s := s.took
      let total := f + s.propTerm err
      let lim : Int := 100000000000000000000
      let clamp := decide (total < -lim) || decide (lim < total)
      let s := if clamp && !s.time.clamped then s.raise 6 [] else s
      let s := s.setTime { s.time with freqEst := f, lastMeas := some s.tick, clamped := clamp }
      let s :=
        if s.maySteer then
          let (frac, s) := s.openRound (clampInt (-lim) lim total) 1000000000000
          (s.setTime { s.time with lastSteer := some s.tick }).setObjI O.timeFreqCorr frac
        else s
      s.lockCheck err

/-- The offset objects applied to a raw phase error (R38, R40, R352): an offset added to the timing point lowers the error; an asymmetry of the path raises it. -/
def State.offsetErr (s : State) (src : Nat) (err : Int) : Int :=
  match src with
  | 5 => err - s.objI O.timeRefOffset
  | 6 => err - s.objI O.timePpsOffset
  | c => if 1 ≤ c ∧ c ≤ 4 then err + s.objI (O.netPortAsym (c - 1)) else err

/-! ### Meanings -/

/-- ROOT_PLL_LOCK_LOSS (R22). -/
def State.pllLost (s : State) : State :=
  if !s.time.pllLocked then s
  else
    let s := (s.setTime { s.time with pllLocked := false, qualified := [], lockSince := none, lastMeas := none, hist := [], lockedAt := none }).raise 8 []
    let s := s.forceAll allBanks causeState
    (s.setObjs [(O.timeState, freerun), (O.timeSrcActive, 0)]).setRecovery recPll

def execRootPllLockLoss (t : Nat) (s : State) : Host.Outcome State Fault Refusal := .next (s.at t).pllLost

/-- ROOT_PLL_RELOCK (R22): the servo runs from FREERUN with the fraction at zero, as at start (Table 01-2). -/
def State.pllRelock (s : State) : State :=
  if s.time.pllLocked then s
  else
    let s := s.setTime { s.time with pllLocked := true, freqEst := 0, clamped := false, lastSteer := none, tenOk := false }
    let s := if lowState s.opState then s else s.clearAll allBanks causeState
    ((s.setObjs [(O.timeState, freerun), (O.timeSrcActive, 0), (O.timeFreqCorr, 0)]).clearRecovery recPll).pllGoOn

def execRootPllRelock (t : Nat) (s : State) : Host.Outcome State Fault Refusal := .next (s.at t).pllRelock

/-- SERVO_MEASUREMENT (R25): the raw phase error of a source; only the active one steers. A measurement of a PTP source also gives absolute time (Table 01-3). -/
def execServoMeasurement (t : Nat) (src : Fin 16) (err : Int) (s : State) : Host.Outcome State Fault Refusal :=
  let s := s.at t
  let s := if decide (1 ≤ src.val) && decide (src.val ≤ 4) then s.setTime { s.time with ptpTime := true } else s
  .next (if src.val != 0 && s.obj O.timeSrcActive == src.val then s.servo (s.offsetErr src.val err) else s)

/-- SOURCE_QUALIFIED (R31, R39, R40): REF_IN needs absolute time within half a frame of its own boundary, or a time set; PPS_IN needs a seconds count. -/
def State.qualify (s : State) (c : Nat) (nearAbs : Bool) : State :=
  let hasTime := s.time.ptpTime || s.time.timeSet
  if !isSource c || !s.time.pllLocked || (c == 5 && !(nearAbs || hasTime)) || (c == 6 && !hasTime) then s
  else
    let x := s.time
    let x := if c = 6 then { x with tenOk := true } else if c ≤ 4 then { x with ptpTime := true } else x
    let s := if c = 5 then s.setObj O.timeRefMeasured (s.obj O.timeRefFormat) else s
    (s.setTime { x with qualified := if x.qualified.contains c then x.qualified else c :: x.qualified }).reselect

def execSourceQualified (t : Nat) (src : Fin 16) (nearAbs : Bool) (s : State) : Host.Outcome State Fault Refusal :=
  .next ((s.at t).qualify src.val nearAbs)

/-- HOLDOVER_EXPIRED (R42). -/
def execHoldoverExpired (t : Nat) (s : State) : Host.Outcome State Fault Refusal :=
  let s := s.at t
  .next (if s.obj O.timeState = holdover && s.holdoverOver then (s.setObj O.timeState expired).raise 5 [] else s)

/-- The step to a written time: written value less TIME_NOW, rounded to the nearest tick, halves to the later (R27). -/
def State.setDelta (s : State) (v : Nat) : Int := (stimeInstant v).place - s.studio

/-- The effect of a write of `TIME_SET` (R27): only in FREERUN, or in ACQUIRING from REF_IN. -/
def effTimeSet : Effect := fun _ _ _ _ v s =>
  if s.obj O.timeState = freerun || (s.obj O.timeState = acquiring && s.obj O.timeSrcActive = 5) then
    done (((s.setTime { s.time with timeSet := true }).stepTime (s.setDelta (beNat v))).raise 14 [])
  else refuse s St.notReady

/-- TIME_SET. -/
def execTimeSet (t : Nat) (q : Req) (v : List Byte) (s : State) : Host.Outcome State Fault Refusal :=
  .next ((s.at t).hostWrite q O.timeSet v effTimeSet)

/-- Writes of the servo's settings: the lock threshold stays below the unlock threshold (Table 01-5), and the selection follows its objects (R32). -/
def effTimeSetting : Effect := fun _ _ r ref v s =>
  let n := beNat v
  if ref = O.timeUnlockThresh && n ≤ s.obj O.timeLockThresh then refuse s St.badValue
  else if ref = O.timeLockThresh && s.obj O.timeUnlockThresh ≤ n then refuse s St.badValue
  else if ref = O.timeSrcPriority && (((List.range 8).map fun i => bits n (31 - 4 * i) (28 - 4 * i)).takeWhile (· != 15)).any (fun c => decide (7 ≤ c)) then refuse s St.badValue
  else if ref = O.timeSrcManual && !(n = 0 || isSource n) then refuse s St.badValue
  else
    let s := s.store r ref v
    done (if ref = O.timeSrcPriority || ref = O.timeSelMode || ref = O.timeSrcManual then s.reselect else s)

/-- PPS_EDGE (R31, R40): the selected edge marks a whole second; three edges in a row outside the window about the predicted second disqualify the source. -/
def State.ppsEdge (s : State) (rising : Bool) : State :=
  if rising != (s.obj O.timePpsEdge == 0) then s
  else
    let x := s.time
    let dev : Int := match x.lastPps with | some p => (s.tick : Int) - p - ticksPerSec | none => 0
    let miss := if nsTicks (s.obj O.timeUnlockThresh) < dev.natAbs then x.ppsMiss + 1 else 0
    let s := s.setTime { x with lastPps := some s.tick, ppsMiss := miss }
    if 3 ≤ miss then s.disqualify 6
    else if s.obj O.timeSrcActive = 6 then
      let sec := roundDiv s.studio ticksPerSec
      s.servo (s.offsetErr 6 (roundDiv ((sec * ticksPerSec - s.studio) * 3200) 33))
    else s

def execPpsEdge (t : Nat) (rising : Bool) (s : State) : Host.Outcome State Fault Refusal := .next ((s.at t).ppsEdge rising)

end Sys2Proof.Machine
end

