-- ==== Sys2Proof/Machine/Ptp.lean ====
section
/-! DEFINITION. PTP (R34 to R37, R352, R353): the best master clock algorithm, the messages sent and received, and the meanings of their commands. -/

namespace Sys2Proof.Machine

def State.ptpPort (s : State) (p : Nat) : PtpPort := kvGet (fun _ => {}) s.time.ptp p
def State.setPtpPort (s : State) (p : Nat) (x : PtpPort) : State :=
  s.setTime { s.time with ptp := kvPut (fun _ => {}) s.time.ptp p x }

/-- A port takes part in PTP: it is enabled, `NET_PORT_PTP` is set, and the role is a clock (R353); none in COLD, HOST0 alone in STANDBY (R367). -/
def State.ptpOn (s : State) (p : Nat) : Bool :=
  s.opState != cold && (s.opState != standby || p == 0) &&
  s.objB (O.netPortEnable p) && s.objB (O.netPortPtp p) && decide (1 ≤ s.obj O.timePtpRole) && decide (s.obj O.timePtpRole ≤ 3)

/-- The clockClass of the device's own defaultDS (R36). -/
def State.clockClass (s : State) : Nat :=
  match s.obj O.timeState with
  | 2 => match s.obj O.timeSrcActive with | 6 => 6 | 5 => 13 | _ => 248
  | 3 => if s.objB O.timeAnnounceHoldover then 7 else 248
  | 4 => if s.objB O.timeAnnounceHoldover then 52 else 248
  | _ => 248

/-- The device's own dataset as a foreign master would announce it. -/
def State.ownDataset (s : State) : PtpForeign :=
  ⟨Config.ptpIdentity, s.obj O.timePtpPriority1, s.clockClass, Config.ptpAccuracy, Config.ptpVariance, s.obj O.timePtpPriority2, 0,
    Config.ptpIdentity, 0, s.objI O.timeTaiUtc, s.time.leap, 0⟩

/-- The first difference in two lists of numbers decides; the smaller is the better. -/
def lexLess : List Nat → List Nat → Bool
  | [], _ => false
  | _, [] => false
  | a :: as, b :: bs => if a = b then lexLess as bs else decide (a < b)

/-- The order of the dataset comparison of IEEE 1588: by grandmaster attributes when the grandmasters differ, by path when they are the same. -/
def PtpForeign.better (a b : PtpForeign) : Bool :=
  if a.gm = b.gm then lexLess [a.steps, a.sender, a.senderPort] [b.steps, b.sender, b.senderPort]
  else
    lexLess [a.priority1, a.clockClass, a.accuracy, a.variance, a.priority2, a.gm]
      [b.priority1, b.clockClass, b.accuracy, b.variance, b.priority2, b.gm]

/-- Ticks of 2^log seconds, for the intervals of Table 01-4. -/
def logTicks (log : Int) : Nat := ticksPerSec * 2 ^ (log + 8).toNat / 256

/-- The announce receipt timeout has not passed since the record's Announce (R31). -/
def State.foreignFresh (s : State) (f : PtpForeign) : Bool :=
  decide (s.tick < f.rx + s.obj O.timePtpAnnounceTimeout * logTicks (s.objI O.timePtpLogAnnounce))

/-- The port with the best foreign master among those that take part. -/
def State.bestPort (s : State) : Option (Nat × PtpForeign) :=
  (List.range 4).foldl (fun b p =>
    match (if s.ptpOn p then (s.ptpPort p).foreign.filter s.foreignFresh else none), b with
    | none, b => b
    | some f, none => some (p, f)
    | some f, some (q, g) => if f.better g then some (p, f) else some (q, g)) none

/-- The slave port the BMCA chooses: the port of the best foreign master, where that is better than the device's own dataset; a clock of class 127 or
below is never a slave (the default algorithm of IEEE 1588), and a slave-only clock compares with nothing (R34, R35). -/
def State.bmca (s : State) : Option (Nat × PtpForeign) :=
  match s.bestPort with
  | none => none
  | some (p, f) =>
    if s.obj O.timePtpRole = 1 then some (p, f)
    else if s.clockClass ≤ 127 then none
    else if f.better s.ownDataset then some (p, f) else none

/-- Take the outcome of the BMCA: slave port, grandmaster (E009 on a change). -/
def State.runBmca (s : State) : State :=
  let (port, gm) := match s.bmca with | some (p, f) => (p, f.gm) | none => (0xFF, 0)
  let s := if s.obj O.timePtpGmId = gm then s else s.raise 9 []
  s.setObjs [(O.timePtpSlavePort, port), (O.timePtpGmId, gm)]

/-- The foreign record an Announce makes. -/
def foreignOf (a : PtpAnnounce) (t : Nat) : PtpForeign :=
  ⟨a.gm, a.priority1, a.clockClass, a.accuracy, a.variance, a.priority2, a.steps, a.sender, a.senderPort, a.utcOffset, a.leap, t⟩

/-- PTP_ANNOUNCE_RX (R34, R37): unsupported options are ignored and counted; the best Announce of the port is kept; the TLV is stored; the UTC offset and
leap second of the current master are followed. -/
def State.announceRx (s : State) (p : Nat) (a : PtpAnnounce) : State :=
  if !s.ptpOn p || a.domain != s.obj O.timePtpDomain then s
  else if a.unsupported then s.setTime { s.time with ptpIgnored := s.time.ptpIgnored + 1 }
  else
    let f := foreignOf a s.tick
    let x := s.ptpPort p
    let keep := match x.foreign with | some g => f.better g || (g.sender == f.sender && g.senderPort == f.senderPort) | none => true
    let s := if keep then s.setPtpPort p { x with foreign := some f } else s
    let s := s.runBmca
    let s := if a.tlv.isEmpty then s else s.setBlob O.timeSmTlv a.tlv
    if s.obj O.timePtpSlavePort = p && keep && (s.objI O.timeTaiUtc != a.utcOffset || s.time.leap != a.leap) then
      ((s.setTime { s.time with leap := a.leap }).setObjI O.timeTaiUtc a.utcOffset).raise 15 []
    else s

def execPtpAnnounceRx (t : Nat) (port : Fin 4) (a : PtpAnnounce) (s : State) : Host.Outcome State Fault Refusal :=
  .next ((s.at t).announceRx port.val a)

/-- SOURCE_DISQUALIFIED (R31): TEN_IN alone going out of range leaves PPS_IN in use (E013);
without Announce the BMCA chooses anew. `measured` is the format found on REF_IN, 0x00 none. -/
def execSourceDisqualified (t : Nat) (src : Fin 16) (tenOnly : Bool) (measured : Fin 256) (s : State) : Host.Outcome State Fault Refusal :=
  let s := s.at t
  .next (if src.val = 6 && tenOnly then
    if s.time.tenOk then (s.setTime { s.time with tenOk := false }).raise 13 [] else s
  else
    let s := if src.val = 5 then s.setObj O.timeRefMeasured measured.val else s
    let s := s.disqualify src.val
    if decide (1 ≤ src.val) && decide (src.val ≤ 4) then s.runBmca else s)

/-- Port `p` is a master: it takes part, it is not the slave port, the clock is not slave-only, and an ordinary clock is a master only without a slave port (R35, R36);
in STANDBY the clock is slave-only (R367). -/
def State.ptpMaster (s : State) (p : Nat) : Bool :=
  s.opState != standby &&
  s.ptpOn p && s.obj O.timePtpSlavePort != p &&
    (s.obj O.timePtpRole == 3 || (s.obj O.timePtpRole == 2 && s.obj O.timePtpSlavePort == 0xFF))

/-- The FEC latency that counts toward a timestamp (R352). -/
def State.fecLat (s : State) (p : Nat) (tx : Bool) : Nat :=
  if s.objB (O.netPortFec p) then (if tx then Config.fecTx else Config.fecRx) else 0

/-- The timestamp points of an event message sent or received now on port `p` (R352): a picosecond is 165/16000 ticks. -/
def State.txInstant (s : State) (p : Nat) : Instant := (tickInstant (s.studio + s.fecLat p true)).plusFrac (s.obj (O.netPortTxLat p) * 165 : Nat) 16000
def State.rxInstant (s : State) (p : Nat) : Instant := (tickInstant (s.studio - s.fecLat p false)).plusFrac (-((s.obj (O.netPortRxLat p) * 165 : Nat) : Int)) 16000
def State.txStamp (s : State) (p : Nat) : Int := (s.txInstant p).stime
def State.rxStamp (s : State) (p : Nat) : Int := (s.rxInstant p).stime

/-- PTP message types. -/
abbrev ptpSync : Nat := 0
abbrev ptpDelayReq : Nat := 1
abbrev ptpFollowUp : Nat := 8
abbrev ptpDelayResp : Nat := 9
abbrev ptpAnnounce : Nat := 11

/-- PTP_SYNC_TX (R34, R35): two-step by default, with the timestamp in the Follow_Up. -/
def State.syncTx (s : State) (p : Nat) : State :=
  if !s.ptpMaster p then s
  else
    let x := s.ptpPort p
    let n := x.syncSeq
    let s := s.setPtpPort p { x with syncSeq := (n + 1) % 65536 }
    if s.objB O.timePtpTwoStep then (s.emit (.ptp p ptpSync n [])).emit (.ptp p ptpFollowUp n [s.txStamp p])
    else s.emit (.ptp p ptpSync n [s.txStamp p])

def execPtpSyncTx (t : Nat) (port : Fin 4) (s : State) : Host.Outcome State Fault Refusal := .next ((s.at t).syncTx port.val)

/-- The dataset announced: the grandmaster's, one step further, or the device's own (R35, R36). -/
def State.announced (s : State) : PtpForeign :=
  match s.bmca with
  | some (_, f) => { f with steps := f.steps + 1 }
  | none => s.ownDataset

/-- PTP_ANNOUNCE_TX (R36). -/
def State.announceTx (s : State) (p : Nat) : State :=
  if !s.ptpMaster p then s
  else
    let x := s.ptpPort p
    let f := s.announced
    (s.setPtpPort p { x with annSeq := (x.annSeq + 1) % 65536 }).emit
      (.ptp p ptpAnnounce x.annSeq [(f.gm : Int), f.priority1, f.clockClass, f.accuracy, f.variance, f.priority2, f.steps, f.utcOffset, f.leap])

def execPtpAnnounceTx (t : Nat) (port : Fin 4) (s : State) : Host.Outcome State Fault Refusal := .next ((s.at t).announceTx port.val)

/-- PTP_DELAY_REQ_TX (R34): from the slave port. -/
def State.delayReqTx (s : State) (p : Nat) : State :=
  if !s.ptpOn p || s.obj O.timePtpSlavePort != p then s
  else
    let x := s.ptpPort p
    (s.setPtpPort p { x with delaySeq := (x.delaySeq + 1) % 65536 }).emit (.ptp p ptpDelayReq x.delaySeq [s.txStamp p])

def execPtpDelayReqTx (t : Nat) (port : Fin 4) (s : State) : Host.Outcome State Fault Refusal := .next ((s.at t).delayReqTx port.val)

/-- PTP_DELAY_REQ_RX (R35): a master port answers with the receive timestamp. -/
def State.delayReqRx (s : State) (p domain seq sender senderPort : Nat) (correction : Int) : State :=
  if !s.ptpMaster p || domain != s.obj O.timePtpDomain then s
  else s.emit (.ptp p ptpDelayResp seq [s.rxStamp p, correction, (sender : Int), senderPort])

def execPtpDelayReqRx (t : Nat) (port : Fin 4) (domain seq sender senderPort : Nat) (correction : Int) (s : State) :
    Host.Outcome State Fault Refusal :=
  .next ((s.at t).delayReqRx port.val domain seq sender senderPort correction)

end Sys2Proof.Machine
end

