-- ==== Sys2Proof/Machine/Gates.lean ====
section
/-! DEFINITION. Gate lanes, the interlock, FAULT_N chains and the settings of the lamp wires (chapter 03), with the meanings of their
commands. -/

namespace Sys2Proof.Machine

/-! ### The plans on the wire -/

/-- The entries that frames show around the present instant, with their frame's index and the tick of its boundary: the frame in progress, the next frame unless the
output goes dark before it, and in the dark interval the first new frame. -/
def State.framePlans (s : State) (n : Nat) : List (Int × Int × List Entry) :=
  let g := s.tg n
  let m := s.slm n
  if g.running then
    let k : Int := g.frame
    let ends := match g.commit with | some c => decide (s.rootTick c.bOld ≤ s.boundaryTick n (k + 1)) | none => false
    (k, s.boundaryTick n k, m.active) ::
      (if ends then [] else [(k + 1, s.boundaryTick n (k + 1), m.inactive.getD m.active)])
  else if g.dark then
    match g.commit with
    | some c => match c.bNew with | some b => [((b.2 : Int), s.rootTick b.1, c.plan)] | none => []
    | none => []
  else []

/-- The tick at which an entry's header starts on bank `b`, for a frame whose boundary is at tick `at_` (R92, R96). -/
def State.headerTick (s : State) (b : Nat) (at_ : Int) (e : Entry) : Int :=
  at_ + (e.start + e.winOff : Nat) - 239 - s.obj (O.gateDrvLatency b)

/-- The entry whose header starts on bank `b` of generator `n` at the present tick: frame index, index in the plan, entry. -/
def State.headerNow (s : State) (n b : Nat) : Option (Int × Nat × Entry) :=
  (s.framePlans n).findSome? fun f =>
    (f.2.2.zipIdx.find? fun p => bit p.1.banks b && s.headerTick b f.2.1 p.1 == (s.tick : Int)).map fun p => (f.1, p.2, p.1)

/-- Even parity over the low `n` bits. -/
def parity (n v : Nat) : Nat := popCount n v % 2

/-- The 16 header bits (Table 03-1). -/
def headerBits (level tbl idx : Nat) : Nat :=
  0xA * 4096 + level * 256 + tbl * 128 + idx % 32 * 4 + (parity 4 level + tbl) % 2 * 2 + parity 5 (idx % 32)

/-- Mean of photodiode conversions, times the number of the other set, for an exact difference of means. -/
def sumInt (l : List Int) : Int := l.foldl (· + ·) 0

/-- The reading of a sampled window in 1/256 count: the light mean less the dark mean, referred to full level (R137); none where a set is too small. -/
def State.pdReading (s : State) (light dark : List Int) (ladder : Nat) : Option Int × State :=
  let m := s.obj O.colPdMinSamples
  if light.length < m || dark.length < m || light.isEmpty || dark.isEmpty then (none, s)
  else
    let num := (sumInt light * (dark.length : Int) - sumInt dark * (light.length : Int)) * 32768 * 256
    let (v, s) := s.openRound num (light.length * dark.length * max 1 ladder)
    (some v, s)

/-- GATE_WINDOW (R92, R94, R96, R136): at an entry's header start, the lane emits header, gap and window. `light` and `dark` are the conversions that the bank's
photodiode will give in the two intervals of R136. -/
def State.gateWindow (s : State) (n b : Nat) (light dark : List Int) : State :=
  let s := (s.settleWin b).hostDue b
  match s.headerNow n b with
  | none => s
  | some (k, i, e) =>
    if !s.laneEmits n b k then s
    else
      let x := s.bank b
      let tbl := if (s.tg n).dark then x.tableNext.getD (s.obj (O.gateTable b)) else s.obj (O.gateTable b)
      let (pd, s) :=
        if e.sample && s.obj (O.colBankPd b) != 0xFF then
          let (r, s) := s.pdReading light dark (s.obj (O.slmLadder n e.level))
          (some r, s)
        else (none, s)
      let ws : Int := s.tick + 239
      let s := s.setBank b { s.bank b with cur := some ⟨s.tick, ws, ws + e.winLen, pd⟩ }
      ((s.bump (O.gateHeaders b)).emit (.gateHeader b s.tick (headerBits e.level tbl i))).emit (.gate b ws e.winLen x.vernier)

def execGateWindow (t : Nat) (n : Fin 4) (b : Fin 16) (light dark : List Int) (s : State) : Host.Outcome State Fault Refusal :=
  .next ((s.at t).gateWindow n.val b.val light dark)

/-! ### The interlock (R99) -/

/-- The interlock latch is set: `GATE_INTLK_COUNT`, E050, the INTLK cause on every lane. -/
def State.latchIntlk (s : State) : State :=
  let s := { s with intlk := { s.intlk with latched := true } }
  ((s.latchAll allBanks causeIntlk).bump O.gateIntlkCount).raise 50 []

/-- `GATE_INTLK_STATE` follows the pin and the latch (Table 03-7). -/
def State.intlkState (s : State) : State :=
  s.setObj O.gateIntlkState (if s.intlk.low then 1 else if s.intlk.latched then 2 else 0)

/-- INTLK_N falls, for a pulse of `width` ps in all (R99): from 2 ns on it latches; a shorter pulse may. In STANDBY the latch is set at READY (R486). -/
def State.intlkAssert (s : State) (width : Nat) : State :=
  if s.intlk.low then s
  else
    let s := { s with intlk := { s.intlk with low := true } }
    let s := s.forceAll allBanks causeIntlk
    if s.opState = standby then { s with intlk := { s.intlk with inStandby := true } }
    else if 2000 ≤ width then s.latchIntlk.intlkState
    else (if s.fresh % 2 = 1 then s.took.latchIntlk else s.took).intlkState

def execIntlkAssert (t width : Nat) (s : State) : Host.Outcome State Fault Refusal := .next ((s.at t).intlkAssert width)

/-- INTLK_N rises (R99): the pin no longer holds the lanes; a latch does. -/
def State.intlkRelease (s : State) : State :=
  if !s.intlk.low then s
  else
    let s := { s with intlk := { s.intlk with low := false } }
    (if s.intlk.latched then s else s.clearAll allBanks causeIntlk).intlkState

def execIntlkRelease (t : Nat) (s : State) : Host.Outcome State Fault Refusal := .next (s.at t).intlkRelease

/-- A write of `GATE_INTLK_REARM` (R99). -/
def effIntlkRearm : Effect := fun _ _ _ _ _ s =>
  if s.intlk.low then refuse s St.interlocked
  else if !s.intlk.latched then refuse s St.notActive
  else
    let s := { s with intlk := { s.intlk with latched := false } }
    done (((s.unlatchAll allBanks causeIntlk).intlkState).raise 51 [])

def execGateIntlkRearm (t : Nat) (q : Req) (v : List Byte) (s : State) : Host.Outcome State Fault Refusal :=
  .next ((s.at t).hostWrite q O.gateIntlkRearm v effIntlkRearm)

/-! ### Bank objects (R98, R101, R114, R116) -/

/-- The bank a reference in 0x2310 to 0x231F belongs to. -/
def refBank (ref : Nat) : Nat := refIndex ref - 0x2310

/-- A write of `GATE_ENABLE` (Table 03-3): false sets the HOST cause at the next emitted boundary, or at once where there is none to wait for; true clears it. -/
def effGateEnable : Effect := fun _ _ r ref v s =>
  let b := refBank ref
  let s := (s.hostDue b).store r ref v
  if beNat v = 1 then done ((s.setBank b { s.bank b with hostFrom := none }).forceClear b causeHost)
  else if bit (s.causes b) causeHost then done s
  else
    match s.bankTg b with
    | none => done (s.forceSet b causeHost)
    | some n =>
      if (s.bank b).hostFrom.isSome then done s
      else done (s.setBank b { s.bank b with hostFrom := some (s.emittedBoundary n b (s.nextEmitted n b s.tick)) })

def execGateEnable (t : Nat) (q : Req) (b : Fin 16) (v : List Byte) (s : State) : Host.Outcome State Fault Refusal :=
  .next ((s.at t).hostWrite q (O.gateEnable b.val) v effGateEnable)

/-- A write of `GATE_REARM` (R101, Table 03-8). -/
def effGateRearm : Effect := fun _ _ _ ref _ s =>
  let b := refBank ref
  if s.obj (O.lwLoadState b) != 2 then refuse s St.notReady
  else if !bit (s.obj (O.gateForceLatch b)) causeFault then refuse s St.notActive
  else done ((s.unlatchAll [b] causeFault).raise 52 [b])

def execGateRearm (t : Nat) (q : Req) (b : Fin 16) (v : List Byte) (s : State) : Host.Outcome State Fault Refusal :=
  .next ((s.at t).hostWrite q (O.gateRearm b.val) v effGateRearm)

/-- A write of `GATE_FADE_LEVEL` latches the fade, which starts at the next slot start (R114). -/
def effFadeLevel : Effect := fun _ _ r ref v s =>
  let b := refBank ref
  let s := s.store r ref v
  done (s.setBank b { s.bank b with
    fade := some ⟨s.obj (O.gateFadeNow b), beNat v, s.obj (O.gateFadeTime b), s.obj (O.gateFadeCurve b), none⟩ })

def execGateFadeLevel (t : Nat) (q : Req) (b : Fin 16) (v : List Byte) (s : State) : Host.Outcome State Fault Refusal :=
  .next ((s.at t).hostWrite q (O.gateFadeLevel b.val) v effFadeLevel)

/-- The banks of an output carry BLANK: some reason holds, or the array is neither READY nor RUNNING (R176, R180). -/
def State.blanked (s : State) (n : Nat) : Bool :=
  s.obj (O.moutBlankReason n) != 0 || !(s.obj (O.moutState n) == 2 || s.obj (O.moutState n) == 3)

/-- Ownership of bank `b` as its causes show it: UNOWNED without owner or primary, DARK while its output shows no frames, BLANK while the output is blanked (Table 03-3). An
output whose banks carry BLANK because its array is not up reports the reason ARRAY (R176). -/
def State.ownership (s : State) (b : Nat) : State :=
  let s := s.forcePut b causeUnowned (s.unowned b)
  let n := s.obj (O.gateOutput b)
  let s := s.forcePut b causeDark (decide (n ≤ 3) && !s.showing n)
  let s := if n ≤ 3 && s.blanked n && s.obj (O.moutBlankReason n) == 0 then s.setObj (O.moutBlankReason n) 2 else s
  s.forcePut b causeBlank (decide (n ≤ 3) && s.blanked n)

/-- A write of `GATE_OUTPUT` or `GATE_PRIMARY` (R90). -/
def effGateOwner : Effect := fun _ _ r ref v s =>
  let b := refBank ref
  done ((s.store r ref v).ownership b)

/-- A new `GATE_VERNIER` of bank `b` waits for the emitted boundary from which it may apply (R96). -/
def State.gateVernierFrom (s : State) (b : Nat) : State :=
  let from_ : Int := match s.bankTg b with | none => s.tick | some n => s.emittedBoundary n b (s.nextEmitted n b s.tick)
  s.setBank b { s.bank b with vernierFrom := some from_.toNat }

/-- A write of `GATE_VERNIER`: in force from the first instant at or after the emitted boundary at which the lane has been low for 8 ticks (R96). -/
def effGateVernier : Effect := fun _ _ r ref v s =>
  done ((s.store r ref v).gateVernierFrom (refBank ref))

/-- A write of `GATE_DRV_LATENCY` takes effect at once while the bank has no owner (R116). -/
def effDrvLatency : Effect := fun _ _ r ref v s =>
  let s := s.store r ref v
  done (if s.obj (O.gateOutput (refBank ref)) > 3 then s.setObj ref (beNat v) else s)

/-- Since when lane `b` has been low, if it is low now (R96). -/
def State.laneLowSince (s : State) (b : Nat) : Option Int :=
  let x := s.bank b
  match x.cur with
  | none => some x.lowSince
  | some w =>
    let now : Int := s.tick
    if now < w.hs then some x.lowSince
    else if now < w.hs + 32 then none
    else if now < w.ws then some (w.hs + 32)
    else if now < w.we then none
    else some w.we

/-- GATE_VERNIER_APPLY (R96). -/
def State.vernierApply (s : State) (b : Nat) : State :=
  let x := s.bank b
  match x.vernierFrom, s.laneLowSince b with
  | some f, some l =>
    if f ≤ s.tick && decide (l + 8 ≤ s.tick) then s.setBank b { x with vernier := s.obj (O.gateVernier b), vernierFrom := none } else s
  | _, _ => s

def execGateVernierApply (t : Nat) (b : Fin 16) (s : State) : Host.Outcome State Fault Refusal := .next ((s.at t).vernierApply b.val)

/-! ### Lamp-wire settings (R109 to R113) -/

/-- The wire a reference in 0x2320 to 0x232F belongs to. -/
def refWire (ref : Nat) : Nat := refIndex ref - 0x2320

/-- The initialisation of wire `w` starts (R111): LEVEL frames of a pending commit stay behind it. -/
def State.wireInit (s : State) (w : Nat) : State :=
  let x := s.wire w
  let s := s.setWire w { x with limitQ := false, levelQ := x.levelQ.filter (·.tg.isSome), initLeft := 3, initSlot := none }
  (s.setObj (O.lwLoadState w) 1).forceSet w causeLoad

/-- A write of `LW_ENABLE` (R111, Table 03-9). -/
def effLwEnable : Effect := fun _ _ r ref v s =>
  let w := refWire ref
  let was := s.objB ref
  let s := s.store r ref v
  if beNat v = 1 then done (if was then s else s.wireInit w)
  else done (((s.setWire w {}).setObj (O.lwLoadState w) 0).forceSet w causeLoad)

def execLwEnable (t : Nat) (q : Req) (w : Fin 16) (v : List Byte) (s : State) : Host.Outcome State Fault Refusal :=
  .next ((s.at t).hostWrite q (O.lwEnable w.val) v effLwEnable)

/-- A write of `LW_REARM` (R111). A wire that is not enabled has nothing to send: NOT_READY (log entry 15). -/
def effLwRearm : Effect := fun _ _ _ ref _ s =>
  let w := refWire ref
  if s.objB (O.lwEnable w) then done (s.wireInit w) else refuse s St.notReady

def execLwRearm (t : Nat) (q : Req) (w : Fin 16) (v : List Byte) (s : State) : Host.Outcome State Fault Refusal :=
  .next ((s.at t).hostWrite q (O.lwRearm w.val) v effLwRearm)

/-- A write of `LW_LIMITS` queues a LIMIT frame (R110). -/
def effLwLimits : Effect := fun _ _ r ref v s =>
  let w := refWire ref
  let s := s.store r ref v
  done (if s.objB (O.lwEnable w) then s.setWire w { s.wire w with limitQ := true } else s)

def execLwLimits (t : Nat) (q : Req) (w : Fin 16) (v : List Byte) (s : State) : Host.Outcome State Fault Refusal :=
  .next ((s.at t).hostWrite q (O.lwLimits w.val) v effLwLimits)

/-- A write of `LW_PERIOD` or `LW_DRIVERS` must leave every frame room in its slot (R109). -/
def effLwTiming : Effect := fun _ _ r ref v s =>
  let n := beNat v
  let ok :=
    if ref = O.lwPeriod then allBanks.all fun w => slotFits n (s.obj (O.lwDrivers w))
    else slotFits (s.obj O.lwPeriod) n
  if ok then done (s.store r ref v) else refuse s St.lwTiming

/-- LW_PERIOD: `w` none for `LW_PERIOD`, a wire for its `LW_DRIVERS`. -/
def execLwPeriod (t : Nat) (q : Req) (w : Option (Fin 16)) (v : List Byte) (s : State) : Host.Outcome State Fault Refusal :=
  .next ((s.at t).hostWrite q (match w with | none => O.lwPeriod | some w => O.lwDrivers w.val) v effLwTiming)

/-- The slot in which the third initialisation frame of a wire went out, while it waits for FAULT_N, and the slot that starts at the present tick. -/
def State.initWait (s : State) (w : Nat) : Option (Nat × Nat) :=
  match (s.wire w).initSlot with
  | some m => if s.obj (O.lwLoadState w) = 1 && s.slotStart s.slotNow == (s.tick : Int) then some (m, s.slotNow) else none
  | none => none

/-- LW_READY (R111 step 4). -/
def State.lwReady (s : State) (w : Nat) : State :=
  match s.initWait w with
  | some (m3, m) =>
    if m3 < m && s.obj (O.lwFaultState w) == 0 then
      let s := s.setWire w { s.wire w with initSlot := none }
      ((s.setObj (O.lwLoadState w) 2).raise 62 [w]).forceClear w causeLoad
    else s
  | none => s

def execLwReady (t : Nat) (w : Fin 16) (s : State) : Host.Outcome State Fault Refusal := .next ((s.at t).lwReady w.val)

/-- LW_INIT_FAILED (R111): FAULT_N not released three slots after the third frame. -/
def State.lwInitFailed (s : State) (w : Nat) : State :=
  match s.initWait w with
  | some (m3, m) =>
    if m3 + 3 ≤ m && s.obj (O.lwFaultState w) != 0 then
      let s := s.setWire w { s.wire w with initSlot := none }
      (s.setObj (O.lwLoadState w) 3).raise 63 [w]
    else s
  | none => s

def execLwInitFailed (t : Nat) (w : Fin 16) (s : State) : Host.Outcome State Fault Refusal := .next ((s.at t).lwInitFailed w.val)

/-- The banks that an assertion of FAULT_N on wire `w` turns off (R113). -/
def State.faultBanks (s : State) (w : Nat) : List Nat :=
  match s.obj (O.lwFaultAction w) with
  | 1 => [w]
  | 2 => let n := s.obj (O.gateOutput w); if n > 3 then [] else s.banksOf (s.group (s.leadOf n))
  | _ => []

/-- FAULT_N_ASSERT (R113). -/
def State.faultAssert (s : State) (w : Nat) : State :=
  if s.obj (O.lwFaultState w) = 1 then s
  else (((s.setObj (O.lwFaultState w) 1).raise 60 [w]).bump (O.lwFaults w)).latchAll (s.faultBanks w) causeFault

def execFaultNAssert (t : Nat) (w : Fin 16) (s : State) : Host.Outcome State Fault Refusal := .next ((s.at t).faultAssert w.val)

/-- FAULT_N_RELEASE (R113). -/
def State.faultRelease (s : State) (w : Nat) : State :=
  if s.obj (O.lwFaultState w) = 0 then s else (s.setObj (O.lwFaultState w) 0).raise 61 [w]

def execFaultNRelease (t : Nat) (w : Fin 16) (s : State) : Host.Outcome State Fault Refusal := .next ((s.at t).faultRelease w.val)

end Sys2Proof.Machine
end

