-- ==== Sys2Proof/Machine/Plan.lean ====
section
/-! DEFINITION. Plans (chapter 02): weights and levels (R57 to R60), image numbering (R62), the entry word (R63, R64), the
checks of R66 in their order, the base plan and the adaptive planner (R70 to R75). Everything is a function of a
configuration, so that the same code runs on staged values at admission and on the values in force at a boundary. -/

namespace Sys2Proof.Machine

/-- What the plan of one output (or of a tiling group, for its leader) depends on. -/
structure PlanCfg where
  ticks    : Nat
  slots    : List (Nat × Nat × Nat)
  depth    : Nat
  prims    : Nat
  minDwell : Nat
  minWin   : Nat
  guard    : Nat
  lsb      : Nat
  splitBits : Nat
  splitMax : Nat
  policy   : Nat
  settle   : List Nat
  ladder   : List Nat
  /-- bank masks of the six primaries, and the level floors of the 16 banks -/
  banks    : List Nat
  floors   : List Nat
deriving DecidableEq, Repr

/-- The view slots (view, start, length) of a slot table (R49). -/
def slotFields (w : Nat) : Nat × Nat × Nat := (bits w 62 60, bits w 59 30, bits w 29 0)

/-- The configuration that values `val` (staged or in force) give generator `n`. -/
def State.planCfg (s : State) (val : Nat → Nat) (n : Nat) : PlanCfg where
  ticks := (timingIn val n).frameTicks
  slots := (List.range (val (O.tgSlotCount n))).map fun j => slotFields (val (O.tgSlot n j))
  depth := val (O.slmDepth n)
  prims := val (O.slmPrimaries n)
  minDwell := val (O.slmMinDwell n)
  minWin := val (O.slmMinWindow n)
  guard := val (O.slmGuard n)
  lsb := val (O.slmLsbWeight n)
  splitBits := val (O.slmSplitBits n)
  splitMax := val (O.slmSplitMax n)
  policy := val (O.slmLevelPolicy n)
  settle := (List.range 4).map fun j => val (O.slmSettle n j)
  ladder := (List.range 16).map fun j => val (O.slmLadder n j)
  banks := (List.range 6).map fun p => s.bankMask n p
  floors := (List.range 16).map fun b => s.obj (O.gateLevelFloor b)

/-- The entry word of Table 02-1. -/
def Entry.word (e : Entry) : Nat :=
  e.start * 2 ^ 98 + e.winLen * 2 ^ 68 + e.winOff * 2 ^ 48 + e.banks * 2 ^ 32 + e.plane * 2 ^ 23 + e.view * 2 ^ 20
    + e.prim * 2 ^ 17 + e.bit * 2 ^ 13 + e.sub * 2 ^ 9 + e.level * 2 ^ 5 + e.settle * 2 ^ 3
    + boolNat e.sample * 4 + boolNat e.last * 2 + boolNat e.rsv

/-- The fields of an entry word. -/
def entryOf (w : Nat) : Entry where
  start := bits w 127 98
  winLen := bits w 97 68
  winOff := bits w 67 48
  banks := bits w 47 32
  plane := bits w 31 23
  view := bits w 22 20
  prim := bits w 19 17
  bit := bits w 16 13
  sub := bits w 12 9
  level := bits w 8 5
  settle := bits w 4 3
  sample := bit w 2
  last := bit w 1
  rsv := bit w 0

/-- The image of a plan table: 512 entries of 16 bytes (R64). -/
def planImage (p : List Entry) : List Byte := padTo 8192 (p.flatMap fun e => leBytes 16 e.word)

/-- The entries of a table image up to the first with LAST, or all 512 (R64). -/
def tableEntries (img : List Byte) : Nat → List Entry
  | 0 => []
  | n + 1 =>
    let e := entryOf (leAt img 0 16)
    if e.last then [e] else e :: tableEntries (img.drop 16) n

/-- The views planned: V0 and every view named in a slot (R60). -/
def PlanCfg.views (c : PlanCfg) : List Nat := (List.range 8).filter fun v => v == 0 || c.slots.any fun x => x.1 == v

/-- The primaries planned. -/
def PlanCfg.primList (c : PlanCfg) : List Nat := bitsOf 6 c.prims

/-- The groups in the order of R62. -/
def PlanCfg.groups (c : PlanCfg) : List (Nat × Nat) := c.views.flatMap fun v => c.primList.map fun p => (v, p)

/-- The image count G × D. -/
def PlanCfg.images (c : PlanCfg) : Nat := c.groups.length * c.depth

/-- The image number of (view, primary, bit): views, then primaries, then bits downward (R62). -/
def PlanCfg.imageOf (c : PlanCfg) (v p j : Nat) : Nat :=
  (c.groups.takeWhile fun g => g != (v, p)).length * c.depth + (c.depth - 1 - j)

/-- Level `l` is above the floor of every bank of a mask, and used (R59). -/
def PlanCfg.levelOk (c : PlanCfg) (l mask : Nat) : Bool :=
  nth c.ladder l 0 != 0 && (bitsOf 16 mask).all fun b => decide (nth c.floors b 0 ≤ nth c.ladder l 0)

/-- The eligible levels for weight `w` on a mask of banks (R72). -/
def PlanCfg.eligible (c : PlanCfg) (w mask : Nat) : List Nat :=
  (List.range 16).filter fun l =>
    c.levelOk l mask && w % nth c.ladder l 1 == 0 && decide (c.minWin ≤ w / nth c.ladder l 1)

/-- Among levels, the one with the largest ladder value, the lowest index first (R72). -/
def PlanCfg.largest (c : PlanCfg) : List Nat → Option Nat
  | [] => none
  | l :: ls =>
    match c.largest ls with
    | none => some l
    | some m => if nth c.ladder m 0 > nth c.ladder l 0 then some m else some l

/-- Among levels, the one with the smallest ladder value, the lowest index first. -/
def PlanCfg.smallest (c : PlanCfg) : List Nat → Option Nat
  | [] => none
  | l :: ls =>
    match c.smallest ls with
    | none => some l
    | some m => if nth c.ladder m 0 < nth c.ladder l 0 then some m else some l

/-- `choose_level` of R72: level and window for a weight, or none. -/
def PlanCfg.chooseLevel (c : PlanCfg) (w mask : Nat) : Option (Nat × Nat) :=
  let el := c.eligible w mask
  match c.largest el with
  | none => none
  | some l =>
    let win := w / nth c.ladder l 1
    let bound := c.minDwell - nth c.settle 0 0 - c.guard
    if c.policy = 1 && decide (win ≤ bound) then
      match c.smallest (el.filter fun m => decide (w / nth c.ladder m 1 ≤ bound)) with
      | some m => some (m, w / nth c.ladder m 1)
      | none => some (l, win)
    else some (l, win)

/-- Split counts by (view, primary, bit), 1 where not listed. -/
abbrev Splits := List ((Nat × Nat × Nat) × Nat)

def splitOf : Splits → Nat → Nat → Nat → Nat
  | [], _, _, _ => 1
  | ((v, p, j), n) :: m, v', p', j' => if v = v' ∧ p = p' ∧ j = j' then n else splitOf m v' p' j'

def setSplit (s : Splits) (v p j n : Nat) : Splits := ((v, p, j), n) :: s.filter fun x => x.1 != (v, p, j)

/-- The entries of one group in the order of R73: (bit, sub-plane). -/
def PlanCfg.groupOrder (c : PlanCfg) (s : Splits) (v p : Nat) : List (Nat × Nat) :=
  let bitsDown := (List.range c.depth).reverse
  bitsDown.map (fun j => (j, 0)) ++
    bitsDown.flatMap fun j => (List.range (splitOf s v p j - 1)).map fun k => (j, k + 1)

/-- The entries of one view: (primary, bit, sub-plane), primaries A to F. -/
def PlanCfg.viewOrder (c : PlanCfg) (s : Splits) (v : Nat) : List (Nat × Nat × Nat) :=
  c.primList.flatMap fun p => (c.groupOrder s v p).map fun x => (p, x.1, x.2)

/-- The intervals of the frame in time order (view, start, end): slots to their views, the rest to V0; a dark slot forms none (R71, R145). -/
def intervalsFrom : Nat → Nat → List (Nat × Nat × Nat) → List (Nat × Nat × Nat)
  | t, stop, [] => if t < stop then [(0, t, stop)] else []
  | t, stop, (v, a, l) :: rest =>
    (if t < a then [(0, t, a)] else []) ++ (if v = 0 then [] else [(v, a, a + l)]) ++ intervalsFrom (a + l) stop rest

/-- Where `pack` stands: cursor, entries placed (newest first), entries of each view still unplaced. -/
structure PackSt where
  cursor : Nat
  out    : List Entry
  left   : List (Nat × List (Nat × Nat × Nat))
deriving DecidableEq, Repr

/-- Place entries of one view into one interval until one does not fit (inner loop of `pack`); none when a weight has no level. -/
def PlanCfg.packView (c : PlanCfg) (s : Splits) (v stop : Nat) :
    List (Nat × Nat × Nat) → Nat → List Entry → Option (Nat × List Entry × List (Nat × Nat × Nat))
  | [], cur, out => some (cur, out, [])
  | (p, j, k) :: rest, cur, out =>
    match (if c.lsb * 2 ^ j % splitOf s v p j = 0 then c.chooseLevel (c.lsb * 2 ^ j / splitOf s v p j) (nth c.banks p 0) else none) with
    | none => none
    | some (lv, win) =>
      let cur := if out.isEmpty && decide (0 < cur) && decide (cur < 1016) then 1016 else cur
      let settle := nth c.settle 0 0
      if stop < cur + settle + win then some (cur, out, (p, j, k) :: rest)
      else
        let e : Entry := ⟨cur, win, settle, nth c.banks p 0, c.imageOf v p j, v, p, j, k, lv, 0, false, false, false⟩
        c.packView s v stop rest (cur + max c.minDwell (settle + win + c.guard)) (e :: out)

/-- The walk over the intervals (outer loop of `pack`). -/
def PlanCfg.packWalk (c : PlanCfg) (s : Splits) : List (Nat × Nat × Nat) → PackSt → Option PackSt
  | [], st => some st
  | (v, a, b) :: ivs, st =>
    let cur := max st.cursor (a - nth c.settle 0 0)
    let mine := (kvFind st.left v).getD []
    match c.packView s v b mine cur st.out with
    | none => none
    | some (cur, out, rest) =>
      c.packWalk s ivs ⟨cur, out, kvInsert st.left v rest⟩

/-- The index in a list of the first entry with the largest window among those that satisfy `q`. -/
def bestIndex (q : Entry → Bool) : List Entry → Nat → Option (Nat × Nat) → Option (Nat × Nat)
  | [], _, b => b
  | e :: es, i, b =>
    let better := q e && (match b with | none => true | some (_, w) => decide (w < e.winLen))
    bestIndex q es (i + 1) (if better then some (i, e.winLen) else b)

/-- The entry of a group that carries SAMPLE (R74): the longest window at level 0, or else the longest. -/
def sampleIndex (p : List Entry) (v pr : Nat) : Option Nat :=
  match bestIndex (fun e => e.view == v && e.prim == pr && e.level == 0) p 0 none with
  | some (i, _) => some i
  | none => (bestIndex (fun e => e.view == v && e.prim == pr) p 0 none).map (·.1)

/-- `l` with the element at `i` changed by `f`. -/
def modAt (f : Entry → Entry) : List Entry → Nat → List Entry
  | [], _ => []
  | e :: es, 0 => f e :: es
  | e :: es, i + 1 => e :: modAt f es i

/-- `pack` (R71): the plan for given split counts, or none. -/
def PlanCfg.pack (c : PlanCfg) (s : Splits) : Option (List Entry) :=
  let left := c.views.map fun v => (v, c.viewOrder s v)
  match c.packWalk s (intervalsFrom 0 c.ticks c.slots) ⟨0, [], left⟩ with
  | none => none
  | some st =>
    let p := st.out.reverse
    match p, st.out with
    | first :: _, final :: _ =>
      if st.left.any (fun x => !x.2.isEmpty) then none
      else if c.ticks + first.start < st.cursor then none
      else if 512 < p.length then none
      else if c.ticks < final.start + 1008 then none
      else
        let p := modAt (fun e => { e with last := true }) p (p.length - 1)
        let marks := c.groups.filterMap fun g => sampleIndex p g.1 g.2
        some (marks.foldl (fun p i => modAt (fun e => { e with sample := true }) p i) p)
    | _, _ => none

/-- The base plan (R71): every split count 1. -/
def PlanCfg.base (c : PlanCfg) : Option (List Entry) := c.pack []

/-! ### Verification (R66) -/

/-- The weight an entry's own fields may have: w_j / S for a power of two S up to SPLIT_MAX (R66 step 2). -/
def PlanCfg.entryWeightOk (c : PlanCfg) (e : Entry) : Bool :=
  decide (e.bit < c.depth) &&
    [1, 2, 4, 8, 16].any fun z => decide (z ≤ c.splitMax) && e.winLen * nth c.ladder e.level 0 * z == c.lsb * 2 ^ e.bit

/-- The window lies in one slot of the entry's view, or outside every slot for V0. -/
def PlanCfg.viewOk (c : PlanCfg) (e : Entry) : Bool :=
  let a := e.start + e.winOff
  let b := a + e.winLen
  if e.view = 0 then c.slots.all fun x => decide (b ≤ x.2.1) || decide (x.2.1 + x.2.2 ≤ a)
  else c.slots.any fun x => x.1 == e.view && decide (x.2.1 ≤ a) && decide (b ≤ x.2.1 + x.2.2)

/-- Every bank of the entry is one of its primary's banks. -/
def PlanCfg.banksOk (c : PlanCfg) (e : Entry) : Bool :=
  e.banks != 0 && decide (e.prim < 6) && (bitsOf 16 e.banks).all fun b => bit (nth c.banks e.prim 0) b

/-- The conditions of Table 02-2 on entry `i`, in table order; `prev` is the START before it, `next` the START after it. -/
def PlanCfg.entryFault (c : PlanCfg) (e : Entry) (prev : Option Nat) (next start0 : Nat) (isLast : Bool) : Option Nat :=
  let nx := if isLast then c.ticks + start0 else next
  let gnx := if isLast then c.ticks else next
  if (match prev with | some p => decide (e.start ≤ p) | none => false) then some St.planInfeasible
  else if e.winOff < nth c.settle e.settle 0 || e.winOff < 239 then some St.windowMin
  else if e.winLen < c.minWin then some St.windowMin
  else if gnx < e.start + e.winOff + e.winLen + c.guard then some St.planInfeasible
  else if nx < e.start + c.minDwell then some St.planeRate
  else if !c.viewOk e then some St.planInfeasible
  else if !(bitsOf 16 e.banks).all (fun b => nth c.ladder e.level 0 != 0 && decide (nth c.floors b 0 ≤ nth c.ladder e.level 0))
       || nth c.ladder e.level 0 == 0 then some St.levelFloor
  else if !c.banksOk e then some St.planInfeasible
  else if !c.entryWeightOk e then some St.planInfeasible
  else if !(c.groups.contains (e.view, e.prim)) || e.plane != c.imageOf e.view e.prim e.bit then some St.planInfeasible
  else if prev.isNone && decide (0 < e.start) && decide (e.start < 1016) then some St.planInfeasible
  else if isLast && decide (c.ticks < e.start + 1008) then some St.planInfeasible
  else none

/-- Step 2 of R66: the first entry that fails, with its status and index. -/
def PlanCfg.entriesFault (c : PlanCfg) (start0 : Nat) : List Entry → Option Nat → Nat → Option (Nat × Nat)
  | [], _, _ => none
  | [e], prev, i => (c.entryFault e prev 0 start0 true).map fun st => (st, i)
  | e :: f :: es, prev, i =>
    match c.entryFault e prev f.start start0 false with
    | some st => some (st, i)
    | none => c.entriesFault start0 (f :: es) (some e.start) (i + 1)

/-- The index of the first entry of a list that satisfies `q`, from `i`. -/
def firstIndex (q : Entry → Bool) : List Entry → Nat → Option Nat
  | [], _ => none
  | e :: es, i => if q e then some i else firstIndex q es (i + 1)

/-- The split counts that bit `j` may have (R60). -/
def PlanCfg.splitAllowed (c : PlanCfg) (j n : Nat) : Bool :=
  n == 1 || (decide (c.depth ≤ j + c.splitBits) && (n == 2 || n == 4 || n == 8 || n == 16) && decide (n ≤ c.splitMax))

/-- Step 3 of R66 for one bit of one group: none when it is shown right. -/
def PlanCfg.bitFault (c : PlanCfg) (p : List Entry) (v pr j : Nat) : Option Nat :=
  let es := p.filter fun e => e.view == v && e.prim == pr && e.bit == j
  let n := es.length
  let good := decide (0 < n) && c.splitAllowed j n
    && es.all (fun e => e.winLen * nth c.ladder e.level 0 * n == c.lsb * 2 ^ j)
    && (List.range n).all (fun k => (es.filter fun e => e.sub == k).length == 1)
  if good then none
  else some ((firstIndex (fun e => e.view == v && e.prim == pr && e.bit == j) p 0).getD 0xFFFF)

/-- The first group that fails, as an index. -/
def PlanCfg.groupsFault (c : PlanCfg) (p : List Entry) : List (Nat × Nat × Nat) → Option Nat
  | [] => none
  | (v, pr, j) :: rest =>
    match c.bitFault p v pr j with
    | some i => some i
    | none => c.groupsFault p rest

/-- PLAN_VERIFY (R66): none when the plan passes, else the status and the index of the entry concerned. -/
def PlanCfg.verify (c : PlanCfg) (p : List Entry) : Option (Nat × Nat) :=
  match p.getLast? with
  | none => some (St.planTooLarge, 0xFFFF)
  | some e =>
    if !e.last || 512 < p.length then some (St.planTooLarge, 0xFFFF)
    else
      match c.entriesFault ((p.head?.map (·.start)).getD 0) p none 0 with
      | some f => some f
      | none =>
        let all := c.groups.flatMap fun g => (List.range c.depth).reverse.map fun j => (g.1, g.2, j)
        (c.groupsFault p all).map fun i => (St.planInfeasible, i)

/-! ### The adaptive planner (R75) -/

/-- prio[g, j] as an exact numerator: occ·(1 − occ)·2^j over n_pix², for a histogram (v × 6 + p) × 16 + j → count. -/
def prioOf (hist : List (Nat × Nat)) (pix v p j : Nat) : Nat :=
  let n := kvGet (fun _ => 0) hist ((v * 6 + p) * 16 + j)
  n * (pix - n) * 2 ^ j

/-- Insert by descending priority, after those of equal priority. -/
def insertPrio (x : Nat × (Nat × Nat × Nat)) : List (Nat × (Nat × Nat × Nat)) → List (Nat × (Nat × Nat × Nat))
  | [] => [x]
  | y :: ys => if y.1 < x.1 then x :: y :: ys else y :: insertPrio x ys

/-- Double the split of one bit while `pack` can build the plan. -/
def PlanCfg.doubling (c : PlanCfg) (v p j : Nat) : Nat → Splits → List Entry → Splits × List Entry
  | 0, s, pl => (s, pl)
  | fuel + 1, s, pl =>
    let n := splitOf s v p j
    if c.splitMax < 2 * n then (s, pl)
    else
      match c.pack (setSplit s v p j (2 * n)) with
      | none => (s, pl)
      | some pl' => c.doubling v p j fuel (setSplit s v p j (2 * n)) pl'

/-- The planner's plan for a frame (R75), before its verification; the base plan where none is built. -/
def PlanCfg.adaptive (c : PlanCfg) (hist : List (Nat × Nat)) (pix : Nat) : List Entry :=
  let base := c.base.getD []
  let cand := c.groups.flatMap fun g =>
    ((List.range c.depth).filter fun j => decide (c.depth ≤ j + c.splitBits)).reverse.map fun j => (prioOf hist pix g.1 g.2 j, (g.1, g.2, j))
  let order := cand.foldl (fun l x => if x.1 = 0 then l else insertPrio x l) []
  (order.foldl (fun (st : Splits × List Entry) x => c.doubling x.2.1 x.2.2.1 x.2.2.2 4 st.1 st.2) ([], base)).2

/-- Dark fill of a plan: frame ticks that no dwell of R71 uses (`SLM_PLAN_SLACK`). -/
def PlanCfg.slack (c : PlanCfg) (p : List Entry) : Nat :=
  c.ticks - (p.map fun e => max c.minDwell (e.winOff + e.winLen + c.guard)).foldl (· + ·) 0

/-- The bound e_max of R84 on the entries of any plan that admission lets run. -/
def PlanCfg.maxEntries (c : PlanCfg) : Nat :=
  let split := min c.splitBits c.depth * (c.splitMax - 1)
  min 512 (min (c.ticks / max 1 c.minDwell) ((c.base.getD []).length + c.groups.length * split))

end Sys2Proof.Machine
end

