-- ==== Sys2Proof/Machine/Slalom.lean ====
section
/-! DEFINITION. The Slalom sequencer between boundaries: the adaptive planner and its deadline, manual plans, and compression credit (R70 to
R76, R85, R89), with the meanings of their commands. -/

namespace Sys2Proof.Machine

/-- The value with which generator `n` composes now: from the commit point of a change of timing to its B_old, the new value (R51). -/
def State.cfgVal (s : State) (n ref : Nat) : Nat :=
  match (s.tg n).commit with
  | some c => if c.passed && !(s.tg n).dark then valIn s c.vals ref else s.obj ref
  | none => s.obj ref

/-- The plan configuration that generator `n` composes for. -/
def State.cfg (s : State) (n : Nat) : PlanCfg := s.planCfg (s.cfgVal n) n

/-- The base plan of the configuration in force; admission has built it (R70). -/
def State.basePlan (s : State) (n : Nat) : List Entry := (s.cfg n).base.getD []

/-- An event of Table 02-6, at most once per output per frame (R89). -/
def State.slmRaise (s : State) (n e : Nat) : State :=
  let m := s.slm n
  if m.raised.contains e then s else (s.setSlm n { m with raised := e :: m.raised }).raise e [n]

/-- Write the inactive table for the next frame (R65). -/
def State.setInactive (s : State) (n : Nat) (p : List Entry) : State :=
  s.setSlm n { s.slm n with inactive := some p, planned := true }

/-- The instant half a period after boundary `k` of generator `n`, and half a period before it. -/
def State.halfAfter (s : State) (n : Nat) (k : Int) : Instant :=
  let g := s.timing n
  (g.boundary k).plusFrac g.pNum (2 * g.den)
def State.halfBefore (s : State) (n : Nat) (k : Int) : Instant :=
  let g := s.timing n
  (g.boundary k).plusFrac (-(g.pNum : Int)) (2 * g.den)

/-- PLANNER_START (R75): at B_{k−1}, in AUTO mode, for the leader of a running output. -/
def State.plannerStart (s : State) (n : Nat) : State :=
  let g := s.tg n
  if g.running && s.leadOf n == n && s.obj (O.slmPlanMode n) == 0 && (s.slm n).planning != some (g.frame + 1) then
    s.setSlm n { s.slm n with planning := some (g.frame + 1), planned := false }
  else s

def execPlannerStart (t : Nat) (n : Fin 4) (s : State) : Host.Outcome State Fault Refusal := .next ((s.at t).plannerStart n.val)

/-- The planner of frame `k` is at work: it has started and has not written its table. -/
def State.plannerAt (s : State) (n : Nat) : Option Nat :=
  let m := s.slm n
  if m.planned then none else m.planning

/-- PLANNER_DONE (R75): in time, the planner's plan is verified and written, or the base plan with E040. -/
def State.plannerDone (s : State) (n : Nat) : State :=
  match s.plannerAt n with
  | none => s
  | some k =>
    if !(tickInstant s.studio).le (s.halfAfter n ((k : Int) - 1)) then s
    else
      let c := s.cfg n
      let p := c.adaptive (s.slm n).hist (s.obj (O.moutWidth n) * s.obj (O.moutHeight n))
      match c.verify p with
      | none => s.setInactive n p
      | some _ => ((s.setInactive n (s.basePlan n)).slmRaise n 40).bump (O.slmFallbacks n)

def execPlannerDone (t : Nat) (n : Fin 4) (s : State) : Host.Outcome State Fault Refusal := .next ((s.at t).plannerDone n.val)

/-- PLANNER_DEADLINE (R75): the base plan, E041, `SLM_LATE_PLANS`. -/
def State.plannerDeadline (s : State) (n : Nat) : State :=
  match s.plannerAt n with
  | none => s
  | some k =>
    if !s.reached (s.halfAfter n ((k : Int) - 1)) then s
    else ((s.setInactive n (s.basePlan n)).slmRaise n 41).bump (O.slmLatePlans n)

def execPlannerDeadline (t : Nat) (n : Fin 4) (s : State) : Host.Outcome State Fault Refusal := .next ((s.at t).plannerDeadline n.val)

/-- SLM_PLAN_STAGE (R76): a table of 8,192 bytes replaces the stage. -/
def execSlmPlanStage (t : Nat) (q : Req) (n : Fin 4) (v : List Byte) (s : State) : Host.Outcome State Fault Refusal :=
  .next ((s.at t).hostWrite q (O.slmPlanStage n.val) v storeEffect)

/-- A manual swap that fails: E043, the counter, status and index in `SLM_MANUAL_RESULT` (R76). -/
def State.swapFailed (s : State) (n status idx : Nat) : State :=
  (((s.setSlm n { s.slm n with swapReq := none }).slmRaise n 43).bump (O.slmManualRefused n)).setObj (O.slmManualResult n) (status * 65536 + idx)

/-- A write of `SLM_PLAN_SWAP` requests the staged table for a frame; one that comes after B_k − P/2 is late (R76). -/
def effPlanSwap : Effect := fun _ _ _ ref v s =>
  let n := refIndex ref - 0x2210
  let k := beNat v
  if (s.halfBefore n k).lt (tickInstant s.studio) then done (s.swapFailed n St.notActive 0xFFFF)
  else done (s.setSlm n { s.slm n with swapReq := some k })

def execSlmPlanSwap (t : Nat) (q : Req) (n : Fin 4) (v : List Byte) (s : State) : Host.Outcome State Fault Refusal :=
  .next ((s.at t).hostWrite q (O.slmPlanSwap n.val) v effPlanSwap)

/-- The staged manual table as entries. -/
def State.stagedPlan (s : State) (n : Nat) : List Entry := tableEntries (s.blob (O.slmPlanStage n)) 512

/-- MANUAL_SWAP_VERIFY (R76): at B_k − P/2, in MANUAL mode. -/
def State.swapVerify (s : State) (n : Nat) : State :=
  match (s.slm n).swapReq with
  | none => s
  | some k =>
    if s.obj (O.slmPlanMode n) != 2 || !s.reached (s.halfBefore n k) then s
    else
      let p := s.stagedPlan n
      match (s.cfg n).verify p with
      | none => s.setSlm n { s.slm n with swapReq := none, swapTable := some (k, p) }
      | some (st, i) => s.swapFailed n st i

def execManualSwapVerify (t : Nat) (n : Fin 4) (s : State) : Host.Outcome State Fault Refusal := .next ((s.at t).swapVerify n.val)

/-- A write of `SLM_COMPRESSION_CREDIT` (R85): false is refused while the raw demand exceeds the ceiling. -/
def effCredit : Effect := fun _ _ r ref v s =>
  if beNat v = 0 && s.obj O.slmBwCeiling < s.obj O.slmBwAdmittedRaw then refuse s St.creditInUse else done (s.store r ref v)

def execSlmCompressionCredit (t : Nat) (q : Req) (v : List Byte) (s : State) : Host.Outcome State Fault Refusal :=
  .next ((s.at t).hostWrite q O.slmCompressionCredit v effCredit)

end Sys2Proof.Machine
end

