-- ==== Sys2Proof/Machine/Colour.lean ====
section
/-! DEFINITION. Six-primary colour (chapter 04): the checks on primary objects, compensation tables, primary temperatures, the correction matrix, the base
and applied targets of the banks, the view LUT and the matrix as functions of a pixel, and fades (R114). -/

namespace Sys2Proof.Machine

/-! ### Piecewise linear tables (R129, R429) -/

/-- Between point `p` and the rest of a table: linear, to the nearest integer, halves up; the last point beyond the end. -/
def interpFrom (p : Int × Int) : List (Int × Int) → Int → Int
  | [], _ => p.2
  | q :: l, t => if t < q.1 then p.2 + roundDiv ((q.2 - p.2) * (t - p.1)) (q.1 - p.1).toNat else interpFrom q l t

/-- A table read at `t`, held at its end points; an empty table reads `t` itself. -/
def interp : List (Int × Int) → Int → Int
  | [], t => t
  | p :: l, t => if t ≤ p.1 then p.2 else interpFrom p l t

/-- The keys of a table rise strictly. -/
def rising : List Int → Bool
  | a :: b :: l => decide (a < b) && rising (b :: l)
  | _ => true

/-- Field `f` of a compensation table (Table 04-2): 0 T, 1 GAIN, 2 DX, 3 DY. -/
def ttField (img : List Byte) (f i : Nat) : Int :=
  let v := leAt img (16 * i + 4 * f) 4
  if f = 1 then (v : Int) else toI32 v

/-- The points of field `f` over temperature. -/
def ttPoints (img : List Byte) (f : Nat) : List (Int × Int) := (List.range 8).map fun i => (ttField img 0 i, ttField img f i)

/-- A compensation table is in order: strictly rising T, no GAIN of 0 (R128). -/
def ttOk (img : List Byte) : Bool :=
  rising ((List.range 8).map (ttField img 0)) && (List.range 8).all fun i => ttField img 1 i != 0

/-- Field `f` of primary `p` at temperature `t` (R129). -/
def State.ttAt (s : State) (p f : Nat) (t : Int) : Int := interp (ttPoints (s.blob (O.colPrimTtable p)) f) t

/-! ### Writes -/

/-- A write of `COL_PRIM_TTABLE` (R128). -/
def effTtable : Effect := fun _ _ r ref v s => if ttOk v then done (s.store r ref v) else refuse s St.badTable

/-- A write of `COL_PRIM_X` or `COL_PRIM_Y` (R119). -/
def effPrimXY : Effect := fun _ _ r ref v s =>
  let p := refIndex ref - 0x2410
  let n := beNat v
  let x := if ref = O.colPrimX p then n else s.obj (O.colPrimX p)
  let y := if ref = O.colPrimY p then n else s.obj (O.colPrimY p)
  if 1000000 < x + y || (y != 0 && decide (y < 1000)) then refuse s St.badValue else done (s.store r ref v)

/-! ### Primary temperatures (R130) -/

/-- The banks of primary `p` on the group of leader `n` (R120). -/
def State.primBanks (s : State) (n p : Nat) : List Nat := bitsOf 16 (s.bankMask n p)

/-- The outputs that stand alone or lead a group. -/
def State.leaders (s : State) : List Nat := outputs.filter fun n => s.leadOf n == n

/-- Primary `p` of leader `n` at a slot start, with `temp` the calibrated value of a bank's sensor: the mean of the banks with a valid one, or the last value held
and E083. -/
def State.latchPrim (s : State) (temp : Nat → Option Int) (n p : Nat) : State :=
  let bs := s.primBanks n p
  let ts := bs.filterMap temp
  let c := s.col n
  if bs.isEmpty then s
  else if ts.isEmpty then
    if bit c.held p then s else (s.setCol n { c with held := setBit c.held p }).raise 83 [n, p]
  else
    let (m, s) := s.openRound (ts.foldl (· + ·) 0) ts.length
    let s := s.setCol n { c with held := clearBit c.held p }
    (s.group n).foldl (fun s k => s.setObjI (O.colPrimTemp k p) m) s

/-- BANK_TEMP_LATCH (R130): at the slot start at tick `at_`. -/
def State.latchTemps (s : State) (at_ : Int) (temp : Nat → Option Int) : State :=
  let s := allBanks.foldl (fun s b => match temp b with | some t => s.setObjI (O.colBankTemp b) t | none => s) s
  s.leaders.foldl (fun s n =>
    let s := (List.range 6).foldl (fun s p => s.latchPrim temp n p) s
    let c := s.col n
    s.setCol n { c with temps := ((at_, (List.range 6).map fun p => s.objI (O.colPrimTemp n p)) :: c.temps).take 8 }) s

/-! ### The correction matrix (R126, R131 to R133) -/

/-- Entry [i][j] of a matrix image, Q2.14. -/
def matrixAt (img : List Byte) (i j : Nat) : Int := toSigned 16 (leAt img (12 * i + 2 * j) 2)

/-- A matrix image with entry [i][j] at `v`, held to [−2, 2). -/
def matrixPut (img : List Byte) (i j : Nat) (v : Int) : List Byte :=
  overwrite img (12 * i + 2 * j) (leBytes 2 (ofSigned 16 (clampInt (-32768) 32767 v)))

/-- The identity (R133). -/
def identityMatrix : List Byte := dfltBytes .identity 0

/-- Column `p` of one image copied into another. -/
def matrixColumn (from_ to_ : List Byte) (p : Nat) : List Byte :=
  (List.range 6).foldl (fun m i => matrixPut m i p (matrixAt from_ i p)) to_

/-- A row of the matrix on six drives, and whether it was clamped (R126). -/
def matrixRow (img : List Byte) (i : Nat) (d : List Nat) : Nat × Bool :=
  let v := ((List.range 6).foldl (fun a j => a + matrixAt img i j * ((nth d j 0 : Nat) : Int)) 0 + 8192) / 16384
  ((clampInt 0 65535 v).toNat, decide (v < 0) || decide (65535 < v))

/-- The matrix on six drives: the drives, and whether any was clamped. -/
def matrixApply (img : List Byte) (d : List Nat) : List Nat × Bool :=
  let r := (List.range 6).map fun i => matrixRow img i d
  (r.map (·.1), r.any (·.2))

/-- A colour column times its y, in 10⁻⁶: (x, y, 1 − x − y) of primary `p` at the shift of temperature `t`, times its luminance. -/
def State.colourColumn (s : State) (p : Nat) (lum : Nat) (shift : Int × Int) : Int × Int × Int :=
  let x : Int := s.obj (O.colPrimX p) + shift.1
  let y : Int := s.obj (O.colPrimY p) + shift.2
  (x * lum, y * lum, (1000000 - x - y) * lum)

/-- The determinant of three columns. -/
def det3 (a b c : Int × Int × Int) : Int :=
  a.1 * (b.2.1 * c.2.2 - b.2.2 * c.2.1) - b.1 * (a.2.1 * c.2.2 - a.2.2 * c.2.1) + c.1 * (a.2.1 * b.2.2 - a.2.2 * b.2.1)

/-- The weights of R131 for primary `p` with partners `q` and `r`, each a fraction (numerator, positive denominator); none where there is no valid solution. -/
def State.partnerWeights (s : State) (n : Nat) (temp : Nat → Int) (p q r : Nat) : Option (List (Nat × Int × Nat)) :=
  let lum (k : Nat) := s.obj (O.colPrimLum (s.leadOf n) k)
  let shift (k : Nat) : Int × Int := (s.ttAt k 2 (temp k), s.ttAt k 3 (temp k))
  let col (k : Nat) := s.colourColumn k (lum k) (shift k)
  let ya (k : Nat) : Int := s.obj (O.colPrimY k) + (shift k).2
  let yp : Int := s.obj (O.colPrimY p)
  let target := s.colourColumn p (lum p) (0, 0)
  let d := det3 (col p) (col q) (col r)
  let w (k : Nat) (dk : Int) : Nat × Int × Nat :=
    -- y_a(k) / y_p · D_k / D
    let num := ya k * dk * (if d < 0 then -1 else 1)
    (k, num, yp.toNat * d.natAbs)
  let ws := [w p (det3 target (col q) (col r)), w q (det3 (col p) target (col r)), w r (det3 (col p) (col q) target)]
  if d = 0 || yp ≤ 0 || ya p = 0 || ya q = 0 || ya r = 0 then none
  else if d.natAbs * 1000000 < lum p * lum q * lum r * (ya p).natAbs * (ya q).natAbs * (ya r).natAbs then none
  else
    match ws with
    | [a, b, c] => if a.2.1 ≤ 0 || b.2.1 < 0 || c.2.1 < 0 then none else some ws
    | _ => none

/-- A primary takes part in the plans of output `n` and is programmed (R119, R131). -/
def State.primReady (s : State) (n p : Nat) : Bool :=
  decide (p < 6) && bit (s.obj (O.slmPrimaries (s.leadOf n))) p && s.obj (O.colPrimY p) != 0

/-- One column of R131 on a matrix image. `prev` is the matrix before, whose column a held primary keeps (R130). -/
def State.matrixPrim (s : State) (n : Nat) (temp : Nat → Int) (prev : List Byte) (m : List Byte) (p : Nat) : List Byte × State :=
  let l := s.leadOf n
  if bit (s.col l).held p then (matrixColumn prev m p, s)
  else if !s.primReady n p then (m, s)
  else if s.ttAt p 2 (temp p) = 0 && s.ttAt p 3 (temp p) = 0 then (m, s.setCol n { s.col n with noPartner := clearBit (s.col n).noPartner p })
  else
    let pq := s.obj (O.colPrimPartners p)
    let q := bits pq 5 3
    let r := bits pq 2 0
    match (if s.primReady n q && s.primReady n r then s.partnerWeights n temp p q r else none) with
    | none =>
      let c := s.col n
      (m, if bit c.noPartner p then s else (s.setCol n { c with noPartner := setBit c.noPartner p }).raise 84 [n, p])
    | some ws =>
      let s := s.setCol n { s.col n with noPartner := clearBit (s.col n).noPartner p }
      ws.foldl (fun (a : List Byte × State) w =>
        let (v, s) := a.2.openNearest (w.2.1 * 16384) w.2.2
        (matrixPut a.1 w.1 p v, s)) (m, s)

/-- The frame whose composition starts next on generator `n`: the one after the frame in progress, or the first new frame of a commit whose B_old comes before (R204). -/
def State.nextComposed (s : State) (n : Nat) : Option Nat :=
  let g := s.tg n
  let m := s.slm n
  let after (k : Nat) : Nat := if m.composing = some k then k + 1 else k
  let new : Option Nat := g.commit.bind fun c => c.bNew.map fun b => after b.2
  if g.running then
    let k := after (g.frame + 1)
    match g.commit with
    | some c => if c.stepped || s.rootTick c.bOld ≤ s.boundaryTick n k then new else some k
    | none => some k
  else new

/-- The instant at which the composition of frame `k` starts: B_{k−1} (R132, R204); B_old − P_old for the first new frame of a change of timing (R51). -/
def State.compositionInstant (s : State) (n k : Nat) : Instant :=
  let g := s.tg n
  let old := s.timing n
  match g.commit with
  | none => old.boundary ((k : Int) - 1)
  | some c =>
    match c.bNew with
    | none => old.boundary ((k : Int) - 1)
    | some b =>
      let new := if g.dark then old else timingIn (fun ref => (kvFind c.vals ref).getD (s.obj ref)) n
      if b.2 ≤ k then
        if b.2 = k && g.running && !c.stepped then c.bOld.plusFrac (-(old.pNum : Int)) old.den
        else new.boundary ((k : Int) - 1)
      else old.boundary ((k : Int) - 1)

/-- The primary temperatures latched at the last slot start at or before B_{k−1} − 2 ms; those in force where none was (R132). -/
def State.tempsFor (s : State) (n k : Nat) : List Int :=
  let l := s.leadOf n
  let limit := s.rootTick (s.compositionInstant l k) - msTicks 2
  match (s.col l).temps.find? fun x => decide (x.1 ≤ limit) with
  | some x => x.2
  | none => (List.range 6).map fun p => s.objI (O.colPrimTemp l p)

/-- MATRIX_COMPUTE (R131): under AUTO, the matrix for the frame whose composition starts next. While the management processor restarts, none is computed (R132). -/
def State.matrixCompute (s : State) (n : Nat) : State :=
  match s.nextComposed (s.leadOf n) with
  | none => s
  | some k =>
    if s.obj (O.colCompMode n) != 1 || s.resil.procDown then s
    else
      let ts := s.tempsFor n k
      let prev := match (s.col n).matrixNext with | some x => x.2 | none => s.blob (O.colMatrix n)
      let (m, s) := (List.range 6).foldl (fun (a : List Byte × State) p => a.2.matrixPrim n (fun p => nth ts p 0) prev a.1 p) (identityMatrix, s)
      s.setCol n { s.col n with matrixNext := some (k, m) }

def execMatrixCompute (t : Nat) (n : Fin 4) (s : State) : Host.Outcome State Fault Refusal := .next ((s.at t).matrixCompute n.val)

/-- The matrix of frame `k` at its composition start (R132, R133): the mode's, or under AUTO the computed one, or the held one with E082 on the first late frame. -/
def State.takeMatrix (s : State) (n k : Nat) : State :=
  let c := s.col n
  let late := { c with matrixLate := false }
  match s.obj (O.colCompMode n) with
  | 0 => (s.setCol n late).setBlob (O.colMatrix n) identityMatrix
  | 2 => (s.setCol n late).setBlob (O.colMatrix n) (s.blob (O.colMatrixHost n))
  | _ =>
    match c.matrixNext with
    | some (j, m) =>
      if j = k then (s.setCol n { late with matrixNext := none }).setBlob (O.colMatrix n) m
      else
        let s := (s.setCol n { c with matrixNext := none, matrixLate := true }).bump (O.colMatrixLate n)
        if c.matrixLate then s else s.raise 82 [n]
    | none =>
      let s := (s.setCol n { c with matrixLate := true }).bump (O.colMatrixLate n)
      if c.matrixLate then s else s.raise 82 [n]

/-- LUT_TAKE_FORCE (R125): the accepted LUTs of this output's views take force. -/
def State.takeLuts (s : State) (n : Nat) : State :=
  let c := s.col n
  c.lutPend.foldl (fun s v =>
    let img := kvGet (fun _ => []) s.lutAcc v
    let s := s.setCol n { s.col n with luts := kvInsert (s.col n).luts v img }
    (s.setBlob (O.colLut v) img).bump (O.colLutSwitches v)) (s.setCol n { c with lutPend := [] })

/-- The colour set of frame `k` of output `n` is fixed at its composition start; `COL_SET_ID` moves when any member differs (R127). -/
def State.takeColourSet (s : State) (n k : Nat) : State :=
  let before := (s.blob (O.colMatrix n), (s.col n).luts)
  let s := (s.takeMatrix n k).takeLuts n
  if before = (s.blob (O.colMatrix n), (s.col n).luts) then s else s.advance (O.colSetId n) 1

/-! ### The view LUT (R123, R124) -/

/-- The drives of a LUT node (R123). -/
def lutNode (img : List Byte) (i j k : Nat) : List Nat := (List.range 6).map fun c => leAt img (((i * 33 + j) * 33 + k) * 12 + 2 * c) 2

/-- Index and fraction (in 1/65,535) of a working component (R124). -/
def lutIndex (c : Nat) : Nat × Nat :=
  let i := min 31 (32 * c / 65535)
  (i, 32 * c - 65535 * i)

/-- Axes in descending order of their fractions. -/
def insertAxis (x : Nat × Nat) : List (Nat × Nat) → List (Nat × Nat)
  | [] => [x]
  | y :: l => if y.2 < x.2 then x :: y :: l else y :: insertAxis x l

/-- One axis step from a node. -/
def axisStep (p : Nat × Nat × Nat) (a : Nat) : Nat × Nat × Nat :=
  match a with
  | 0 => (p.1 + 1, p.2.1, p.2.2)
  | 1 => (p.1, p.2.1 + 1, p.2.2)
  | _ => (p.1, p.2.1, p.2.2 + 1)

/-- Tetrahedral interpolation of six drives (R124, TETRA). -/
def tetra (img : List Byte) (r g b : Nat) : List Nat :=
  let (i, fi) := lutIndex r
  let (j, fj) := lutIndex g
  let (k, fk) := lutIndex b
  match insertAxis (2, fk) (insertAxis (1, fj) (insertAxis (0, fi) [])) with
  | [x, y, z] =>
    let n0 := (i, j, k)
    let n1 := axisStep n0 x.1
    let n2 := axisStep n1 y.1
    let n3 := axisStep n2 z.1
    let at_ (n : Nat × Nat × Nat) := lutNode img n.1 n.2.1 n.2.2
    let a := at_ n0; let b := at_ n1; let c := at_ n2; let d := at_ n3
    (List.range 6).map fun h =>
      let sum := nth a h 0 * (65535 - x.2) + nth b h 0 * (x.2 - y.2) + nth c h 0 * (y.2 - z.2) + nth d h 0 * z.2
      min 65535 ((2 * sum + 65535) / 131070)
  | _ => []

/-- A working pixel through a view's LUT and the matrix: drives, and whether one was clamped. A view without a LUT gives all zeros (R125). -/
def colourPixel (lut matrix : List Byte) (r g b : Nat) : List Nat × Bool :=
  matrixApply matrix (if lut.isEmpty then List.replicate 6 0 else tetra lut r g b)

/-! ### Fades (R114) -/

/-- ⌊∛(n · 2⁹⁰)⌋, for n up to 32,768. -/
def cubeRoot (n : Nat) : Nat :=
  (List.range 36).foldl (fun r i => let c := r + 2 ^ (35 - i); if c * c * c ≤ n * 2 ^ 90 then c else r) 0

/-- F of a fade at `e` of `d` ticks: exact at both ends; between them the rounding to 1/32,768 is open (log entry 16). -/
def State.fadeAt (s : State) (f : Fade) (e d : Nat) : Nat × State :=
  if d ≤ e then (f.f1, s)
  else if f.f0 = f.f1 || e = 0 then (f.f0, s)
  else if f.curve = 0 then
    let (v, s) := s.openRound ((f.f0 * (d - e) + f.f1 * e : Nat) : Int) d
    (v.toNat, s)
  else
    let x := (cubeRoot f.f0 * (d - e) + cubeRoot f.f1 * e) / d
    (x * x * x / 2 ^ 90 + s.fresh % 2, s.took)

/-- FADE_STEP of bank `b` at a slot start (R114). -/
def State.fadeStep (s : State) (b : Nat) : State :=
  match (s.bank b).fade with
  | none => s
  | some f =>
    let start : Int := f.start.getD s.tick
    let (v, s) := s.fadeAt f (s.tick - start).toNat (msTicks f.ms)
    let s := s.setObj (O.gateFadeNow b) v
    if msTicks f.ms ≤ (s.tick - start).toNat then (s.setBank b { s.bank b with fade := none }).raise 53 [b]
    else s.setBank b { s.bank b with fade := some { f with start := some start } }

/-! ### Targets (R134, R135, R460) -/

/-- The base target of bank `b` of primary `p` on leader `n` (R134): GAIN is 1 under OFF and FIXED (R133); scale 0 gives 0 (R140). -/
def State.baseTarget (s : State) (n p b : Nat) : Nat :=
  let np := (s.primBanks n p).length
  let scale := s.obj (O.colPdScale b)
  let gain := if s.obj (O.colCompMode n) = 1 then (s.ttAt p 1 (s.objI (O.colBankTemp b))).toNat else 65536
  if scale = 0 || np = 0 || gain = 0 then 0
  else s.obj (O.colPrimLum n p) * 2 ^ 16 * 65536 * 256 / (np * scale * gain)

/-- The leader and primary of an owned bank. -/
def State.bankOwner (s : State) (b : Nat) : Option (Nat × Nat) :=
  if s.unowned b then none else some (s.leadOf (s.obj (O.gateOutput b)), s.obj (O.gatePrimary b))

/-- BASE_TARGET at a slot start (R134): the base computed during the slot before takes force, or with the processor down the previous one is held; then the next
one is computed. A held primary keeps its base (R130). -/
def State.baseStep (s : State) (b : Nat) : State :=
  match s.bankOwner b with
  | none => s.setBank b { s.bank b with base := 0, baseNext := none }
  | some (n, p) =>
    let x := s.bank b
    let s :=
      match x.baseNext with
      | some v => if s.resil.procDown then s.bump (O.colTargetLate b) else s.setBank b { x with base := v, baseNext := none }
      | none => if s.resil.procDown then s.bump (O.colTargetLate b) else s
    let x := s.bank b
    let next := if bit (s.col n).held p then x.base else s.baseTarget n p b
    if s.resil.procDown then s else s.setBank b { x with baseNext := some next }

/-- The fraction of its share that a swept bank has at the present tick (R460): numerator and denominator. -/
def Sweep.at (w : Sweep) (now : Nat) : Int × Nat :=
  let d := max 1 w.len
  let e := if w.len = 0 then 1 else min d (now - w.start)
  (w.num * 8 * d + (w.to_ * w.den - w.num * 8) * e, 8 * w.den * d)

/-- base′ of a swept bank (R460). -/
def State.sweptBase (s : State) (b : Nat) : Nat :=
  match (s.bank b).sweep with
  | none => (s.bank b).base
  | some w => let f := w.at s.tick; (((s.bank b).base : Int) * f.1 / f.2).toNat

/-- The base of bank `b` with the overrides of BANK_EFF: its own fraction, and its share of what swept banks of its primary give up. -/
def State.baseApplied (s : State) (b : Nat) : Nat :=
  match s.bankOwner b with
  | none => 0
  | some (n, p) =>
    let bs := s.primBanks n p
    let more := (bs.filter fun j => j != b && (s.bank j).sweep.isSome).foldl
      (fun a j => a + ((s.bank j).base - s.sweptBase j) / (bs.length - 1)) 0
    s.sweptBase b + more

/-- The headroom scale of one bank (R135), in 1/32,768. -/
def State.headroomOf (s : State) (b : Nat) : Nat :=
  let d := s.baseApplied b * s.obj (O.gateFadeNow b)
  if d = 0 then 32768 else min 32768 (32768 * s.obj (O.colBankCeiling b) * 32768 / d)

/-- TARGET_FORM for the group of leader `n` (R135): one H for all its banks under UNIFORM, one for each under CLIP. -/
def State.targetForm (s : State) (n : Nat) : State :=
  let bs := (s.banksOf (s.group n)).filter fun b => !s.unowned b
  let hs := bs.map fun b => (b, s.headroomOf b)
  let low := hs.foldl (fun m x => min m x.2) 32768
  let s := hs.foldl (fun s x =>
    let h := if s.obj (O.colCeilPolicy n) = 0 then low else x.2
    s.setObj (O.colBankTarget x.1) (min 0xFFFFFFFF (s.baseApplied x.1 * s.obj (O.gateFadeNow x.1) * h / 2 ^ 30))) s
  let s := (s.group n).foldl (fun s k => s.setObj (O.colHeadroomH k) low) s
  let c := s.col n
  if low < 32768 && !c.limited then (s.setCol n { c with limited := true }).raise 80 [n]
  else if low = 32768 && c.limited then (s.setCol n { c with limited := false }).raise 81 [n]
  else s

/-- A bank without owner has target 0. -/
def State.targetNone (s : State) (b : Nat) : State := if s.unowned b then s.setObj (O.colBankTarget b) 0 else s

/-- `COL_BANK_POWER` in mW (R120, Table 04-8): reading × scale ÷ efficacy; a read computes it. Reading 1/256 count, scale 2⁻¹⁶ lm per count, efficacy 0.001 lm/W. -/
def State.bankPower (s : State) (b : Nat) : Nat × State :=
  let e := s.obj (O.colPrimEfficacy (s.obj (O.gatePrimary b)))
  let r := s.obj (O.colPdReading b)
  let k := s.obj (O.colPdScale b)
  if e = 0 || 5 < s.obj (O.gatePrimary b) then (Config.powerNoEfficacy b r k, s)
  else let (v, s) := s.openRound (r * k * 1000000 : Nat) (2 ^ 24 * e); (min 0xFFFFFFFF v.toNat, s)

end Sys2Proof.Machine
end

