-- ==== Sys2Proof/Machine/Loops.lean ====
section
/-! DEFINITION. The closed-loop control engine (chapter 15): sources, the law, set-points and ramps, gain regions, lowest wins, hand-over, missing measurements and
overruns, with the meanings of its commands. -/

namespace Sys2Proof.Machine

def State.loop (s : State) (l : Nat) : LoopSt := kvGet (fun _ => {}) s.loops l
def State.setLoop (s : State) (l : Nat) (x : LoopSt) : State := { s with loops := kvPut (fun _ => {}) s.loops l x }
def State.loopSet (s : State) (k : Nat) : LoopSetSt := kvGet (fun _ => {}) s.loopSets k
def State.setLoopSet (s : State) (k : Nat) (x : LoopSetSt) : State := { s with loopSets := kvPut (fun _ => {}) s.loopSets k x }

/-! ### Sources (R429) -/

/-- The coefficients in force of one instance of a calibration. -/
def State.coef (s : State) (id inst : Nat) : List Byte := kvGet (fun _ => []) s.cal.coefs (id * 256 + inst)

/-- Ticks of the averaging window of an input: 2^`LOOP_AIN_AVG` conversions of 320 ticks. -/
def State.ainWindow (s : State) (i : Nat) : Nat := 2 ^ s.obj (O.loopAinAvg i) * 320

/-- An ADC run of input i overlaps its averaging window that ends now: the source reads invalid (R453). -/
def State.ainInterrupted (s : State) (i : Nat) : Bool :=
  (s.cal.runs.any fun r => r.id == 2 && r.inst == i) ||
    match kvFind s.cal.adcEnd i with
    | some e => decide (s.tick < e + s.ainWindow i)
    | none => false

/-- The points of an AIN table: (µV, value). -/
def ainPoints (img : List Byte) : List (Int × Int) :=
  (List.range (img.length / 8)).map fun i => (toI32 (leAt img (8 * i) 4), toI32 (leAt img (8 * i + 4) 4))

/-- Input i at a boundary: `raw` is the mean of its last conversions before calibration, none where one was at full scale. -/
def State.latchAin (s : State) (i : Nat) (raw : Option Int) : State :=
  match raw with
  | none => s.setObj (O.loopAinValid i) 0
  | some r =>
    let uv := clampInt (-2147483648) 2147483647 (Config.calibrated 2 i (s.coef 2 i) r)
    let ok := decide (s.objI (O.loopAinValidMin i) ≤ uv) && decide (uv ≤ s.objI (O.loopAinValidMax i)) && !s.ainInterrupted i
    ((s.setObjI (O.loopAinUv i) uv).setObjI (O.loopAinValue i) (interp (ainPoints (s.blob (O.loopAinTable i))) uv)).setObj (O.loopAinValid i) (boolNat ok)

/-- On-die sensor j: `raw` is its latest reading before calibration, none where its self-check failed; 25 to 31 are reserved. -/
def State.latchDie (s : State) (j : Nat) (raw : Option Int) : State :=
  if 25 ≤ j then s
  else
    match raw with
    | none => s.setObj (O.loopDieValid j) 0
    | some r =>
      let v := if j < 16 then Config.calibrated 3 j (s.coef 3 j) r else Config.calibrated 4 (j - 16) (s.coef 4 (j - 16)) r
      (s.setObjI (O.loopDieValue j) v).setObj (O.loopDieValid j) 1

/-- All inputs at a boundary. -/
def State.latchSources (s : State) (ain die : List (Option Int)) : State :=
  let s := (List.range 24).foldl (fun s i => s.latchAin i (nth ain i none)) s
  (List.range 32).foldl (fun s j => s.latchDie j (nth die j none)) s

/-- The calibrated value of a sensor code (R130, codes 0x00 to 0x3F). -/
def State.sensor (s : State) (c : Nat) : Option Int :=
  if c < 24 then (if s.objB (O.loopAinValid c) then some (s.objI (O.loopAinValue c)) else none)
  else if 0x20 ≤ c && c < 0x39 then (if s.objB (O.loopDieValid (c - 0x20)) then some (s.objI (O.loopDieValue (c - 0x20))) else none)
  else none

/-- The temperature of a bank's sensor, if it is valid (R130). -/
def State.bankSensor (s : State) (b : Nat) : Option Int := s.sensor (s.obj (O.colBankTsensor b))

/-- The mean of the valid photodiode readings of bank `b` completed after tick `since` (R137); its rounding to 1/256 count is open. -/
def State.opticalMean (s : State) (b since : Nat) : Option Int × State :=
  let l := (s.bank b).readings.filter fun r => decide (since < r.1)
  if l.isEmpty || s.ainInterrupted (s.obj (O.colBankPd b)) then (none, s)
  else
    let (v, s) := s.openRound (l.foldl (fun a r => a + r.2) 0) l.length
    (some (clampInt (-2147483648) 2147483647 v), s)

/-- A source at the present boundary (Table 15-1); `since` is the loop's previous boundary. -/
def State.source (s : State) (c since : Nat) : Option Int × State :=
  if c < 0x40 then (s.sensor c, s)
  else if c < 0x50 then s.opticalMean (c - 0x40) since
  else if c < 0x60 then (some (min 2147483647 (s.obj (O.colBankTarget (c - 0x50)))), s)
  else if c < 0x70 then (some (s.obj (O.loopBankCode (c - 0x60)) : Nat), s)
  else (none, s)

/-! ### Numbers (R431) -/

/-- A value held to I32, and whether it was. -/
def sat32 (i : Int) : Int × Bool :=
  let v := clampInt (-2147483648) 2147483647 i
  (v, v != i)

/-- The product of a coefficient word and a signal. -/
def coefMul (w : Nat) (x : Int) : Int × Bool :=
  let c := toSigned 27 (w / 32)
  let sh := w % 32
  let h : Int := if sh = 0 then 0 else 2 ^ (sh - 1)
  sat32 ((c * x + h) / 2 ^ sh)

/-- An AD coefficient lies in [0, 1). -/
def adOk (w : Nat) : Bool := let c := toSigned 27 (w / 32); decide (0 ≤ c) && decide (c < 2 ^ (w % 32))

/-! ### The law (R432 to R436, R439) -/

/-- The flags of R434. -/
abbrev flagP : Nat := 1
abbrev flagI : Nat := 2
abbrev flagD : Nat := 4
abbrev flagFF : Nat := 8
abbrev flagSum : Nat := 16
abbrev flagHi : Nat := 32
abbrev flagLo : Nat := 64
abbrev flagOverrun : Nat := 128
abbrev flagMissing : Nat := 256
abbrev flagSafe : Nat := 512
abbrev flagFFInvalid : Nat := 1024

/-- `a` with the flag bits of `b`. -/
def orFlags (a b : Nat) : Nat := Nat.lor a b
def flagIf (c : Bool) (f : Nat) : Nat := if c then f else 0

/-- The integrator held to the output range, and whether it was. -/
def State.clampOut (s : State) (l : Nat) (i : Int) : Int × Bool :=
  let v := clampInt (s.objI (O.loopOutMin l)) (s.objI (O.loopOutMax l)) i
  (v, v != i)

/-- The set-point of a boundary: `r` and the ramp value that goes on (R435). -/
def setpointAt (ramp : Option Int) (start : Bool) (rate : Nat) (target y : Int) : Int × Option Int :=
  if rate = 0 then (target, none)
  else if start then (y, some y)
  else
    match ramp with
    | none => (target, none)
    | some v =>
      if (target - v).natAbs ≤ rate then (target, none)
      else let w := if v < target then v + rate else v - rate; (w, some w)

/-- The region at scheduling value `x`, from region `j`; at most three changes (R436). -/
def State.regionFrom (s : State) (l : Nat) (x : Int) : Nat → Nat → Nat
  | 0, j => j
  | n + 1, j =>
    let hyst : Int := s.obj (O.loopHyst l)
    if j + 1 < s.obj (O.loopRegions l) && decide (s.objI (O.loopBound l (j + 1)) + hyst ≤ x) then s.regionFrom l x n (j + 1)
    else if 0 < j && decide (x < s.objI (O.loopBound l j) - hyst) then s.regionFrom l x n (j - 1)
    else j

/-- The computation of a loop in AUTO with a valid measurement (R432). -/
def State.loopLaw (s : State) (l : Nat) (m : LoopSample) (y : Int) : LoopNext :=
  let st := s.loop l
  let j := s.obj (O.loopRegion l)
  let (r, ramp) := setpointAt st.ramp m.ramp (s.obj (O.loopRampRate l)) m.target y
  let pol := s.obj (O.loopPolarity l) = 0
  let yPrev := if m.hand then y else st.yPrev
  let (e, fe) := sat32 (if pol then r - y else y - r)
  let (dm, fdm) := sat32 (if pol then yPrev - y else y - yPrev)
  let i0 := s.objI (O.loopInt l)
  let d0 := if m.hand then 0 else s.objI (O.loopDer l)
  -- tracking (R438)
  let (i1, f1) :=
    if m.a < m.c && !st.safeMiss then
      let (v, a) := sat32 (i0 + (m.a - m.c)); let (w, b) := s.clampOut l v; (w, a || b)
    else (i0, false)
  let bias := s.objI (O.loopBias l)
  let (p, fp) := coefMul (s.obj (O.loopKp l j)) e
  let (ki, fki) := coefMul (s.obj (O.loopKi l j)) e
  let (i2, f2) := let (v, a) := sat32 (i1 + ki); let (w, b) := s.clampOut l v; (w, a || b)
  let (dd, fdd) := coefMul (s.obj (O.loopAd l j)) d0
  let (dk, fdk) := coefMul (s.obj (O.loopKd l j)) dm
  let (d, fd) := sat32 (dd + dk)
  let ffOf (k : Nat) : Int × Bool :=
    match m.v with
    | none => (0, false)
    | some v => let (x, a) := sat32 (v - s.objI (O.loopFfRef l)); let (w, b) := coefMul (s.obj (O.loopKff l k)) x; (w, a || b)
  let (ff, fff) := ffOf j
  let (i3, f3) := if m.hand then s.clampOut l (m.a - (bias + p + d + ff)) else (i2, false)
  let (u0, fu) := sat32 (bias + p + i3 + d + ff)
  let hi := s.objI (O.loopOutMax l)
  let lo := s.objI (O.loopOutMin l)
  let (i4, u1, f4, fh, fl) :=
    if hi < u0 then let (w, b) := s.clampOut l (i3 - (u0 - hi)); (w, hi, b, true, false)
    else if u0 < lo then let (w, b) := s.clampOut l (i3 + (lo - u0)); (w, lo, b, false, true)
    else (i3, u0, false, false, false)
  -- region change (R436)
  let x : Option Int := if s.obj (O.loopSchedSrc l) = 0xFE then some r else m.x
  let j' := match x with | some v => s.regionFrom l v 3 j | none => j
  let (p', fp') := coefMul (s.obj (O.loopKp l j')) e
  let (ff', fff') := ffOf j'
  let (i5, f5) := if j' = j then (i4, false) else s.clampOut l (u1 - (bias + p' + d + ff'))
  let moved := decide (j' ≠ j)
  let flags := flagIf (fe || fp || (moved && fp')) flagP + flagIf (f1 || fki || f2 || f3 || f4 || f5) flagI + flagIf (fdm || fdd || fdk || fd) flagD
    + flagIf (fff || (moved && fff')) flagFF + flagIf fu flagSum + flagIf fh flagHi + flagIf fl flagLo
    + flagIf (m.v.isNone && s.obj (O.loopFfSrc l) != 0xFF) flagFFInvalid
  ⟨u1, i5, d, y, r, ramp, j', flags⟩

/-- The computation of a loop in MANUAL (R440). -/
def State.loopManual (s : State) (l : Nat) (m : LoopSample) : LoopNext :=
  let dest := s.objI (O.loopManualOut l)
  let rate := s.obj (O.loopManRate l)
  let u := if rate = 0 || (dest - m.c).natAbs ≤ rate then dest else if m.c < dest then m.c + rate else m.c - rate
  ⟨u, s.objI (O.loopInt l), s.objI (O.loopDer l), (s.loop l).yPrev, s.objI (O.loopSpNow l), (s.loop l).ramp, s.obj (O.loopRegion l), 0⟩

/-! ### States and flags -/

/-- `LOOP_STATE` (Table 15-5). -/
def State.loopStateOf (s : State) (l : Nat) : Nat :=
  let x := s.loop l
  match s.obj (O.loopMode l) with
  | 0 => 0
  | m =>
    if s.obj (O.loopSetState (s.obj (O.loopSet l))) = 1 then 4
    else if m = 2 then 3
    else if x.safeMiss then 5
    else if 0 < x.missRun then 6
    else if x.ramp.isSome then 2
    else 1

def State.showLoop (s : State) (l : Nat) : State := s.setObj (O.loopState l) (s.loopStateOf l)

/-- Sticky flags are set; E220 and E222 for those newly set (R434). -/
def State.loopFlag (s : State) (l f : Nat) : State :=
  let old := s.obj (O.loopFlags l)
  let new := andNot 16 f old
  let s := s.setObj (O.loopFlags l) (orFlags old f)
  let a := s.obj (O.loopActuator l)
  let s := if new % 128 / 32 != 0 then s.raise 220 [l, a] else s
  if new % 32 != 0 then s.raise 222 [l, a] else s

/-- The loops of set `k` that are not OFF. -/
def State.loopsOf (s : State) (k : Nat) : List Nat := allLoops.filter fun l => s.obj (O.loopMode l) != 0 && s.obj (O.loopSet l) == k

/-! ### A slot start: latch, lowest wins, sample -/

/-- LOOP_LATCH of one loop (R442). -/
def State.latchLoop (s : State) (l : Nat) (x : LoopNext) : State :=
  let moved := s.obj (O.loopRegion l) != x.region
  let st := s.loop l
  let s := s.setLoop l { st with yPrev := x.y, ramp := x.ramp, offers := true, own := x.u }
  let s := ((s.setObjI (O.loopInt l) x.i).setObjI (O.loopDer l) x.d).setObj (O.loopRegion l) x.region
  let s := if s.obj (O.loopMode l) = 1 then (s.setObjI (O.loopMeas l) x.y).setObjI (O.loopSpNow l) x.r else s
  let s := s.loopFlag l x.flags
  let s := if moved then s.raise 225 [l, s.obj (O.loopActuator l)] else s
  s.showLoop l

/-- LOOP_OVERRUN of set `k` (R445). -/
def State.overrunSet (s : State) (k : Nat) : State :=
  let x := s.loopSet k
  let s := (s.loopsOf k).foldl (fun s l => s.loopFlag l flagOverrun) s
  let s := x.samples.foldl (fun s p =>
    let st := s.loop p.1
    s.setLoop p.1 { st with hand := st.hand || p.2.hand, rampReq := st.rampReq || p.2.ramp }) s
  let s := (s.bump (O.loopSetOverruns k)).bump O.loopOverruns
  let n := min 255 (s.obj (O.loopSetConsec k) + 1)
  let s := s.setObj (O.loopSetConsec k) n
  let s := if x.overrun then s else s.raise 223 [k, n]
  let s := s.setLoopSet k { x with boundary := none, samples := [], overrun := true }
  if 3 ≤ n && s.obj (O.loopSetState k) = 0 then
    let s := (s.setObj (O.loopSetState k) 1).raise 223 [k, n]
    (s.loopsOf k).foldl (fun s l => (s.loopFlag l flagSafe).showLoop l) s
  else s

/-- At a boundary of set `k`: its completed computation is latched, or it has overrun. -/
def State.latchSet (s : State) (k : Nat) : State :=
  let x := s.loopSet k
  match x.boundary, x.shadow with
  | none, _ => s
  | some _, none => s.overrunSet k
  | some _, some l =>
    let s := s.setLoopSet k { x with boundary := none, samples := [], shadow := none, clearing := false }
    l.foldl (fun s p => s.latchLoop p.1 p.2) s

/-- What loop `l` offers to its actuator (R437, R444, R445). -/
def State.offer (s : State) (l : Nat) : Option Int :=
  let k := s.obj (O.loopSet l)
  let x := s.loop l
  if s.obj (O.loopMode l) = 0 then none
  else if s.obj (O.loopSetState k) = 1 || (s.loopSet k).clearing || x.safeMiss then some (s.objI (O.loopSafeOut l))
  else if x.offers then some x.own
  else none

/-- The lowest offer among loops, with its loop; the lowest number wins a tie (R437). -/
def lowest : List (Nat × Int) → Option (Nat × Int)
  | [] => none
  | x :: l =>
    match lowest l with
    | none => some x
    | some y => if y.2 < x.2 then some y else some x

/-- LOWEST_WINS for one actuator code: value and winner, 0xFF for none; codes are held to 0 to 65,535 (R430). -/
def State.applied (s : State) (code dflt : Nat) : Nat × Nat :=
  let offers := (allLoops.filter fun l => s.obj (O.loopActuator l) == code).filterMap fun l => (s.offer l).map fun v => (l, v)
  match lowest offers with
  | none => (dflt, 0xFF)
  | some (l, v) => ((clampInt 0 65535 v).toNat, l)

/-- The duty of a PWM pin in PERI cycles (Table 15-2). -/
def pwmDuty (a period : Nat) : Nat := (2 * a * period + 65535) / 131070

/-- LOWEST_WINS on every actuator at a slot start. -/
def State.applyAll (s : State) : State :=
  let won (s : State) (w : Nat × Nat) (have_ : Bool) : State := if have_ then s.bump (O.loopWinPeriods w.2) else s
  let s := allLoops.foldl (fun s l => match s.offer l with | some v => s.setObjI (O.loopOut l) v | none => s) s
  let s := allBanks.foldl (fun s b =>
    let w := s.applied b (s.obj (O.loopBankDefault b))
    won ((s.setObj (O.loopBankCode b) w.1).setObj (O.loopBankWinner b) w.2) w (allLoops.any fun l => s.obj (O.loopActuator l) == b && (s.offer l).isSome)) s
  (List.range 24).foldl (fun s k =>
    let w := s.applied (0x20 + k) (s.obj (O.loopPwmDefault k))
    let s := won ((s.setObj (O.loopPwmDuty k) w.1).setObj (O.loopPwmWinner k) w.2) w
      (allLoops.any fun l => s.obj (O.loopActuator l) == 0x20 + k && (s.offer l).isSome)
    s.emit (.pwm k (pwmDuty w.1 (s.obj (O.loopPwmPeriod k))))) s

/-- The applied value of an actuator in force. -/
def State.appliedOf (s : State) (code : Nat) : Int :=
  if code < 16 then (s.obj (O.loopBankCode code) : Nat) else if 0x20 ≤ code && code < 0x38 then (s.obj (O.loopPwmDuty (code - 0x20)) : Nat) else 0

/-- LOOP_MISSING (R444). -/
def State.loopMiss (s : State) (l : Nat) : State :=
  let x := s.loop l
  let s := (s.loopFlag l flagMissing).bump (O.loopMissed l)
  let a := s.obj (O.loopActuator l)
  let s := if x.missRun = 0 then s.raise 221 [l, a] else s
  let safe := s.obj (O.loopMissAction l) = 1 && decide (s.obj (O.loopMissLimit l) ≤ x.missRun + 1) && !x.safeMiss
  let s := s.setLoop l { s.loop l with missRun := x.missRun + 1, safeMiss := x.safeMiss || safe }
  let s := if safe then (s.loopFlag l flagSafe).raise 226 [l, a] else s
  s.showLoop l

/-- What loop `l` samples at the present boundary (R429, R432); none where its measurement is missing. -/
def State.sampleLoop (s : State) (l since : Nat) : Option LoopSample × State :=
  let a := s.appliedOf (s.obj (O.loopActuator l))
  let x := s.loop l
  if s.obj (O.loopMode l) = 2 then (some ⟨none, none, none, 0, a, x.own, false, false⟩, s)
  else
    let (y, s) := s.source (s.obj (O.loopMeasSrc l)) since
    match y with
    | none => (none, s.loopMiss l)
    | some y =>
      let (v, s) := s.source (s.obj (O.loopFfSrc l)) since
      let (w, s) := s.source (s.obj (O.loopSchedSrc l)) since
      let src := s.obj (O.loopSpSrc l)
      let target : Int := if 0x50 ≤ src && src < 0x60 then (min 2147483647 (s.obj (O.colBankTarget (src - 0x50))) : Nat) else s.objI (O.loopSetpoint l)
      let back := decide (0 < x.missRun)
      let hand := x.hand || back || !x.offers
      let ramp := x.rampReq || x.safeMiss
      let s := s.setLoop l { x with hand := false, rampReq := false, missRun := 0, safeMiss := false }
      (some ⟨some y, v, w, target, a, x.own, hand, ramp⟩, s.showLoop l)

/-- LOOP_BOUNDARY of set `k` (R442): its loops sample, and the computation starts. -/
def State.sampleSet (s : State) (k : Nat) : State :=
  let ls := s.loopsOf k
  if ls.isEmpty then s
  else
    let since := (s.loopSet k).lastAt
    let (out, s) := ls.foldl (fun (p : List (Nat × LoopSample) × State) l =>
      let (m, s) := p.2.sampleLoop l since
      (match m with | some m => p.1 ++ [(l, m)] | none => p.1, s)) ([], s)
    s.setLoopSet k { s.loopSet k with boundary := some s.tick, samples := out, shadow := none, lastAt := s.tick }

/-- The sets with a boundary at slot `m` (R442). -/
def State.setsAt (s : State) (m : Nat) : List Nat := (List.range 16).filter fun k => m % max 1 (s.obj (O.loopSetPeriod k)) == s.obj (O.loopSetPhase k)

/-- The whole engine at slot start `m`. -/
def State.loopSlot (s : State) (m : Nat) : State :=
  let ks := s.setsAt m
  let s := ks.foldl (fun s k => s.latchSet k) s
  let s := s.applyAll
  ks.foldl (fun s k => s.sampleSet k) s

/-! ### Commands -/

/-- LOOP_SET_COMPUTE_DONE (R442, R443): every sampled loop of set `k` is computed into the shadow. `load` is the lane occupancy of the last second, in ‰. -/
def State.computeDone (s : State) (k load : Nat) : State :=
  let x := s.loopSet k
  match x.boundary, x.shadow with
  | some b, none =>
    let out := x.samples.map fun p => (p.1, match p.2.y with | some y => s.loopLaw p.1 p.2 y | none => s.loopManual p.1 p.2)
    let s := s.setLoopSet k { x with shadow := some out, overrun := false }
    let (ns, s) := s.openRound (16 * (s.tick - b) : Nat) 165
    let s := s.setObj (O.loopSetTimeMax k) (min 0xFFFFFFFF (max (s.obj (O.loopSetTimeMax k)) ns.toNat))
    (s.setObj (O.loopSetConsec k) 0).setObj O.loopLoad load
  | _, _ => s

def execLoopSetComputeDone (t : Nat) (k : Fin 16) (load : Fin 1001) (s : State) : Host.Outcome State Fault Refusal :=
  .next ((s.at t).computeDone k.val load.val)

/-- The loop a reference in 0x3000 to 0x30FF belongs to. -/
def refLoop (ref : Nat) : Nat := refIndex ref - 0x3000

/-- Loop `l` leaves the computation of its set. -/
def State.dropLoop (s : State) (l : Nat) : State :=
  let k := s.obj (O.loopSet l)
  let x := s.loopSet k
  s.setLoopSet k { x with samples := x.samples.filter (·.1 != l), shadow := x.shadow.map fun m => m.filter (·.1 != l) }

/-- A write of `LOOP_MODE` (R439, R440, R441). -/
def effLoopMode : Effect := fun _ _ r ref v s =>
  let l := refLoop ref
  let m := beNat v
  let old := s.obj ref
  if m != 0 && s.obj (O.loopActuator l) == 0xFF || (m == 1 && s.obj (O.loopMeasSrc l) == 0xFF) then refuse s St.loopConfig
  else if m = old then done s
  else
    let s := (s.dropLoop l).store r ref v
    let x := s.loop l
    let a := s.appliedOf (s.obj (O.loopActuator l))
    let x := { x with missRun := 0, safeMiss := false, ramp := none }
    let s :=
      match m with
      | 0 => s.setLoop l { x with offers := false, hand := false, rampReq := false }
      | 1 => s.setLoop l { x with hand := true, rampReq := true }
      | _ => (s.setLoop l { x with offers := true, own := a, hand := false, rampReq := false }).setObjI (O.loopOut l) a
    done (s.showLoop l)

def execLoopMode (t : Nat) (q : Req) (l : Fin 256) (v : List Byte) (s : State) : Host.Outcome State Fault Refusal :=
  .next ((s.at t).hostWrite q (O.loopMode l.val) v effLoopMode)

/-- A write of `LOOP_SETPOINT` or `LOOP_SP_SRC` starts a ramp at the next boundary (R435). -/
def effLoopSetpoint : Effect := fun _ _ r ref v s =>
  let l := refLoop ref
  let s := s.store r ref v
  done (s.setLoop l { s.loop l with rampReq := true })

def execLoopSetpoint (t : Nat) (q : Req) (l : Fin 256) (src : Bool) (v : List Byte) (s : State) : Host.Outcome State Fault Refusal :=
  .next ((s.at t).hostWrite q (if src then O.loopSpSrc l.val else O.loopSetpoint l.val) v effLoopSetpoint)

/-- A write of a coefficient, of `LOOP_BIAS` or of `LOOP_FF_REF` (R431, R439 cause (c)). -/
def effLoopCoef : Effect := fun _ _ r ref v s =>
  let l := refLoop ref
  let sub := refSub ref
  if 0x20 ≤ sub && (sub - 0x20) % 8 == 3 && !adOk (beNat v) then refuse s St.badValue
  else
    let s := s.store r ref v
    let used := sub == 0x0B || sub == 0x11 || (sub - 0x20) / 8 == s.obj (O.loopRegion l)
    done (if used then s.setLoop l { s.loop l with hand := true } else s)

/-- The sub-indices of LOOP_COEFFICIENT: `LOOP_BIAS`, `LOOP_FF_REF`, then KP, KI, KD, AD, KFF of the four regions. -/
def coefSub (c : Nat) : Nat := if c = 0 then 0x0B else if c = 1 then 0x11 else 0x20 + (c - 2) / 5 * 8 + (c - 2) % 5

def execLoopCoefficient (t : Nat) (q : Req) (l : Fin 256) (c : Fin 22) (v : List Byte) (s : State) : Host.Outcome State Fault Refusal :=
  .next ((s.at t).hostWrite q (0x300000 + 256 * l.val + coefSub c.val) v effLoopCoef)

/-- A write of `LOOP_FLAGS` clears the flags whose bits are set (R434). -/
def effLoopFlags : Effect := fun _ _ _ ref v s => done (s.setObj ref (andNot 16 (s.obj ref) (beNat v)))

def execLoopFlags (t : Nat) (q : Req) (l : Fin 256) (v : List Byte) (s : State) : Host.Outcome State Fault Refusal :=
  .next ((s.at t).hostWrite q (O.loopFlags l.val) v effLoopFlags)

/-- A write of `LOOP_SET_CLEAR` (R445). -/
def effLoopClear : Effect := fun _ _ _ ref _ s =>
  let k := refIndex ref - 0x3010
  if s.obj (O.loopSetState k) = 0 then refuse s St.notActive
  else
    let s := ((s.setObj (O.loopSetState k) 0).setLoopSet k { s.loopSet k with clearing := true }).raise 224 [k]
    done ((s.loopsOf k).foldl (fun s l => (s.setLoop l { s.loop l with hand := true, rampReq := true }).showLoop l) s)

def execLoopSetClear (t : Nat) (q : Req) (k : Fin 16) (v : List Byte) (s : State) : Host.Outcome State Fault Refusal :=
  .next ((s.at t).hostWrite q (O.loopSetClear k.val) v effLoopClear)

/-- A write of an output limit (R432). -/
def effLoopLimit : Effect := fun _ _ r ref v s =>
  let l := refLoop ref
  let n := toI32 (beNat v)
  let lo := if refSub ref = 0x0C then n else s.objI (O.loopOutMin l)
  let hi := if refSub ref = 0x0D then n else s.objI (O.loopOutMax l)
  if lo < 0 || 65535 < hi || hi < lo then refuse s St.badValue else done (s.store r ref v)

/-- A write of `LOOP_REGIONS` or a bound (R436): the bounds in use rise strictly. The region in use stays within the regions. -/
def effLoopRegion : Effect := fun _ _ r ref v s =>
  let l := refLoop ref
  let s' := s.store r ref v
  if rising ((List.range (s'.obj (O.loopRegions l) - 1)).map fun j => s'.objI (O.loopBound l (j + 1))) then
    let top := s'.obj (O.loopRegions l) - 1
    done (if top < s'.obj (O.loopRegion l) then ((s'.setObj (O.loopRegion l) top).setLoop l { s'.loop l with hand := true }).raise 225 [l, s'.obj (O.loopActuator l)] else s')
  else refuse s St.badValue

/-- A write of a set's period or phase keeps the phase below the period (R442). -/
def effLoopPeriod : Effect := fun _ _ r ref v s =>
  let k := refIndex ref - 0x3010
  let s' := s.store r ref v
  if s'.obj (O.loopSetPhase k) < s'.obj (O.loopSetPeriod k) then done s' else refuse s St.badValue

/-- A write of `LOOP_AIN_TABLE` (R429). -/
def effAinTable : Effect := fun _ _ r ref v s =>
  if rising ((ainPoints v).map (·.1)) then done (s.store r ref v) else refuse s St.badTable

end Sys2Proof.Machine
end

