-- ==== Sys2Proof/Machine/Camera.lean ====
section
/-! DEFINITION. Camera-keyed views (chapter 05): placement checks, shutter measurement, the shutter states, with the meanings of SHUTTER_EDGE and
EXPOSURE_FRAME_EVAL. -/

namespace Sys2Proof.Machine

/-! ### Placement (R146) -/

/-- A refusal of a placement check: status, check, camera, slot. -/
structure PlaceFault where
  status : Nat
  check  : Nat
  cam    : Nat
  slot   : Nat
deriving DecidableEq, Repr

/-- `VIEW_PLACE_DETAIL` of a refusal on output n (Table 05-3). -/
def PlaceFault.detail (f : PlaceFault) (n : Nat) : Nat := n * 2 ^ 28 + f.check * 2 ^ 24 + f.cam * 2 ^ 16 + f.slot * 256

/-- The index of the first slot that satisfies `q`. -/
def firstSlot (q : Nat × Nat × Nat → Bool) : List (Nat × Nat × Nat) → Nat → Option Nat
  | [], _ => none
  | x :: l, i => if q x then some i else firstSlot q l (i + 1)

/-- How far the slots of view `v` and dark slots cover the axis from `a` on. -/
def coveredTo (v a : Nat) (slots : List (Nat × Nat × Nat)) : Nat :=
  slots.foldl (fun c x => if (x.1 == v || x.1 == 0) && decide (x.2.1 ≤ c) && decide (c < x.2.1 + x.2.2) then x.2.1 + x.2.2 else c) a

/-- Table 05-1 for camera `c` of the group of leader `n`, on slots and values as staged. -/
def placeCamera (val : Nat → Nat) (n c ticks : Nat) (out : Nat) (slots : List (Nat × Nat × Nat)) : Option PlaceFault :=
  let v := val (O.camView c)
  let o := val (O.camOpen c)
  let l := val (O.camLength c)
  let g := val (O.camGuard c)
  let cl := o + l
  if v = 0xFF then none
  else if out ≠ n then some ⟨St.cameraOutput, 1, c, 0xFF⟩
  else if l < 2 * g + 1 || o < g || ticks < cl + g then some ⟨St.cameraWindow, 2, c, 0xFF⟩
  else if v = 0 then
    (firstSlot (fun x => decide (1 ≤ x.1) && decide (x.2.1 < cl + g) && decide (o - g < x.2.1 + x.2.2)) slots 0).map
      fun i => ⟨St.viewPlacement, 5, c, i⟩
  else
    match firstSlot (fun x => x.1 == v && (decide (x.2.1 < o + g) || decide (cl - g < x.2.1 + x.2.2))) slots 0 with
    | some i => some ⟨St.viewPlacement, 3, c, i⟩
    | none =>
      if coveredTo v (o - g) slots < cl + g then
        some ⟨St.viewPlacement, 4, c,
          (firstSlot (fun x => x.1 != v && x.1 != 0 && decide (x.2.1 < cl + g) && decide (o - g < x.2.1 + x.2.2)) slots 0).getD 0xFF⟩
      else none

/-- PLACEMENT_CHECK (R146) for a commit of leader `n`: the first failure. -/
def State.placement (s : State) (val : Nat → Nat) (n : Nat) : Option PlaceFault :=
  let cfg := s.planCfg val n
  ((List.range 8).filter fun c => (s.group n).contains (s.obj (O.camOutput c))).findSome? fun c =>
    placeCamera val n c cfg.ticks (s.obj (O.camOutput c)) cfg.slots

/-! ### What a read computes (R158) -/

/-- View `v` is planned on output `n`. -/
def State.viewPlanned (s : State) (v n : Nat) : Bool := s.objB (O.tgEnable (s.leadOf n)) && (s.planCfg s.obj (s.leadOf n)).views.contains v

/-- `VIEW_ON_OUTPUTS`. -/
def State.viewOnOutputs (s : State) (v : Nat) : Nat := outputs.foldl (fun m n => if s.viewPlanned v n then m + 2 ^ n else m) 0

/-- `VIEW_CAMERAS`. -/
def State.viewCameras (s : State) (v : Nat) : Nat := (List.range 8).foldl (fun m c => if s.obj (O.camView c) == v then m + 2 ^ c else m) 0

/-- `VIEW_DUTY` of view `v` on output `n`. -/
def State.viewDuty (s : State) (v n : Nat) : Nat :=
  let c := s.planCfg s.obj (s.leadOf n)
  if !s.viewPlanned v n then 0
  else
    let sum (q : Nat → Bool) : Nat := c.slots.foldl (fun a x => if q x.1 then a + x.2.2 else a) 0
    let t := if v = 0 then c.ticks - sum (fun _ => true) else sum (· == v)
    2 ^ 16 * t / max 1 c.ticks

/-! ### Measurement (R150 to R155) -/

/-- A camera is measured now: monitored, and its bound output shows frames (Table 05-2 code 0). -/
def State.camWanted (s : State) (c : Nat) : Bool :=
  let n := s.obj (O.camOutput c)
  s.objB (O.camMonitor c) && decide (n ≤ 3) && s.showing n

/-- Measurement of camera `c` stops: NOT_MONITORED, counts and episodes gone (R152, R155). -/
def State.camStop (s : State) (c : Nat) : State :=
  let x := s.cam c
  (s.setCam c { x with measuring := false, meas := [], missRun := 0, guardRun := 0, groupN := 0, periodEp := false }).setObj (O.camShutState c) 0

/-- At a boundary of its output, frame `k`, measurement of camera `c` begins in IN_GUARD, if it is wanted and not under way. -/
def State.camBegin (s : State) (c k : Nat) : State :=
  let x := s.cam c
  if s.camWanted c then
    if x.measuring then s else (s.setCam c { x with measuring := true, meas := [], next := k }).setObj (O.camShutState c) 1
  else if x.measuring then s.camStop c else s

/-- The cameras bound to output `n`. -/
def State.camsOf (s : State) (n : Nat) : List Nat := (List.range 8).filter fun c => s.obj (O.camOutput c) == n

/-- Frame `k` is an exposure frame of camera `c` (R151). -/
def State.exposure (s : State) (c k : Nat) : Bool := k % max 1 (s.obj (O.camDivider c)) == s.obj (O.camDivPhase c)

/-- The frame whose interval [B_k + off − P/2, B_k + off + P/2) holds a root tick: the only one, since the intervals follow one another. -/
def State.frameAround (s : State) (n : Nat) (e off : Int) : Int :=
  let g := s.timing n
  -- k = ⌊(e − off − phase) / P + 1/2⌋
  let num := (e + s.time.offset - off - g.phase) * g.den
  (2 * num + g.pNum) / (2 * (g.pNum : Int))

/-- What camera `c` has measured in frame `k`. -/
def CamSt.at (x : CamSt) (k : Nat) : CamMeas := (x.meas.find? fun m => m.frame == k).getD ⟨k, none, none⟩

def CamSt.put (x : CamSt) (m : CamMeas) : CamSt := { x with meas := m :: x.meas.filter fun y => y.frame != m.frame }

/-- PERIOD_CHECK (R153): the matched open edge of frame `k` at root tick `e`. -/
def State.periodEdge (s : State) (c n k : Nat) (e : Int) : State :=
  let x := s.cam c
  let d := max 1 (s.obj (O.camDivider c))
  if x.groupN = 0 || k ≠ x.groupFrame + d then s.setCam c { x with groupN := 1, group0 := e, groupFrame := k }
  else if x.groupN < 16 then s.setCam c { x with groupN := x.groupN + 1, groupFrame := k }
  else
    let g := s.timing n
    let err := e - x.group0 - roundDiv (16 * d * g.pNum) g.den
    let bad := decide ((s.obj (O.camGuard c) : Int) < err.natAbs)
    let s := s.setCam c { x with groupN := 1, group0 := e, groupFrame := k, periodEp := bad }
    let s := (s.setObjI (O.camPeriodErr c) err).setObj (O.camPeriodBad c) (boolNat bad)
    if bad && !x.periodEp then s.raise 89 [c, satI32 err] else s

/-- SHUTTER_EDGE (R150, R151): an edge of SHUT_INc whose capture gives the present tick. -/
def State.shutterEdge (s : State) (c : Nat) (rising : Bool) : State :=
  let x := s.cam c
  if !x.measuring then s
  else
    let n := s.leadOf (s.obj (O.camOutput c))
    let e : Int := s.tick - s.objI (O.camShutDelay c)
    let isOpen := rising == decide (s.obj (O.camShutPolarity c) = 0)
    let o : Int := s.obj (O.camOpen c)
    let off := if isOpen then o else o + s.obj (O.camLength c)
    let k := s.frameAround n e off
    if k < 0 || !s.exposure c k.toNat then s
    else
      let k := k.toNat
      let m := x.at k
      let at_ := e - s.boundaryTick n k
      if isOpen then
        match m.open_ with
        | some _ => s.bump (O.camExtraEdges c)
        | none =>
          let s := s.setCam c (x.put { m with open_ := some at_ })
          (s.setObj (O.camLastOpen c) (stimeOf (e + s.time.offset))).periodEdge c n k e
      else
        match m.open_, m.close with
        | some a, none => if a < at_ then s.setCam c (x.put { m with close := some at_ }) else s.bump (O.camExtraEdges c)
        | _, _ => s.bump (O.camExtraEdges c)

def execShutterEdge (t : Nat) (c : Fin 8) (rising : Bool) (s : State) : Host.Outcome State Fault Refusal := .next ((s.at t).shutterEdge c.val rising)

/-- The first exposure frame of camera `c` from `k` on, within a cycle of the divider. -/
def State.nextExposure (s : State) (c : Nat) : Nat → Nat → Nat
  | 0, k => k
  | n + 1, k => if s.exposure c k then k else s.nextExposure c n (k + 1)

/-- D_close in the record of a frame whose close edge did not match (R152). -/
def noClose : Nat := 0x7FFFFFFF

/-- An exposure frame without a matched open edge (R152). -/
def State.camMissed (s : State) (c : Nat) : State :=
  let x := s.cam c
  let s := (s.setCam c { x with missRun := x.missRun + 1, guardRun := 0, groupN := 0 }).bump (O.camMissed c)
  if s.obj (O.camMissFrames) ≤ x.missRun + 1 && s.obj (O.camShutState c) != 3 then
    (s.setObj (O.camShutState c) 3).raise 87 [c, s.obj (O.camDriftOpen c), s.obj (O.camDriftClose c)]
  else s

/-- The means of R154 over the last 64 matched exposure frames. -/
def State.camSuggest (s : State) (c : Nat) (open_ len : Int) : State :=
  let x := s.cam c
  let l := ((open_, len) :: x.last64).take 64
  let s := s.setCam c { x with last64 := l }
  if l.length < 64 then s
  else
    let so := l.foldl (fun a p => a + p.1) 0
    let sl := l.foldl (fun a p => a + p.2) 0
    (s.setObjI (O.camSuggestOpen c) (roundDiv so 64)).setObj (O.camSuggestLength c) (roundDiv sl 64).toNat

/-- An exposure frame with a matched open edge `a` and perhaps a close edge (R151, R152). -/
def State.camMatched (s : State) (c : Nat) (a : Int) (close : Option Int) : State :=
  let o : Int := s.obj (O.camOpen c)
  let g : Nat := s.obj (O.camGuard c)
  let dO := a - o
  let dC := close.map fun b => b - o - s.obj (O.camLength c)
  let s := s.setObjI (O.camDriftOpen c) dO
  let s := match dC with | some d => s.setObjI (O.camDriftClose c) d | none => s
  let peak := max dO.natAbs (match dC with | some d => d.natAbs | none => 0)
  let s := s.setObj (O.camDriftPeak c) (max (s.obj (O.camDriftPeak c)) (min peak 0xFFFFFFFF))
  let s := match close with | some b => s.camSuggest c a (b - a) | none => s
  let good := decide (dO.natAbs ≤ g) && match dC with | some d => decide (d.natAbs ≤ g) | none => false
  let rec_ := [c, satI32 dO, match dC with | some d => satI32 d | none => noClose]
  let was := s.obj (O.camShutState c)
  let s := if was = 3 then s.raise 88 rec_ else s
  let x : CamSt := { s.cam c with missRun := 0 }
  if good then
    if was = 2 then
      if s.obj O.camClearFrames ≤ x.guardRun + 1 then ((s.setCam c { x with guardRun := 0 }).setObj (O.camShutState c) 1).raise 86 rec_
      else s.setCam c { x with guardRun := x.guardRun + 1 }
    else (s.setCam c { x with guardRun := 0 }).setObj (O.camShutState c) 1
  else
    let s := (s.setCam c { x with guardRun := 0 }).bump (O.camDriftFrames c)
    if was = 2 then s else (s.setObj (O.camShutState c) 2).raise 85 rec_

/-- EXPOSURE_FRAME_EVAL (R152): the close interval of the next exposure frame has ended. -/
def State.exposureEval (s : State) (c : Nat) : State :=
  let x := s.cam c
  if !x.measuring then s
  else
    let n := s.leadOf (s.obj (O.camOutput c))
    let k := s.nextExposure c 8 x.next
    let cl : Int := s.obj (O.camOpen c) + s.obj (O.camLength c)
    let g := s.timing n
    if !s.reached (((g.boundary k).plus cl).plusFrac g.pNum (2 * g.den)) then s
    else
      let m := x.at k
      let s := s.setCam c { x with next := k + 1, meas := x.meas.filter fun y => decide (k < y.frame) }
      match m.open_ with
      | none => s.camMissed c
      | some a => s.camMatched c a m.close

def execExposureFrameEval (t : Nat) (c : Fin 8) (s : State) : Host.Outcome State Fault Refusal := .next ((s.at t).exposureEval c.val)

/-! ### Writes -/

/-- The camera a reference in 0x2520 to 0x2527 belongs to. -/
def refCam (ref : Nat) : Nat := refIndex ref - 0x2520

/-- A write of an RWS camera object takes effect at once while the camera has no output (R144). -/
def effCamStaged : Effect := fun _ _ r ref v s =>
  let s := s.store r ref v
  done (if s.obj (O.camOutput (refCam ref)) > 3 then s.setObj ref (beNat v) else s)

/-- A write of `CAM_DIVIDER` or `CAM_DIV_PHASE` (R151). -/
def effCamDivider : Effect := fun _ _ r ref v s =>
  let s' := s.store r ref v
  if s'.obj (O.camDivPhase (refCam ref)) < s'.obj (O.camDivider (refCam ref)) then done s' else refuse s St.badValue

/-- A write of `CAM_MONITOR` or `CAM_OUTPUT`: a camera no longer wanted is NOT_MONITORED at once; measurement begins at the next boundary (R144, R152). -/
def effCamMonitor : Effect := fun _ _ r ref v s =>
  let c := refCam ref
  let moved := s.obj ref != beNat v
  let s := s.store r ref v
  done (if moved && (refSub ref == 1 || beNat v == 0) then s.camStop c else s)

end Sys2Proof.Machine
end

