-- ==== Sys2Proof/Machine/CalRuns.lean ====
section
/-! DEFINITION. The list of calibration runs and the queue of STARTUP (R450, R454), used by the chapters that start runs. -/

namespace Sys2Proof.Machine

def State.setCal (s : State) (x : CalSt) : State := { s with cal := x }

/-- `CAL_RUNNING` follows the runs (Table 16-4). -/
def State.showRuns (s : State) : State :=
  s.setBlob O.calRunning ((s.cal.runs.take 4).flatMap fun r => leBytes 1 r.id ++ leBytes 1 r.inst ++ [0, 0])

/-- A run of one instance starts, with `left` to follow. -/
def State.startRun (s : State) (id inst asked : Nat) (left : List Nat) : State :=
  let r : CalRunSt := { id := id, inst := inst, asked := asked, left := left, since := s.tick, phaseAt := s.tick }
  ((s.setCal { s.cal with runs := s.cal.runs ++ [r] }).setObj (O.calResult id) (1 * 2 ^ 24 + inst * 65536)).showRuns

/-- The queue of STARTUP goes on (R454): BANDGAP, then ADC, then every Class T run, at most four at a time. -/
def startNext : Nat → State → State
  | 0, s => s
  | n + 1, s =>
    match s.cal.startQ with
    | [] => s
    | (id, i) :: rest =>
      if 4 ≤ s.cal.runs.length || s.cal.runs.any (fun r => decide (r.id < 0x10)) then s
      else startNext n ((s.setCal { s.cal with startQ := rest }).startRun id i i [])

end Sys2Proof.Machine
end

