-- ==== Sys2Proof/Machine/Codec.lean ====
section
/-! DEFINITION. Pixel formats (R195) and the block codec's decoder (chapter 09, R262 to R270): a stream is decoded whole or found unreadable. -/

namespace Sys2Proof.Machine

/-! ### Pixel formats (Table 07-1, Table 07-2) -/

/-- Format code and order code of a format byte. -/
def fmtCode (f : Nat) : Nat := f / 16 % 16
def fmtOrder (f : Nat) : Nat := f % 16

/-- A format byte is allowed (R195). -/
def fmtOk (f : Nat) : Bool :=
  match fmtCode f with
  | 1 | 2 => decide (fmtOrder f ≤ 1)
  | 3 | 4 | 5 => decide (fmtOrder f ≤ 3)
  | _ => false

/-- Bytes of a pixel. -/
def fmtBytes (f : Nat) : Nat := [0, 2, 3, 4, 4, 8].getD (fmtCode f) 0

/-- Components C0 to C3 as (lowest bit, width). -/
def fmtFields (f : Nat) : List (Nat × Nat) :=
  match fmtCode f with
  | 1 => [(11, 5), (5, 6), (0, 5)]
  | 2 => [(16, 8), (8, 8), (0, 8)]
  | 3 => [(24, 8), (16, 8), (8, 8), (0, 8)]
  | 4 => if fmtOrder f ≤ 1 then [(22, 10), (12, 10), (2, 10), (0, 2)] else [(30, 2), (20, 10), (10, 10), (0, 10)]
  | 5 => [(48, 16), (32, 16), (16, 16), (0, 16)]
  | _ => []

/-- A component of width `w` widened to 16 bits by bit replication (R195). -/
def widen16 (w v : Nat) : Nat :=
  (List.range 16).foldl (fun a i => if bit v (w - 1 - i % w) then a + 2 ^ (15 - i) else a) 0

/-- R, G, B, A of a pixel word, 16 bits each; a format without alpha is opaque. -/
def fmtRGBA (f word : Nat) : Nat × Nat × Nat × Nat :=
  let c := (fmtFields f).map fun p => widen16 p.2 (word / 2 ^ p.1 % 2 ^ p.2)
  let g (i : Nat) : Nat := nth c i 65535
  if c.length = 3 then (if fmtOrder f = 0 then (g 0, g 1, g 2, 65535) else (g 2, g 1, g 0, 65535))
  else
    match fmtOrder f with
    | 0 => (g 0, g 1, g 2, g 3)
    | 1 => (g 2, g 1, g 0, g 3)
    | 2 => (g 1, g 2, g 3, g 0)
    | _ => (g 3, g 2, g 1, g 0)

/-- Stride of a row and size of a frame (R195). -/
def strideOf (f w : Nat) : Nat := ceilDiv (w * fmtBytes f) 64 * 64
def frameSize (f w h : Nat) : Nat := ceilDiv (strideOf f w * h) 4096 * 4096

/-! ### Bits and Rice codes (R265, R267) -/

/-- Bytes as bits, most significant first. -/
def bitStream (l : List Byte) : List Bool := l.flatMap fun b => (List.range 8).map b.getMsbD

/-- A number of `n` bits from the front, most significant first. -/
def takeNum : Nat → List Bool → Nat → Option (Nat × List Bool)
  | 0, l, a => some (a, l)
  | _ + 1, [], _ => none
  | n + 1, b :: l, a => takeNum n l (2 * a + boolNat b)

/-- The one-bits of a code, at most 24: how many, and the rest after the zero-bit (24 have none). -/
def takeOnes : Nat → Nat → List Bool → Option (Nat × List Bool)
  | 0, q, l => some (q, l)
  | _ + 1, _, [] => none
  | n + 1, q, b :: l => if b then takeOnes n (q + 1) l else some (q, l)

/-- A context: accumulator and count. -/
structure Ctx where
  a : Nat
  n : Nat
deriving DecidableEq, Repr

/-- The parameter k of a context. -/
def Ctx.k (c : Ctx) : Nat := ((List.range 15).find? fun k => decide (c.a ≤ c.n * 2 ^ k)).getD 15

/-- The context after number `v`. -/
def Ctx.next (c : Ctx) (v : Nat) : Ctx :=
  if c.n + 1 = 16 then ⟨(c.a + v) / 2, 8⟩ else ⟨c.a + v, c.n + 1⟩

/-- One Rice code with escape width `e`. -/
def takeRice (c : Ctx) (e : Nat) (l : List Bool) : Option (Nat × List Bool) :=
  match takeOnes 24 0 l with
  | none => none
  | some (q, l) =>
    if q = 24 then takeNum e l 0
    else (takeNum c.k l 0).map fun p => (q * 2 ^ c.k + p.1, p.2)

/-! ### The three modes -/

/-- PLANE: runs of zeros and ones in turn to 32,768 bits (R268). `v` is the bit of the next run, `out` the bits so far, newest first. -/
def planeRuns : Nat → Ctx → Ctx → Bool → Nat → List Bool → List Bool → Option (List Bool × List Bool)
  | 0, _, _, _, _, _, _ => none
  | fuel + 1, cz, co, v, total, out, l =>
    match takeRice (if v then co else cz) 16 l with
    | none => none
    | some (n, l) =>
      if (n = 0 && (v || 0 < total)) || 32768 < total + n then none
      else
        let out := List.replicate n v ++ out
        if total + n = 32768 then some (out.reverse, l)
        else planeRuns fuel (if v then cz else cz.next n) (if v then co.next n else co) (!v) (total + n) out l

/-- Bytes of a bit list, least significant first in each. -/
def bytesOfBits : Nat → List Bool → List Byte
  | 0, _ => []
  | n + 1, l =>
    BitVec.ofNat 8 (((l.take 8).zipIdx).foldl (fun a p => if p.1 then a + 2 ^ p.2 else a) 0) :: bytesOfBits n (l.drop 8)

def decodePlane (l : List Bool) : Option (List Byte × List Bool) :=
  (planeRuns 32769 ⟨16, 1⟩ ⟨16, 1⟩ false 0 [] l).map fun p => (bytesOfBits 4096 p.1, p.2)

/-- The median of three. -/
def median3 (a b c : Int) : Int := max (min a b) (min (max a b) c)

/-- One component of one pixel (R269): prediction from its neighbours, then the mapped residual. -/
def pixelValue (w : Nat) (a b c m : Nat) : Nat :=
  let p := clampInt 0 (2 ^ w - 1) (median3 a b ((a : Int) + b - c))
  let r : Int := if m % 2 = 0 then (m / 2 : Nat) else -(((m + 1) / 2 : Nat) : Int)
  ((p + r) % 2 ^ w).toNat

/-- The components of one pixel; `prev` are the pixels so far, newest first. -/
def takePixel (row : Nat) (prev : List (List Nat)) (i : Nat) : Nat → List (Nat × Nat) → List Ctx → List Bool → Option (List Nat × List Ctx × List Bool)
  | _, [], _, l => some ([], [], l)
  | _, _ :: _, [], _ => none
  | j, (_, w) :: fs, c :: cs, l =>
    match takeRice c w l with
    | none => none
    | some (m, l) =>
      if 2 ^ w ≤ m then none
      else
        let at_ (d : Nat) : Nat := nth (nth prev (d - 1) []) j 0
        let a := if i = 0 then 0 else at_ 1
        let b := if 0 < row && row ≤ i then at_ row else a
        let d := if 0 < row && row + 1 ≤ i then at_ (row + 1) else b
        match takePixel row prev i (j + 1) fs cs l with
        | none => none
        | some (xs, cs, l) => some (pixelValue w a b d m :: xs, c.next m :: cs, l)

/-- PIXEL: `n` pixels (R269). -/
def pixelRun (fs : List (Nat × Nat)) (row : Nat) : Nat → Nat → List Ctx → List (List Nat) → List Bool → Option (List (List Nat) × List Bool)
  | 0, _, _, out, l => some (out.reverse, l)
  | n + 1, i, cs, out, l =>
    match takePixel row out i 0 fs cs l with
    | none => none
    | some (xs, cs, l) => pixelRun fs row n (i + 1) cs (xs :: out) l

/-- The word of a pixel's components. -/
def pixelWord (fs : List (Nat × Nat)) (xs : List Nat) : Nat := (fs.zip xs).foldl (fun a p => a + p.2 * 2 ^ p.1.1) 0

def decodePixel (f row : Nat) (l : List Bool) : Option (List Byte × List Bool) :=
  let fs := fmtFields f
  (pixelRun fs row (4096 / max 1 (fmtBytes f)) 0 (fs.map fun _ => ⟨4, 1⟩) [] l).map fun p =>
    (p.1.flatMap fun xs => leBytes (fmtBytes f) (pixelWord fs xs), p.2)

/-- Copy `n` bytes from distance `d` back; `out` is newest first. -/
def copyBack (d : Nat) : Nat → List Byte → List Byte
  | 0, out => out
  | n + 1, out => copyBack d n (nth out (d - 1) 0 :: out)

/-- GENERIC: literals and matches to exactly 4,096 bytes (R270). -/
def genericRun : Nat → Nat → List Byte → List Bool → Option (List Byte × List Bool)
  | 0, _, _, _ => none
  | fuel + 1, k, out, l =>
    if k = 4096 then some (out.reverse, l)
    else
      match l with
      | [] => none
      | false :: l =>
        match takeNum 8 l 0 with
        | none => none
        | some (b, l) => genericRun fuel (k + 1) (BitVec.ofNat 8 b :: out) l
      | true :: l =>
        match takeNum 8 l 0 with
        | none => none
        | some (n, l) =>
          match takeNum 12 l 0 with
          | none => none
          | some (d, l) =>
            if k < d + 1 || 4096 < k + n + 3 then none
            else genericRun fuel (k + n + 3) (copyBack (d + 1) (n + 3) out) l

/-! ### A whole stream (R265, R266) -/

/-- The mode of a header, or none where the header is invalid (Table 09-2). -/
def headerMode (h : Nat) : Option Nat :=
  let mode := bits h 31 30
  let f := bits h 29 22
  let row := bits h 21 10
  if bits h 9 0 ≠ 0 then none
  else
    match mode with
    | 1 | 3 => if f = 0 && row = 0 then some mode else none
    | 2 => if fmtOk f && fmtCode f ≠ 2 then some 2 else none
    | _ => none

/-- The block a stream decodes to, or none where it is unreadable (R266). -/
def decodeStream (s : List Byte) : Option (List Byte) :=
  let bs := bitStream s
  match takeNum 32 bs 0 with
  | none => none
  | some (h, l) =>
    let body : Option (List Byte × List Bool) :=
      match headerMode h with
      | some 1 => decodePlane l
      | some 2 => decodePixel (bits h 29 22) (bits h 21 10) l
      | some 3 => genericRun 4097 0 [] l
      | _ => none
    match body with
    | none => none
    | some (b, l) =>
      let pad := l.length % 8
      match takeNum pad l 0 with
      | some (0, l) =>
        match takeNum 16 l 0 with
        | some (c, _) => if b.length = 4096 && c = crc 16 0x1021 0xFFFF b then some b else none
        | none => none
      | _ => none

/-- Every byte is zero. -/
def allZero (l : List Byte) : Bool := l.all (· == 0)

/-- The block that index byte and slot give, or none where it is unreadable (R262, R274). -/
def decodeBlock (idx : Nat) (slot : List Byte) : Option (List Byte) :=
  if idx = 0xFF then some (fill 4096 0)
  else if idx = 0 then some (padTo 4096 slot)
  else if 0x3F < idx then none
  else decodeStream (slot.take (64 * idx))

/-- The mode bits of a stream's header. -/
def streamMode (s : List Byte) : Nat := beAt s 0 4 / 2 ^ 30

/-- A stream is one the encoder may give for a block in a mode: it decodes to the block (R266; log entry 17). -/
def encodes (mode : Nat) (block s : List Byte) : Bool := streamMode s == mode && decodeStream s == some block

/-- Index byte and stored bytes of a block (R263): nothing for zeros, raw from 4,032 bytes of stream on, else granules with the last one padded. -/
def storedForm (block s : List Byte) : Nat × List Byte :=
  if allZero block then (0xFF, [])
  else if 4032 ≤ s.length then (0, block)
  else (ceilDiv s.length 64, padTo (ceilDiv s.length 64 * 64) s)

end Sys2Proof.Machine
end

