-- ==== Sys2Proof/Machine/Planes.lean ====
section
/-! DEFINITION. Plane buffers (R78 to R82) and their inline codec units (R271 to R273): where an image's blocks lie, writing and reading them, with the meanings of the
inline commands. -/

namespace Sys2Proof.Machine

/-! ### Layout (R78) -/

/-- Bytes of one plane image of output `n`, and its blocks. -/
def State.imageBytes (s : State) (n : Nat) : Nat := s.obj (O.moutWidth n) * s.obj (O.moutHeight n) / 8
def State.imageBlocks (s : State) (n : Nat) : Nat := ceilDiv (s.imageBytes n) 4096

def State.half (s : State) (n : Nat) (h : Bool) : PlaneHalf := if h then (s.slm n).half1 else (s.slm n).half0
def State.setHalf (s : State) (n : Nat) (h : Bool) (x : PlaneHalf) : State :=
  s.setSlm n (if h then { s.slm n with half1 := x } else { s.slm n with half0 := x })

/-- The half that the group of output `n` shows; the leader's sequencer keeps it. -/
def State.frontHalf (s : State) (n : Nat) : Bool := (s.slm (s.leadOf n)).front

/-- The address of block `b` of image `p` in half `h`. -/
def State.blockAddr (s : State) (n : Nat) (h : Bool) (p b : Nat) : Nat :=
  extentAddr (s.half n h).extents ((p * s.imageBlocks n + b) * 4096)

/-- Key of a block in the index bytes of a half. -/
def blockKey (p b : Nat) : Nat := p * 65536 + b

/-- Every block of every image that a plan names is written in half `h` (R80). -/
def State.halfComplete (s : State) (n : Nat) (h : Bool) (plan : List Entry) : Bool :=
  let x := s.half n h
  let k := s.imageBlocks n
  plan.all fun e => kvGet (fun _ => 0) x.done e.plane == 2 ^ k - 1

/-- A half of a group is complete when every member's is. -/
def State.groupComplete (s : State) (lead : Nat) (h : Bool) (plan : List Entry) : Bool :=
  (s.group lead).all fun n => s.halfComplete n h plan

/-! ### Writing (R77, R79, R263) -/

/-- Store a block of the frame being composed: index byte, stored bytes and the count of R82. -/
def State.storeBlock (s : State) (n p b idx : Nat) (l : List Byte) : State :=
  let h := !s.frontHalf n
  let x := s.half n h
  let s := s.setHalf n h { x with
    done := kvInsert x.done p (setBit (kvGet (fun _ => 0) x.done p) b)
    index := kvPut (fun _ => 0) x.index (blockKey p b) idx }
  let s := s.setSlm n { s.slm n with stored := (s.slm n).stored + l.length, raw := (s.slm n).raw + 4096 }
  s.portWrite (s.blockAddr n h p b) l

/-- A block passes an inline unit. -/
def State.codecPass (s : State) (compress : Bool) : State :=
  { s with codecRecent := (s.codecRecent.filter fun x => decide (s.tick < x.1 + ticksPerSec)) ++ [(s.tick, compress)] }

/-- A complete block leaves the slicer: to a compress unit, or raw where compression is off (R77, R79). -/
def State.sliceBlock (s : State) (n p b : Nat) (l : List Byte) : State :=
  if s.objB O.slmPlaneCompress then s.setSlm n { s.slm n with outQ := (s.slm n).outQ ++ [(p, b, l)] }
  else s.storeBlock n p b 0 l

/-- INLINE_COMPRESS (R263, R271): the front block of output `n` takes the stream its unit gives, which must be one that decodes to it (log entry 17). -/
def State.inlineCompress (s : State) (n : Nat) (stream : List Byte) : State :=
  match (s.slm n).outQ with
  | [] => s
  | (p, b, l) :: rest =>
    if !allZero l && !encodes 1 l stream then s
    else
      let (idx, out) := storedForm l stream
      let s := ((s.setSlm n { s.slm n with outQ := rest }).codecPass true).bump O.codecBlocksComp
      let s := if idx = 0xFF then s.bump O.codecZero else if idx = 0 then s.bump O.codecNoGain else s
      (s.bumpBy O.codecGranulesOut (ceilDiv out.length 64)).storeBlock n p b idx out

def execInlineCompress (t : Nat) (n : Fin 4) (stream : List Byte) (s : State) : Host.Outcome State Fault Refusal :=
  .next ((s.at t).inlineCompress n.val stream)

/-- CODEC_BYPASS (R272): no unit is free in time, so the block is stored raw. -/
def State.codecBypass (s : State) (n : Nat) : State :=
  match (s.slm n).outQ with
  | [] => s
  | (p, b, l) :: rest =>
    let first := !(s.slm n).bypassed
    let s := (s.setSlm n { s.slm n with outQ := rest, bypassed := true }).bump O.codecBypass
    let s := if first then s.raise 132 [] else s
    s.storeBlock n p b 0 l

def execCodecBypass (t : Nat) (n : Fin 4) (s : State) : Host.Outcome State Fault Refusal := .next ((s.at t).codecBypass n.val)

/-! ### Reading (R81, R182) -/

/-- A block enters the plane FIFO for fetch `f` of output `n`. -/
def Fetch.put (f : Fetch) (now b : Nat) (l : List Byte) : Fetch := { f with got := f.got ++ [(b, now, l)] }

/-- PLANE_BLOCK_ZERO (R81): the block is supplied as zeros, E044 in this frame, counted. -/
def State.zeroBlock (s : State) (n : Nat) (f : Fetch) (b : Nat) : Fetch × State :=
  (f.put s.tick b (fill 4096 0), (s.slmRaise n 44).bump (O.slmZeroBlocks n))

/-- Read the next block of a fetch; `ok` is whether memory delivered it whole. -/
def State.readBlock (s : State) (n : Nat) (f : Fetch) (ok : Bool) : Fetch × State :=
  let b := f.next
  let f := { f with next := b + 1 }
  let idx := kvGet (fun _ => 0) (s.half n f.half).index (blockKey f.entry.plane b)
  let count (s : State) (k : Nat) : State := s.setSlm n { s.slm n with stored := (s.slm n).stored + k, raw := (s.slm n).raw + 4096 }
  if idx = 0xFF then (f.put s.tick b (fill 4096 0), count s 0)
  else if !ok then s.zeroBlock n f b
  else
    let a := s.blockAddr n f.half f.entry.plane b
    if idx = 0 then (f.put s.tick b (s.bytes a 4096), count s 4096)
    else ({ f with coded := f.coded ++ [(b, idx, s.bytes a (64 * idx))] }, count s (64 * idx))

/-- The first fetch that has a block at a decompress unit is changed by `g`. -/
def onCoded (g : Fetch → Fetch × State) (s : State) : List Fetch → List Fetch × State
  | [] => ([], s)
  | f :: l =>
    if f.coded.isEmpty then let (l, s) := onCoded g s l; (f :: l, s)
    else let (f, s) := g f; (f :: l, s)

/-- INLINE_DECOMPRESS (R273): the oldest block at a decompress unit of output `n` is decoded, or found unreadable. -/
def State.inlineDecompress (s : State) (n : Nat) : State :=
  let x := s.mout n
  let s := if x.fetches.any (fun f => !f.coded.isEmpty) then (s.codecPass false).bump O.codecBlocksDecomp else s
  let (fs, s) := onCoded (fun f =>
    match f.coded with
    | [] => (f, s)
    | (b, idx, l) :: rest =>
      let f := { f with coded := rest }
      match decodeBlock idx l with
      | some d => (f.put s.tick b d, s)
      | none =>
        let s := (s.bump O.codecDecodeErr).raise 130 [n, s.blockAddr n f.half f.entry.plane b, idx]
        s.zeroBlock n f b) s x.fetches
  s.setMout n { s.mout n with fetches := fs }

def execInlineDecompress (t : Nat) (n : Fin 4) (s : State) : Host.Outcome State Fault Refusal := .next ((s.at t).inlineDecompress n.val)

/-- R82 at a boundary: the ratio of the frame that ends joins those of the last 64, and `SLM_COMP_RATIO` is their largest once there are 64 with compression on. -/
def State.frameRatio (s : State) (n : Nat) : State :=
  let m := s.slm n
  if !s.objB O.slmPlaneCompress then (s.setSlm n { m with stored := 0, raw := 0, ratios := [] }).setObj (O.slmCompRatio n) 65536
  else
    let (v, s) := if m.raw = 0 then (0, s) else let (v, s) := s.openRound (m.stored * 65536 : Nat) m.raw; (v.toNat, s)
    let l := (v :: m.ratios).take 64
    let s := s.setSlm n { s.slm n with stored := 0, raw := 0, ratios := l }
    s.setObj (O.slmCompRatio n) (if l.length < 64 then 65536 else l.foldl max 0)

end Sys2Proof.Machine
end

