-- ==== Sys2Proof/Machine/Mirror.lean ====
section
/-! DEFINITION. Mirror array outputs (chapter 06): the lanes' coding, plane transfers, the timing lane, bring-up, lanes lost and restored, readout, the freeze detector,
with the meanings of their commands. -/

namespace Sys2Proof.Machine

/-! ### BLANK (R176, R180) -/

/-- The banks that name output `n`. -/
def State.outBanks (s : State) (n : Nat) : List Nat := allBanks.filter fun b => s.obj (O.gateOutput b) == n

/-- The BLANK cause follows the reasons and the state of output `n`. -/
def State.blankCause (s : State) (n : Nat) : State := (s.outBanks n).foldl (fun s b => s.forcePut b causeBlank (s.blanked n)) s

/-- Reasons: 0 FREEZE, 1 ARRAY, 2 SHORT. -/
def State.blankSet (s : State) (n r : Nat) : State :=
  (s.setObj (O.moutBlankReason n) (setBit (s.obj (O.moutBlankReason n)) r)).blankCause n
def State.blankClear (s : State) (n r : Nat) : State :=
  (s.setObj (O.moutBlankReason n) (clearBit (s.obj (O.moutBlankReason n)) r)).blankCause n

/-! ### Load time and the short condition (R170, R178) -/

/-- Rows and words of packet `p` of an image of width `w` and height `h` (R165). -/
def packetRows (h p : Nat) : Nat := min 32 (h - 32 * p)
def packetWords (w h p : Nat) : Nat := packetRows h p * (w / 64)

/-- Stripes of the first `p` packets with PSTART, before AM stripes (R170). -/
def stripesOf (w h l : Nat) : Nat → Nat
  | 0 => 1
  | p + 1 => stripesOf w h l p + ceilDiv (packetWords w h p) l + 2

/-- With the AM stripes (R165). -/
def withAm (s : Nat) : Nat := s + (s - 2) / 511

/-- The packets of a whole image. -/
def packetCount (h : Nat) : Nat := ceilDiv h 32

/-- Recompute `MOUT_LOAD_TIME` (R170); with no lane active it keeps its value. -/
def State.reload (s : State) (n : Nat) : State :=
  let l := popCount 23 (s.obj (O.moutLanesActive n))
  let h := s.obj (O.moutHeight n)
  if l = 0 then s
  else s.setObj (O.moutLoadTime n) (66 * withAm (stripesOf (s.obj (O.moutWidth n)) h l (packetCount h)) + s.obj (O.moutArraySetup n))

/-- SHORT_ENTER and its end (R178). -/
def State.shortCheck (s : State) (n : Nat) : State :=
  let short := decide (s.obj (O.slmMinDwell (s.leadOf n)) < s.obj (O.moutLoadTime n))
  let was := s.objB (O.moutShort n)
  let s := s.setObj (O.moutShort n) (boolNat short)
  let s := if short && !was then s.raise 25 [n] else if !short && was then s.raise 26 [n] else s
  if short && s.obj (O.moutShortAction n) == 1 then s.blankSet n 2 else s.blankClear n 2

/-- Lane `l` of output `n` goes down (R177). -/
def State.laneDown (s : State) (n l : Nat) : State :=
  if bit (s.obj (O.moutLanesActive n)) l then
    ((s.setObj (O.moutLanesActive n) (clearBit (s.obj (O.moutLanesActive n)) l)).setObj (O.moutLanesDown n) (setBit (s.obj (O.moutLanesDown n)) l)).raise 23 [n, l]
  else s

/-! ### Blocks of the link (R162 to R169) -/

/-- CRC-8 over the type byte and six bytes of fields (R169). -/
def hcrc (type f : Nat) : Nat := crc 8 0x07 0 (beBytes 1 type ++ beBytes 6 (f / 256))

/-- A control block's payload with HCRC in its low byte. -/
def ctrl (type f : Nat) : Nat := type * 2 ^ 56 + f + hcrc type f

/-- CRC-32 of IEEE 802.3. -/
def crc32 (l : List Byte) : Nat := Nat.xor (l.foldl (crcByteR 0xEDB88320) 0xFFFFFFFF) 0xFFFFFFFF

/-- CRC-64 of R184. -/
def crc64 (l : List Byte) : Nat := Nat.xor (crc 64 0x42F0E1EBA9EA3693 0xFFFFFFFFFFFFFFFF l) 0xFFFFFFFFFFFFFFFF

/-- The scrambler x⁵⁸ + x³⁹ + 1 on one payload, bit 63 first: new state and scrambled payload. -/
def scramble64 (st v : Nat) : Nat × Nat :=
  (List.range 64).foldl (fun (a : Nat × Nat) i =>
    let b := (boolNat (bit v (63 - i)) + boolNat (bit a.1 38) + boolNat (bit a.1 57)) % 2
    ((a.1 * 2 + b) % 2 ^ 58, a.2 * 2 + b)) (st, 0)

/-- A stripe: what every active lane carries in one MLINK period. -/
inductive Stripe where
  | pstart
  | phdr (p : Nat)
  | data (p j : Nat)
  | ptrl (p : Nat)
  | am
deriving DecidableEq, Repr

/-- AM stripes put in at every non-zero multiple of 512 (R165). -/
def insertAm : List Stripe → Nat → List Stripe
  | [], _ => []
  | x :: l, i => if i % 512 = 0 && i ≠ 0 then .am :: x :: insertAm l (i + 2) else x :: insertAm l (i + 1)

/-- The stripes of a transfer of `k` packets. -/
def stripes (w h l k : Nat) : List Stripe :=
  insertAm (.pstart :: (List.range k).flatMap fun p =>
    .phdr p :: (List.range (ceilDiv (packetWords w h p) l)).map (.data p) ++ [.ptrl p]) 0

/-- Stripe index, AM stripes counted, of payload stripe `j` of packet `p`. -/
def dataStripe (w h l p j : Nat) : Nat :=
  let u := stripesOf w h l p + 1 + j
  u + (u - 1) / 511

/-- A word of a row from its eight bytes: pixel 64j + t at payload bit 63 − t, pixels least significant bit first (R77, R167). -/
def laneWord (l : List Byte) : Nat := l.foldl (fun a b => a * 256 + (List.range 8).foldl (fun v i => v * 2 + boolNat (b.getLsbD i)) 0) 0

/-- The words of packet `p` as sent (R167, R182), and whether the FIFO ran empty: from the first word that is due before its block has arrived, every word of the packet
that had not arrived by then is zero. -/
def sentWords (w h l : Nat) (start : Int) (f : Fetch) (p : Nat) : List Nat × Bool :=
  let n := packetWords w h p
  let first := 32 * p * (w / 64)
  let blockOf (i : Nat) := f.got.find? fun g => g.1 == (first + i) / 512
  let due (i : Nat) : Int := start + 66 * dataStripe w h l p (i / l)
  let late (τ : Int) (i : Nat) : Bool := match blockOf i with | some g => decide (τ < g.2.1) | none => true
  let word (i : Nat) : Nat := match blockOf i with | some g => laneWord (slice g.2.2 ((first + i) % 512 * 8) 8) | none => 0
  match (List.range n).find? fun i => late (due i) i with
  | none => ((List.range n).map word, false)
  | some i0 => ((List.range n).map fun i => if late (due i0) i then 0 else word i, true)

/-- What a transfer carries in common: the fields of PSTART and PHDR, geometry, and the words of each packet. -/
structure Sending where
  w     : Nat
  h     : Nat
  l     : Nat
  frame : Nat
  index : Nat
  plane : Nat
  settle : Nat
  chg   : Bool
  packets : List (List Nat)
deriving DecidableEq, Repr

/-- The payload word of a lane of rank `r` in payload stripe `j` of packet `p` (R167). -/
def Sending.word (x : Sending) (p j r : Nat) : Nat := nth (nth x.packets p []) (j * x.l + r) 0

/-- The lane's payload words of packet `p`. -/
def Sending.laneWords (x : Sending) (p r : Nat) : List Nat := (List.range (ceilDiv (packetWords x.w x.h p) x.l)).map fun j => x.word p j r

/-- The block of active lane `lane` of rank `r` in stripe `i`: sync header and payload (Tables 06-1 to 06-4). -/
def Sending.block (x : Sending) (lane r i : Nat) : Stripe → Nat × Nat
  | .pstart => (2, ctrl 0x78 (x.frame % 65536 * 2 ^ 40 + x.plane * 2 ^ 31 + x.index * 2 ^ 22 + boolNat x.chg * 2 ^ 21 + x.l * 65536 + x.settle * 16384))
  | .phdr p => (2, ctrl 0x66 (x.plane * 2 ^ 47 + x.index % 32 * 2 ^ 42 + 32 * p * 2 ^ 30 + packetRows x.h p * 2 ^ 24 + x.settle * 2 ^ 22
      + boolNat (p + 1 == x.packets.length) * 2 ^ 21 + x.l * 65536))
  | .data p j => (1, x.word p j r)
  | .ptrl p => (2, ctrl 0x87 (crc32 ((x.laneWords p r).flatMap (beBytes 8)) * 2 ^ 24 + lane * 2 ^ 19))
  | .am => (2, ctrl 0x4B (lane * 2 ^ 51 + i % 65536 * 2 ^ 35))

/-- LANE_OFF of an inactive lane, IDLE and the AM of an idle run (R164, R165). -/
def laneOff (lane : Nat) : Nat := 0xD2 * 2 ^ 56 + lane * 2 ^ 51
def idleBlock (lane i : Nat) : Nat :=
  if i % 512 = 0 && i ≠ 0 then ctrl 0x4B (lane * 2 ^ 51 + i % 65536 * 2 ^ 35) else 0x1E * 2 ^ 56

/-- The scrambler after `n` stripes of an idle run from stripe `i` on. -/
def idleRun (active : Bool) (lane : Nat) : Nat → Nat → Nat → Nat
  | 0, _, st => st
  | n + 1, i, st => idleRun active lane n (i + 1) (scramble64 st (if active then idleBlock lane i else laneOff lane)).1

/-- The rank of a lane among the active ones. -/
def rankOf (lanes lane : Nat) : Nat := popCount lane lanes

/-- The scrambled blocks of one lane, and its scrambler after them. -/
def laneBlocks (lanes lane : Nat) (x : Sending) (st : Nat) (l : List Stripe) : Nat × List Nat :=
  let r := rankOf lanes lane
  let (st, out) := (l.zipIdx).foldl (fun (a : Nat × List Nat) p =>
    let (sync, v) := if bit lanes lane then x.block lane r p.2 p.1 else (2, laneOff lane)
    let (st, v) := scramble64 a.1 v
    (st, (sync * 2 ^ 64 + v) :: a.2)) (st, [])
  (st, out.reverse)

/-! ### Transfers (R165, R171, R178, R182, R184) -/

/-- The tick of the emitted flip of an entry of frame `k` on output `n` (R171, R173). -/
def State.emittedFlip (s : State) (n : Nat) (k : Int) (e : Entry) : Int :=
  s.boundaryTick (s.leadOf n) k + e.start - s.obj (O.moutTlLatency n)

/-- The plan whose images a half holds: the active plan for the half shown, the inactive one for the other. -/
def State.planFor (s : State) (lead : Nat) (h : Bool) : List Entry :=
  let m := s.slm lead
  if h = m.front then m.active else m.inactive.getD m.active

/-- The entry shown after entry `i` of frame `k`: the next of its plan, else entry 0 of the next frame, from the half being written if that is complete now, else the
frame is taken to repeat (R80; log entry 18); none where a commit ends the frames first. -/
def State.entryAfter (s : State) (lead k i : Nat) (h : Bool) : Option (Nat × Nat × Entry × Bool) :=
  let m := s.slm lead
  let p := s.planFor lead h
  match p[i + 1]? with
  | some e => some (k, i + 1, e, h)
  | none =>
    let ends := match (s.tg lead).commit with | some c => decide (s.rootTick c.bOld ≤ s.boundaryTick lead (k + 1)) | none => false
    let next := m.inactive.getD m.active
    if ends then none
    else if s.groupComplete lead (!m.front) next then next.head?.map fun e => (k + 1, 0, e, !m.front)
    else m.active.head?.map fun e => (k + 1, 0, e, m.front)

/-- Lanes whose restoration waits return with the transfer that starts (R179). -/
def State.restoreLanes (s : State) (n : Nat) : State :=
  let x := s.mout n
  if x.restore = 0 then s
  else
    let s := s.setMout n { x with restore := 0, errRuns := x.errRuns.filter fun p => !bit x.restore p.1 }
    let s := (bitsOf 23 x.restore).foldl (fun s l =>
      ((s.setObj (O.moutLanesActive n) (setBit (s.obj (O.moutLanesActive n)) l)).setObj (O.moutLanesDown n) (clearBit (s.obj (O.moutLanesDown n)) l)).raise 24 [n, l]) s
    (s.reload n).shortCheck n

/-- The most packets that end, with their AM stripes, `setup` before the end of a window (R178). -/
def packetsIn (w h l setup : Nat) (window : Int) : Nat → Nat
  | 0 => 0
  | k + 1 => if ((66 * withAm (stripesOf w h l (k + 1)) + setup : Nat) : Int) ≤ window then k + 1 else packetsIn w h l setup window k

/-- A fetch of nothing yet. -/
def newFetch (x : Nat × Nat × Entry × Bool) : Fetch := ⟨x.1, x.2.1, x.2.2.1, x.2.2.2, 0, [], []⟩

/-- A transfer starts at tick `start`, to be flipped at tick `flip`. Reads made for other entries are dropped. -/
def State.openTransfer (s : State) (n : Nat) (e : Nat × Nat × Entry × Bool) (start flip : Int) : State :=
  let s := s.restoreLanes n
  let lanes := s.obj (O.moutLanesActive n)
  let l := popCount 23 lanes
  let h := s.obj (O.moutHeight n)
  let all := packetCount h
  let short := decide (flip - start < s.obj (O.moutLoadTime n))
  let k := if l = 0 then 0 else if short then packetsIn (s.obj (O.moutWidth n)) h l (s.obj (O.moutArraySetup n)) (flip - start) all else all
  let s := if k < all then s.bump (O.moutPlanesTruncated n) else s
  let x := s.mout n
  let fs := match x.fetches with
    | f :: _ => if f.frame = e.1 && f.index = e.2.1 && f.half = e.2.2.2 then x.fetches else [newFetch e]
    | [] => [newFetch e]
  s.setMout n { x with transfer := some ⟨e.1, e.2.1, e.2.2.1, e.2.2.2, start, lanes, k⟩, fetches := fs }

/-- A transfer that is over: its blocks go out on the lanes, its underrun and signature are taken, and it is counted. -/
def State.closeTransfer (s : State) (n : Nat) (t : Transfer) : State :=
  let w := s.obj (O.moutWidth n)
  let h := s.obj (O.moutHeight n)
  let l := popCount 23 t.lanes
  let x := s.mout n
  let f := (x.fetches.head?).getD (newFetch (t.frame, t.index, t.entry, t.half))
  let sent := (List.range t.packets).map fun p => sentWords w h l t.start f p
  let chg := kvGet (fun _ => false) (s.half n t.half).changed t.entry.plane
  let words := sent.map (·.1)
  let msg : Sending := ⟨w, h, l, t.frame, t.index, t.entry.plane, t.entry.settle, chg, words⟩
  let st := stripes w h l t.packets
  let idle := ((t.start - x.idleSince) / 66).toNat
  let s := (List.range 23).foldl (fun s lane =>
    let x := s.mout n
    let (st0, s) := match kvFind x.scramble lane with
      | some v => (v, s)
      | none => (s.fresh % 2 ^ 58, s.took)
    let st1 := idleRun (bit t.lanes lane) lane idle 0 st0
    let (st2, out) := laneBlocks t.lanes lane msg st1 st
    (s.setMout n { s.mout n with scramble := kvInsert (s.mout n).scramble lane st2 }).emit (.lane n lane t.start out)) s
  let x := s.mout n
  let img := leBytes 0 0 ++ beBytes 2 t.entry.plane ++ words.flatten.flatMap (beBytes 8)
  let v := t.entry.view
  let x := { x with fetches := x.fetches.drop 1, idleSince := t.start + 66 * st.length, transfer := none, chg := if chg then setBit x.chg v else x.chg }
  let x := if x.signed.contains t.entry.plane then x
    else { x with signed := t.entry.plane :: x.signed, sigs := kvInsert x.sigs v (Nat.xor (kvGet (fun _ => 0) x.sigs v) (crc64 img)) }
  let s := s.setMout n x
  let s := if sent.any (·.2) then s.bump (O.moutUnderruns n) else s
  s.advance (O.moutPlanesSent n) 1

/-! ### The timing lane (R172, R173) -/

/-- The timing lane of output `n` carries symbols: the array is READY or RUNNING, or rejoins without a stop (R176, R180). -/
def State.laneOn (s : State) (n : Nat) : Bool :=
  let st := s.obj (O.moutState n)
  !s.jtagDrives && (st == 2 || st == 3 || (st == 1 && (s.mout n).rejoin))

/-- A symbol of `width` ticks rises at tick `at_`. -/
def State.symbol (s : State) (n : Nat) (at_ : Int) (width : Nat) : State :=
  if s.laneOn n then
    (s.setMout n { s.mout n with lowSince := at_ + width }).emit (.timing n at_ width (s.mout n).vernier)
  else s

/-- PARK at tick `at_`. -/
def State.park (s : State) (n : Nat) (at_ : Int) : State :=
  if s.laneOn n then
    let s := s.symbol n at_ 48
    (s.setMout n { s.mout n with lastPark := some at_ }).bump (O.moutParks n)
  else s

/-- A new `MOUT_TL_VERNIER` waits for the emitted B_k, or is due at once while no frames show (R173). -/
def State.tlVernierFrom (s : State) (n : Nat) : State :=
  let l := s.leadOf n
  let lat : Int := s.obj (O.moutTlLatency n)
  let k : Int := (s.tg l).frame
  let b0 := s.boundaryTick l k - lat
  let b1 := s.boundaryTick l (k + 1) - lat
  let b2 := s.boundaryTick l (k + 2) - lat
  let from_ : Int := if !s.showing n then s.tick else if s.tick ≤ b0 then b0 else if s.tick ≤ b1 then b1 else b2
  s.setMout n { s.mout n with vernierFrom := some from_.toNat }

/-- The output a reference in 0x2120 to 0x2123 belongs to. -/
def refOut (ref : Nat) : Nat := refIndex ref - 0x2120

/-- A write of `MOUT_TL_VERNIER`. -/
def effTlVernier : Effect := fun _ _ r ref v s => done ((s.store r ref v).tlVernierFrom (refOut ref))

/-- TL_VERNIER_APPLY (R173). -/
def State.tlVernierApply (s : State) (n : Nat) : State :=
  let x := s.mout n
  match x.vernierFrom with
  | some f => if f ≤ s.tick && x.lowSince + 8 ≤ s.tick then s.setMout n { x with vernier := s.obj (O.moutTlVernier n), vernierFrom := none } else s
  | none => s

def execTlVernierApply (t : Nat) (n : Fin 4) (s : State) : Host.Outcome State Fault Refusal := .next ((s.at t).tlVernierApply n.val)

/-- The emitted first flip after the present dark interval, if a commit has fixed it (R172). -/
def State.firstFlip (s : State) (n : Nat) : Option Int :=
  match (s.mout n).transfer with
  | some t => some (s.emittedFlip n t.frame t.entry)
  | none => none

/-- PARK_REPEAT (R172, R187): one millisecond after the last PARK while the output shows no frames, unless the first flip is too near. The first PARK of a READY array
comes at once. -/
def State.parkRepeat (s : State) (n : Nat) : State :=
  let due : Int := match (s.mout n).lastPark with | some p => p + 10312500 | none => s.tick
  if s.showing n || !s.laneOn n || s.tick < due then s
  else
    match s.firstFlip n with
    | some f => if f < due + 1048 then s else s.park n due
    | none => s.park n due

def execParkRepeat (t : Nat) (n : Fin 4) (s : State) : Host.Outcome State Fault Refusal := .next ((s.at t).parkRepeat n.val)

/-! ### Readout and tolerance (R182, R183) -/

/-- Words sent by tick `now` of the transfer in progress. -/
def State.wordsOut (s : State) (n : Nat) (t : Transfer) : Nat :=
  let w := s.obj (O.moutWidth n)
  let h := s.obj (O.moutHeight n)
  let l := popCount 23 t.lanes
  let k := ((s.tick - t.start) / 66).toNat
  ((stripes w h l t.packets).take k).foldl (fun a x =>
    match x with | .data p j => a + min l (packetWords w h p - j * l) | _ => a) 0

/-- `MOUT_FIFO_FILL`: bytes that have arrived and not been sent. -/
def State.fifoFill (s : State) (n : Nat) : Nat :=
  let x := s.mout n
  let arrived := x.fetches.foldl (fun a f => a + f.got.length * 4096) 0
  arrived - match x.transfer with | some t => if s.tick < t.start then 0 else min arrived (8 * s.wordsOut n t) | none => 0

/-- `MOUT_TOLERANCE` in ns (R183). -/
def State.tolerance (s : State) (n : Nat) : Nat :=
  match (s.mout n).transfer with
  | none => 0xFFFFFFFF
  | some t =>
    let l := popCount 23 t.lanes
    let h := s.obj (O.moutHeight n)
    let stop := t.start + 66 * withAm (stripesOf (s.obj (O.moutWidth n)) h l t.packets)
    let gap : Int :=
      if s.tick < t.start then t.start - s.tick
      else if s.tick < stop then 0
      else max 0 (s.emittedFlip n t.frame t.entry - s.tick)
    min 0xFFFFFFFE ((gap.toNat + s.fifoFill n / (8 * max 1 l) * 66) * 16 / 165)

/-- The stated figures follow the FIFO. -/
def State.tolUpdate (s : State) (n : Nat) : State :=
  let v := s.tolerance n
  s.setObjs [(O.moutFifoFill n, s.fifoFill n), (O.moutTolerance n, v), (O.moutTolMin n, min (s.obj (O.moutTolMin n)) v)]

/-- PLANE_FIFO_READ (R182): with 4 KiB free, the next block of the image slot is read, of this transfer or of the next entry once its own are all read. `ok` is whether
memory delivered it whole (log entry 10). -/
def State.fifoRead (s : State) (n : Nat) (ok : Bool) : State :=
  let s := s.tolUpdate n
  let x := s.mout n
  let busy := x.fetches.foldl (fun a f => a + f.coded.length * 4096) 0
  if 524288 < s.fifoFill n + busy + 4096 then s
  else
    match x.fetches.getLast? with
    | none => s
    | some f =>
      let fs := x.fetches.dropLast
      if f.next < s.imageBlocks n then
        let (f, s) := s.readBlock n f ok
        (s.setMout n { s.mout n with fetches := fs ++ [f] }).tolUpdate n
      else
        match s.entryAfter (s.leadOf n) f.frame f.index f.half with
        | none => s
        | some e =>
          let (g, s) := s.readBlock n (newFetch e) ok
          (s.setMout n { s.mout n with fetches := x.fetches ++ [g] }).tolUpdate n

def execPlaneFifoRead (t : Nat) (n : Fin 4) (ok : Bool) (s : State) : Host.Outcome State Fault Refusal := .next ((s.at t).fifoRead n.val ok)

/-! ### Flips (R171, R172, R187) -/

/-- ENTRY_FLIP: the emitted flip of the entry that the transfer in hand brought. The transfer closes, the timing lane flips, and the next transfer starts. -/
def State.entryFlip (s : State) (n : Nat) : State :=
  match (s.mout n).transfer with
  | none => s
  | some t =>
    let lead := s.leadOf n
    let e := if t.index = 0 && (s.tg lead).running && (s.tg lead).frame = t.frame then ((s.slm lead).active.head?).getD t.entry else t.entry
    let flip := s.emittedFlip n t.frame e
    if s.tick < flip then s
    else
      let s := (s.tolUpdate n).closeTransfer n t
      let s := s.symbol n flip (if e.start = 0 then 24 else 8)
      let s := if t.index = 0 then
          let s := s.advance (O.moutFramesShown n) 1
          if s.obj (O.moutState n) = 2 then s.setObj (O.moutState n) 3 else s
        else s
      match s.entryAfter lead t.frame t.index t.half with
      | none => s
      | some y => s.openTransfer n y flip (s.emittedFlip n y.1 y.2.2.1)

def execEntryFlip (t : Nat) (n : Fin 4) (s : State) : Host.Outcome State Fault Refusal := .next ((s.at t).entryFlip n.val)

/-- At a boundary of a running output whose array has come up since, transfers begin: for the first entry whose flip leaves a whole load time. -/
def State.joinFrames (s : State) (n : Nat) : State :=
  let lead := s.leadOf n
  if (s.mout n).transfer.isSome || !s.laneOn n || !(s.tg lead).running then s
  else
    let k := (s.tg lead).frame
    let p := (s.slm lead).active
    match (p.zipIdx).find? fun x => decide ((s.tick : Int) + s.obj (O.moutLoadTime n) ≤ s.emittedFlip n k x.1) with
    | some x => s.openTransfer n (k, x.2, x.1, (s.slm lead).front) (s.emittedFlip n k x.1 - s.obj (O.moutLoadTime n)) (s.emittedFlip n k x.1)
    | none => s

/-- SYNC at the emitted B_k of a frame whose entry 0 starts later (Table 06-5). -/
def State.syncSymbol (s : State) (n k : Nat) : State :=
  let lead := s.leadOf n
  match (s.slm lead).active.head? with
  | some e => if e.start = 0 || s.obj (O.moutState n) = 2 && (s.mout n).transfer.isNone then s else s.symbol n (s.boundaryTick lead k - s.obj (O.moutTlLatency n)) 16
  | none => s

/-- The output goes dark at B_old (R186, R187): PARK at the emitted B_old, no transfer of the old timing. -/
def State.outputDark (s : State) (n : Nat) (bOld : Int) : State :=
  let x := s.mout n
  let s := s.setMout n { x with transfer := none, fetches := [], sigs := [], signed := [], chg := 0, skipCmp := true }
  let s := if s.obj (O.moutState n) = 3 then s.setObj (O.moutState n) 2 else s
  s.park n (bOld - s.obj (O.moutTlLatency n))

/-! ### Bring-up (R176, R180) -/

/-- Step 3 succeeds with LOCK bits `lock`: unlocked lanes go down; with none locked the output is FAULT. -/
def State.bringupDone (s : State) (n lock : Nat) : State :=
  let rejoin := (s.mout n).rejoin
  let s := (bitsOf 23 (s.obj (O.moutLanesActive n))).foldl (fun s l => if bit lock l then s else s.laneDown n l) s
  let s := (s.reload n).shortCheck n
  if s.obj (O.moutLanesActive n) = 0 then
    ((s.setObj (O.moutState n) 4).setMout n { s.mout n with transfer := none, fetches := [] }).raise 21 [n]
  else
    let running := rejoin && (s.mout n).transfer.isSome && s.showing n
    let s := (s.setObj (O.moutState n) (if running then 3 else 2)).raise 20 [n]
    let s := s.setMout n { s.mout n with rejoin := false, lock := lock, errRuns := [] }
    let s := s.blankClear n 1
    if s.opState = startup then startNext 4 (s.setCal { s.cal with startQ := s.cal.startQ ++ [(0x13, n)] }) else s

/-- The bring-up of the array of output `n` starts (R176). `cols` and `rows` are what the array's registers give. -/
def State.bringup (s : State) (n cols rows : Nat) : State :=
  let s := s.setObjs [(O.moutState n, 1), (O.moutLanesActive n, 0x7FFFFF), (O.moutLanesDown n, 0)]
  let s := ((s.reload n).shortCheck n).blankSet n 1
  let s := s.setMout n { s.mout n with bringupAt := s.tick, rejoin := false, errRuns := [], lastPark := none, idleSince := s.tick, skipCmp := true, restore := 0 }
  if cols ≠ s.obj (O.moutWidth n) || rows ≠ s.obj (O.moutHeight n) then (s.setObj (O.moutState n) 4).raise 27 [n] else s

/-- An output's array is let go: no transfer, state OFF, its banks blanked. -/
def State.arrayOff (s : State) (n : Nat) : State :=
  let s := s.setMout n { s.mout n with transfer := none, fetches := [], rejoin := false, skipCmp := true }
  (s.setObj (O.moutState n) 0).blankSet n 1

/-- A write of `MOUT_ENABLE` (R176). -/
def effMoutEnable (cols rows : Nat) : Effect := fun _ _ r ref v s =>
  let n := refOut ref
  let was := s.objB ref
  let s := s.store r ref v
  done (if beNat v = 0 then s.arrayOff n else if was then s else s.bringup n cols rows)

def execMoutEnable (t : Nat) (q : Req) (n : Fin 4) (v : List Byte) (cols rows : Nat) (s : State) : Host.Outcome State Fault Refusal :=
  .next ((s.at t).hostWrite q (O.moutEnable n.val) v (effMoutEnable cols rows))

/-- ARR_STAT_RISE (R176); the edge also asks for a poll (R175). -/
def State.arrStatRise (s : State) (n lock : Nat) : State :=
  let s := s.setMout n { s.mout n with arrStat := true, pollAsked := true }
  if s.obj (O.moutState n) = 1 then s.bringupDone n lock else s

def execArrStatRise (t : Nat) (n : Fin 4) (lock : Nat) (s : State) : Host.Outcome State Fault Refusal := .next ((s.at t).arrStatRise n.val lock)

/-- BRINGUP_TIMEOUT (R176). -/
def State.bringupTimeout (s : State) (n : Nat) : State :=
  if s.obj (O.moutState n) = 1 && (s.mout n).bringupAt + msTicks (s.obj (O.moutBringupTimeout n)) ≤ s.tick then
    ((s.setObj (O.moutState n) 4).setMout n { s.mout n with transfer := none, fetches := [], rejoin := false }).raise 21 [n]
  else s

def execBringupTimeout (t : Nat) (n : Fin 4) (s : State) : Host.Outcome State Fault Refusal := .next ((s.at t).bringupTimeout n.val)

/-- An array drop (R180). -/
def State.arrayDrop (s : State) (n : Nat) : State :=
  let s := ((s.setObj (O.moutState n) 1).blankSet n 1).bump (O.moutArrayDrops n)
  (s.setMout n { s.mout n with bringupAt := s.tick, rejoin := true }).raise 22 [n]

/-- ARR_STAT_FALL. -/
def State.arrStatFall (s : State) (n : Nat) : State :=
  let st := s.obj (O.moutState n)
  let s := s.setMout n { s.mout n with arrStat := false, pollAsked := true }
  if st = 2 || st = 3 then s.arrayDrop n else s

def execArrStatFall (t : Nat) (n : Fin 4) (s : State) : Host.Outcome State Fault Refusal := .next ((s.at t).arrStatFall n.val)

/-- ARRAY_POLL (R175, R177): LOCK, ERR and PLANE_ERR as read, when a poll is due or an ARR_STAT edge has asked for one. -/
def State.arrayPoll (s : State) (n lock err planeErr : Nat) : State :=
  let x := s.mout n
  let st := s.obj (O.moutState n)
  if st = 0 || st = 4 || (!x.pollAsked && s.tick < x.lastPoll + usTicks (s.obj O.moutPollPeriod)) then s
  else
    let s := s.setMout n { x with lastPoll := s.tick, pollAsked := false, lock := lock }
    if st = 1 then (if x.arrStat then s.bringupDone n lock else s)
    else
      let s := s.bumpBy (O.moutArrayPlaneErr n) (min planeErr 255)
      let s := s.setMout n { s.mout n with
        errSums := (List.range 23).foldl (fun m l => if bit err l then kvPut (fun _ => 0) m l (min 0xFFFFFFFF (kvGet (fun _ => 0) m l + 1)) else m) (s.mout n).errSums
        errRuns := (List.range 23).foldl (fun m l => kvPut (fun _ => 0) m l (if bit err l then kvGet (fun _ => 0) m l + 1 else 0)) (s.mout n).errRuns }
      let bad := (bitsOf 23 (s.obj (O.moutLanesActive n))).filter fun l =>
        !bit lock l || decide (s.obj (O.moutLaneErrPolls n) ≤ kvGet (fun _ => 0) (s.mout n).errRuns l)
      let s := bad.foldl (fun s l => s.laneDown n l) s
      let s := if bad.isEmpty then s else (s.reload n).shortCheck n
      if s.obj (O.moutLanesActive n) = 0 then s.arrayDrop n else s

def execArrayPoll (t : Nat) (n : Fin 4) (lock err planeErr : Nat) (s : State) : Host.Outcome State Fault Refusal :=
  .next ((s.at t).arrayPoll n.val lock err planeErr)

/-- A write of `MOUT_LANE_RESTORE` (R179): the locked down lanes of the mask wait for the next transfer start; with others in the mask the answer is NOT_READY. -/
def effLaneRestore (lock : Nat) : Effect := fun _ _ _ ref v s =>
  let n := refOut ref
  let want := (bitsOf 23 (beNat v)).filter fun l => bit (s.obj (O.moutLanesDown n)) l
  let ok := want.filter (bit lock)
  let s := s.setMout n { s.mout n with restore := ok.foldl setBit (s.mout n).restore }
  if ok.length = want.length then done s else refuse s St.notReady

def execMoutLaneRestore (t : Nat) (q : Req) (n : Fin 4) (v : List Byte) (lock : Nat) (s : State) : Host.Outcome State Fault Refusal :=
  .next ((s.at t).hostWrite q (O.moutLaneRestore n.val) v (effLaneRestore lock))

/-! ### The freeze detector (R184, R185) -/

/-- FREEZE_DETECT at the end of a frame of output `n`; `repeated` where the frame was shown again (R80). -/
def State.freezeDetect (s : State) (n : Nat) (repeated : Bool) : State :=
  let x := s.mout n
  let clear (y : MoutSt) : MoutSt := { y with sigs := [], signed := [], chg := 0, skipCmp := false }
  if x.skipCmp || repeated then s.setMout n (clear x)
  else
    let last := s.blob (O.moutSigLast n)
    let sig (v : Nat) := kvGet (fun _ => 0) x.sigs v
    let frozen := (List.range 8).filter fun v => bit x.chg v && sig v == leAt last (8 * v) 8
    let counts := (List.range 8).foldl (fun m v => kvPut (fun _ => 0) m v (if frozen.contains v then kvGet (fun _ => 0) m v + 1 else 0)) x.frozen
    let hit := frozen.filter fun v => kvGet (fun _ => 0) counts v == s.obj (O.moutFreezeFrames n)
    let s := s.setMout n { clear x with frozen := counts }
    let s := s.setBlob (O.moutSigLast n) ((List.range 8).flatMap fun v => leBytes 8 (sig v))
    hit.foldl (fun s v =>
      let s := (s.setObj (O.moutFreeze n) (setBit (s.obj (O.moutFreeze n)) v)).bump (O.moutFreezeCount n)
      if s.obj (O.moutFreezeAction n) = 1 then s.blankSet n 0 else s) s

/-- A write of `MOUT_FREEZE_CLEAR`. -/
def effFreezeClear : Effect := fun _ _ _ ref _ s => done ((s.setObj (O.moutFreeze (refOut ref)) 0).blankClear (refOut ref) 0)

def execMoutFreezeClear (t : Nat) (q : Req) (n : Fin 4) (v : List Byte) (s : State) : Host.Outcome State Fault Refusal :=
  .next ((s.at t).hostWrite q (O.moutFreezeClear n.val) v effFreezeClear)

/-- A write of an operand of the load time, or of `MOUT_SHORT_ACTION` (R170, R178). -/
def effMoutGeometry : Effect := fun _ _ r ref v s =>
  let s := s.store r ref v
  done ((s.reload (refOut ref)).shortCheck (refOut ref))

end Sys2Proof.Machine
end

