-- ==== Sys2Proof/Machine/Cal.lean ====
section
/-! DEFINITION. Calibration (chapter 16, R449 to R457, R460, R461): runs, their acceptance and publication, the live sweep of a bank, snapshots, with the meanings
of their commands. -/

namespace Sys2Proof.Machine

/-! ### The table of calibrations (Table 16-1, Table 16-3) -/

/-- The identifiers. -/
def calIds : List Nat := [1, 2, 3, 4, 5, 6, 0x10, 0x11, 0x12, 0x13, 0x14]

/-- How many instances a calibration has; none where the identifier is unknown. -/
def calInstances (id : Nat) : Option Nat :=
  kvFind [(1, 1), (2, 24), (3, 16), (4, 9), (5, 16), (6, 16), (0x10, 1), (0x11, 8), (0x12, 4), (0x13, 4), (0x14, 20)] id

/-- The instances a request covers. -/
def calAsked (id inst : Nat) : List Nat := if inst = 0xFF then List.range ((calInstances id).getD 0) else [inst]

/-- The loop that controls the brightness of bank `b`: actuator b, measurement 0x40 + b. -/
def State.brightnessLoop (s : State) (b : Nat) : Option Nat :=
  allLoops.find? fun l => s.obj (O.loopActuator l) == b && s.obj (O.loopMeasSrc l) == 0x40 + b

/-- The state and conditions allow a run of one instance (Table 16-3, Table 16-4 `CAL_TEMP_REF`, R461). -/
def State.calStateOk (s : State) (id inst : Nat) : Bool :=
  let st := s.opState
  let always := st == startup || st == normal || st == test || st == recovery
  let quiet := st == startup || st == test
  match id with
  | 1 | 2 | 4 | 0x14 => always
  | 3 => always && s.obj O.calTempRef != 0xFF
  | 5 => st == normal || st == test
  | 6 => (st == normal || st == test) && match s.brightnessLoop inst with | some l => s.obj (O.loopMode l) == 1 | none => false
  | 0x10 => quiet || st == recovery
  | 0x11 => quiet
  | 0x12 => quiet || (always && s.obj (O.netPortState inst) == 0)
  | 0x13 => quiet || (always && (s.obj (O.moutState inst) != 3 || s.obj (O.moutLanesDown inst) != 0))
  | _ => false

/-- Input `i` is a source of a loop in AUTO or MANUAL, itself or as the photodiode of a bank (R453). -/
def State.ainInUse (s : State) (i : Nat) : Bool :=
  allLoops.any fun l =>
    s.obj (O.loopMode l) != 0 &&
      [s.obj (O.loopMeasSrc l), s.obj (O.loopFfSrc l), s.obj (O.loopSchedSrc l)].any fun c =>
        c == i || (decide (0x40 ≤ c) && decide (c < 0x50) && s.obj (O.colBankPd (c - 0x40)) == i)

/-- A BANK_EFF run of bank `b` has the room it needs (R461): another bank of the primary with a photodiode, and every other bank below its ceiling at 5/8. -/
def State.sweepRoom (s : State) (b : Nat) : Bool :=
  match s.bankOwner b with
  | none => false
  | some (n, p) =>
    let others := (s.primBanks n p).filter (· != b)
    others.any (fun j => s.obj (O.colBankPd j) != 0xFF) &&
      others.all fun j => decide ((s.bank j).base + 3 * (s.bank b).base / (8 * others.length) ≤ s.obj (O.colBankCeiling j))

/-- The first reason of R453 and R461 that refuses a request. -/
def State.calRefusal (s : State) (id inst : Nat) : Option Nat :=
  match calInstances id with
  | none => some St.badValue
  | some n =>
    let all := calAsked id inst
    if inst != 0xFF && n ≤ inst then some St.badValue
    else if 4 ≤ s.cal.runs.length || s.cal.runs.any (fun r => r.id == id &&
        (all.contains r.inst || r.left.any all.contains || (id == 6 && all.any fun b => s.samePrimary b r.inst))) then some St.calBusy
    else if !all.all (s.calStateOk id) then some St.calState
    else if id == 2 && !s.objB O.calAllowMiss && all.any s.ainInUse then some St.calSourceInUse
    else if id == 6 && !all.all s.sweepRoom then some St.headroom
    else none

/-! ### Runs -/

/-- An accepted request starts (R450). -/
def State.startAsked (s : State) (id inst : Nat) : State :=
  match calAsked id inst with
  | [] => s
  | i :: rest => s.startRun id i inst rest

/-- A write of `CAL_RUN` (R453). -/
def effCalRun : Effect := fun _ _ _ _ v s =>
  match s.calRefusal (leAt v 0 1) (leAt v 1 1) with
  | some st => refuse s st
  | none => done (s.startAsked (leAt v 0 1) (leAt v 1 1))

/-- The request of Table 16-2 for one calibration. -/
def State.calRequest (s : State) (q : Req) (id inst : Nat) (rest : List Byte) : State :=
  s.hostWrite q O.calRun (leBytes 1 id ++ leBytes 1 inst ++ rest) effCalRun

def execBandgap (t : Nat) (q : Req) (inst : Fin 256) (rest : List Byte) (s : State) : Host.Outcome State Fault Refusal :=
  .next ((s.at t).calRequest q 1 inst.val rest)
def execAdc (t : Nat) (q : Req) (inst : Fin 256) (rest : List Byte) (s : State) : Host.Outcome State Fault Refusal :=
  .next ((s.at t).calRequest q 2 inst.val rest)
def execTemp (t : Nat) (q : Req) (inst : Fin 256) (rest : List Byte) (s : State) : Host.Outcome State Fault Refusal :=
  .next ((s.at t).calRequest q 3 inst.val rest)
def execSupply (t : Nat) (q : Req) (inst : Fin 256) (rest : List Byte) (s : State) : Host.Outcome State Fault Refusal :=
  .next ((s.at t).calRequest q 4 inst.val rest)
def execPd (t : Nat) (q : Req) (inst : Fin 256) (rest : List Byte) (s : State) : Host.Outcome State Fault Refusal :=
  .next ((s.at t).calRequest q 5 inst.val rest)
def execBankEff (t : Nat) (q : Req) (inst : Fin 256) (rest : List Byte) (s : State) : Host.Outcome State Fault Refusal :=
  .next ((s.at t).calRequest q 6 inst.val rest)
def execRootpll (t : Nat) (q : Req) (inst : Fin 256) (rest : List Byte) (s : State) : Host.Outcome State Fault Refusal :=
  .next ((s.at t).calRequest q 0x10 inst.val rest)
def execDdr (t : Nat) (q : Req) (inst : Fin 256) (rest : List Byte) (s : State) : Host.Outcome State Fault Refusal :=
  .next ((s.at t).calRequest q 0x11 inst.val rest)
def execEth (t : Nat) (q : Req) (inst : Fin 256) (rest : List Byte) (s : State) : Host.Outcome State Fault Refusal :=
  .next ((s.at t).calRequest q 0x12 inst.val rest)
def execMlane (t : Nat) (q : Req) (inst : Fin 256) (rest : List Byte) (s : State) : Host.Outcome State Fault Refusal :=
  .next ((s.at t).calRequest q 0x13 inst.val rest)
def execVernier (t : Nat) (q : Req) (inst : Fin 256) (rest : List Byte) (s : State) : Host.Outcome State Fault Refusal :=
  .next ((s.at t).calRequest q 0x14 inst.val rest)

/-! ### The sweep of BANK_EFF (R460) -/

/-- The target fractions, in eighths. -/
def sweepPoints : List Nat := [8, 7, 6, 5, 6, 7, 8]

/-- The bank's fraction moves to `to_` eighths over `CAL_BANK_MOVE`. -/
def State.sweepTo (s : State) (b to_ : Nat) : State :=
  let f : Int × Nat := match (s.bank b).sweep with | some w => w.at s.tick | none => (1, 1)
  s.setBank b { s.bank b with sweep := some ⟨f.1, f.2, to_, s.tick, msTicks (s.obj O.calBankMove)⟩ }

/-- A run's sums over one loop period that ends at this boundary (R460); `r` is the mean reading of the period. -/
def CalRunSt.gather (x : CalRunSt) (settle : Nat) (r : Option Int) (code : Nat) : CalRunSt :=
  if x.nA = 64 then x
  else if x.skip < settle then { x with skip := x.skip + 1 }
  else
    { x with
      sumA := x.sumA + code, nA := x.nA + 1
      sumR := x.sumR + r.getD 0, nR := x.nR + boolNat r.isSome }

/-- BANK_EFF runs at slot start `m`, before the loops latch (R460, R461): the winner of the bank's actuator is checked, and a period is gathered once the move is over. -/
def State.sweepSlot (s : State) (m : Nat) : State :=
  s.cal.runs.foldl (fun s x =>
    if x.id != 6 then s
    else
      match s.brightnessLoop x.inst with
      | none => s.interruptRuns (· == x.inst)
      | some l =>
        let k := s.obj (O.loopSet l)
        if !(s.setsAt m).contains k then s
        else
          let s := if s.obj (O.loopBankWinner x.inst) != l then s.interruptRuns (· == x.inst) else s
          let move := if x.point = 0 then 0 else msTicks (s.obj O.calBankMove)
          if s.tick ≤ x.phaseAt + move then s
          else
            let (r, s) := s.opticalMean x.inst (s.loopSet k).lastAt
            let y := x.gather (s.obj O.calBankSettle) r (s.obj (O.loopBankCode x.inst))
            s.setCal { s.cal with runs := s.cal.runs.map fun z =>
              if z.id == 6 && z.inst == x.inst then { y with ending := z.ending } else z }) s

/-- Fractions that have returned to 8/8 with no run left are removed. -/
def State.sweepsDone (s : State) : State :=
  allBanks.foldl (fun s b =>
    match (s.bank b).sweep with
    | some w =>
      if w.to_ = 8 && w.start + w.len ≤ s.tick && !(s.cal.runs.any fun r => r.id == 6 && r.inst == b)
      then s.setBank b { s.bank b with sweep := none } else s
    | none => s) s

/-- BANK_EFF_POINT (R460): the means of a point are complete, and the bank moves to the next fraction. -/
def State.sweepPoint (s : State) (b : Nat) : State :=
  match s.cal.runs.find? fun r => r.id == 6 && r.inst == b with
  | none => s
  | some x =>
    if x.nA < 64 || x.ending ≠ 0 || 7 ≤ x.means.length then s
    else
      let y := { x with means := x.means ++ [(x.sumR, x.nR, x.sumA)], point := x.point + 1, phaseAt := s.tick, skip := 0, sumR := 0, nR := 0, sumA := 0, nA := 0 }
      let s := s.setCal { s.cal with runs := s.cal.runs.map fun z => if z.id == 6 && z.inst == b then y else z }
      match sweepPoints[y.point]? with
      | some f => s.sweepTo b f
      | none => s

def execBankEffPoint (t : Nat) (b : Fin 16) (s : State) : Host.Outcome State Fault Refusal := .next ((s.at t).sweepPoint b.val)

/-- Two means agree within `tol` in 0.01 % of their mean. -/
def agree (tol : Nat) (a b : Rat) : Bool :=
  let d := if a < b then b - a else a - b
  decide (d * 20000 ≤ (tol : Rat) * (a + b))

/-- The line through the four distinct points (R460): slope in counts per code and threshold in codes; none where repeats disagree or the points give no line. -/
def fitSweep (tol : Nat) (means : List (Int × Nat × Nat)) : Option (Rat × Rat) :=
  let pts : List (Rat × Rat) := means.map fun m => (((m.1 : Rat) / ((256 * max 1 m.2.1 : Nat) : Rat)), ((m.2.2 : Rat) / 64))
  match pts with
  | [p0, p1, p2, p3, p4, p5, p6] =>
    let ok (a b : Rat × Rat) := agree tol a.1 b.1 && agree tol a.2 b.2
    let mean (a b : Rat × Rat) : Rat × Rat := ((a.1 + b.1) / 2, (a.2 + b.2) / 2)
    if !(means.all fun m => m.2.1 != 0) || !(ok p0 p6 && ok p1 p5 && ok p2 p4) then none
    else
      let q := [mean p0 p6, mean p1 p5, mean p2 p4, p3]
      let sr := q.foldl (fun a p => a + p.1) 0
      let sa := q.foldl (fun a p => a + p.2) 0
      let sra := q.foldl (fun a p => a + p.1 * p.2) 0
      let saa := q.foldl (fun a p => a + p.2 * p.2) 0
      let d : Rat := 4 * saa - sa * sa
      if d = 0 then none
      else
        let k : Rat := (4 * sra - sa * sr) / d
        if k = 0 then none else some (k, (sa - sr / k) / 4)
  | _ => none

/-- A rational held to `[0, top]`, rounded to a neighbour the spec does not name. -/
def State.publishRat (s : State) (x : Rat) (top : Nat) : Nat × State :=
  let (v, s) := s.openRound x.num x.den
  (min top v.toNat, s)

/-- `AGE_BANK_EFF` of a slope (R459): a bank without current scale or efficacy has no stated efficiency, so the value is free. -/
def State.efficiency (s : State) (b : Nat) (slope : Rat) : Nat × State :=
  let p := s.obj (O.gatePrimary b)
  let e := s.obj (O.colPrimEfficacy p)
  let i := s.obj (O.ageBankIFull b)
  if e = 0 || i = 0 then (s.fresh % 2 ^ 32, s.took)
  else
    let t := s.objI (O.colBankTemp b)
    let gain : Rat := (s.ttAt p 1 t : Rat) / 65536
    let watts : Rat := slope * (s.obj (O.colPdScale b) : Rat) / 65536 * gain * 1000 / (e : Rat)
    let eff : Rat := watts * 1000000 * 65535 / (i : Rat)
    s.publishRat (eff * (1 + (s.objI (O.ageBankTc b) : Rat) / 1000000 * ((t - s.objI O.ageTRef : Int) : Rat) / 1000)) 0xFFFFFFFF

/-! ### Acceptance and publication (R451, R455) -/

/-- The difference of two measurements. -/
def diffAt (a b : List Int) (i : Nat) : Nat := (nth a i 0 - nth b i 0).natAbs

/-- The mean of two measurements. -/
def State.meanAt (s : State) (a b : List Int) (i : Nat) : Int × State := s.openRound (nth a i 0 + nth b i 0) 2

/-- Index of the least magnitude in a list, the first of several. -/
def leastAt (l : List Int) : Nat :=
  ((List.range l.length).foldl (fun b i => if (nth l i 0).natAbs < (nth l b 0).natAbs then i else b) 0)

/-- The outcome of a run from its measurements: the status that rejects it, or the coefficient bytes. Class M: two repeats `a`, `b` within the tolerance, then their mean. Class T: within the
timeout; VERNIER takes eight residuals in ps and needs the best within ±150 ps. -/
def State.calOutcome (s : State) (x : CalRunSt) (a b : List Int) : (Nat × List Byte) × State :=
  let tol := s.obj (O.calLimit x.id)
  let late := decide (s.tick > x.since + msTicks tol)
  let ok (l : List Byte) : Nat × List Byte := (0, l)
  match x.id with
  | 1 =>
    if tol < diffAt a b 1 || diffAt a b 0 ≠ 0 then ((St.calRepeat, []), s)
    else let (r, s) := s.meanAt a b 1; (ok (leBytes 2 (nth a 0 0).toNat ++ leBytes 4 (ofI32 r)), s)
  | 2 =>
    if 50 < diffAt a b 0 || tol * 1073741824 < diffAt a b 1 * 1000000 then ((St.calRepeat, []), s)
    else
      let (o, s) := s.meanAt a b 0
      let (g, s) := s.meanAt a b 1
      (ok (leBytes 4 (ofI32 o) ++ leBytes 4 g.toNat), s)
  | 3 =>
    if tol < diffAt a b 0 then ((St.calRepeat, []), s)
    else let (o, s) := s.meanAt a b 0; (ok (leBytes 4 (ofI32 o)), s)
  | 4 =>
    if tol < diffAt a b 0 then ((St.calRepeat, []), s)
    else
      let (o, s) := s.meanAt a b 0
      let (g, s) := s.meanAt a b 1
      (ok (leBytes 4 (ofI32 o) ++ leBytes 4 g.toNat), s)
  | 5 =>
    -- flux in mlm over a mean reading in 1/256 count, in 2⁻¹⁶ lm per count
    let r := nth a 0 0
    let q := nth b 0 0
    if r ≤ 0 || q ≤ 0 then ((St.calRepeat, []), s)
    else
      let k (v : Int) : Rat := (s.obj O.calPdFlux : Rat) * 65536 * 256 / (1000 * (v : Rat))
      if !agree tol (k r) (k q) then ((St.calRepeat, []), s)
      else let (v, s) := s.publishRat ((k r + k q) / 2) 0xFFFFFFFF; (ok (leBytes 4 v), s)
  | 6 =>
    if x.ending ≠ 0 then ((x.ending, []), s)
    else
      match fitSweep (s.obj O.calBankTol) x.means with
      | none => ((St.calRepeat, []), s)
      | some (k, th) =>
        let (sl, s) := s.publishRat (k * 65536) 0xFFFFFFFF
        let (a, s) := s.publishRat th 0xFFFF
        let (e, s) := s.efficiency x.inst k
        (ok (leBytes 4 sl ++ leBytes 2 a ++ leBytes 4 e), s)
  | 0x10 => if late then ((St.calTimeout, []), s) else (ok (leBytes 2 (nth a 0 0).toNat), s)
  | 0x11 => if late then ((St.calTimeout, []), s) else (ok ((List.range 4).flatMap fun i => leBytes 2 (nth a i 0).toNat), s)
  | 0x12 => if late then ((St.calTimeout, []), s) else (ok ((List.range 3).flatMap fun i => leBytes 4 (nth a i 0).toNat), s)
  | 0x13 => if late then ((St.calTimeout, []), s) else (ok ((List.range 24).flatMap fun i => leBytes 1 (nth a i 0).toNat), s)
  | _ =>
    if late then ((St.calTimeout, []), s)
    else
      let l := (a ++ List.replicate 8 1000).take 8
      let i := leastAt l
      if 150 < (nth l i 0).natAbs then ((St.calRepeat, []), s) else (ok [BitVec.ofNat 8 i], s)

/-- Coefficients of one instance come into force: the objects they stand for follow (Table 16-1). -/
def State.publish (s : State) (key : Nat) (c : List Byte) : State :=
  let id := key / 256
  let i := key % 256
  let s := s.setCal { s.cal with coefs := kvInsert s.cal.coefs key c }
  match id with
  | 5 => s.setObj (O.colPdScale i) (leAt c 0 4)
  | 0x11 => s.setBlob O.memTset (overwrite (s.blob O.memTset) (s.obj O.memSetpoint * 128 + 42) c)
  | 0x12 => (s.setObj (O.netPortTxLat i) (leAt c 4 4)).setObj (O.netPortRxLat i) (leAt c 8 4)
  | _ => s

/-- At a slot start, accepted coefficients take effect, all together (R451, R457). -/
def State.publishWaiting (s : State) : State :=
  let w := s.cal.waiting
  w.foldl (fun s p => s.publish p.1 p.2) (s.setCal { s.cal with waiting := [] })

/-- A run leaves the list; its next instance starts, or nothing. -/
def State.nextInstance (s : State) (x : CalRunSt) (go : Bool) : State :=
  let rest := s.cal.runs.filter fun r => !(r.id == x.id && r.inst == x.inst)
  let s := (s.setCal { s.cal with
    runs := rest, adcEnd := if x.id = 2 then kvInsert s.cal.adcEnd x.inst s.tick else s.cal.adcEnd }).showRuns
  let s := if x.id = 6 then s.sweepTo x.inst 8 else s
  match x.left with
  | i :: more => if go then s.startRun x.id i x.asked more else startNext 4 s
  | [] => startNext 4 s

/-- A run ends with an outcome (2 COMPLETED, 3 ABORTED, 4 REJECTED) and a status (R455). -/
def State.endRun (s : State) (x : CalRunSt) (outcome status : Nat) : State :=
  let s := s.setObj (O.calResult x.id) (outcome * 2 ^ 24 + x.inst * 65536 + status)
  let s := s.raise (if outcome = 2 then 230 else 231) [x.id, x.inst, status]
  let s := if x.id = 6 then s.raise 237 [x.inst, outcome, status] else s
  if outcome = 2 then s.bump O.calRuns else if outcome = 4 then s.bump O.calRejects else s

/-- An accepted run: its coefficients wait for the next slot start; those of BANK_EFF and VERNIER act at once, under their own rules (R451, R461). -/
def State.acceptRun (s : State) (x : CalRunSt) (c : List Byte) : State :=
  let key := x.id * 256 + x.inst
  let first := (kvFind s.cal.ends key).isNone
  let s := s.setObj (O.calLast x.id) (stimeOf s.studio)
  let s := s.setCal { s.cal with ends := kvInsert s.cal.ends key (stimeOf s.studio), waiting := kvInsert s.cal.waiting key c }
  match x.id with
  | 6 =>
    let e := leAt c 6 4
    let s := s.setObjs [(O.ageBankSlope x.inst, leAt c 0 4), (O.ageBankThresh x.inst, leAt c 4 2), (O.ageBankEff x.inst, e)]
    if first then s.setObj (O.ageBankEff0 x.inst) e else s
  | 0x14 =>
    if x.inst < 16 then (s.setObj (O.gateVernier x.inst) (leAt c 0 1)).gateVernierFrom x.inst
    else (s.setObj (O.moutTlVernier (x.inst - 16)) (leAt c 0 1)).tlVernierFrom (x.inst - 16)
  | 0x10 => (s.setCal { s.cal with pllFailed := none }).pllRelock
  | 0x11 => if s.obj (O.memChState x.inst) = 1 then (s.setObj (O.memChState x.inst) 2).raise 140 [x.inst] else s
  | _ => s

/-- A rejected run: a DDR run at STARTUP fails its channel (R283), a ROOTPLL run leaves RECOVERY with time FREERUN, the lock lost (R22, R451). -/
def State.rejectRun (s : State) (x : CalRunSt) : State :=
  match x.id with
  | 0x11 => if s.opState = startup then (s.setObj (O.memChState x.inst) 3).raise 141 [x.inst] else s
  | 0x10 =>
    let s := s.setCal { s.cal with pllFailed := some s.tick }
    -- in BOOT the group's limit decides (Table 17-4)
    if s.opState = boot then s
    else
      let s := s.pllLost.setObjs [(O.timeState, freerun), (O.timeSrcActive, 0), (O.pwrRecoveryCause, setBit (s.obj O.pwrRecoveryCause) recPll)]
      s.setOp recovery recPll
  | _ => s

/-- The usable run of channels (R283): the longest n of 1, 2, 4 or 8 whose channels are ONLINE and of one organisation. -/
def State.usableRun (s : State) : Nat :=
  let ok (n : Nat) : Bool := (List.range n).all fun c => s.obj (O.memChState c) == 2 && s.obj (O.memChOrg c) / 65536 == s.obj (O.memChOrg 0) / 65536
    && bits (s.obj (O.memChOrg c)) 15 8 == bits (s.obj (O.memChOrg 0)) 15 8
  ([8, 4, 2, 1].find? ok).getD 0

/-- Training is over: the usable channels are fixed, the others leave service, and their valid bitmap is cleared (R283, R324). -/
def State.usable (s : State) : State :=
  if s.opState ≠ startup || s.memc.n ≠ 0 || (s.cal.startQ.any fun p => p.1 == 0x11) || (s.cal.runs.any fun r => r.id == 0x11) then s
  else
    let n := s.usableRun
    let fitted := (List.range 8).filter fun c => s.obj (O.memChKind c) != 0
    let s := if fitted = List.range n then s else s.raise 149 [n]
    let s := (fitted.filter fun c => n ≤ c && s.obj (O.memChState c) == 2).foldl (fun s c => s.setObj (O.memChState c) 0) s
    if n = 0 then s
    else
      let s := s.setMemc { s.memc with n := n, clearing := some s.tick }
      let peak := [440000, 330000, 220000].getD (s.obj O.memSetpoint) 440000 * n / 8
      -- the manager's rings come out of the capacity (R283, R405)
      let rings := if s.obj O.hierRoleNow = 1 then (s.obj O.hierNodeLimit + 1) * 65536 else 0
      s.setObjs [(O.memPeak, peak), (O.memCeiling, peak * 8 / 10), (O.memCapacity, n * (s.chanSize - chanReserve s.chanSize) - rings)]

/-- CAL_RUN_END (R451, R455): `a` and `b` are what the run's two repeats measured; a Class T run uses `a`. A BANK_EFF run is judged by what it gathered, once it has its
seven points or an ending. -/
def State.runEnd (s : State) (id inst : Nat) (a b : List Int) : State :=
  match s.cal.runs.find? fun r => r.id == id && r.inst == inst with
  | none => s
  | some x =>
    if id = 6 && x.ending = 0 && x.means.length < 7 then s
    else
      let ((st, c), s) := s.calOutcome x a b
      let s := if st = 0 then ((s.acceptRun x c).endRun x 2 0).nextInstance x true
        else ((s.rejectRun x).endRun x 4 st).nextInstance x true
      if id = 0x11 then s.usable else s

def execCalRunEnd (t : Nat) (id : Fin 32) (inst : Fin 256) (a b : List Int) (s : State) : Host.Outcome State Fault Refusal :=
  .next ((s.at t).runEnd id.val inst.val a b)

/-- A write of `CAL_CANCEL` (R455): instance 0xFF names a request for all. A DDR run cancelled at STARTUP leaves its channel without coefficients (R451). -/
def effCalCancel : Effect := fun _ _ _ _ v s =>
  let id := beNat v / 256
  let inst := beNat v % 256
  match s.cal.runs.find? fun r => r.id == id && (if inst = 0xFF then r.asked == 0xFF else r.inst == inst) with
  | none => refuse s St.notActive
  | some x =>
    let s := if id = 0x11 then s.rejectRun x else s
    let s := (s.endRun x 3 St.aborted).nextInstance x (inst ≠ 0xFF)
    done (if id = 0x11 then s.usable else s)

def execCalCancel (t : Nat) (q : Req) (v : List Byte) (s : State) : Host.Outcome State Fault Refusal :=
  .next ((s.at t).hostWrite q O.calCancel v effCalCancel)

/-- CAL_AUTO (R454): ADC and TEMP for all instances, every `CAL_AUTO_PERIOD` in NORMAL, subject to R453. -/
def State.autoRuns (s : State) : State :=
  let p := s.obj O.calAutoPeriod
  if p = 0 || s.opState ≠ normal || s.tick < s.cal.autoAt + secTicks p then s
  else
    let s := s.setCal { s.cal with autoAt := s.tick }
    [2, 3].foldl (fun s id => match s.calRefusal id 0xFF with | none => s.startAsked id 0xFF | some _ => s) s

def execCalAuto (t : Nat) (s : State) : Host.Outcome State Fault Refusal := .next (s.at t).autoRuns

/-- ROOTPLL_RETRY (R451): every second after a failed run, in RECOVERY with time FREERUN. -/
def State.pllRetry (s : State) : State :=
  match s.cal.pllFailed with
  | none => s
  | some f =>
    if s.opState = recovery && s.obj O.timeState = freerun && f + ticksPerSec ≤ s.tick && !(s.cal.runs.any fun r => r.id == 0x10)
    then s.startRun 0x10 0 0 [] else s

def execRootpllRetry (t : Nat) (s : State) : Host.Outcome State Fault Refusal := .next (s.at t).pllRetry

/-- The runs of STARTUP (R454): BANDGAP and ADC, then ROOTPLL, DDR of the fitted channels, ETH and VERNIER; MLANE follows each array's READY. -/
def State.startupRuns (s : State) : State :=
  let all (id n : Nat) : List (Nat × Nat) := (List.range n).map fun i => (id, i)
  let fitted := (all 0x11 8).filter fun p => s.obj (O.memChState p.2) != 0
  startNext 4 (s.setCal { s.cal with startQ := all 1 1 ++ all 2 24 ++ all 0x10 1 ++ fitted ++ all 0x12 4 ++ all 0x14 20 })

/-! ### Snapshots (R456, R457) -/

/-- `CAL_COEF` of one calibration: the coefficients in force of its instances in order. -/
def State.coefImage (s : State) (id : Nat) : List Byte := (List.range ((calInstances id).getD 0)).flatMap fun i => s.coef id i

/-- One entry of a snapshot. -/
def snapshotEntry (key run : Nat) (c : List Byte) : List Byte :=
  leBytes 1 (key / 256) ++ leBytes 1 (key % 256) ++ leBytes 1 (if key / 256 < 0x10 then 0 else 1) ++ [0] ++ leBytes 2 c.length ++ [0, 0]
    ++ leBytes 12 run ++ padTo (ceilDiv c.length 8 * 8) c

/-- `CAL_SNAPSHOT` (Table 16-4a). -/
def State.snapshot (s : State) : List Byte :=
  let es := s.cal.coefs.flatMap fun p => snapshotEntry p.1 ((kvFind s.cal.ends p.1).getD 0) p.2
  let head := leBytes 4 0x50414E53 ++ leBytes 2 1 ++ leBytes 2 s.cal.coefs.length ++ leBytes 8 (s.obj O.dictSerial) ++ leBytes 12 (stimeOf s.studio) ++ fill 36 0
  head ++ shake256 (head ++ fill 64 0 ++ es) 64 ++ es

/-- The entries of a snapshot's bytes: key, class and coefficients; none where the lengths do not fit. -/
def snapshotEntries : Nat → List Byte → Option (List (Nat × Nat × List Byte))
  | 0, l => if l.isEmpty then some [] else none
  | n + 1, l =>
    let len := leAt l 4 2
    let pad := ceilDiv len 8 * 8
    if l.length < 20 + pad then none
    else (snapshotEntries n (l.drop (20 + pad))).map fun es => (leAt l 0 1 * 256 + leAt l 1 1, leAt l 2 1, slice l 20 len) :: es

/-- The length of a Class M coefficient set (Table 16-1). -/
def coefLen (id : Nat) : Nat := (kvFind [(1, 6), (2, 8), (3, 4), (4, 8), (5, 4), (6, 10)] id).getD 0

/-- A whole image written to `CAL_RESTORE` (R457): OK with the Class M entries waiting for the next slot start and E232, or the first failing check and E233. -/
def State.restore (s : State) (img : List Byte) : Nat × State :=
  let bad (st : Nat) : Nat × State := (st, s.raise 233 [st])
  match (if leAt img 0 4 = 0x50414E53 && leAt img 4 2 = 1 && 128 ≤ img.length then snapshotEntries (leAt img 6 2) (img.drop 128) else none) with
  | none => bad St.badImage
  | some es =>
    if slice img 64 64 ≠ shake256 (img.take 64 ++ fill 64 0 ++ img.drop 128) 64 then bad St.snapshotDigest
    else if leAt img 8 8 ≠ s.obj O.dictSerial then bad St.snapshotSerial
    else
      let ms := es.filter fun e => e.2.1 == 0
      if ms.any fun e => !(match calInstances (e.1 / 256) with | some n => decide (e.1 / 256 < 0x10) && decide (e.1 % 256 < n) && e.2.2.length == coefLen (e.1 / 256) | none => false)
      then bad St.badImage
      else if !s.objB O.calAllowMiss && ms.any (fun e => e.1 / 256 == 2 && s.ainInUse (e.1 % 256)) then bad St.calSourceInUse
      else (St.ok, (s.setCal { s.cal with waiting := ms.foldl (fun w e => kvInsert w e.1 e.2.2) s.cal.waiting }).raise 232 [])

end Sys2Proof.Machine
end

