-- ==== Sys2Proof/Machine/Dram.lean ====
section
/-! DEFINITION. The memory controller (chapter 10): ports and their token buckets, subchannel queues and the scheduler, refresh, power-down, frequency changes, with the meanings
of their commands. -/

namespace Sys2Proof.Machine

def State.mport (s : State) (p : Nat) : PortSt := kvGet (fun _ => {}) s.memc.ports p
def State.setMport (s : State) (p : Nat) (x : PortSt) : State := s.setMemc { s.memc with ports := kvPut (fun _ => {}) s.memc.ports p x }
/-- Subchannel `sub` of channel `c`; rank `r` of channel `c`. -/
def State.subch (s : State) (c sub : Nat) : SubSt := kvGet (fun _ => {}) s.memc.subs (2 * c + sub)
def State.setSubch (s : State) (c sub : Nat) (x : SubSt) : State := s.setMemc { s.memc with subs := kvPut (fun _ => {}) s.memc.subs (2 * c + sub) x }
def State.rank (s : State) (c r : Nat) : RankSt := kvGet (fun _ => {}) s.memc.ranks (2 * c + r)
def State.setRank (s : State) (c r : Nat) (x : RankSt) : State := s.setMemc { s.memc with ranks := kvPut (fun _ => {}) s.memc.ranks (2 * c + r) x }

/-- Zone and owed count of a rank. -/
def refZone (c r : Nat) : Nat := if r = 0 then O.memRefZoneR0 c else O.memRefZoneR1 c
def refOwed (c r : Nat) : Nat := if r = 0 then O.memRefOwedR0 c else O.memRefOwedR1 c

/-! ### Timing sets (R304, R305) -/

/-- A U16 field of the timing set of a setpoint and kind. -/
def State.tsetField (s : State) (setpoint kind off : Nat) : Nat := leAt (s.blob O.memTset) (setpoint * 128 + kind * 64 + off) 2

/-- A field of the set in force. -/
def State.tsetNow (s : State) (off : Nat) : Nat := s.tsetField (s.obj O.memSetpoint) s.memc.tset off

/-- Root ticks of a DCK cycle and of a DCTL cycle at a setpoint (Tables 01-1 and 10-5). -/
def dckTicks (setpoint : Nat) : Nat := [3, 4, 6].getD setpoint 3
def dctlTicks (setpoint : Nat) : Nat := 4 * dckTicks setpoint

/-- Peak in MB/s of `n` channels at a setpoint, and its ceiling (Table 10-5). -/
def peakOf (setpoint n : Nat) : Nat := [440000, 330000, 220000].getD setpoint 0 * n / 8
def ceilingOf (setpoint n : Nat) : Nat := peakOf setpoint n * 4 / 5

/-- `MEM_PEAK` and `MEM_CEILING` follow setpoint and population. -/
def State.showPeak (s : State) : State :=
  let p := s.obj O.memSetpoint
  s.setObjs [(O.memPeak, peakOf p s.memc.n), (O.memCeiling, ceilingOf p s.memc.n)]

/-- tREFI of a rank's zone in ticks. -/
def State.refi (s : State) (c r : Nat) : Nat := nsTicks (s.tsetNow 38) / (if s.obj (refZone c r) = 1 then 2 else 1)

/-- The smallest tolerance stated by any output (`MEM_TOL_MIN`). -/
def State.tolMin (s : State) : Nat := outputs.foldl (fun m n => min m (s.tolerance n)) 0xFFFFFFFF

/-! ### Ports (R288, R290, R291, R297) -/

/-- A bucket filled up to the present tick: a MB/s is 8/82,500 B in a tick. -/
def State.fillPort (s : State) (p : Nat) : PortSt :=
  let x := s.mport p
  let cap := s.obj (O.memPortBurst p) * 1024 * 82500
  { x with tokens := min cap (x.tokens + (s.tick - x.at_) * s.obj (O.memPortRate p) * 8), at_ := s.tick }

/-- Where a request lies. -/
def State.reqPos (s : State) (r : MemReq) : Nat × DramPos := let p := s.chan r.addr; (p.1, s.dramPos p.1 p.2)

/-- Two requests lie in the same row of the same bank. -/
def State.sameRow (s : State) (a b : MemReq) : Bool :=
  let x := s.reqPos a
  let y := s.reqPos b
  x.1 == y.1 && x.2.sub == y.2.sub && x.2.rank == y.2.rank && x.2.bg == y.2.bg && x.2.bank == y.2.bank && x.2.row == y.2.row

/-- A plane reader is urgent (R290). -/
def State.portUrgent (s : State) (p : Nat) : Bool := decide (p < 4) && decide (s.tolerance p < s.obj O.memUrgent)

/-- The poison marks of the words of [a, a + n). -/
def State.poisonIn (s : State) (a n : Nat) : List Nat :=
  (List.range ((a + n + 7) / 8 - a / 8)).filter fun i => s.wordPoisoned (8 * (a / 8 + i))

/-- Out-of-profile requests of port `p` are queued or waiting. -/
def State.portOop (s : State) (p : Nat) : Bool :=
  s.memc.subs.any fun q => q.2.queue.any fun r => r.port == p && !r.paid

/-- `MEM_PORT_THROTTLED` counts the time with out-of-profile requests waiting. -/
def State.throttle (s : State) (p : Nat) : State :=
  let x := s.mport p
  match x.oop, s.portOop p with
  | none, true => s.setMport p { x with oop := some s.tick }
  | some a, false => (s.setMport p { x with oop := none }).bumpBy (O.memPortThrottled p) ((s.tick - a) * 2 / 20625)
  | _, _ => s

/-- A subchannel queue has an entry for a request. -/
def State.queueRoom (s : State) (r : MemReq) : Bool :=
  let p := s.reqPos r
  let n := ((s.subch p.1 p.2.sub).queue.filter fun x => x.write == r.write).length
  s.memc.freqRun.isNone && decide (n < if r.write then 32 else 64)

/-- A request enters its subchannel queue (R288, R295): the bucket pays if it can; a write is visible and acknowledged; a read is forwarded, waits for a write of its block, or
proceeds. -/
def State.memEnter (s : State) (r : MemReq) : State :=
  let (c, d) := s.reqPos r
  let x := s.fillPort r.port
  let paid := decide (r.len * 82500 ≤ x.tokens)
  let s := s.setMport r.port (if paid then { x with tokens := x.tokens - r.len * 82500 } else x)
  let s := s.bumpBy (O.memPortBytes r.port) r.len
  let k := s.rank c d.rank
  let s := s.setRank c d.rank { k with pd := false, lastReq := s.tick }
  let q := s.subch c d.sub
  let r := { r with paid := paid, urgent := !r.write && s.portUrgent r.port }
  if r.write then
    let s := if r.addr % 8 = 0 && (r.addr + r.len) % 8 = 0 then s else s.bump (O.memRmw c)
    ((s.portWrite r.addr r.data).setSubch c d.sub { q with queue := q.queue ++ [r] }).throttle r.port
  else
    match (q.queue.filter fun w => w.write && w.addr / 64 == r.addr / 64).getLast? with
    | none => (s.setSubch c d.sub { q with queue := q.queue ++ [r] }).throttle r.port
    | some w =>
      if w.addr ≤ r.addr && decide (r.addr + r.len ≤ w.addr + w.len) then
        (s.bump (O.memRdForwarded c)).emit (.readData r.port r.addr (s.bytes r.addr r.len) (s.poisonIn r.addr r.len))
      else
        ((s.bump (O.memRdHazardWaits c)).setSubch c d.sub { q with queue := q.queue ++ [{ r with waits := some w.id }] }).throttle r.port

/-- The waiting requests of a port enter where they can: in order, only the head; in free issue, each that finds room. -/
def State.release (s : State) (p : Nat) : List MemReq → List MemReq → State
  | kept, [] => s.setMport p { s.mport p with waiting := kept }
  | kept, r :: l =>
    if s.queueRoom r && (kept.isEmpty || !s.objB (O.memPortInorder p)) then (s.memEnter r).release p kept l
    else s.release p (kept ++ [r]) l

/-- `MEM_PORT_INORDER` ends when no waiting read shares a row with a waiting write of the port (R297). -/
def State.orderCheck (s : State) (p : Nat) : State :=
  let w := (s.mport p).waiting
  let clash := w.any fun r => !r.write && w.any fun x => x.write && s.sameRow r x
  if s.objB (O.memPortInorder p) && !clash then s.setObj (O.memPortInorder p) 0 else s

/-- Every port issues what it can. -/
def State.admitAll (s : State) : State :=
  (s.memc.ports.map (·.1)).foldl (fun s p => (s.release p [] (s.mport p).waiting).orderCheck p) s

/-- One burst of a request reaches its port (R291, R297). -/
def State.memBurst (s : State) (port : Nat) (write : Bool) (a : Nat) (len : Nat) (data : List Byte) : State :=
  let r : MemReq := { id := s.memc.nextId, port := port, write := write, addr := a, len := len, data := data, since := s.tick }
  let s := s.setMemc { s.memc with nextId := s.memc.nextId + 1 }
  let x := s.mport port
  let clash := !write && x.waiting.any fun w => w.write && s.sameRow r w
  let s := if clash && !s.objB (O.memPortInorder port) then (s.setObj (O.memPortInorder port) 1).bump (O.memPortInorderCount port) else s
  let hold := !s.queueRoom r || (s.objB (O.memPortInorder port) && !x.waiting.isEmpty)
  if hold then s.setMport port { x with waiting := x.waiting ++ [r] } else s.memEnter r

/-- The bursts of a request. -/
def State.memBursts (s : State) (port : Nat) (write : Bool) : Nat → Nat → Nat → List Byte → State
  | 0, _, _, _ => s
  | fuel + 1, a, len, data =>
    if len = 0 then s
    else
      let k := min len (64 - a % 64)
      (s.memBurst port write a k (data.take k)).memBursts port write fuel (a + k) (len - k) (data.drop k)

/-- MEM_REQUEST (R287, R288, R291, R295). Outside the address space there is nothing (R283, R284). -/
def execMemRequest (t : Nat) (port : Fin 24) (write : Bool) (addr len : Nat) (data : List Byte) (s : State) : Host.Outcome State Fault Refusal :=
  let s := s.at t
  if s.dpaSize < addr + len then .fault .noSuchAddress
  else .next (s.memBursts port.val write (len / 64 + 2) addr len (if write then padTo len data else []))

/-! ### The scheduler (R292 to R294) -/

/-- The level of a request by R292, 1 the first: urgent reads 2, then LATENCY, ISOCHRONOUS and BULK in profile, then what is out of profile; the age of `MEM_STARVE` gives 3. -/
def State.ownLevel (s : State) (r : MemReq) : Nat :=
  let base :=
    if !r.write && s.portUrgent r.port then 2
    else if !r.paid then 7
    else match s.obj (O.memPortClass r.port) with | 1 => 3 | 0 => 4 | _ => 6
  if nsTicks (s.obj O.memStarve) ≤ s.tick - r.since then min 3 base else base

/-- A write takes the priority of a read that waits for it (R295). -/
def State.reqLevel (s : State) (q : List MemReq) (r : MemReq) : Nat :=
  (q.filter fun x => x.waits == some r.id).foldl (fun m x => min m (s.ownLevel x)) (s.ownLevel r)

/-- The key of a bank. -/
def bankKey (c : Nat) (d : DramPos) : Nat := ((c * 2 + d.sub) * 2 + d.rank) * 32 + d.bg * 4 + d.bank

/-- The row of a request is open. -/
def State.rowHit (s : State) (r : MemReq) : Bool :=
  let (c, d) := s.reqPos r
  match kvFind s.memc.rows (bankKey c d) with | some x => x.1 == d.row | none => false

/-- The direction of a subchannel in this cycle (R293). -/
def State.direction (s : State) (x : SubSt) (ok : MemReq → Bool) : Bool :=
  let writes := (x.queue.filter (·.write)).length
  let urgent := x.queue.any fun r => !r.write && r.waits.isNone && s.portUrgent r.port
  let writing := x.writing && !urgent && decide (8 < writes)
  writing || (!urgent && decide (24 ≤ writes)) || x.queue.any (fun r => r.waits.isSome)
    || !(x.queue.any fun r => !r.write && r.waits.isNone && ok r)

/-- The choice among the candidates of one level: the oldest beyond `MEM_STARVE`, else the oldest row hit, else the oldest. -/
def State.choose (s : State) (cands : List MemReq) : Option MemReq :=
  match cands.find? fun r => decide (nsTicks (s.obj O.memStarve) < s.tick - r.since) with
  | some r => some r
  | none => match cands.find? s.rowHit with | some r => some r | none => cands.head?

/-- Codes of the DRAM commands a subchannel issues. -/
abbrev cmdAct : Nat := 0
abbrev cmdPre : Nat := 1
abbrev cmdRd : Nat := 2
abbrev cmdWr : Nat := 3
abbrev cmdRef : Nat := 4
abbrev cmdPdEntry : Nat := 5
abbrev cmdSrEntry : Nat := 6

/-- The next command of a request: its row is opened or closed, or its column command moves the data. -/
def State.issueReq (s : State) (c sub : Nat) (r : MemReq) : State :=
  let (_, d) := s.reqPos r
  let key := bankKey c d
  let x := s.subch c sub
  match kvFind s.memc.rows key with
  | none =>
    let s := s.setSubch c sub { x with queue := x.queue.map fun y => if y.id = r.id then { y with opened := true } else y }
    (s.setMemc { s.memc with rows := kvInsert s.memc.rows key (d.row, s.tick) }).emit (.dram c sub d.rank cmdAct d.row)
  | some (row, _) =>
    if row ≠ d.row then (s.setMemc { s.memc with rows := kvErase s.memc.rows key }).emit (.dram c sub d.rank cmdPre row)
    else
      let q := (x.queue.filter fun y => y.id != r.id).map fun y => if y.waits = some r.id then { y with waits := none } else y
      let s := s.setSubch c sub { x with queue := q }
      let s := if r.opened then s else s.bump (O.memRowHits c)
      let s := s.setMemc { s.memc with
        rows := kvInsert s.memc.rows key (row, s.tick)
        moved := (s.tick, c, r.len) :: s.memc.moved.filter fun m => decide (s.tick < m.1 + ticksPerSec)
        back := if r.write then s.memc.back else s.memc.back ++ [r] }
      ((s.emit (.dram c sub d.rank (if r.write then cmdWr else cmdRd) d.col)).throttle r.port).admitAll

/-- One REFab of a rank: its rows close and `o` falls by one. -/
def State.refresh (s : State) (c r : Nat) (forced : Bool) : State :=
  let s := s.setMemc { s.memc with rows := kvDrop (fun k => k / 128 == c && k / 32 % 2 == r) s.memc.rows }
  let o := s.obj (refOwed c r) - 1
  let s := s.setObj (refOwed c r) o
  let x := s.rank c r
  let fin := s.tick + nsTicks (s.tsetNow 36)
  let s :=
    if x.conv then
      -- the ticks of the 2× zone start from the completion of the last converted refresh (R301)
      s.setRank c r (if o = 0 then { x with conv := false, forcedEnd := fin, nextRef := fin + s.refi c r } else { x with forcedEnd := fin })
    else if forced then (s.setRank c r { x with forced := false, forcedEnd := fin }).bump (O.memRefForced c)
    else s
  s.emit (.dram c 0 r cmdRef 0)

/-- An owed refresh of rank `r` may go at the opportunistic level (R300). -/
def State.mayRefresh (s : State) (c r : Nat) : Bool :=
  decide (0 < s.obj (refOwed c r)) && decide (s.obj O.memRefHold ≤ s.tolMin) &&
    ([0, 1].all fun sub => (s.subch c sub).queue.all fun x => !(!x.write && s.portUrgent x.port && (s.reqPos x).2.rank == r))

/-- SUBCHANNEL_SCHEDULE (R292, R293): one command of one subchannel. `elig` are the queued requests, and `ref` the ranks, whose next command meets every timing of JESD79-5. -/
def State.schedule (s : State) (c sub : Nat) (elig ref : List Nat) : State :=
  if s.memc.freqRun.isSome then s
  else
    let forced (r : Nat) : Bool := (s.rank c r).forced || (s.rank c r).conv
    match ref.find? forced with
    | some r => s.refresh c r true
    | none =>
      let x := s.subch c sub
      let ok (r : MemReq) : Bool := elig.contains r.id && !forced (s.reqPos r).2.rank
      let wr := s.direction x ok
      let s := s.setSubch c sub { x with writing := wr }
      let cands := x.queue.filter fun r => r.write == wr && r.waits.isNone && ok r
      let level (l : Nat) : Option MemReq := s.choose (cands.filter fun r => s.reqLevel x.queue r == l)
      match [2, 3, 4].findSome? level with
      | some r => s.issueReq c sub r
      | none =>
        match ref.find? fun r => s.mayRefresh c r with
        | some r => s.refresh c r false
        | none =>
          match [6, 7].findSome? level with
          | some r => s.issueReq c sub r
          | none => s

def execSubchannelSchedule (t : Nat) (c : Fin 8) (sub : Fin 2) (elig : List Nat) (ref : List (Fin 2)) (s : State) : Host.Outcome State Fault Refusal :=
  .next ((s.at t).schedule c.val sub.val elig (ref.map (·.val)))

/-- ROW_IDLE_CLOSE (R294): no request for 64 DCTL cycles. -/
def State.rowIdle (s : State) (key : Nat) : State :=
  match kvFind s.memc.rows key with
  | none => s
  | some (row, last) =>
    if s.tick < last + 64 * dctlTicks (s.obj O.memSetpoint) then s
    else (s.setMemc { s.memc with rows := kvErase s.memc.rows key }).emit (.dram (key / 128) (key / 64 % 2) (key / 32 % 2) cmdPre row)

def execRowIdleClose (t : Nat) (c : Fin 8) (sub r : Fin 2) (bg : Fin 8) (bank : Fin 4) (s : State) : Host.Outcome State Fault Refusal :=
  .next ((s.at t).rowIdle (bankKey c.val ⟨sub.val, r.val, bg.val, bank.val, 0, 0⟩))

/-- POWER_DOWN_ENTRY (R294). -/
def State.powerDown (s : State) (c r : Nat) : State :=
  let x := s.rank c r
  let busy := [0, 1].any fun sub => (s.subch c sub).queue.any fun y => (s.reqPos y).2.rank == r
  let exit := ceilDiv (s.tsetNow 34 * dckTicks (s.obj O.memSetpoint) * 16) 165
  if x.pd || busy || s.tick < x.lastReq + 64 * dctlTicks (s.obj O.memSetpoint) || !s.objB O.memPdEnable || s.tolMin ≤ exit + 2000 then s
  else
    let s := s.setMemc { s.memc with rows := kvDrop (fun k => k / 128 == c && k / 32 % 2 == r) s.memc.rows }
    (s.setRank c r { s.rank c r with pd := true }).emit (.dram c 0 r cmdPdEntry 0)

def execPowerDownEntry (t : Nat) (c : Fin 8) (r : Fin 2) (s : State) : Host.Outcome State Fault Refusal := .next ((s.at t).powerDown c.val r.val)

/-! ### Refresh (R299 to R302) -/

/-- The cap of the owed count (R300). -/
def State.refCap (s : State) (c r : Nat) : Nat := if s.obj (refZone c r) = 1 then 2 else 4

/-- The ranks of the ONLINE channels. -/
def State.rankOn (s : State) (c r : Nat) : Bool := s.obj (O.memChState c) == 2 && decide (r < s.rankCount c)

/-- REFRESH_TICK (R300, R301): none while a conversion runs. -/
def State.refreshTick (s : State) (c r : Nat) : State :=
  let x := s.rank c r
  if !s.rankOn c r || x.conv || s.tick < x.nextRef then s
  else
    let s := s.setObj (refOwed c r) (s.obj (refOwed c r) + 1)
    let s := s.setRank c r { x with nextRef := x.nextRef + s.refi c r }
    if s.refCap c r ≤ s.obj (refOwed c r) then s.setRank c r { s.rank c r with forced := true } else s

def execRefreshTick (t : Nat) (c : Fin 8) (r : Fin 2) (s : State) : Host.Outcome State Fault Refusal := .next ((s.at t).refreshTick c.val r.val)

/-- A rank's zone by a read of MR4 (R299, R301, R302); a failed read takes the 2× zone. -/
def State.takeZone (s : State) (c r : Nat) (zone : Option Bool) : State :=
  let s := if zone.isNone then s.raise 152 [c, r] else s
  let hot := zone.getD true
  let was := s.obj (refZone c r) == 1
  let o := s.obj (refOwed c r)
  if hot && !was then
    let s := (s.setObj (refZone c r) 1).raise 144 [c, r]
    if o = 0 then s
    else
      let s := (s.setObj (refOwed c r) (2 * o)).setRank c r { s.rank c r with conv := true, forced := false }
      (s.raise 151 [c, r, o, 2 * o]).bump (O.memRefConversions c)
  else if was && !hot then ((s.setObj (refZone c r) 0).setObj (refOwed c r) (ceilDiv o 2)).raise 145 [c, r]
  else s

/-- MR4_POLL (R299): every 32 µs. -/
def State.mr4Poll (s : State) (c r : Nat) (zone : Option Bool) : State :=
  let x := s.rank c r
  if !s.rankOn c r || s.tick < x.lastMr4 + usTicks 32 then s
  else (s.setRank c r { x with lastMr4 := s.tick }).takeZone c r zone

def execMr4Poll (t : Nat) (c : Fin 8) (r : Fin 2) (zone : Option Bool) (s : State) : Host.Outcome State Fault Refusal :=
  .next ((s.at t).mr4Poll c.val r.val zone)

/-! ### Frequency changes (R306, R307) -/

/-- The set `MEM_TSET_SEL` chooses for a setpoint. -/
def State.setChosen (s : State) (p : Nat) : Nat := boolNat (bit (s.obj O.memTsetSel) p)

/-- Every channel and rank in service. -/
def State.ranksOn (s : State) : List (Nat × Nat) :=
  ((List.range 8).flatMap fun c => [(c, 0), (c, 1)]).filter fun x => s.rankOn x.1 x.2

/-- The time of step 2 in ns: the owed refreshes of the worst rank. -/
def State.owedTime (s : State) : Nat := s.ranksOn.foldl (fun m x => max m (s.obj (refOwed x.1 x.2))) 0 * s.tsetNow 36

/-- The blackout of a change to setpoint `p` in ns (Table 10-7). -/
def State.blackout (s : State) (p : Nat) : Nat := 100 + s.owedTime + 50 + 8000 + s.tsetField p (s.setChosen p) 40 + 200 + 2000

/-- A change ends without completing. -/
def State.freqEnds (s : State) (state outcome status : Nat) : State :=
  (s.setMemc { s.memc with freqReq := none, freqRun := none }).setObjs [(O.memFreqState, state), (O.memFreqResult, Config.freqResult outcome status % 65536)]

/-- A change is before its commit point, step 3: it waits, or its sequence has not reached self-refresh entry. -/
def State.freqOpen (s : State) : Bool :=
  s.memc.freqReq.isSome || match s.memc.freqRun with | some (_, _, commit) => decide (s.tick < commit) | none => false

/-- A write of `MEM_FREQ_TARGET` (R307). -/
def effFreqTarget : Effect := fun _ _ r ref v s =>
  let p := beNat v
  if s.memc.freqRun.isSome && !s.freqOpen then refuse s St.notActive
  else if s.freqOpen && p = s.obj O.memSetpoint then done (((s.store r ref v).freqEnds 0 2 St.aborted).admitAll)
  else
    let s := if s.freqOpen then (s.freqEnds 0 2 St.aborted).admitAll else s
    let bin := (List.range s.memc.n).all fun c => decide (bits (s.obj (O.memChOrg c)) 7 0 ≤ p)
    let valid := s.tsetField p (s.setChosen p) 2 % 2 == 1
    if !bin || !valid then ⟨St.badValue, [], s.freqEnds 3 3 St.badValue⟩
    else if ceilingOf p s.memc.n < s.obj O.slmBwAdmitted then ⟨St.bandwidth, [], s.freqEnds 3 3 St.bandwidth⟩
    else
      let s := s.store r ref v
      done ((s.setMemc { s.memc with freqReq := some s.tick }).setObjs [(O.memFreqState, 1), (O.memFreqBlackout, s.blackout p)])

def execMemFreqTarget (t : Nat) (q : Req) (v : List Byte) (s : State) : Host.Outcome State Fault Refusal :=
  .next ((s.at t).hostWrite q O.memFreqTarget v effFreqTarget)

/-- A write of `MEM_TSET_SEL` (R307): before the commit point of a change it ends it; at or after, it is answered NOT_ACTIVE. -/
def effTsetSel : Effect := fun _ _ r ref v s =>
  if s.freqOpen then done (((s.store r ref v).freqEnds 0 2 St.aborted).admitAll)
  else if s.memc.freqRun.isSome then refuse s St.notActive
  else done (s.store r ref v)

def execMemTsetSel (t : Nat) (q : Req) (v : List Byte) (s : State) : Host.Outcome State Fault Refusal :=
  .next ((s.at t).hostWrite q O.memTsetSel v effTsetSel)

/-- FREQ_CHANGE_START (R306, R307). -/
def State.freqStart (s : State) : State :=
  if s.memc.freqReq.isNone then s
  else
    let p := s.obj O.memFreqTarget
    let b := s.blackout p
    let s := s.setObj O.memFreqBlackout b
    let tol := outputs.all fun n => let t := s.tolerance n; t == 0xFFFFFFFF || decide (b + s.obj O.memFreqMargin < t)
    let quiet := s.ranksOn.all fun x => !(s.rank x.1 x.2).forced && !(s.rank x.1 x.2).conv
    if !tol || !quiet then s
    else (s.setMemc { s.memc with freqReq := none, freqRun := some (s.tick, p, s.tick + nsTicks (100 + s.owedTime)) }).setObj O.memFreqState 2

def execFreqChangeStart (t : Nat) (s : State) : Host.Outcome State Fault Refusal := .next (s.at t).freqStart

/-- FREQ_CHANGE_DONE (R306): all owed refreshes have been issued, every row is closed, the new setpoint and set are in force. -/
def State.freqDone (s : State) : State :=
  match s.memc.freqRun with
  | none => s
  | some (a, p, _) =>
    if s.tick < a + nsTicks (s.obj O.memFreqBlackout) then s
    else
      let s := s.setObjs (s.ranksOn.map fun x => (refOwed x.1 x.2, 0))
      let s := (s.setObj O.memSetpoint p).setMemc { s.memc with tset := s.setChosen p, rows := [], freqEnd := s.tick }
      let s := s.ranksOn.foldl (fun s x => s.setRank x.1 x.2 { s.rank x.1 x.2 with lastMr4 := s.tick, nextRef := s.tick + s.refi x.1 x.2, pd := false }) s
      (((s.freqEnds 0 1 St.ok).showPeak.bump O.memFreqChanges).raise 142 [0]).admitAll

def execFreqChangeDone (t : Nat) (s : State) : Host.Outcome State Fault Refusal := .next (s.at t).freqDone

/-- FREQ_CHANGE_ABANDON (R307). -/
def State.freqAbandon (s : State) : State :=
  match s.memc.freqReq with
  | none => s
  | some a => if s.tick < a + msTicks (s.obj O.memFreqWait) then s else (s.freqEnds 0 4 St.ok).raise 143 [0]

def execFreqChangeAbandon (t : Nat) (s : State) : Host.Outcome State Fault Refusal := .next (s.at t).freqAbandon

/-! ### Other writes and events -/

/-- A write of `MEM_PORT_RATE`: read-only on ports 0 to 3 and 14 (R289). -/
def effPortRate : Effect := fun _ _ r ref v s =>
  let p := refIndex ref - 0x2920
  if p < 4 || p = 14 then refuse s St.readOnly
  else done ((s.setMport p (s.fillPort p)).store r ref v)

/-- A write of `MEM_PORT_BURST`: what is in the bucket stays within its size. -/
def effPortBurst : Effect := fun _ _ r ref v s => done ((s.setMport (refIndex ref - 0x2920) (s.fillPort (refIndex ref - 0x2920))).store r ref v)

/-- A write of `MEM_URGENT` (R290). -/
def effUrgent : Effect := fun _ _ r ref v s =>
  if beNat v < 10000 + 8 * s.tsetNow 36 then refuse s St.badValue else done (s.store r ref v)

/-- A write of `MEM_INTERLEAVE`, `MEM_HASH` or `MEM_BANK_HASH` (R286): the valid bitmap is cleared again. -/
def effMapping : Effect := fun _ _ r ref v s =>
  let s := s.store r ref v
  done (s.setMemc { s.memc with clearing := some s.tick })

def execMemInterleave (t : Nat) (q : Req) (which : Fin 3) (v : List Byte) (s : State) : Host.Outcome State Fault Refusal :=
  .next ((s.at t).hostWrite q (match which with | 0 => O.memInterleave | 1 => O.memHash | 2 => O.memBankHash) v effMapping)

/-- The regions of STARTUP: the log ring, the measurement log, the manager's rings (R405, R499, R519). -/
def State.startupAlloc (s : State) : State :=
  if s.opState ≠ startup || !s.ev.ringAt.isEmpty then s
  else
    let s := match s.alloc 131072 true with | some (es, s) => { s with ev := { s.ev with ringAt := es } } | none => s
    let s := match s.alloc 393216 true with | some (_, s) => s | none => s
    if s.obj O.hierRoleNow ≠ 1 then s
    else match s.alloc ((s.obj O.hierNodeLimit + 1) * 65536) false with | some (es, s) => { s with hier := { s.hier with arena := es } } | none => s

/-- BITMAP_CLEAR_DONE (R324). -/
def State.bitmapCleared (s : State) : State :=
  match s.memc.clearing with
  | none => s
  | some a =>
    let s := { s with mem := [], memc := { s.memc with clearing := none }, intg := { s.intg with valid := [], poison := [], current := [], pshare := [], stale := [], scan := [] } }
    ((s.setObj O.intgClearTime (min 0xFFFFFFFF ((s.tick - a) * 2 / 20625))).raise 160 [0, 0]).startupAlloc

def execBitmapClearDone (t : Nat) (s : State) : Host.Outcome State Fault Refusal := .next (s.at t).bitmapCleared

/-- RDIMM_ALERT (R313). -/
def execRdimmAlert (t : Nat) (c : Fin 8) (s : State) : Host.Outcome State Fault Refusal :=
  .next (((s.at t).bump (O.memAlerts c.val)).raise 150 [c.val])

end Sys2Proof.Machine
end

