-- ==== Sys2Proof/Machine/Handles.lean ====
section
/-! DEFINITION. Handles and the objects they name (R196, R199), and which object an address belongs to (R335). -/

namespace Sys2Proof.Machine

def State.buf (s : State) (i : Nat) : BufSt := kvGet (fun _ => {}) s.bufs i
def State.setBuf (s : State) (i : Nat) (x : BufSt) : State := { s with bufs := kvPut (fun _ => {}) s.bufs i x }

/-- The fields of a handle (Table 07-3). -/
def handleIndex (h : Nat) : Nat := bits h 31 18
def handleGen (h : Nat) : Nat := bits h 17 10
def handleType (h : Nat) : Nat := bits h 9 6
def handleGroomed (h : Nat) : Bool := bit h 5

/-- A handle from its fields. -/
def handleOf (i gen type : Nat) (groomed : Bool) : Nat := i * 2 ^ 18 + gen * 2 ^ 10 + type * 2 ^ 6 + boolNat groomed * 2 ^ 5

/-- The object types (Table 07-3) and the states (Table 07-5). -/
abbrev tyBuffer : Nat := 1
abbrev tyClip : Nat := 2
abbrev tyCache : Nat := 3
abbrev bufFree : Nat := 0
abbrev bufWriting : Nat := 1
abbrev bufReady : Nat := 2
abbrev bufRelease : Nat := 3

/-- The state of a handle index. -/
def State.bufState (s : State) (i : Nat) : Nat := s.obj (O.layBufState i)

/-- Checks 1 and 2 of R199. A handle whose other fields are not those of the object in use is no handle of a buffer or clip. -/
def State.handleFault (s : State) (h : Nat) : Option Nat :=
  let i := handleIndex h
  if i = 0 || s.bufState i == bufFree || handleGen h != (s.buf i).gen then some St.staleHandle
  else if handleType h == tyCache || h != s.obj (O.layBufHandle i) then some St.badHandle
  else none

/-- The offset of address `a` in extents, if it lies in them. -/
def extentOffset : List (Nat × Nat) → Nat → Option Nat
  | [], _ => none
  | (b, n) :: l, a => if b ≤ a && decide (a < b + n) then some (a - b) else (extentOffset l a).map (· + n)

/-- Bytes of one frame (R195). -/
def State.bufFrameBytes (s : State) (i : Nat) : Nat := ceilDiv (s.obj (O.layBufStride i) * s.obj (O.layBufHeight i)) 4096 * 4096

/-- The handle that owns an address, and the frame index of R335; handle 0 outside every allocation. -/
def State.ownerOf (s : State) (a : Nat) : Nat × Nat :=
  match s.bufs.findSome? fun x => (extentOffset x.2.extents a).map fun o => (x.1, o) with
  | none => (0, 0)
  | some (i, o) =>
    let h := s.obj (O.layBufHandle i)
    (h, if handleType h == tyClip then o / max 1 (s.bufFrameBytes i) else 0)

end Sys2Proof.Machine
end

