-- ==== Sys2Proof/Machine/Groom.lean ====
section
/-! DEFINITION. Stored-data integrity and the Groomer (chapter 11): reading under the light code, repairs, poisoning, the correction tracker, coding, the background round,
sweeps and retirement, with the meanings of their commands. What the codes find in a word or page is an operand: no raw sideband is part of any interface (R315). -/

namespace Sys2Proof.Machine

/-- Channel and channel address of a device address, as event detail. -/
def State.where_ (s : State) (a : Nat) : List Nat := let p := s.chan a; [p.1, p.2]

/-- The device address of word `w` of a page. -/
def State.wordAddr (s : State) (p w : Nat) : Nat := s.pageAddr p (8 * w)

/-! ### The correction tracker (R336) -/

/-- The entries of channel `c`. -/
def State.trackOf (s : State) (c : Nat) : List (Nat × TrackEnt) := s.intg.track.filter fun e => e.1 / 256 == c

def State.setTrack (s : State) (k : Nat) (x : TrackEnt) : State := s.setIntg { s.intg with track := kvInsert s.intg.track k x }

/-- The entry that a new word takes: an empty one, or the one of the lowest COUNT + POST, least recently corrected among equals; whether it was evicted. -/
def State.trackSlot (s : State) (c : Nat) : Nat × Bool :=
  let l := s.trackOf c
  match (List.range 256).find? fun i => l.all fun e => e.1 != c * 256 + i with
  | some i => (c * 256 + i, false)
  | none =>
    let worst := l.foldl (fun (m : Option (Nat × TrackEnt)) e =>
      match m with
      | none => some e
      | some b =>
        let x := e.2.count + e.2.post
        let y := b.2.count + b.2.post
        if x < y || (x == y && decide (e.2.at_ < b.2.at_)) then some e else m) none
    ((worst.map (·.1)).getD (c * 256), true)

/-- A page is to be retired, from tick `t` on. -/
def State.queueRetire (s : State) (p : Nat) : State :=
  if s.intg.retireQ.any fun e => e.1 == p then s else s.setIntg { s.intg with retireQ := s.intg.retireQ ++ [(p, s.tick, false)] }

/-- The word at device address `a` has been corrected (R336). -/
def State.corrected (s : State) (a : Nat) : State :=
  let (c, ca) := s.chan a
  let adr := ca / 8 * 8
  let s := s.bump (O.intgCorrected c)
  let last := (s.tick - s.intg.startAt) / ticksPerSec % 4294967296
  let count (s : State) (k : Nat) (x : TrackEnt) : State :=
    let n := min 255 (x.count + 1)
    if x.state = 1 && s.obj O.intgWbThresh ≤ n then
      let s := s.setTrack k { x with count := n, state := 2, last := last, at_ := s.tick }
      s.setIntg { s.intg with wbQ := s.intg.wbQ ++ [a / 8 * 8] }
    else s.setTrack k { x with count := n, last := last, at_ := s.tick }
  match (s.trackOf c).find? fun e => e.2.addr == adr with
  | some (k, x) =>
    if x.state = 1 || x.state = 2 then count s k x
    else if x.state = 3 then
      let n := min 255 (x.post + 1)
      if s.obj O.intgRetireAfter ≤ n then (s.setTrack k { x with post := n, state := 4, last := last, at_ := s.tick }).queueRetire (s.pageOf a)
      else s.setTrack k { x with post := n, last := last, at_ := s.tick }
    else s.setTrack k { x with last := last, at_ := s.tick }
  | none =>
    let (k, evict) := s.trackSlot c
    let s := if evict then s.bump (O.intgTrackEvict c) else s
    count s k ⟨adr, 0, 0, 1, last, s.tick⟩

def State.correctedAll (s : State) (l : List Nat) : State := l.foldl (fun s a => s.corrected a) s

/-- The image of `INTG_TRACKER` (Table 11-4). -/
def State.trackImage (s : State) (c : Nat) : List Byte :=
  (List.range 256).flatMap fun i =>
    match kvFind s.intg.track (c * 256 + i) with
    | none => fill 16 0
    | some x => leBytes 8 x.addr ++ leBytes 1 x.count ++ leBytes 1 x.post ++ leBytes 1 x.state ++ [0] ++ leBytes 4 x.last

/-! ### Poison (R330) and correction on a read (R327, R328) -/

/-- POISON is written into a word; a GROOMED page becomes STALE. -/
def State.poisonWord (s : State) (a : Nat) : State :=
  let y := s.intg
  (s.setIntg { y with
    poison := kvPut (fun _ => false) y.poison (a / 8) true
    current := kvPut (fun _ => false) y.current (s.pageOf a) false }).bump (O.intgPoisoned (s.chan a).1)

/-- A port write to the word has entered its queue after read `r` (R330). -/
def State.writtenSince (s : State) (r : MemReq) (a : Nat) : Bool :=
  s.memc.subs.any fun q => q.2.queue.any fun w => w.write && decide (r.id < w.id) && decide (w.addr < a / 8 * 8 + 8) && decide (a / 8 * 8 < w.addr + w.len)

/-- Uncorrectable words of a read are poisoned, each with E162. -/
def State.poisonRead (s : State) (r : MemReq) (l : List Nat) : State :=
  l.foldl (fun s a => if s.writtenSince r a then s else (s.poisonWord a).raise 162 (s.where_ a)) s

/-- A read is answered: data and poison marks, latency, and the bound of an urgent read (R290). -/
def State.deliver (s : State) (r : MemReq) : State :=
  let p := s.poisonIn r.addr r.len
  let (c, d) := s.reqPos r
  let s := if p.isEmpty then s else s.bump (O.intgPoisonReads c)
  let ns := (s.tick - r.since) * 16 / 165
  let s := s.setObj (O.memPortLatMax r.port) (max (s.obj (O.memPortLatMax r.port)) (min 0xFFFFFFFF ns))
  let extra := (if r.since ≤ (s.rank c d.rank).forcedEnd then 8 * s.tsetNow 36 else 0) + (if r.since ≤ s.memc.freqEnd then s.obj O.memFreqBlackout else 0)
  let s := if r.urgent && decide (2000 + extra < ns) then (s.bump O.memIsoLate).raise 147 [c, r.port] else s
  s.emit (.readData r.port r.addr (s.bytes r.addr r.len) p)

/-- The addresses of the words of a request whose verdict is `v`. -/
def verdictWords (r : MemReq) (verdict : List Nat) (v : Nat) : List Nat :=
  ((List.range ((r.addr + r.len + 7) / 8 - r.addr / 8)).filter fun i => nth verdict i 0 == v).map fun i => 8 * (r.addr / 8 + i)

/-- A metadata word is uncorrectable (R326): the page's valid bits are taken as all ones and its state as STALE. -/
def State.metaError (s : State) (a : Nat) : State :=
  let p := s.pageOf a
  let y := s.intg
  let s := s.setIntg { y with
    valid := (List.range 64).foldl (fun m k => kvPut (fun _ => false) m (s.pageAddr p (64 * k) / 64) true) y.valid
    current := kvPut (fun _ => false) y.current p false }
  (s.bump (O.intgMetaErrors (s.chan a).1)).raise 165 (s.where_ a)

/-- BURST_READ (R327): the oldest read of a port comes back. `verdict` is what the light code finds in each word: 0 clean, 1 corrected, 2 uncorrectable; `metaBad` that the
page's metadata were uncorrectable. -/
def State.burstRead (s : State) (port : Nat) (verdict : List Nat) (metaBad : Bool) : State :=
  match s.memc.back.find? fun r => r.port == port with
  | none => s
  | some r =>
    let s := s.setMemc { s.memc with back := s.memc.back.filter fun x => x.id != r.id }
    let s := if metaBad then s.metaError r.addr else s
    if !s.blockValid r.addr then s.deliver r
    else
      let clean (l : List Nat) : List Nat := l.filter fun a => !s.wordPoisoned a
      let corr := clean (verdictWords r verdict 1)
      let unc := clean (verdictWords r verdict 2)
      let p := s.pageOf r.addr
      if unc.isEmpty then (s.correctedAll corr).deliver r
      else if s.pageGroomed p && s.pageCurrent p then s.setIntg { s.intg with repairs := s.intg.repairs ++ [(p, r, corr, unc)] }
      else ((s.correctedAll corr).poisonRead r unc).deliver r

def execBurstRead (t : Nat) (port : Fin 24) (verdict : List Nat) (metaBad : Bool) (s : State) : Host.Outcome State Fault Refusal :=
  .next ((s.at t).burstRead port.val verdict metaBad)

/-- Write-backs of the blocks of corrected words are queued, each block once (R328, R336). -/
def State.queueBack (s : State) (l : List Nat) : State :=
  s.setIntg { s.intg with wbQ := l.foldl (fun q a => if q.any fun b => b / 64 == a / 64 then q else q ++ [a]) s.intg.wbQ }

/-- PAGE_REPAIR (R328): the oldest repair ends. `corr` are the words of the page corrected by either code, `unc` those left uncorrectable. -/
def State.pageRepair (s : State) (corr unc : List Nat) : State :=
  match s.intg.repairs with
  | [] => s
  | (p, r, _, _) :: rest =>
    let s := s.setIntg { s.intg with repairs := rest }
    if !s.pageCurrent p then s.setMemc { s.memc with back := r :: s.memc.back }
    else
      let at_ (l : List Nat) : List Nat := l.map fun w => s.wordAddr p w
      let s := s.correctedAll (at_ corr)
      if unc.isEmpty then
        (((s.queueBack (at_ corr)).bump (O.intgPageRepairs (pageChan p))).raise 161 (s.where_ (s.pageAddr p 0))).deliver r
      else (s.poisonRead r (at_ unc)).deliver r

def execPageRepair (t : Nat) (corr unc : List (Fin 512)) (s : State) : Host.Outcome State Fault Refusal :=
  .next ((s.at t).pageRepair (corr.map (·.val)) (unc.map (·.val)))

/-! ### Coding a page (R332, R333, R335) -/

/-- The Groomer finds words it cannot correct: they are poisoned, each with E163 (R335). -/
def State.groomPoison (s : State) (l : List Nat) : State :=
  l.foldl (fun s a =>
    if s.wordPoisoned a then s
    else
      let (h, f) := s.ownerOf a
      (s.poisonWord a).raise 163 (s.where_ a ++ [a, h, f, boolNat (s.groomedAt a)])) s

/-- A page is coded (R333). -/
def State.codePage (s : State) (p : Nat) (corr unc : List Nat) : State :=
  let at_ (l : List Nat) : List Nat := l.map fun w => s.wordAddr p w
  let s := (s.correctedAll (at_ corr)).groomPoison (at_ unc)
  let y := s.intg
  (s.setIntg { y with
    valid := (List.range 64).foldl (fun m k => kvPut (fun _ => false) m (s.pageAddr p (64 * k) / 64) true) y.valid
    current := kvPut (fun _ => false) y.current p true
    pshare := kvPut (fun _ => []) y.pshare p (let l := pageShares (s.pageBytes p); if l.all (· == 0) then [] else l)
    stale := y.stale.filter fun e => e.1 != p }).bump (O.intgGroomedPages (pageChan p))

/-- PAGE_SETTLED (R332, R333): the page, settled since before `began`, the tick of the Groomer's first read, is coded; a port write since then is a conflict. -/
def State.pageSettled (s : State) (c p began : Nat) (corr unc : List Nat) : State :=
  let settle := msTicks (s.obj O.intgSettle)
  let mine := s.intg.stale.filter fun e => pageChan e.1 == c
  if !s.objB O.intgGroomEnable || pageChan p != c || s.tick < began then s
  else
    match mine.find? fun e => e.1 == p with
    | none => s
    | some (_, w) =>
      if began < w then s.bump (O.intgConflicts c)
      else if w + settle ≤ began && (mine.find? fun e => decide (e.2 + settle ≤ began)).map (·.1) == some p then s.codePage p corr unc
      else s

def execPageSettled (t : Nat) (c : Fin 8) (page began : Nat) (corr unc : List (Fin 512)) (s : State) : Host.Outcome State Fault Refusal :=
  .next ((s.at t).pageSettled c.val page began (corr.map (·.val)) (unc.map (·.val)))

/-- The GROOMED pages with a valid block, rising (R334). -/
def State.groomPages (s : State) : List Nat :=
  let ps := s.intg.valid.map fun e => s.pageOf (64 * e.1)
  let ps := ps.foldl (fun (l : List (Nat × Unit)) p => kvInsert l p ()) []
  (ps.map (·.1)).filter s.pageGroomed

/-- STALE GROOMED pages with a valid block (`INTG_STALE_PAGES`). -/
def State.stalePages (s : State) : List Nat := s.groomPages.filter fun p => !s.pageCurrent p

/-- STALE_TRACKER_SCAN (R332). -/
def State.staleScan (s : State) (c : Nat) : State :=
  let mine := s.intg.stale.filter fun e => pageChan e.1 == c
  if !kvGet (fun _ => false) s.intg.scan c || 2048 ≤ mine.length then s
  else
    let new := (s.stalePages.filter fun p => pageChan p == c && !(mine.any fun e => e.1 == p)).map fun p => (p, s.tick)
    let room := 4096 - mine.length
    s.setIntg { s.intg with stale := s.intg.stale ++ new.take room, scan := kvPut (fun _ => false) s.intg.scan c (decide (room < new.length)) }

def execStaleTrackerScan (t : Nat) (c : Fin 8) (s : State) : Host.Outcome State Fault Refusal := .next ((s.at t).staleScan c.val)

/-! ### The background round (R334) -/

/-- What a visit does to a page: outcome codes 1 repaired, 2 recoded, 4 counted, and the words corrected and poisoned. -/
def State.visitPage (s : State) (p : Nat) (corr unc : List Nat) (fixed parity : Bool) : State :=
  let c := pageChan p
  let at_ (l : List Nat) : List Nat := l.map fun w => s.wordAddr p w
  if s.pageCurrent p then
    if corr.isEmpty && unc.isEmpty then
      if parity then
        let s := s.setIntg { s.intg with current := kvPut (fun _ => false) s.intg.current p false }
        ((s.staleTouch p).bump (O.intgRecoded c)).bump (O.intgGroomedPages c)
      else s.bump (O.intgGroomedPages c)
    else if unc.isEmpty || fixed then
      let l := at_ (corr ++ unc)
      let s := ((s.correctedAll l).queueBack l).raise 161 (s.where_ (s.pageAddr p 0))
      (if unc.isEmpty then s else s.bump (O.intgPageRepairs c)).bump (O.intgGroomedPages c)
    else ((s.correctedAll (at_ corr)).groomPoison (at_ unc)).bump (O.intgGroomedPages c)
  else if s.intg.stale.any fun e => e.1 == p then s
  else s.codePage p corr unc

/-- A new round starts. -/
def State.newRound (s : State) (at_ : Nat) : State :=
  (s.setIntg { s.intg with roundAt := at_, roundPos := none, roundDone := false, roundOver := false }).setObj O.intgRoundProgress 0

/-- A round ends: entries without a correction during it are cleared (R336). -/
def State.clearTrackers (s : State) : State := s.setIntg { s.intg with track := s.intg.track.filter fun e => decide (s.intg.roundAt ≤ e.2.at_) }

/-- ROUND_VISIT (R334): the next page in ascending order. -/
def State.roundVisit (s : State) (corr unc : List Nat) (fixed parity : Bool) : State :=
  if !s.objB O.intgGroomEnable || s.intg.roundDone then s
  else
    let ps := s.groomPages
    match ps.find? fun p => match s.intg.roundPos with | none => true | some q => decide (q < p) with
    | some p =>
      let s := s.visitPage p corr unc fixed parity
      let s := s.setIntg { s.intg with roundPos := some p }
      s.setObj O.intgRoundProgress ((ps.filter fun q => decide (q ≤ p)).length * 1000 / ps.length)
    | none =>
      let s := (s.setIntg { s.intg with roundDone := true }).setObjs [(O.intgRoundLast, stimeOf s.studio), (O.intgRoundProgress, 1000)]
      if s.intg.roundOver then s.clearTrackers.newRound s.tick else s

def execRoundVisit (t : Nat) (corr unc : List (Fin 512)) (fixed parity : Bool) (s : State) : Host.Outcome State Fault Refusal :=
  .next ((s.at t).roundVisit (corr.map (·.val)) (unc.map (·.val)) fixed parity)

/-- ROUND_END (R334): the period is over. -/
def State.roundEnd (s : State) : State :=
  let fin := s.intg.roundAt + secTicks (s.obj O.intgRound)
  if s.tick < fin || s.intg.roundOver then s
  else if s.intg.roundDone then s.clearTrackers.newRound fin
  else (s.setIntg { s.intg with roundOver := true }).raise 168 [0, 0]

def execRoundEnd (t : Nat) (s : State) : Host.Outcome State Fault Refusal := .next (s.at t).roundEnd

/-! ### Write-back and retirement (R336 to R338) -/

/-- WRITE_BACK (R336): the block of the oldest queued write-back. -/
def State.writeBack (s : State) : State :=
  match s.intg.wbQ with
  | [] => s
  | a :: rest =>
    let (c, ca) := s.chan a
    let s := s.setIntg { s.intg with
      wbQ := rest.filter fun b => b / 64 != a / 64
      track := s.intg.track.map fun e =>
        if e.1 / 256 == c && e.2.addr / 64 == ca / 64 && e.2.state == 2 then (e.1, { e.2 with state := 3, post := 0 }) else e }
    (s.bump (O.intgWritebacks c)).raise 164 [c, ca]

def execWriteBack (t : Nat) (s : State) : Host.Outcome State Fault Refusal := .next (s.at t).writeBack

/-- A spare of channel `c`, if one is free. -/
def State.takeSpare (s : State) (c : Nat) : Option (Nat × State) :=
  let n := kvGet (fun _ => 0) s.intg.sparesUsed c
  if 1024 ≤ n then none
  else some (n, (s.setIntg { s.intg with sparesUsed := kvPut (fun _ => 0) s.intg.sparesUsed c (n + 1) }).setObj (O.intgSparesFree c) (1023 - n))

/-- `INTG_RETIRE_LIST` follows the remap tables (R338). -/
def State.showRemap (s : State) : State :=
  s.setBlob O.intgRetireList (s.intg.remap.flatMap fun e => leBytes 8 (pageChan e.1 * 2 ^ 56 + e.1 % 2 ^ 28))

/-- A page is remapped to a spare. -/
def State.remapPage (s : State) (p spare : Nat) : State :=
  ((s.setIntg { s.intg with remap := kvInsert s.intg.remap p spare }).bump (O.intgRetired (pageChan p))).showRemap

/-- A copy of the page `p` at the head of the queue succeeds, is abandoned by a port write (`hit`), or finds no spare (R337). -/
def State.retireCopy (s : State) (p : Nat) (hit : Bool) : State :=
  let c := pageChan p
  let y := s.intg
  let rest := y.retireQ.filter fun e => e.1 != p
  let mine (e : Nat × TrackEnt) : Bool := e.1 / 256 == c && e.2.addr / 4096 == p % 2 ^ 28 && e.2.state == 4
  if hit then s.setIntg { y with retireQ := rest ++ [(p, s.tick + msTicks (s.obj O.intgSettle), true)] }
  else
    match s.takeSpare c with
    | none =>
      let s := s.setIntg { y with retireQ := rest, track := y.track.map fun e => if mine e then (e.1, { e.2 with state := 3, post := 0 }) else e }
      if y.noSpare.contains p then s else (s.setIntg { s.intg with noSpare := p :: y.noSpare }).raise 167 (s.where_ (s.pageAddr p 0))
    | some (spare, s) =>
      let g := s.pageGroomed p
      let s := s.setIntg { s.intg with
        retireQ := rest, track := y.track.filter fun e => !mine e
        current := kvPut (fun _ => false) y.current p g
        pshare := kvPut (fun _ => []) y.pshare p (if g then (let l := pageShares (s.pageBytes p); if l.all (· == 0) then [] else l) else [])
        stale := if g then y.stale.filter fun e => e.1 != p else y.stale }
      (s.remapPage p spare).raise 166 (s.where_ (s.pageAddr p 0) ++ [spare])

/-- PAGE_RETIRE (R337): the first copy of the oldest page that waits for one. -/
def State.pageRetire (s : State) (hit : Bool) : State :=
  match s.intg.retireQ.find? fun e => !e.2.2 with
  | none => s
  | some (p, _, _) => s.retireCopy p hit

def execPageRetire (t : Nat) (hit : Bool) (s : State) : Host.Outcome State Fault Refusal := .next ((s.at t).pageRetire hit)

/-- RETIRE_RETRY (R337): an abandoned copy is tried again. -/
def State.retireRetry (s : State) (hit : Bool) : State :=
  match s.intg.retireQ.find? fun e => e.2.2 && decide (e.2.1 ≤ s.tick) with
  | none => s
  | some (p, _, _) => (s.bump (O.intgRetireRetries (pageChan p))).retireCopy p hit

def execRetireRetry (t : Nat) (hit : Bool) (s : State) : Host.Outcome State Fault Refusal := .next ((s.at t).retireRetry hit)

/-- The entries of a list of remaps (R338): (channel, page) as page names; none where one is out of range or twice. -/
def State.retireEntries (s : State) : List Byte → Nat → Option (List Nat)
  | _, 0 => some []
  | l, n + 1 =>
    let w := leAt l 0 8
    let c := bits w 63 56
    let pg := w % 2 ^ 32
    let p := c * 2 ^ 28 + pg
    match s.retireEntries (l.drop 8) n with
    | none => none
    | some r =>
      if s.memc.n ≤ c || bits w 55 32 != 0 || (s.chanSize - chanReserve s.chanSize) / 4096 ≤ pg || r.contains p || (kvFind s.intg.remap p).isSome then none
      else some (p :: r)

/-- A write of `INTG_RETIRE_LIST` (R338). -/
def effRetireList : Effect := fun _ _ _ _ v s =>
  match s.retireEntries v (v.length / 8) with
  | none => refuse s St.badValue
  | some ps =>
    if (List.range 8).any fun c => decide (1024 < kvGet (fun _ => 0) s.intg.sparesUsed c + (ps.filter fun p => pageChan p == c).length) then refuse s St.noMemory
    else done (ps.foldl (fun s p => match s.takeSpare (pageChan p) with | some (k, s) => s.remapPage p k | none => s) s)

def execIntgRetireList (t : Nat) (q : Req) (v : List Byte) (s : State) : Host.Outcome State Fault Refusal :=
  .next ((s.at t).hostWrite q O.intgRetireList v effRetireList)

/-! ### Host sweeps (R339) -/

/-- The pages a sweep request names. -/
def State.sweepPages (s : State) (h first count : Nat) : List Nat :=
  if h = 0 then s.groomPages
  else
    let es := (s.buf (handleIndex h)).extents
    let all := es.flatMap fun e => (List.range (e.2 / 4096)).map fun k => s.pageOf (e.1 + 4096 * k)
    let l := all.drop first
    (if count = 0 then l else l.take count).foldl (fun l p => if l.contains p then l else l ++ [p]) []

/-- A write of `INTG_SWEEP`. -/
def effSweep : Effect := fun _ _ _ _ v s =>
  let h := leAt v 4 4
  if leAt v 0 1 ≠ 1 then refuse s St.badValue
  else if s.intg.sweep.isSome then refuse s St.noSlot
  else
    match (if h = 0 then none else s.handleFault h) with
    | some st => refuse s st
    | none =>
      let x : SweepSt := { pages := s.sweepPages h (leAt v 8 4) (leAt v 12 4), since := s.tick }
      done ((s.setIntg { s.intg with sweep := some x }).setObj O.intgSweepState (1 * 2 ^ 24))

def execIntgSweep (t : Nat) (q : Req) (v : List Byte) (s : State) : Host.Outcome State Fault Refusal :=
  .next ((s.at t).hostWrite q O.intgSweep v effSweep)

/-- A sweep ends ABORTED. -/
def effSweepCancel : Effect := fun _ _ _ _ _ s =>
  match s.intg.sweep with
  | none => refuse s St.notActive
  | some _ => done (((s.setIntg { s.intg with sweep := none }).setObj O.intgSweepState (4 * 2 ^ 24 + St.aborted)).raise 170 [0, 0, 4])

def execIntgSweepCancel (t : Nat) (q : Req) (v : List Byte) (s : State) : Host.Outcome State Fault Refusal :=
  .next ((s.at t).hostWrite q O.intgSweepCancel v effSweepCancel)

/-- One page of a sweep, with what the codes find there. -/
def State.sweepPage (s : State) (p : Nat) (v : List Nat × List Nat × Bool × Bool) : State :=
  match s.intg.sweep with
  | none => s
  | some x =>
    let (corr, unc, fixed, parity) := v
    if !s.pageGroomed p || !s.pageUsed p then s.setIntg { s.intg with sweep := some { x with skipped := x.skipped + 1 } }
    else
      let cur := s.pageCurrent p
      let left := !cur && s.intg.stale.any fun e => e.1 == p
      let good := cur && fixed
      let x := { x with
        visited := x.visited + 1
        repaired := x.repaired + boolNat (good && !unc.isEmpty)
        corrected := x.corrected + (if left then 0 else corr.length + (if good then unc.length else 0))
        poisoned := x.poisoned + (if left || good then 0 else unc.length)
        recoded := x.recoded + boolNat (cur && corr.isEmpty && unc.isEmpty && parity) }
      let s := s.visitPage p corr unc fixed parity
      s.setIntg { s.intg with sweep := some x }

/-- The visits of a sweep; a page without findings is clean. -/
def State.sweepAll (s : State) : List Nat → List (List Nat × List Nat × Bool × Bool) → State
  | [], _ => s
  | p :: ps, [] => (s.sweepPage p ([], [], true, false)).sweepAll ps []
  | p :: ps, v :: vs => (s.sweepPage p v).sweepAll ps vs

/-- SWEEP_END (R339): the sweep has visited its pages, and its result is published. -/
def State.sweepEnd (s : State) (visits : List (List Nat × List Nat × Bool × Bool)) : State :=
  match s.intg.sweep with
  | none => s
  | some x =>
    if !s.objB O.intgGroomEnable then s
    else
      let s := s.sweepAll x.pages visits
      let x := s.intg.sweep.getD x
      let ms := (s.tick - x.since) / msTicks 1
      let img := leBytes 4 x.visited ++ leBytes 4 x.repaired ++ leBytes 4 x.corrected ++ leBytes 4 x.poisoned ++ leBytes 4 x.recoded ++ leBytes 4 x.skipped
        ++ leBytes 4 ms ++ leBytes 4 0
      (((s.setIntg { s.intg with sweep := none }).setBlob O.intgSweepResult img).setObj O.intgSweepState (3 * 2 ^ 24)).raise 170 [0, 0, 3]

def execSweepEnd (t : Nat) (visits : List (List (Fin 512) × List (Fin 512) × Bool × Bool)) (s : State) : Host.Outcome State Fault Refusal :=
  .next ((s.at t).sweepEnd (visits.map fun v => (v.1.map (·.val), v.2.1.map (·.val), v.2.2)))

end Sys2Proof.Machine
end

