-- ==== Sys2Proof/Machine/Layers.lean ====
section
/-! DEFINITION. Buffers, clips and layers (chapter 07): allocation, references and frees, flips, playlists, late layers and stale policies, and the layers' part of a
composition start, with the meanings of their commands. -/

namespace Sys2Proof.Machine

def State.lay (s : State) (l : Nat) : LaySt := kvGet (fun _ => {}) s.lays l
def State.setLay (s : State) (l : Nat) (x : LaySt) : State := { s with lays := kvPut (fun _ => {}) s.lays l x }
def State.comp (s : State) (n : Nat) : CompSt := kvGet (fun _ => {}) s.comps n
def State.setComp (s : State) (n : Nat) (x : CompSt) : State := { s with comps := kvPut (fun _ => {}) s.comps n x }

/-- The layers. -/
def allLayers : List Nat := List.range 64

/-! ### References and frees (R198, R199) -/

/-- References on handle index `i`. -/
def State.bufRefs (s : State) (i : Nat) : Nat :=
  let hit (h : Nat) : Nat := boolNat (h != 0 && handleIndex h == i)
  let count (l : List Nat) : Nat := l.foldl (fun a h => a + hit h) 0
  let layers := (allLayers.map fun l =>
    let x := s.lay l
    count (x.queue.map (·.handle)) + hit (s.obj (O.layCurrent l)) + count (x.held.map (·.handle))
      + boolNat (x.play.any fun p => handleIndex p.handle == i)).foldl (· + ·) 0
  let pools := s.net.flows.foldl (fun a x => a + boolNat (x.2.holds.any fun h => handleIndex h == i)) 0
  let jobs := s.carve.jobs.foldl (fun a x => a + hit x.2.src + hit x.2.dst) 0
  let codec := s.codecJobs.foldl (fun a x => a + hit x.2.src + hit x.2.dst) 0
  layers + pools + jobs + codec

/-- Handle index `i` is released: its memory is cleared and given back, and GEN advances (Table 07-5). -/
def State.releaseIndex (s : State) (i : Nat) : State :=
  let x := s.buf i
  let s := (s.freeMem x.extents).setBuf i { gen := if x.gen = 255 then 1 else x.gen + 1 }
  let s := s.setObjs ([O.layBufHandle i, O.layBufState i, O.layBufFormat i, O.layBufWidth i, O.layBufHeight i, O.layBufStride i, O.layBufFrames i,
    O.layBufPeriod i, O.layBufLoaded i, O.layBufWritten i].map fun r => (r, numDefault r))
  s.setObj O.layHandlesFree (s.obj O.layHandlesFree + 1)

/-- The frame index an event of a buffer carries: that of the lowest output that shows frames, or 0. -/
def State.frameNow (s : State) : Nat :=
  match outputs.find? fun n => (s.tg n).running with | some n => (s.tg n).frame | none => 0

/-- DEFERRED_FREE (R199): RELEASE_PENDING buffers whose last reference has dropped are freed, with E101. -/
def State.reap (s : State) : State :=
  let l := s.bufs.filter fun x => s.bufState x.1 == bufRelease && s.bufRefs x.1 == 0
  l.foldl (fun s x =>
    let h := s.obj (O.layBufHandle x.1)
    (s.releaseIndex x.1).raise 101 [h, s.frameNow]) s

/-- A write of `LAY_BUF_FREE` (R199); the handle is one of the index it is written to. -/
def effBufFree : Effect := fun _ _ _ ref v s =>
  let h := beNat v
  let i := refIndex ref - 0x4000
  if handleIndex h ≠ i then refuse s St.staleHandle
  else
    match s.handleFault h with
    | some st => refuse s st
    | none =>
      if s.bufState i = bufWriting then refuse s St.bufferWriting
      else if s.bufRefs i = 0 then done (s.releaseIndex i)
      else ⟨St.freeDeferred, [], s.setObj (O.layBufState i) bufRelease⟩

def execLayBufFree (t : Nat) (q : Req) (i : Fin 16384) (v : List Byte) (s : State) : Host.Outcome State Fault Refusal :=
  .next ((s.at t).hostWrite q (O.layBufFree i.val) v effBufFree)

/-! ### Allocation (R197) -/

/-- A new object in index `i`. -/
def State.newBuf (s : State) (i type : Nat) (groomed : Bool) (format w h frames period : Nat) (es : List (Nat × Nat)) : State :=
  let g := (s.buf i).gen
  let s := s.setBuf i { extents := es, gen := g }
  s.setObjs [(O.layBufHandle i, handleOf i g type groomed), (O.layBufState i, bufReady), (O.layBufFormat i, format), (O.layBufWidth i, w), (O.layBufHeight i, h),
    (O.layBufStride i, strideOf format w), (O.layBufFrames i, frames), (O.layBufPeriod i, period), (O.layBufLoaded i, frames),
    (O.layHandlesFree, s.obj O.layHandlesFree - 1)]

/-- The period of a clip lies between 1/240 and 1 s. -/
def clipPeriodOk (p : Nat) : Bool := decide (0 < ratioDen p) && decide (ratioDen p ≤ 240 * ratioNum p) && decide (ratioNum p ≤ ratioDen p)

/-- A write of `LAY_ALLOC` (R197). The answer carries the new handle. -/
def effAlloc : Effect := fun _ _ _ _ v s =>
  let type := leAt v 0 1
  let format := leAt v 1 1
  let region := leAt v 2 1
  let w := leAt v 4 2
  let h := leAt v 6 2
  let frames := leAt v 8 4
  -- a RATIO has its numerator first (Table 00-5)
  let period := leAt v 16 4 * 4294967296 + leAt v 20 4
  let ok := (type == tyBuffer || type == tyClip) && decide (region ≤ 1) && leAt v 3 1 == 0 && leAt v 12 4 == 0 && decide (64 ≤ w) && decide (w ≤ 16384)
    && decide (1 ≤ h) && decide (h ≤ 16384) && (if type = tyBuffer then frames == 1 else decide (1 ≤ frames) && decide (frames ≤ 1048576) && clipPeriodOk period)
  if !ok then refuse s St.badValue
  else if !fmtOk format then refuse s St.badFormat
  else
    match s.pick (fun i => s.bufState i != bufFree) 1 16383 with
    | (none, _) => refuse s St.noHandle
    | (some i, s1) =>
      match s1.alloc (frames * frameSize format w h) (region == 1) with
      | none => refuse s St.noMemory
      | some (es, s) =>
        let s := s.newBuf i type (region == 1) format w h frames (if type = tyClip then period else numDefault (O.layBufPeriod i)) es
        doneWith s (beBytes 4 (s.obj (O.layBufHandle i)))

def execLayAlloc (t : Nat) (q : Req) (v : List Byte) (s : State) : Host.Outcome State Fault Refusal :=
  .next ((s.at t).hostWrite q O.layAlloc v effAlloc)

/-! ### Flips (R202, R203) -/

/-- The layer a reference in 0x2610 to 0x264F belongs to. -/
def refLayer (ref : Nat) : Nat := refIndex ref - 0x2610

/-- The flip a request spells (Table 07-6). -/
def flipOf (v : List Byte) : Flip := ⟨leAt v 0 4, leAt v 4 4, leAt v 8 4, leAt v 12 4, leAt v 16 8, none⟩

/-- The checks of R202, first failure. A clip handle does not match a layer that takes buffers. -/
def State.flipFault (s : State) (l : Nat) (f : Flip) : Option Nat :=
  let i := handleIndex f.handle
  if 4 ≤ f.flags then some St.badValue
  else if !s.objB (O.layEnable l) || s.obj (O.layKind l) != 0 then some St.layerOff
  else if 4 ≤ (s.lay l).queue.length then some St.queueFull
  else
    match s.handleFault f.handle with
    | some st => some st
    | none =>
      if s.bufState i = bufRelease then some St.bufferRetiring
      else if handleType f.handle ≠ tyBuffer || s.obj (O.layBufFormat i) != s.obj (O.layFormat l)
          || decide (s.obj (O.layBufWidth i) < s.obj (O.laySrcX l) + s.obj (O.laySrcW l))
          || decide (s.obj (O.layBufHeight i) < s.obj (O.laySrcY l) + s.obj (O.laySrcH l)) then some St.flipMismatch
      else none

/-- A flip joins the tail of the layer's queue. -/
def State.queueFlip (s : State) (l : Nat) (f : Flip) : State :=
  let q := (s.lay l).queue ++ [f]
  (s.setLay l { s.lay l with queue := q }).setObj (O.layQueue l) q.length

/-- A write of `LAY_FLIP`. -/
def effFlip : Effect := fun _ _ _ ref v s =>
  let l := refLayer ref
  match s.flipFault l (flipOf v) with
  | some st => refuse s st
  | none => done (s.queueFlip l (flipOf v))

def execLayFlip (t : Nat) (q : Req) (l : Fin 64) (v : List Byte) (s : State) : Host.Outcome State Fault Refusal :=
  .next ((s.at t).hostWrite q (O.layFlip l.val) v effFlip)

/-- LAY_FENCE_DONE (R203): the renderer's signal is the value written. -/
def execLayFenceDone (t : Nat) (q : Req) (l : Fin 64) (v : List Byte) (s : State) : Host.Outcome State Fault Refusal :=
  .next ((s.at t).hostWrite q (O.layFenceDone l.val) v storeEffect)

/-! ### Playlists (R209) -/

/-- The entries of a playlist image. -/
def playEntries (v : List Byte) : List PlayEnt :=
  (List.range (v.length / 16)).map fun j => ⟨leAt v (16 * j) 4, leAt v (16 * j + 4) 4, leAt v (16 * j + 8) 4, leAt v (16 * j + 12) 2, leAt v (16 * j + 14) 2⟩

/-- An entry names a current clip that fits the layer. -/
def State.playOk (s : State) (l : Nat) (e : PlayEnt) : Bool :=
  let i := handleIndex e.handle
  (s.handleFault e.handle).isNone && handleType e.handle == tyClip && s.obj (O.layBufFormat i) == s.obj (O.layFormat l)
    && decide (s.obj (O.laySrcX l) + s.obj (O.laySrcW l) ≤ s.obj (O.layBufWidth i)) && decide (s.obj (O.laySrcY l) + s.obj (O.laySrcH l) ≤ s.obj (O.layBufHeight i))
    && decide (e.inn < e.out) && decide (e.out ≤ s.obj (O.layBufFrames i))

/-- A write of `LAY_PLAYLIST`. -/
def effPlaylist : Effect := fun _ _ r ref v s =>
  let l := refLayer ref
  if v.length % 16 ≠ 0 || v.length < 16 || 512 < v.length then refuse s St.playlistBad
  else if (playEntries v).all (s.playOk l) then done (s.store r ref v) else refuse s St.playlistBad

def execLayPlaylist (t : Nat) (q : Req) (l : Fin 64) (v : List Byte) (s : State) : Host.Outcome State Fault Refusal :=
  .next ((s.at t).hostWrite q (O.layPlaylist l.val) v effPlaylist)

/-- A write of `LAY_PLAY`: the playlist is latched, with references on its clips. A playlist that no longer holds is PLAYLIST_BAD; a clip that takes no new reference, BUFFER_RETIRING. -/
def effPlay : Effect := fun _ _ _ ref v s =>
  let l := refLayer ref
  let es := playEntries (s.blob (O.layPlaylist l))
  if es.isEmpty || !es.all (s.playOk l) then refuse s St.playlistBad
  else if es.any fun e => s.bufState (handleIndex e.handle) == bufRelease && !((s.lay l).play.any fun p => p.handle == e.handle) then refuse s St.bufferRetiring
  else
    let w := beNat v
    done (s.setLay l { s.lay l with play := es, start := if w = 0 then none else some (stimeInstant w), ended := false }).reap

def execLayPlay (t : Nat) (q : Req) (l : Fin 64) (v : List Byte) (s : State) : Host.Outcome State Fault Refusal :=
  .next ((s.at t).hostWrite q (O.layPlay l.val) v effPlay)

/-! ### The values an output composes with (R218) -/

/-- A commit has taken effect elsewhere and output `m` still composes with the old values. -/
def State.oldFor (s : State) (m : Nat) : Option LayCommit :=
  match s.layCommit with
  | some c => if c.taken && c.outs.contains m then some c else none
  | none => none

/-- The number, the bytes of an object as output `m` composes with it. -/
def State.valFor (s : State) (m ref : Nat) : Nat := match s.oldFor m with | some c => (kvFind c.oldVals ref).getD (s.obj ref) | none => s.obj ref
def State.blobFor (s : State) (m ref : Nat) : List Byte := match s.oldFor m with | some c => (kvFind c.oldBlobs ref).getD (s.blob ref) | none => s.blob ref

/-- Values `val` put layer `l` on output `m`, whose planned views are `views` (R192). -/
def layerOn (val : Nat → Nat) (views : List Nat) (m l : Nat) : Bool :=
  val (O.layEnable l) == 1 && (val (O.layOutput l) == m || (val (O.layOutput l) == 0x0F && views.any fun v => bit (val (O.layViews l)) v))

/-- The layers on output `m` as it composes now. -/
def State.layersOn (s : State) (m : Nat) : List Nat := allLayers.filter fun l => layerOn (s.valFor m) (s.cfg m).views m l

/-! ### Taking flips (R204 to R206) -/

/-- Due for frame `k`; its fence is pending; its buffer is ready for composition start `st` (R201, R203). -/
def Flip.due (f : Flip) (k : Nat) : Bool := f.flags % 2 == 1 || decide (f.target ≤ k)
def State.fencePending (s : State) (l : Nat) (f : Flip) : Bool :=
  f.fence != 0 && decide (2147483648 ≤ (s.obj (O.layFenceDone l) + 4294967296 - f.fence) % 4294967296)
def State.bufReadyFor (s : State) (i frame : Nat) (st : Instant) : Bool :=
  (s.bufState i == bufReady || s.bufState i == bufRelease) &&
    match kvFind (s.buf i).wrote frame with
    | none => true
    | some t => decide ((t : Int) + usTicks 200 ≤ s.rootTick st)
def State.eligible (s : State) (l : Nat) (f : Flip) (st : Instant) : Bool := !s.fencePending l f && s.bufReadyFor (handleIndex f.handle) 0 st

/-- Put a queue in place. -/
def State.setQueue (s : State) (l : Nat) (q : List Flip) : State := (s.setLay l { s.lay l with queue := q }).setObj (O.layQueue l) q.length

/-- Flips found due for the first time note the composition start. -/
def markDue (k : Nat) (st : Instant) (q : List Flip) : List Flip := q.map fun f => if f.due k && f.dueAt.isNone then { f with dueAt := some st } else f

/-- The fence timeout of the head flips of layer `l` (R204). -/
def State.expire (s : State) (l k : Nat) (st : Instant) : Nat → State
  | 0 => s
  | fuel + 1 =>
    match (s.lay l).queue with
    | [] => s
    | f :: q =>
      let limit := match f.dueAt with | some d => (d.plus (msTicks (s.obj O.layFenceTimeout))).le st | none => false
      if f.due k && s.fencePending l f && limit then
        (((s.setQueue l q).raise 93 [l, k]).bump (O.layFenceTimeouts l)).expire l k st fuel
      else s

/-- Layer `l` takes flip `f` for frame `k` of output `m`; what it replaces is held (R204, R205). -/
def State.takeFlip (s : State) (m l k : Nat) (f : Flip) : State :=
  let x := s.lay l
  let h : Held := ⟨m, k, s.obj (O.layCurrent l), s.obj (O.layFenceGen l), s.obj (O.layShownFrame l), some f⟩
  (s.setLay l { x with held := x.held ++ [h], kLast := some k }).setObjs [(O.layCurrent l, f.handle), (O.layFenceGen l, f.fence), (O.layShownFrame l, k)]

/-- What a composition start makes of a layer: late, a new source, the same content as before. -/
structure Took where
  late : Bool
  new  : Bool
  same : Bool

/-- FLIP_TAKE for a layer outside any group (R204). -/
def State.flipStep (s : State) (m l k : Nat) (st : Instant) : Took × State :=
  let s := (s.setQueue l (markDue k st (s.lay l).queue)).expire l k st (s.lay l).queue.length
  let x := s.lay l
  let n := (x.queue.takeWhile fun f => f.due k && s.eligible l f st).length
  let s := if x.kLast.isNone then s.setLay l { x with kLast := some k } else s
  let (new, same, s) :=
    match (x.queue.take n).getLast? with
    | none => (false, true, s)
    | some f =>
      let s := (s.setQueue l (x.queue.drop n)).bumpBy (O.laySkipped l) (n - 1)
      (true, f.flags / 2 % 2 == 1, s.takeFlip m l k f)
  let x := s.lay l
  let late := match x.queue.head? with | some f => f.due k | none => false
  let c := s.valFor m (O.layCadence l)
  let starve := decide (0 < c) && decide (x.kLast.getD k + c < k)
  (⟨late || starve, new, same⟩, s)

/-- Superseded heads of a group are dropped, with E094 (R206). -/
def State.supersede (s : State) (ls : List Nat) (k : Nat) : Nat → State
  | 0 => s
  | fuel + 1 =>
    let heads := ls.filterMap fun l => (s.lay l).queue.head?
    let newest := heads.foldl (fun (m : Option Nat) f => match m with | none => some f.ticket | some t => if serialAbove f.ticket t then some f.ticket else some t) none
    match newest with
    | none => s
    | some t =>
      let old (l : Nat) : Bool := match (s.lay l).queue.head? with | some f => serialAbove t f.ticket | none => false
      if ls.any old then
        ((ls.filter old).foldl (fun s l => (s.setQueue l ((s.lay l).queue.drop 1)).raise 94 [l, k]) s).supersede ls k fuel
      else s

/-- GROUP_FLIP (R206): the members `ls` of one atomic group on output `m`. -/
def State.groupStep (s : State) (m k : Nat) (st : Instant) (ls : List Nat) : List (Nat × Took) × State :=
  let s := ls.foldl (fun s l => (s.setQueue l (markDue k st (s.lay l).queue)).expire l k st (s.lay l).queue.length) s
  let s := s.supersede ls k (ls.foldl (fun a l => a + (s.lay l).queue.length) 0)
  let heads := ls.map fun l => (l, (s.lay l).queue.head?)
  let ok := heads.all fun h => match h.2 with | some f => f.due k && s.eligible h.1 f st | none => false
  let tickets := heads.filterMap fun h => h.2.map (·.ticket)
  let go := ok && match tickets with | [] => false | t :: ts => ts.all (· == t)
  heads.foldl (fun (a : List (Nat × Took) × State) h =>
    match h.2 with
    | some f =>
      if go then
        (a.1 ++ [(h.1, ⟨false, true, f.flags / 2 % 2 == 1⟩)], (a.2.setQueue h.1 ((a.2.lay h.1).queue.drop 1)).takeFlip m h.1 k f)
      else (a.1 ++ [(h.1, ⟨f.due k, false, true⟩)], a.2)
    | none => (a.1 ++ [(h.1, ⟨false, false, true⟩)], a.2)) ([], s)

/-! ### Playlists at a composition start (R210) -/

/-- Where instant offset `t` (ticks, as a fraction) falls in the entries: the entry and its frame, or none after the end. `t` is num / den. -/
def State.playAt (s : State) : List PlayEnt → Int → Nat → Option (PlayEnt × Nat)
  | [], _, _ => none
  | e :: l, num, den =>
    let p := s.obj (O.layBufPeriod (handleIndex e.handle))
    let pn := ratioNum p * ticksPerSec
    let pd := ratioDen p
    let span := e.out - e.inn
    -- entry length in ticks: span · LOOPS · pn / pd
    if e.loops ≠ 0 && decide (((span * e.loops * pn * den : Nat) : Int) ≤ num * pd) then
      s.playAt l (num * pd - (span * e.loops * pn * den : Nat)) (den * pd)
    else some (e, e.inn + (num * pd / ((pn * den : Nat) : Int)).toNat % span)

/-- PLAYLIST_ADVANCE for frame `k` of output `m`. -/
def State.playStep (s : State) (l k : Nat) (st bk : Instant) : Took × State :=
  let x := s.lay l
  let idle : Took := ⟨false, false, true⟩
  if x.play.isEmpty then (idle, s)
  else
    let start := x.start.getD st
    let s := s.setLay l { x with start := some start }
    let num := bk.num * start.den - start.num * bk.den
    if num < 0 then (idle, s)
    else
      let show_ (s : State) (e : PlayEnt) (f : Nat) : Took × State :=
        if s.obj (O.layCurrent l) = e.handle && s.obj (O.layClipPos l) = f then (idle, s)
        else if s.bufReadyFor (handleIndex e.handle) f st then
          (⟨false, true, false⟩, s.setObjs [(O.layCurrent l, e.handle), (O.layClipPos l, f), (O.layShownFrame l, k)])
        else (⟨true, false, true⟩, s)
      match s.playAt x.play num (bk.den * start.den) with
      | some (e, f) => show_ s e f
      | none =>
        let s := if x.ended then s else (s.setLay l { s.lay l with ended := true }).raise 95 [l, k]
        match x.play.getLast? with
        | none => (idle, s)
        | some e => if e.flags % 2 = 1 then (⟨false, !x.ended, x.ended⟩, s) else show_ s e (e.out - 1)

/-- The layer shows `LAY_FILL` after its playlist (END_FILL). -/
def LaySt.endFill (x : LaySt) : Bool := x.ended && match x.play.getLast? with | some e => e.flags % 2 == 1 | none => false

/-! ### Late layers and stale policies (R212, R213) -/

/-- The objects latched at a composition start. -/
def State.latchOf (s : State) (l : Nat) : List Nat :=
  [O.layDstX l, O.layDstY l, O.layZ l, O.layOpacity l, O.layFill l, O.layPattern l, O.layStalePolicy l, O.layStaleFrames l, O.layStaleFade l].map s.obj

/-- `LAY_STATE` of a layer on an output. -/
def State.layState (s : State) (l : Nat) (static : Bool) : Nat :=
  let x := s.lay l
  if !s.objB (O.layEnable l) then 0 else if x.stale.isSome then 3 else if x.late then 2 else if static then 4 else 1

/-- The outcome of a composition start for layer `l` in frame `k`: late counts, stale entry and leave, the latch; whether CHG is due (R207). -/
def State.layAccount (s : State) (l k : Nat) (bk : Instant) (o : Took) : Bool × State :=
  let x := s.lay l
  let new := s.latchOf l
  let moved := decide (new ≠ x.latch)
  let s := s.setLay l { x with latch := new, quiet := if moved || o.new then 0 else x.quiet + 1, late := o.late }
  let (left, s) :=
    if o.new && x.stale.isSome then (true, (s.setLay l { s.lay l with stale := none }).raise 92 [l, k]) else (false, s)
  if o.late then
    let s := (s.bump (O.layLate l)).runUp (O.layLateRun l)
    let s := if x.late then s else s.raise 90 [l, k]
    if (s.lay l).stale.isNone && s.obj (O.layLateRun l) = s.obj (O.layStaleFrames l) then
      (true, (s.setLay l { s.lay l with stale := some bk }).raise 91 [l, k])
    else (moved || left || (o.new && !o.same), s)
  else (moved || left || (o.new && !o.same), s.setObj (O.layLateRun l) 0)

/-- Effective opacity as a fraction (R212, FADE_OUT). -/
def State.opacity (s : State) (l : Nat) (bk : Instant) : Nat × Nat :=
  let o := s.obj (O.layOpacity l)
  match (s.lay l).stale with
  | some b =>
    if s.obj (O.layStalePolicy l) = 1 then
      let fade := msTicks (s.obj (O.layStaleFade l))
      -- elapsed = n / d ticks
      let n := (bk.num * b.den - b.num * bk.den).toNat
      let d := bk.den * b.den
      (o * (fade * d - n), 65535 * fade * d)
    else (o, 65535)
  | none => (o, 65535)

/-- What layer `l` contributes to output `m`. -/
def State.shot (s : State) (m l : Nat) (bk : Instant) (changed : Bool) : Shot :=
  let v (r : Nat) : Nat := s.valFor m r
  let x := s.lay l
  let kind := v (O.layKind l)
  let sub := x.stale.isSome && s.obj (O.layStalePolicy l) == 2
  let op := s.opacity l bk
  let static := kind != 1 && decide (s.obj O.layStaticFrames ≤ x.quiet) && !(x.stale.isSome && s.obj (O.layStalePolicy l) == 1)
  { layer := l, views := v (O.layViews l), z := s.obj (O.layZ l), dstX := s.objI (O.layDstX l), dstY := s.objI (O.layDstY l), dstW := v (O.layDstW l), dstH := v (O.layDstH l)
    srcX := v (O.laySrcX l), srcY := v (O.laySrcY l), srcW := v (O.laySrcW l), srcH := v (O.laySrcH l)
    kind := if kind = 3 then 2 else if kind = 2 || sub || (kind == 1 && x.endFill) then 1 else 0
    handle := s.obj (O.layCurrent l), frame := if kind = 1 then s.obj (O.layClipPos l) else 0
    prev := match x.held.find? fun h => h.output == m with | some h => h.handle | none => 0
    format := v (O.layFormat l), encoding := v (O.layEncoding l), alphaMode := v (O.layAlphaMode l), filter := v (O.layScaleFilter l), blend := v (O.layBlend l)
    opNum := op.1, opDen := op.2, fill := s.obj (O.layFill l), pattern := s.obj (O.layPattern l), changed := changed, static := static, fence := s.obj (O.layFenceGen l) }

/-- Insert by LAY_Z, then layer number (R193). -/
def insertShot (x : Shot) : List Shot → List Shot
  | [] => [x]
  | y :: l => if x.z < y.z then x :: y :: l else y :: insertShot x l

/-- The layers of output `m` at the composition start of frame `k`: flips and playlists outside and inside groups, then the accounts, then the frame's layers. `sysTake` gives a
layer's outcome where a system group decides it (R415). -/
def State.layersStep (s : State) (m k : Nat) (st bk : Instant) (sysTake : Nat → Option Bool) : State :=
  let ls := s.layersOn m
  let kind (l : Nat) : Nat := s.valFor m (O.layKind l)
  let group (l : Nat) : Nat := if kind l = 0 then s.valFor m (O.layGroup l) else 0
  let groups := ((ls.map group).filter (· != 0)).eraseDups
  let (outs, s) := groups.foldl (fun (a : List (Nat × Took) × State) g =>
    let mine := ls.filter fun l => group l == g && (sysTake l).isNone
    if mine.isEmpty then a else let (o, s) := a.2.groupStep m k st mine; (a.1 ++ o, s)) ([], s)
  let (outs, s) := ls.foldl (fun (a : List (Nat × Took) × State) l =>
    match sysTake l with
    | some true =>
      match (a.2.lay l).queue with
      | f :: q => (a.1 ++ [(l, ⟨false, true, f.flags / 2 % 2 == 1⟩)], (a.2.setQueue l q).takeFlip m l k f)
      | [] => (a.1 ++ [(l, ⟨false, false, true⟩)], a.2)
    | some false =>
      let due := match (a.2.lay l).queue.head? with | some f => f.due k | none => false
      (a.1 ++ [(l, ⟨due, false, true⟩)], a.2)
    | none =>
      if group l ≠ 0 then a
      else
        match kind l with
        | 0 => let (o, s) := a.2.flipStep m l k st; (a.1 ++ [(l, o)], s)
        | 1 => let (o, s) := a.2.playStep l k st bk; (a.1 ++ [(l, o)], s)
        | _ => (a.1 ++ [(l, ⟨false, false, true⟩)], a.2)) (outs, s)
  let (shots, s) := outs.foldl (fun (a : List Shot × State) o =>
    let (chg, s) := a.2.layAccount o.1 k bk o.2
    (insertShot (s.shot m o.1 bk chg) a.1, s)) ([], s)
  let s := shots.foldl (fun s x => s.setObj (O.layState x.layer) (s.layState x.layer x.static)) s
  (s.setComp m { s.comp m with scene := shots }).reap

/-- The composition of frame `k` of output `m` is complete: what it held is released (R205). -/
def State.releaseHeld (s : State) (m k : Nat) : State :=
  (allLayers.foldl (fun s l =>
    let x := s.lay l
    if x.held.any fun h => h.output == m && h.frame == k then s.setLay l { x with held := x.held.filter fun h => !(h.output == m && h.frame == k) } else s) s).reap

/-- The composition of frame `k` of output `m` is abandoned (R205): every flip taken for it returns to the head of its queue, the layer shows its held source again and counts late. -/
def State.restoreLayers (s : State) (m k : Nat) (bk : Instant) : State :=
  (allLayers.foldl (fun s l =>
    let x := s.lay l
    match x.held.find? fun h => h.output == m && h.frame == k && h.flip.isSome with
    | none => s
    | some h =>
      let s := match h.flip with | some f => s.setQueue l (f :: x.queue) | none => s
      let s := s.setLay l { s.lay l with held := x.held.filter fun y => !(y.output == m && y.frame == k) }
      let s := s.setObjs [(O.layCurrent l, h.handle), (O.layFenceGen l, h.fence), (O.layShownFrame l, h.shown)]
      (s.layAccount l k bk ⟨true, false, true⟩).2) s).reap

/-- At the commit point of a timing commit every explicit TARGET on a layer of output `m` becomes ASAP (R208), and cadences start again. -/
def State.targetsAsap (s : State) (m : Nat) : State :=
  (s.layersOn m).foldl (fun s l =>
    let x := s.lay l
    s.setLay l { x with queue := x.queue.map (fun f => { f with flags := setBit f.flags 0 }), kLast := none }) s

end Sys2Proof.Machine
end

