-- ==== Sys2Proof/Machine/Measure.lean ====
section
/-! DEFINITION. The measurement registers and their log (R519, Table 19-3), and the customer key slots as other units ask for them (R522). -/

namespace Sys2Proof.Machine

/-- Register `i` of M0 to M7. -/
def State.meas (s : State) (i : Nat) : List Byte := slice (padTo 512 (s.blob O.secMeas)) (64 * i) 64

/-- An entry of the measurement log. -/
def measEntry (reg kind slot rollback version time : Nat) (d : List Byte) : List Byte :=
  leBytes 1 reg ++ leBytes 1 kind ++ leBytes 1 slot ++ leBytes 1 rollback ++ leBytes 4 version ++ leBytes 12 time ++ fill 4 0 ++ padTo 64 d ++ fill 8 0

/-- Studio time is valid once a source or the host has given it (R39). -/
def State.timeKnown (s : State) : Bool := s.obj O.timeState != 0

/-- An extension of register `reg` with digest `d` (R519); a full log drops the entry. -/
def State.extend (s : State) (reg kind slot rollback version : Nat) (d : List Byte) : State :=
  let m := overwrite (padTo 512 (s.blob O.secMeas)) (64 * reg) (shake256 (s.meas reg ++ d) 64)
  let s := s.setBlob O.secMeas m
  let n := s.obj O.secLogCount
  if 4096 ≤ n then { s with sec := { s.sec with truncated := true } }
  else
    (s.setBlob O.secLog (s.blob O.secLog ++ measEntry reg kind slot rollback version (if s.timeKnown then stimeOf s.studio else 0) d)).setObj O.secLogCount (n + 1)

/-- Key slot `k` may sign: 0 is the vendor's, 1 to 4 when ENROLLED. -/
def State.keyEnrolled (s : State) (k : Nat) : Bool := k == 0 || (decide (k ≤ 4) && bits (s.obj O.secKeyState) (2 * k - 1) (2 * k - 2) == 1)

/-- The public key of a slot. -/
def State.keyOf (s : State) (k : Nat) : List Byte := if k = 0 then Config.vendorKey else slice (s.blob (O.secKey k)) 8 1793

end Sys2Proof.Machine
end

