-- ==== Sys2Proof/Machine/Carve.lean ====
section
/-! DEFINITION. The Carve block up to its engines (chapter 08): cluster memory, the Piste header, kernels, which cluster serves which view, and the queues that tiles wait in. -/

namespace Sys2Proof.Machine

def State.setCarve (s : State) (x : CarveSt) : State := { s with carve := x }
def State.cluster (s : State) (c : Nat) : ClusterSt := kvGet (fun _ => {}) s.carve.clusters c
def State.setCluster (s : State) (c : Nat) (x : ClusterSt) : State := s.setCarve { s.carve with clusters := kvPut (fun _ => {}) s.carve.clusters c x }
def State.engine (s : State) (e : Nat) : Eng := kvGet (fun _ => {}) s.carve.engines e
def State.setEngine (s : State) (e : Nat) (x : Eng) : State := s.setCarve { s.carve with engines := kvPut (fun _ => {}) s.carve.engines e x }

/-- The states of a cluster (Table 08-15). -/
abbrev clOnline : Nat := 0
abbrev clDraining : Nat := 1
abbrev clOffline : Nat := 2
abbrev clTesting : Nat := 3
abbrev clFaulted : Nat := 4

def allClusters : List Nat := List.range 16
def State.clState (s : State) (c : Nat) : Nat := s.obj (O.crvClState c)
def State.onlineClusters (s : State) : List Nat := allClusters.filter fun c => s.clState c == clOnline
def engineCluster (e : Nat) : Nat := e / 64
def clusterEngines (c : Nat) : List Nat := (List.range 64).map fun i => 64 * c + i

/-- Engines online and their capacity: 1,718.75 M cycles a second each (Table 08-14). -/
def State.countEngines (s : State) : State :=
  let n := 64 * s.onlineClusters.length
  s.setObjs [(O.crvEnginesOnline, n), (O.crvCapacity, n * 171875 / 100)]

/-! ### The Piste header (R228, R229) -/

def Tile.tseq (t : Tile) : Nat := (t.ty * 128 + t.tx) % 65536

/-- Header bits [255:16] as a number. -/
def Tile.headerTop (t : Tile) : Nat :=
  1 * 2 ^ 236 + t.output % 4 * 2 ^ 234 + t.view % 8 * 2 ^ 231 + boolNat t.chg * 2 ^ 230 + boolNat t.poison * 2 ^ 229 + boolNat t.redisp * 2 ^ 228 + t.prio % 4 * 2 ^ 226
    + t.layerMask % 2 ^ 64 * 2 ^ 162 + t.frame % 65536 * 2 ^ 146 + t.fence % 2 ^ 32 * 2 ^ 114 + t.tx % 512 * 2 ^ 105 + t.ty % 512 * 2 ^ 96 + t.format % 256 * 2 ^ 88
    + t.comp % 4 * 2 ^ 86 + t.cset % 256 * 2 ^ 78 + t.chain % 256 * 2 ^ 70 + t.stage % 16 * 2 ^ 66 + t.tseq * 2 ^ 50 + t.cluster % 16 * 2 ^ 39 + t.engine % 64 * 2 ^ 33
    + t.cls % 4 * 2 ^ 31

/-- The 256-bit header with its HCRC. -/
def Tile.header (t : Tile) : Nat := t.headerTop * 65536 + crc 16 0x1021 0xFFFF (beBytes 30 t.headerTop)

/-- Header word `i`; word 0 is bits [255:224]. -/
def Tile.word (t : Tile) (i : Nat) : Nat := t.header / 2 ^ (224 - 32 * i) % 2 ^ 32

/-- An event of Table 08-16 about a tile. -/
def State.raiseTile (s : State) (e c eng kernel : Nat) (t : Tile) : State := s.raise e [c, eng, kernel, t.word 0, t.word 1]

/-- An event about a cluster or a kernel, without a tile. -/
def State.raiseCarve (s : State) (e c kernel : Nat) : State := s.raise e [c, 0, kernel, 0, 0]

/-! ### Kernels (R247 to R252) -/

def State.kernel? (s : State) (id : Nat) : Option Kernel := s.carve.kernels.find? fun k => k.id == id

/-- The kernel identifiers of a chain. -/
def chainOf (b : List Byte) : List Nat := (List.range (b.length / 2)).map fun i => leAt b (2 * i) 2

/-- Payload formats (Table 08-3); LAYER has the formats 0x10 to 0x5F. -/
abbrev fmtPatch : Nat := 1
abbrev fmtWork : Nat := 2
abbrev fmtDrive : Nat := 3
abbrev fmtFrag : Nat := 4
abbrev fmtLayer : Nat := 0x10
def isLayer (f : Nat) : Bool := decide (0x10 ≤ f) && decide (f ≤ 0x5F)

/-- Insert an interval by its start. -/
def insertIv (x : Nat × Nat) : List (Nat × Nat) → List (Nat × Nat)
  | [] => [x]
  | y :: l => if x.1 < y.1 then x :: y :: l else y :: insertIv x l

/-- The lowest place of `need` units in [0, cap) beside intervals (start, end). -/
def firstFit (cap need : Nat) (used : List (Nat × Nat)) : Option Nat :=
  if need = 0 then some 0
  else ((gaps 0 cap (used.foldl (fun l x => insertIv x l) [])).find? fun g => decide (need ≤ g.2 - g.1)).map (·.1)

/-- Space for kernels in CODE and PARAM; the last 1 KiB of PARAM holds the correction matrices. -/
def codeSize : Nat := 0x40000
def paramSize : Nat := 0x60000 - 0x400
def State.codeUsed (s : State) : List (Nat × Nat) := s.carve.kernels.map fun k => (k.codeAt, k.codeAt + k.code.length)
def State.paramUsed (s : State) : List (Nat × Nat) := (s.carve.kernels.filter fun k => !k.param.isEmpty).map fun k => (k.paramAt, k.paramAt + k.param.length)
def State.codeFree (s : State) : Nat := codeSize - s.carve.kernels.foldl (fun a k => a + k.code.length) 0

/-- A kernel takes a slot and its places; none where there is no room (R248, check 5). -/
def State.placeKernel (s : State) (k : Kernel) : Option State :=
  if 32 ≤ s.carve.kernels.length then none
  else
    match firstFit codeSize k.code.length s.codeUsed, firstFit paramSize k.param.length s.paramUsed with
    | some c, some p => some (s.setCarve { s.carve with kernels := s.carve.kernels ++ [{ k with codeAt := c, paramAt := p }] })
    | _, _ => none

/-- The vendor kernels (R252, Table 08-12): identifier, class, formats, WCET, apron, job scale. -/
def vendorKernels : List Kernel :=
  [(0x0001, 1, fmtPatch, fmtWork, 5120, 1, 0), (0x0002, 1, fmtPatch, fmtWork, 15360, 2, 0), (0x0010, 1, fmtWork, fmtDrive, 15360, 0, 0),
   (0x0012, 2, fmtLayer, fmtWork, 3072, 0, 0), (0x0020, 1, fmtDrive, fmtFrag, 3072, 0, 0), (0x0021, 1, fmtDrive, fmtFrag, 15360, 0, 0),
   (0x0030, 4, fmtLayer, fmtLayer, 4096, 0, 2)].map fun x =>
    { id := x.1, version := Config.kernelVersion x.1, wcet := x.2.2.2.2.1, inFmt := x.2.2.1, outFmt := x.2.2.2.1, cls := x.2.1, keySlot := 0, apron := x.2.2.2.2.2.1,
      jobScale := x.2.2.2.2.2.2, codeAt := 0, code := Config.kernelCode x.1, paramAt := 0, param := Config.kernelParam x.1 }

/-- A payload format that a kernel header may name. -/
def fmtKnown (f : Nat) : Bool := (decide (1 ≤ f) && decide (f ≤ 4)) || isLayer f

/-- Check 1 of R248: the header of Table 08-10 and the lengths. -/
def kernelHeaderOk (img : List Byte) : Bool :=
  let f (o n : Nat) : Nat := leAt img o n
  let id := f 4 2
  let job := bit (f 22 1) 2
  decide (64 ≤ img.length) && f 0 4 == 0x4B565243 && id != 0 && id != 0xFFFF && f 8 4 % 8 == 0 && decide (8 ≤ f 8 4) && decide (f 8 4 ≤ 65536) && decide (f 12 4 ≤ 16384)
    && fmtKnown (f 20 1) && fmtKnown (f 21 1) && decide (f 22 1 ≤ 7) && decide (f 23 1 ≤ 4) && decide (f 24 1 ≤ 8) && (f 24 1 == 0 || f 20 1 == fmtPatch)
    && (if job then f 25 1 == 1 || f 25 1 == 2 else f 25 1 == 0) && (slice img 26 38).all (· == 0) && img.length == 64 + f 8 4 + f 12 4 + 1280

/-- The kernel an image holds. -/
def kernelOf (img : List Byte) : Kernel :=
  let f (o n : Nat) : Nat := leAt img o n
  { id := f 4 2, version := f 6 2, wcet := f 16 4, inFmt := f 20 1, outFmt := f 21 1, cls := f 22 1, keySlot := f 23 1, apron := f 24 1, jobScale := f 25 1
    codeAt := 0, code := slice img 64 (f 8 4), paramAt := 0, param := slice img (64 + f 8 4) (f 12 4) }

/-- The signature of a kernel image (R247). -/
def State.kernelSigned (s : State) (img : List Byte) (k : Kernel) : Bool :=
  let n := 64 + k.code.length + k.param.length
  Config.falconVerify (s.keyOf k.keySlot) (shake256 (img.take n) 64) (img.drop n)

/-- The checks of R248 in order, and the installation: the status, and the state. -/
def State.installKernel (s : State) (img : List Byte) : Nat × State :=
  let k := kernelOf img
  let no (st : Nat) : Nat × State := (st, (s.setObj O.crvKernelResult (st * 65536 + k.id)).raiseCarve 117 0 k.id)
  if !kernelHeaderOk img then no St.badImage
  else if !s.keyEnrolled k.keySlot || (k.keySlot == 0) != decide (k.id ≤ 0x7FFF) then no St.noKey
  else if !s.kernelSigned img k then no St.signature
  else if (s.kernel? k.id).isSome then no St.kernelExists
  else
    match s.placeKernel k with
    | none => no St.noMemory
    | some s =>
      let s := s.extend 4 0x10 k.keySlot 0 k.version (shake256 (img.take (64 + k.code.length + k.param.length)) 64)
      (St.ok, (s.setObj O.crvKernelResult k.id).raiseCarve 116 0 k.id)

/-- `CRV_KERNEL_LIST`: 32 entries of 16 bytes. -/
def State.kernelList (s : State) : List Byte :=
  padTo 512 (s.carve.kernels.flatMap fun k => leBytes 2 k.id ++ leBytes 2 k.version ++ leBytes 4 k.wcet ++ leBytes 4 k.code.length ++ leBytes 1 k.cls ++ leBytes 1 k.keySlot ++ [0, 0])

/-- The chains in force and staged, and those that frames in production or a pending commit still use (R249). -/
def State.chainsNamed (s : State) : List Nat :=
  let refs := O.crvChainIngest :: outputs.map fun m => O.crvChain m
  let own := refs.flatMap fun r => chainOf (s.blob r) ++ chainOf (s.blob (staged r))
  let held := match s.layCommit with
    | none => []
    | some c => (c.blobs ++ c.oldBlobs).flatMap fun x => if refs.contains x.1 then chainOf x.2 else []
  own ++ held ++ outputs.flatMap fun m => (s.comp m).chain

/-- A write of `CRV_KERNEL_REMOVE` (R249). A kernel that is not installed is no value of the object. -/
def effKernelRemove : Effect := fun _ _ _ _ v s =>
  let id := beNat v
  if (s.kernel? id).isNone then refuse s St.badValue
  else if s.chainsNamed.contains id || s.carve.jobs.any (fun j => j.2.kernel == id) then refuse s St.kernelInUse
  else done (s.setCarve { s.carve with kernels := s.carve.kernels.filter fun k => k.id != id })

def execCrvKernelRemove (t : Nat) (q : Req) (v : List Byte) (s : State) : Host.Outcome State Fault Refusal :=
  .next ((s.at t).hostWrite q O.crvKernelRemove v effKernelRemove)

/-! ### Cluster memory (R223) -/

/-- The two LUT slots, and the place of the correction matrix of an output for a frame. -/
def lutAddr (slot : Nat) : Nat := if slot = 0 then 0x01040000 else 0x010B0000
def lutBytes : Nat := 431244
def matrixAddr (m k : Nat) : Nat := 0x01120000 + paramSize + (2 * m + k % 2) * 128

/-- The slot of the newest accepted LUT of a view, and the image in the other slot (R226). -/
def State.lutSlotOf (s : State) (v : Nat) : Nat × List Byte := (kvFind s.carve.lutSlot v).getD (0, [])

/-- The slot that the colour set of output `m` uses for view `v`: the other one while the newest LUT is not yet in force there. -/
def State.lutSlotFor (s : State) (m v : Nat) : Nat :=
  let n := (s.lutSlotOf v).1
  if (s.col m).lutPend.contains v then 1 - n else n

/-- Tiles that a cluster holds: queued and running. -/
def State.held (s : State) (c : Nat) : List Tile :=
  (s.cluster c).queue ++ (clusterEngines c).filterMap fun e => (s.engine e).run.map (·.tile)

/-- The byte at a cluster address outside CODE. -/
def State.clusterByte (s : State) (c a : Nat) : Byte :=
  let v := s.obj (O.crvClView c)
  let free := Config.clusterByte c a s.carve.nextTile
  if 0x01040000 ≤ a && a < 0x01120000 then
    let (slot, other) := s.lutSlotOf v
    let img (k : Nat) : List Byte := if k = slot then kvGet (fun _ => []) s.lutAcc v else other
    if a < 0x01040000 + lutBytes then nth (img 0) (a - 0x01040000) 0
    else if 0x010B0000 ≤ a && a < 0x010B0000 + lutBytes then nth (img 1) (a - 0x010B0000) 0
    else free
  else if a < 0x01180000 then
    let o := a - 0x01120000
    match s.carve.kernels.find? fun k => decide (k.paramAt ≤ o) && decide (o < k.paramAt + k.param.length) with
    | some k => nth k.param (o - k.paramAt) 0
    | none =>
      if paramSize ≤ o then
        let j := (o - paramSize) / 128
        let m := j / 2
        let lead := s.slm (s.leadOf m)
        let img := if lead.composing.getD 0 % 2 = j % 2 then s.blob (O.colMatrix m) else (s.comp m).lastMatrix
        nth img ((o - paramSize) % 128) free
      else free
  else
    let o := a - 0x01180000
    match (s.held c).find? fun t => decide (t.page * 4096 ≤ o) && decide (o < (t.page + t.pages) * 4096) with
    | some t => nth t.input (o - t.page * 4096) free
    | none => free

/-- The instruction word at a CODE address; where no kernel lies the words are zero. -/
def State.codeWord (s : State) (a : Nat) : Nat :=
  let o := a - 0x01000000
  match s.carve.kernels.find? fun k => decide (k.codeAt ≤ o) && decide (o < k.codeAt + k.code.length) with
  | some k => leAt k.code (o - k.codeAt) 8
  | none => 0

/-! ### Which cluster serves which view (R225) -/

/-- The values of a list of (key, weight): the weight of a key. -/
def weightOf (w : List (Nat × Nat)) (v : Nat) : Nat := (kvFind w v).getD 0

/-- How many of `n` clusters each view in use gets: one, and its share of the rest by largest remainder, ties to the lower view. -/
def clusterShares (n : Nat) (w : List (Nat × Nat)) : List (Nat × Nat) :=
  let extra := n - w.length
  let total := w.foldl (fun a x => a + x.2) 0
  if total = 0 then w.zipIdx.map fun x => (x.1.1, if x.2 = 0 then 1 + extra else 1)
  else
    let given := w.foldl (fun a x => a + extra * x.2 / total) 0
    let rem (x : Nat × Nat) : Nat := extra * x.2 % total
    let before (x y : Nat × Nat) : Bool := decide (rem y < rem x) || (rem x == rem y && decide (x.1 < y.1))
    w.map fun x =>
      let rank := (w.filter fun y => before y x).length
      (x.1, 1 + extra * x.2 / total + boolNat (decide (rank < extra - given)))

/-- The views of the online clusters, in ascending view order. -/
def clusterViews (shares : List (Nat × Nat)) : List Nat := shares.flatMap fun x => List.replicate x.2 x.1

/-- A view is in use since the last accepted admission; before any, view 0 is. -/
def State.viewWeights (s : State) : List (Nat × Nat) := if s.carve.demands.isEmpty then [(0, 0)] else s.carve.demands

/-- A cluster that is to change view and holds no tile. -/
def State.mayJoin (s : State) (c : Nat) : Bool := (s.cluster c).next.isSome && (s.held c).isEmpty && s.clState c == clOnline

/-- Clusters that are to change view and hold no tile load the LUTs of the new view and join it, with E119; the last cluster of a view in use stays until another has joined. -/
def State.settle (s : State) : State :=
  let on := s.onlineClusters
  let ready := on.filter s.mayJoin
  let view (c : Nat) : Nat := s.obj (O.crvClView c)
  let free (c : Nat) : Bool :=
    (kvFind s.viewWeights (view c)).isNone || on.any fun d => d != c && ((view d == view c && !ready.contains d) || (ready.contains d && (s.cluster d).next == some (view c)))
  (ready.filter free).foldl (fun s c =>
    match (s.cluster c).next with
    | none => s
    | some v =>
      let s := (s.setCluster c { s.cluster c with next := none }).setObj (O.crvClView c) v
      let s := s.setCarve { s.carve with unserved := s.carve.unserved.filter (· != v) }
      s.raiseCarve 119 c 0) s

/-- A cluster is to serve view `v`. -/
def State.giveView (s : State) (c v : Nat) : State :=
  s.setCluster c { s.cluster c with next := if s.obj (O.crvClView c) = v then none else some v }

/-- The assignment of R225 for the views in use and their demands. -/
def State.assignClusters (s : State) (weights : List (Nat × Nat)) : State :=
  let s := s.setCarve { s.carve with demands := weights }
  let on := s.onlineClusters
  (((on.zip (clusterViews (clusterShares on.length s.viewWeights))).foldl (fun s x => s.giveView x.1 x.2) s)).settle

/-- The clusters that serve view `v`, or are to. -/
def State.serving (s : State) (v : Nat) : List Nat :=
  s.onlineClusters.filter fun c => match (s.cluster c).next with | none => s.obj (O.crvClView c) == v | some w => w == v

/-- A view in use that has lost its last cluster takes one from the view that has the most (R238, R240), where that view has another (R239). -/
def State.replaceCluster (s : State) (v : Nat) : State :=
  if (kvFind s.viewWeights v).isNone || !(s.serving v).isEmpty then s
  else
    let views := (s.viewWeights.map (·.1)).filter fun w => w != v && decide (2 ≤ (s.serving w).length)
    let best := views.foldl (fun (b : Option Nat) w => match b with
      | none => some w
      | some x => if (s.serving x).length < (s.serving w).length then some w else b) none
    match best with
    | none => s
    | some w => match (s.serving w).head? with | none => s | some c => (s.giveView c v).settle

/-- No online cluster serves view `v` or is to (R239). -/
def State.unservedView (s : State) (v : Nat) : Bool := (s.serving v).isEmpty

/-! ### Queues (R232 to R235) -/

/-- Free pages of a cluster. -/
def State.pagesFree (s : State) (c : Nat) : Nat := 640 - (s.held c).foldl (fun a t => a + t.pages) 0

/-- `CRV_CL_PAGES_FREE` reads what is free. -/
def State.showPages (s : State) (c : Nat) : State := s.setObj (O.crvClPagesFree c) (s.pagesFree c)

/-- The first of the clusters with the most free pages. -/
def State.mostFree (s : State) (l : List Nat) : Option Nat :=
  l.foldl (fun (b : Option Nat) c => match b with | none => some c | some x => if s.pagesFree x < s.pagesFree c then some c else b) none

/-- The clusters a tile may go to: those of its view for FRAME, any for INGEST and JOB; one that is to leave its view only where no other is left. -/
def State.tileClusters (s : State) (t : Tile) : List Nat :=
  let l := if t.cls = 0 then s.onlineClusters.filter fun c => s.obj (O.crvClView c) == t.view else s.onlineClusters
  let stay := l.filter fun c => (s.cluster c).next.isNone
  if stay.isEmpty then l else stay

/-- A tile enters the queue of cluster `c` on pages of its own; none where the pages are not free. -/
def State.enqueue_ (s : State) (c : Nat) (t : Tile) : Option State :=
  match firstFit 640 t.pages ((s.held c).map fun x => (x.page, x.page + x.pages)) with
  | none => none
  | some p =>
    let x := s.cluster c
    some ((s.setCluster c { x with queue := x.queue ++ [{ t with cluster := c, page := p }] }).showPages c)

/-- A tile goes to the cluster that R233 names. -/
def State.placeTile (s : State) (t : Tile) : Option State :=
  match s.mostFree (s.tileClusters t) with
  | none => none
  | some c => s.enqueue_ c t

/-- Tiles that wait for a cluster or for pages are placed as far as there is room. -/
def State.placeWaiting (s : State) : State :=
  let w := s.carve.waiting
  w.foldl (fun s t => match s.placeTile t with | some s => s | none => s.setCarve { s.carve with waiting := s.carve.waiting ++ [t] }) (s.setCarve { s.carve with waiting := [] })

/-- The queued tiles of cluster `c` move to other clusters (R238, R240). -/
def State.moveQueue (s : State) (c : Nat) : State :=
  let x := s.cluster c
  let s := s.setCluster c { x with queue := [] }
  (s.setCarve { s.carve with waiting := s.carve.waiting ++ x.queue }).showPages c

/-- An engine ends its run; the cluster notes the time it took (`CRV_CL_BUSY`). -/
def State.engineIdle (s : State) (e : Nat) : State :=
  let c := engineCluster e
  match (s.engine e).run with
  | none => s
  | some r =>
    let s := s.setEngine e { s.engine e with run := none }
    let x := s.cluster c
    (s.setCluster c { x with busy := (x.busy ++ [(r.since, s.tick)]).filter fun b => decide (s.tick ≤ b.2 + ticksPerSec) }).showPages c

/-- `CRV_CL_BUSY`: engine ticks of the last second in per mille; the rounding is open. -/
def State.clBusy (s : State) (c : Nat) : Nat × State :=
  let from_ := s.tick - ticksPerSec
  let runs := (s.cluster c).busy ++ (clusterEngines c).filterMap fun e => (s.engine e).run.map fun r => (r.since, s.tick)
  let sum := runs.foldl (fun a b => a + (b.2 - max b.1 from_)) 0
  let (v, s) := s.openRound ((1000 * sum : Nat) : Int) (64 * ticksPerSec)
  (v.toNat, s)

/-- Tiles that satisfy `q` leave the queues and the engines (R235); this is no fault. -/
def State.dropTiles (s : State) (q : Tile → Bool) : State :=
  let s := s.setCarve { s.carve with waiting := s.carve.waiting.filter fun t => !q t }
  let s := allClusters.foldl (fun s c =>
    let x := s.cluster c
    if x.queue.any q then (s.setCluster c { x with queue := x.queue.filter fun t => !q t }).showPages c else s) s
  let es := s.carve.engines.filterMap fun x => match x.2.run with | some r => if q r.tile then some x.1 else none | none => none
  (es.foldl State.engineIdle s).settle.placeWaiting

/-- The composition of output `m` is abandoned: its FRAME and INGEST tiles go (R235). -/
def State.dropFrame (s : State) (m : Nat) : State := s.dropTiles fun t => t.cls != 2 && t.output == m

end Sys2Proof.Machine
end

