-- ==== Sys2Proof/Machine/Compose.lean ====
section
/-! DEFINITION. What the compositor makes of the layers for a tile: a pixel of a view's canvas (R193, R211, R215), poisoned sources (R217), patches (R231, Table 08-5), the input of
INGEST tiles, and cache surfaces (R214). -/

namespace Sys2Proof.Machine

/-! ### The canvas and the warp (R181, R253, R254) -/

def State.arrayW (s : State) (m : Nat) : Nat := s.obj (O.moutWidth m)
def State.arrayH (s : State) (m : Nat) : Nat := s.obj (O.moutHeight m)

/-- Canvas size of the group of output `m`. -/
def State.canvas (s : State) (m : Nat) : Nat × Nat :=
  let g := s.group (s.leadOf m)
  (s.arrayW m * (1 + g.foldl (fun a n => max a (s.obj (O.moutTileX n))) 0), s.arrayH m * (1 + g.foldl (fun a n => max a (s.obj (O.moutTileY n))) 0))

/-- Tiles across and down an array. -/
def State.tilesX (s : State) (m : Nat) : Nat := s.arrayW m / 64
def State.tilesY (s : State) (m : Nat) : Nat := ceilDiv (s.arrayH m) 32

/-- Sizes of a mesh and a blend map (R253, R254). -/
def meshBytes (w h : Nat) : Nat := (w / 64 + 1) * (ceilDiv h 32 + 1) * 8
def blendBytes (w h : Nat) : Nat := (w / 8 + 1) * (ceilDiv h 8 + 1) * 2

/-- Node (i, j) of the mesh of output `m` in 2⁻¹² pixel; an empty mesh is the identity. -/
def State.meshNode (s : State) (m : Nat) (mesh : List Byte) (i j : Nat) : Int × Int :=
  if mesh.isEmpty then
    ((((s.obj (O.moutTileX m) * s.arrayW m + 64 * i) * 4096 : Nat) : Int), (((s.obj (O.moutTileY m) * s.arrayH m + 32 * j) * 4096 : Nat) : Int))
  else
    let o := (j * (s.tilesX m + 1) + i) * 8
    (toI32 (leAt mesh o 4), toI32 (leAt mesh (o + 4) 4))

/-- A rectangle of the canvas: origin and size. -/
structure Rect where
  x : Int
  y : Int
  w : Nat
  h : Nat
deriving DecidableEq, Repr

/-- The patch of tile (tx, ty): the canvas region between its four nodes, widened by the apron (R231). -/
def State.patchRect (s : State) (m : Nat) (mesh : List Byte) (apron tx ty : Nat) : Rect :=
  let ns := [s.meshNode m mesh tx ty, s.meshNode m mesh (tx + 1) ty, s.meshNode m mesh tx (ty + 1), s.meshNode m mesh (tx + 1) (ty + 1)]
  let n0 := s.meshNode m mesh tx ty
  let lo (f : Int × Int → Int) : Int := (ns.foldl (fun a n => min a (f n)) (f n0)) / 4096 - apron
  let hi (f : Int × Int → Int) : Int := -((-(ns.foldl (fun a n => max a (f n)) (f n0))) / 4096) + apron
  ⟨lo (·.1), lo (·.2), (hi (·.1) - lo (·.1)).toNat, (hi (·.2) - lo (·.2)).toNat⟩

/-- A patch fits in 128 × 64 pixels and 64 KiB. -/
def Rect.patchOk (r : Rect) : Bool := decide (r.w ≤ 128) && decide (r.h ≤ 64) && decide (8 * r.w * r.h ≤ 65536)

/-- Blend factor at grid point (i, j); below the last row of the map none is given. -/
def State.blendAt (s : State) (m : Nat) (map : List Byte) (i j : Nat) : Nat :=
  if map.isEmpty then 32768
  else if ceilDiv (s.arrayH m) 8 < j then Config.blendBeyond m i j
  else leAt map ((j * (s.arrayW m / 8 + 1) + i) * 2) 2

/-! ### A layer's pixel -/

/-- Red, green, blue and alpha, 16 bits each. -/
structure Px where
  r : Nat
  g : Nat
  b : Nat
  a : Nat
deriving DecidableEq, Repr

def Px.at (p : Px) (c : Nat) : Nat := [p.r, p.g, p.b, p.a].getD c 0
def Px.black : Px := ⟨0, 0, 0, 65535⟩
/-- P64 in order RGBA (Table 08-3). -/
def Px.word (p : Px) : Nat := p.r * 2 ^ 48 + p.g * 2 ^ 32 + p.b * 2 ^ 16 + p.a
def pxOf (f w : Nat) : Px := let (r, g, b, a) := fmtRGBA f w; ⟨r, g, b, a⟩

/-- The working encoding as a code of `LAY_ENCODING`. -/
def State.workCode (s : State) : Nat := 16 * s.obj O.colWorkGamut + s.obj O.colWorkTf

/-- The pixels of a source must be converted before they are composed (Table 08-2). -/
def State.needsIngest (s : State) (x : Shot) : Bool := x.kind == 0 && !(fmtCode x.format == 5 && x.encoding == s.workCode)

def Shot.scaled (x : Shot) : Bool := x.srcW != x.dstW || x.srcH != x.dstH
def Shot.rect (x : Shot) : Rect := ⟨x.dstX, x.dstY, x.dstW, x.dstH⟩
/-- α is 1 everywhere: IGNORE, or a format without alpha. -/
def Shot.solid (x : Shot) : Bool := x.alphaMode == 2 || (x.kind == 0 && (fmtCode x.format == 1 || fmtCode x.format == 2))

/-- Overlap of two rectangles, if any. -/
def Rect.meet (a b : Rect) : Option Rect :=
  let x := max a.x b.x
  let y := max a.y b.y
  let x' := min (a.x + a.w) (b.x + b.w)
  let y' := min (a.y + a.h) (b.y + b.h)
  if x < x' && y < y' then some ⟨x, y, (x' - x).toNat, (y' - y).toNat⟩ else none
def Rect.inside (a b : Rect) : Bool := decide (b.x ≤ a.x) && decide (b.y ≤ a.y) && decide (a.x + a.w ≤ b.x + b.w) && decide (a.y + a.h ≤ b.y + b.h)

/-- Where a layer's contribution comes from: its source, its held previous source, its fill colour (R217). -/
inductive Origin where
  | current
  | previous
  | fill
deriving DecidableEq, Repr

/-- Pixel (px, py) of a frame of a buffer. -/
def State.bufPixel (s : State) (handle frame px py : Nat) : Px :=
  let i := handleIndex handle
  let f := s.obj (O.layBufFormat i)
  pxOf f (leNat (s.extentBytes (s.buf i).extents (frame * s.bufFrameBytes i + py * s.obj (O.layBufStride i) + px * fmtBytes f) (fmtBytes f)))

/-- Key of a WORK tile of a layer; the tiles of its held previous source are kept apart. -/
def workKey (l : Nat) (prev : Bool) (tx ty : Nat) : Nat := (l + 64 * boolNat prev) * 2 ^ 20 + ty * 2 ^ 10 + tx

/-- Source pixel (x, y) of the layer's source rectangle in the working encoding. -/
def State.workPixel (s : State) (m : Nat) (z : Shot) (prev : Bool) (x y : Nat) : Px :=
  if s.needsIngest z then
    let t := (kvFind (s.comp m).work (workKey z.layer prev (x / 64) (y / 32))).getD []
    pxOf 0x50 (leAt t ((y % 32 * 64 + x % 64) * 8) 8)
  else s.bufPixel (if prev then z.prev else z.handle) (if prev then 0 else z.frame) (z.srcX + x) (z.srcY + y)

/-- A colour of the layer's encoding in the working encoding. -/
def State.toWork (s : State) (z : Shot) (p : Px) : Px :=
  if z.encoding = s.workCode then p
  else
    let c (i : Nat) : Nat := Config.convert z.encoding s.workCode (s.obj O.colSdrWhite) p.r p.g p.b i
    ⟨c 0, c 1, c 2, p.a⟩

/-- The fields of `LAY_FILL`. -/
def fillPx (v : Nat) : Px := ⟨bits v 63 48, bits v 47 32, bits v 31 16, bits v 15 0⟩

/-- A pattern at (x, y) of its rectangle, in the layer's encoding (R211). -/
def patternPx (z : Shot) (x y : Nat) : Px :=
  let f := fillPx z.fill
  let grey (v : Nat) : Px := ⟨v, v, v, 65535⟩
  let on (b : Bool) : Nat := if b then 65535 else 0
  match z.pattern with
  | 0 => if x % 64 = 0 || y % 32 = 0 then f else Px.black
  | 1 => grey (if z.dstW ≤ 1 then Config.rampOne % 65536 else 65535 * x / (z.dstW - 1))
  | 2 =>
    let k := 8 * x / z.dstW
    ⟨on (k == 0 || k == 1 || k == 4 || k == 5), on (decide (k ≤ 3)), on (k == 0 || k == 2 || k == 4 || k == 6), 65535⟩
  | _ => if (x / 64 + y / 32) % 2 = 0 then f else Px.black

/-- What layer `z` shows at (x, y) of its destination rectangle, in the working encoding; α is 1 for a fill. -/
def State.shotPixel (s : State) (m : Nat) (z : Shot) (o : Origin) (x y : Nat) : Px :=
  let alpha (p : Px) : Px := if z.solid then { p with a := 65535 } else p
  if z.kind = 1 || o = .fill then { s.toWork z (fillPx z.fill) with a := 65535 }
  else if z.kind = 2 then alpha (s.toWork z (patternPx z x y))
  else
    let prev := o == .previous
    if z.scaled then
      let src (c : Nat) (sx sy : Nat) : Nat := (s.workPixel m z prev sx sy).at c
      let c (i : Nat) : Nat := Config.scaler z.filter (z.srcW, z.srcH) (z.dstW, z.dstH) (x, y) i (src i) % 65536
      alpha ⟨c 0, c 1, c 2, c 3⟩
    else alpha (s.workPixel m z prev x y)

/-- One component of a composition (R193), rounded to nearest, halves up. -/
def Shot.mix (z : Shot) (src a dst : Nat) : Nat :=
  let den := 65535 * z.opDen
  let num :=
    if z.blend = 1 then dst * a * z.opNum
    else (if z.alphaMode = 1 then src * z.opNum * 65535 else src * a * z.opNum) + dst * (den - a * z.opNum)
  -- numerators are over 65,535 · opDen
  let v := (2 * num + den) / (2 * den)
  if v ≤ 65535 then v else Config.composeOver v % 65536

/-- Layer `z` over a canvas pixel. -/
def State.layOver (s : State) (m : Nat) (z : Shot) (o : Origin) (x y : Int) (d : Px) : Px :=
  let r := z.rect
  if x < r.x || y < r.y || r.x + r.w ≤ x || r.y + r.h ≤ y then d
  else
    let p := s.shotPixel m z o (x - r.x).toNat (y - r.y).toNat
    ⟨z.mix p.r p.a d.r, z.mix p.g p.a d.g, z.mix p.b p.a d.b, 65535⟩

/-! ### What a tile's composition reads -/

/-- The layers of view `v` from the bottom up; the scene is the leader's. -/
def State.viewShots (s : State) (m v : Nat) : List Shot := (s.comp (s.leadOf m)).scene.filter fun z => bit z.views v

/-- A layer that hides what lies beneath it (R215). -/
def Shot.opaque_ (z : Shot) : Bool :=
  z.blend == 0 && z.opNum == z.opDen && (z.kind == 1 || (z.kind == 2 && (z.pattern == 1 || z.pattern == 2)) || z.solid)

/-- Out of NORMAL the layers beneath an opaque one that covers the region are not fetched (R215). -/
def State.fetched (s : State) (l : List Shot) (r : Rect) : List Shot :=
  if s.opState = normal then l
  else
    let above := l.reverse.takeWhile fun z => !(z.opaque_ && r.inside z.rect)
    let k := above.length
    l.drop (l.length - k - 1)

/-- The static set of a view: the layers below its lowest non-static one, if there are two or more (R214). -/
def staticSet (l : List Shot) : List Nat := let t := l.takeWhile (·.static); if 2 ≤ t.length then t.map (·.layer) else []

/-- The cache surface that stands for the static set of view `v` in this frame. -/
def State.cacheFor (s : State) (m v : Nat) : Option CacheSt :=
  (s.comp (s.leadOf m)).caches.find? fun c => c.view == v && c.ready && c.index != 0 && c.layers == staticSet (s.viewShots m v) && !c.layers.isEmpty

/-- The source pixels of a layer that a canvas region needs, relative to its source rectangle: origin and size. -/
def Shot.need (z : Shot) (r : Rect) : Option (Nat × Nat × Nat × Nat) :=
  match z.rect.meet r with
  | none => none
  | some q =>
    let dx := (q.x - z.dstX).toNat
    let dy := (q.y - z.dstY).toNat
    if !z.scaled then some (dx, dy, q.w, q.h)
    else
      let tx := 6 * max 1 (ceilDiv z.srcW (max 1 z.dstW))
      let ty := 6 * max 1 (ceilDiv z.srcH (max 1 z.dstH))
      let x0 := dx * z.srcW / max 1 z.dstW - tx
      let y0 := dy * z.srcH / max 1 z.dstH - ty
      some (x0, y0, min z.srcW (ceilDiv ((dx + q.w) * z.srcW) (max 1 z.dstW) + tx) - x0, min z.srcH (ceilDiv ((dy + q.h) * z.srcH) (max 1 z.dstH) + ty) - y0)

/-- The first poisoned address among the rows of a region of a buffer. -/
def State.regionPoison (s : State) (handle frame x y w h : Nat) : Option Nat :=
  let i := handleIndex handle
  let f := s.obj (O.layBufFormat i)
  (List.range h).findSome? fun j =>
    s.extentPoison (s.buf i).extents (frame * s.bufFrameBytes i + (y + j) * s.obj (O.layBufStride i) + x * fmtBytes f) (w * fmtBytes f)

/-- The rows of a region of a buffer read clean. -/
def State.regionClean (s : State) (handle frame x y w h : Nat) : Bool := handle != 0 && (s.regionPoison handle frame x y w h).isNone

/-- The WORK tiles over a region of a source rectangle. -/
def workTiles (n : Nat × Nat × Nat × Nat) : List (Nat × Nat) :=
  let (x, y, w, h) := n
  if w = 0 || h = 0 then []
  else (List.range ((y + h - 1) / 32 - y / 32 + 1)).flatMap fun j => (List.range ((x + w - 1) / 64 - x / 64 + 1)).map fun i => (x / 64 + i, y / 32 + j)

/-- Whether a source serves a region: read clean, found unreadable, or not yet there (none). `bad` are layers whose source memory could not be read. -/
def State.sourceState (s : State) (m : Nat) (z : Shot) (prev : Bool) (r : Rect) (bad : List Nat) : Option Bool :=
  match z.need r with
  | none => some true
  | some n =>
    if s.needsIngest z then
      let ts := (workTiles n).map fun t => kvFind (s.comp m).work (workKey z.layer prev t.1 t.2)
      if ts.any (·.isNone) then none else some (ts.all fun t => t != some [])
    else if !prev && bad.contains z.layer then some false
    else some (s.regionClean (if prev then z.prev else z.handle) (if prev then 0 else z.frame) (z.srcX + n.1) (z.srcY + n.2.1) n.2.2.1 n.2.2.2)

/-- Where layer `z` takes its contribution to a region from (R217); none while a WORK tile is still to come. -/
def State.origin (s : State) (m : Nat) (z : Shot) (r : Rect) (bad : List Nat) : Option Origin :=
  if z.kind ≠ 0 then some .current
  else
    match s.sourceState m z false r bad with
    | none => none
    | some true => some .current
    | some false =>
      if z.prev = 0 then some .fill
      else
        match s.sourceState m z true r bad with
        | none => none
        | some true => some .previous
        | some false => some .fill

/-- A layer without a source shows nothing. -/
def Shot.shows (z : Shot) : Bool := z.kind != 0 || z.handle != 0

/-- The layers that contribute to a region of view `v`, with their origins; none while one is not ready. -/
def State.contributions (s : State) (m v : Nat) (r : Rect) (bad : List Nat) : Option (List (Shot × Origin)) :=
  let l := (s.fetched (s.viewShots m v) r).filter fun z => z.shows && (z.rect.meet r).isSome
  l.foldr (fun z a => match a, s.origin m z r bad with | some a, some o => some ((z, o) :: a) | _, _ => none) (some [])

/-- The words of a cache surface under a region read clean. -/
def State.cacheClean (s : State) (m : Nat) (c : CacheSt) (r : Rect) : Bool :=
  let (w, h) := s.canvas m
  match r.meet ⟨0, 0, w, h⟩ with
  | none => true
  | some q => s.regionClean (s.obj (O.layBufHandle c.index)) 0 q.x.toNat q.y.toNat q.w q.h

/-- A canvas pixel of view `v` from the layers `l`, over the cache surface where one serves (R193, R214). Canvas outside its bounds is opaque black. -/
def State.canvasPixel (s : State) (m : Nat) (cache : Option CacheSt) (l : List (Shot × Origin)) (x y : Int) : Px :=
  let (w, h) := s.canvas m
  if x < 0 || y < 0 || (w : Int) ≤ x || (h : Int) ≤ y then Px.black
  else
    let d : Px := match cache with | some c => s.bufPixel (s.obj (O.layBufHandle c.index)) 0 x.toNat y.toNat | none => Px.black
    let l : List (Shot × Origin) := match cache with | some c => l.filter fun z => !c.layers.contains z.1.layer | none => l
    l.foldl (fun d z => s.layOver m z.1 z.2 x y d) d

/-- The bytes of an I32 and of a U16, little-endian. -/
def leI32 (i : Int) : List Byte := leBytes 4 (ofI32 i)

/-- The patch of a tile: descriptor and pixels (Table 08-5). -/
def State.patchBytes (s : State) (m : Nat) (cache : Option CacheSt) (l : List (Shot × Origin)) (r : Rect) (tx ty : Nat) : List Byte :=
  let mesh := s.blobFor m (O.crvMesh m)
  let map := s.blobFor m (O.crvBlend m)
  let node (i j : Nat) : List Byte := let n := s.meshNode m mesh (tx + i) (ty + j); leI32 n.1 ++ leI32 n.2
  let blend := (List.range 5).flatMap fun j => (List.range 9).flatMap fun i => leBytes 2 (s.blendAt m map (8 * tx + i) (4 * ty + j))
  let head := leI32 r.x ++ leI32 r.y ++ leBytes 2 r.w ++ leBytes 2 r.h ++ fill 4 0 ++ node 0 0 ++ node 1 0 ++ node 0 1 ++ node 1 1 ++ blend ++ fill 118 0
  head ++ (List.range r.h).flatMap fun (j : Nat) => (List.range r.w).flatMap fun (i : Nat) => leBytes 8 (s.canvasPixel m cache l (r.x + (i : Int)) (r.y + (j : Int))).word

/-! ### Cache surfaces (R214, R215) -/

/-- A surface is released. -/
def State.dropCache (s : State) (i : Nat) : State := if i = 0 then s else s.releaseIndex i

/-- A CACHE object of canvas size in a GROOMED region. -/
def State.newCache (s : State) (m : Nat) : Option (Nat × State) :=
  let (w, h) := s.canvas m
  match s.pick (fun i => s.bufState i != bufFree) 1 16383 with
  | (none, _) => none
  | (some i, s1) =>
    match s1.alloc (frameSize 0x50 w h) true with
    | none => none
    | some (es, s) => some (i, s.newBuf i tyCache true 0x50 w h 1 (numDefault (O.layBufPeriod i)) es)

/-- The caches of view `v` at a composition start: used where the static set stands, rebuilt where it has changed; not allocated raises E096. -/
def State.cacheStep (s : State) (m k v : Nat) : State :=
  let l := s.viewShots m v
  let set := staticSet l
  let caches := (s.comp m).caches
  let put (s : State) (c : CacheSt) : State := s.setComp m { s.comp m with caches := ((s.comp m).caches.filter fun x => x.view != v) ++ [c] }
  match caches.find? fun c => c.view == v with
  | some c =>
    if c.failed || set.isEmpty then (if c.layers = set then s else put s { c with layers := set, ready := false })
    else if c.layers = set && c.ready && !(l.any fun z => set.contains z.layer && z.changed) then s
    else put s { c with layers := set, ready := false }
  | none =>
    if set.isEmpty then s
    else
      match s.newCache m with
      | some (i, s) => put s ⟨v, i, set, false, false⟩
      | none => put ((s.raise 96 [set.headD 0, k]).bump O.layCacheFails) ⟨v, 0, set, false, true⟩

/-- Flattening at the composition start of frame `k` of leader `m`. -/
def State.cachesStep (s : State) (m k : Nat) : State :=
  if s.opState = normal then (if bit (s.valFor m O.layFlatten) m then (s.cfg m).views.foldl (fun s v => s.cacheStep m k v) s else s)
  else if s.opState = startup || s.opState = test || s.opState = recovery then
    let l := (s.comp m).caches
    l.foldl (fun s c => s.dropCache c.index) (s.setComp m { s.comp m with caches := [] })
  else s

/-- A rebuilt cache surface is written while its frame is composed: row by row, from the sources. -/
def State.writeCache (s : State) (m : Nat) (c : CacheSt) : State :=
  let (w, h) := s.canvas m
  let r : Rect := ⟨0, 0, w, h⟩
  let l := (s.viewShots m c.view).filter fun z => c.layers.contains z.layer && z.shows
  let l := l.map fun z => (z, (s.origin m z r []).getD .fill)
  let es := (s.buf c.index).extents
  (List.range h).foldl (fun st y =>
    st.extentWrite es (y * strideOf 0x50 w) ((List.range w).flatMap fun (x : Nat) => leBytes 8 (s.canvasPixel m none l x y).word)) s

/-- At the end of a composition the caches rebuilt in it are ready. -/
def State.cachesDone (s : State) (m : Nat) : State :=
  (s.comp m).caches.foldl (fun s c =>
    if c.ready || c.index = 0 || c.layers.isEmpty then s
    else
      let s := s.writeCache m c
      s.setComp m { s.comp m with caches := (s.comp m).caches.map fun x => if x.view == c.view then { x with ready := true } else x }) s

end Sys2Proof.Machine
end

