-- ==== Sys2Proof/Machine/Tiles.lean ====
section
/-! DEFINITION. The life of a tile (chapter 08): its issue, dispatch and result, faults and substitution, clusters offline and back, and Carve jobs, with the meanings of their commands. -/

namespace Sys2Proof.Machine

/-! ### The slicer (R77, R255) -/

/-- Eight bytes of an image arrive at byte `off`; a block that is complete leaves the band. -/
def State.sliceRow (s : State) (m img off : Nat) (l : List Byte) : State :=
  let x := s.comp m
  let b := off / 4096
  let key := blockKey img b
  let (n, bs) := (kvFind x.band key).getD (0, fill 4096 0)
  let bs := overwrite bs (off % 4096) l
  if n + 1 = ceilDiv (min 4096 (s.imageBytes m - 4096 * b)) 8 then (s.setComp m { x with band := kvErase x.band key }).sliceBlock m img b bs
  else s.setComp m { x with band := kvInsert x.band key (n + 1, bs) }

/-- The planes of a tile in the order of its fragments: primaries ascending, bits downward. -/
def PlanCfg.tilePlanes (c : PlanCfg) : List (Nat × Nat) := c.primList.flatMap fun p => (List.range c.depth).map fun i => (p, c.depth - 1 - i)

/-- Set bits of a byte string. -/
def onesIn (l : List Byte) : Nat := l.foldl (fun a b => a + popCount 8 b.toNat) 0

/-- The fragments of a tile of view `v` reach the slicer. -/
def State.sliceTile (s : State) (m v tx ty : Nat) (frag : List Byte) (chg : Bool) : State :=
  let c := s.cfg (s.leadOf m)
  let w := s.arrayW m
  let rows := min 32 (s.arrayH m - 32 * ty)
  let s := c.tilePlanes.zipIdx.foldl (fun s x =>
    let ((p, j), n) := x
    let img := c.imageOf v p j
    let f := slice frag (256 * n) 256
    let y := s.slm m
    let k := (v * 6 + p) * 16 + j
    let s := s.setSlm m { y with occ := kvPut (fun _ => 0) y.occ k (kvGet (fun _ => 0) y.occ k + onesIn (f.take (8 * rows))) }
    let h := !s.frontHalf m
    let s := if chg then s.setHalf m h { s.half m h with changed := kvPut (fun _ => false) (s.half m h).changed img true } else s
    (List.range rows).foldl (fun s r => s.sliceRow m img ((32 * ty + r) * w / 8 + 8 * tx) (slice f (8 * r) 8)) s) s
  let y := s.comp m
  let st := (kvFind y.streams v).getD {}
  s.setComp m { y with streams := kvInsert y.streams v { st with done := st.done + 1 } }

/-- A block of a half as it reads. -/
def State.planeBlock (s : State) (m : Nat) (h : Bool) (img b : Nat) : List Byte :=
  let idx := kvGet (fun _ => 0) (s.half m h).index (blockKey img b)
  (decodeBlock idx (s.bytes (s.blockAddr m h img b) (if idx = 0 then 4096 else 64 * (idx % 64)))).getD (fill 4096 0)

/-- The half that is shown holds a completed frame of the configuration in force. -/
def State.otherComplete (s : State) (m : Nat) : Bool :=
  let lead := s.leadOf m
  let c := s.cfg lead
  let x := s.half m (s.frontHalf m)
  !(s.slm lead).firstFrame && !(s.slm lead).frontPlan.isEmpty && (List.range c.images).all fun p => kvGet (fun _ => 0) x.done p == 2 ^ s.imageBlocks m - 1

/-- The fragments that stand in for a tile: those of its position in the other half, or zeros (R237). -/
def State.standIn (s : State) (m v tx ty : Nat) : List Byte :=
  let c := s.cfg (s.leadOf m)
  if !s.otherComplete m then fill (256 * c.tilePlanes.length) 0
  else c.tilePlanes.flatMap fun x =>
    let img := c.imageOf v x.1 x.2
    (List.range 32).flatMap fun r =>
      let y := 32 * ty + r
      if s.arrayH m ≤ y then fill 8 0
      else
        let off := y * s.arrayW m / 8 + 8 * tx
        slice (s.planeBlock m (s.frontHalf m) img (off / 4096)) (off % 4096) 8

/-! ### Buffers written by the device (R200, R201, R257) -/

/-- The last write of a frame of a buffer completes now. -/
def State.bufWritten (s : State) (i frame : Nat) : State :=
  let x := s.buf i
  (s.setBuf i { x with wrote := kvInsert x.wrote frame s.tick }).setObjs [(O.layBufState i, bufReady), (O.layBufWritten i, stimeOf s.studio)]

/-- Write a row of pixels into a frame of a buffer. -/
def State.bufRow (s : State) (i frame x y : Nat) (l : List Byte) : State :=
  s.extentWrite (s.buf i).extents (frame * s.bufFrameBytes i + y * s.obj (O.layBufStride i) + x * fmtBytes (s.obj (O.layBufFormat i))) l

/-! ### Issue (R231, R233) -/

/-- Frame `k` of output `m` is in production: its composition has started and is not complete. -/
def State.producing (s : State) (m : Nat) : Option Nat := if (s.slm m).composed then none else (s.slm m).composing

/-- A new tile with its number. -/
def State.tileNumber (s : State) : Nat × State := (s.carve.nextTile, s.setCarve { s.carve with nextTile := s.carve.nextTile + 1 })

/-- Pages for an input. -/
def pagesFor (l : List Byte) : Nat := ceilDiv l.length 4096

/-- The poison of a tile is accounted: each substituted layer counts, and raises E097 once in the frame (R217). -/
def State.poisonTile (s : State) (m k tx ty : Nat) (l : List (Shot × Origin)) : State :=
  (l.filter fun z => z.2 != .current && z.1.kind == 0).foldl (fun s z =>
    let x := s.comp m
    let s := s.bump (O.layPoisonTiles z.1.layer)
    if x.poisoned.contains z.1.layer then s
    else (s.setComp m { x with poisoned := x.poisoned ++ [z.1.layer] }).raise 97 [z.1.layer, z.1.handle, k, tx, ty]) s

/-- The FRAME tile (tx, ty) of view `v` of output `m` in frame `k`, with the layers it is composed from; none while a WORK tile is still to come. -/
def State.frameTile (s : State) (m v k tx ty : Nat) (bad : List Nat) : Option (Tile × List (Shot × Origin)) :=
  let chain := (s.comp m).chain
  let apron := match s.kernel? (chain.headD 0) with | some x => x.apron | none => 0
  let r := s.patchRect m (s.blobFor m (O.crvMesh m)) apron tx ty
  let cache := match s.cacheFor m v with | some c => if s.cacheClean m c r then some c else none | none => none
  let cached := match cache with | some c => c.layers | none => []
  let seen := (s.fetched (s.viewShots m v) r).filter fun z => z.shows && (z.rect.meet r).isSome
  match s.contributions m v r bad with
  | none => none
  | some l =>
    let l := l.filter fun z => !cached.contains z.1.layer
    let input := s.patchBytes m cache l r tx ty
    some (
      { id := s.carve.nextTile, order := s.carve.nextTile + 1, output := m, view := v, chg := (s.comp m).allChg || seen.any (·.changed)
        poison := l.any fun z => z.2 != .current, redisp := false, prio := 2, layerMask := seen.foldl (fun a z => setBit a z.layer) 0, frame := k % 65536
        fence := (seen.foldl (fun a z => if z.fence = 0 then a else z.fence) 0), tx := tx, ty := ty, format := fmtPatch, comp := 0, cset := s.obj (O.colSetId m) % 256
        chain := m, stage := 0, cluster := 0, engine := 0, cls := 0, prev := false, page := 0, pages := pagesFor input, input := input }, l)

/-- A FRAME tile that has no cluster is ended: the stand-in goes to the slicer, and E120 is raised once in an episode (R239). -/
def State.endUnserved (s : State) (t : Tile) : State :=
  let s := s.bump O.crvSubstituted
  let s := if s.carve.unserved.contains t.view then s
    else (s.setCarve { s.carve with unserved := s.carve.unserved ++ [t.view] }).raise 120 [t.view, (s.comp t.output).chain.headD 0, t.word 0, t.word 1]
  s.sliceTile t.output t.view t.tx t.ty (s.standIn t.output t.view t.tx t.ty) t.chg

/-- Tiles that wait for a cluster of an unserved view are ended; the others are placed as there is room. -/
def State.retryWaiting (s : State) : State :=
  let gone := s.carve.waiting.filter fun t => t.cls == 0 && s.unservedView t.view
  let s := s.setCarve { s.carve with waiting := s.carve.waiting.filter fun t => !(t.cls == 0 && s.unservedView t.view) }
  (gone.foldl State.endUnserved s).placeWaiting

/-- The tile just built is issued: it goes to a cluster, or is ended for want of one; `done` accounts for it. -/
def State.issueFrame (s : State) (m v : Nat) (bad : List Nat) : State :=
  match s.producing m with
  | none => s
  | some k =>
    let st := (kvFind (s.comp m).streams v).getD {}
    let w := s.tilesX m
    if !(s.cfg (s.leadOf m)).views.contains v || w * s.tilesY m ≤ st.issued || st.done < st.issued / w * w then s
    else
      let tx := st.issued % w
      let ty := st.issued / w
      match s.frameTile m v k tx ty bad with
      | none => s
      | some (t, l) =>
        let count (s : State) : State :=
          let x := s.comp m
          let y := (kvFind x.streams v).getD {}
          let s := s.setComp m { x with streams := kvInsert x.streams v { y with issued := y.issued + 1 } }
          let s := match s.cacheFor m v with
            | some c => if l.any (fun z => c.layers.contains z.1.layer) then
                let y := s.comp (s.leadOf m)
                s.setComp (s.leadOf m) { y with caches := y.caches.map fun (z : CacheSt) => if z.view == v then { z with ready := false } else z }
              else s
            | none => s
          (s.setCarve { s.carve with nextTile := s.carve.nextTile + 1 }).poisonTile m k tx ty l
        if s.unservedView v then (count s).endUnserved t
        else match s.placeTile t with
          | none => s
          | some s => count s

/-- The input of a tile of 64 × 32 source pixels, or of a job with rows of `64 · scale`: pixels beyond the rectangle have no stated value. -/
def State.layerInput (s : State) (handle frame x0 y0 w h tx ty scale : Nat) : List Byte :=
  let i := handleIndex handle
  let f := s.obj (O.layBufFormat i)
  let bpp := fmtBytes f
  (List.range (32 * scale)).flatMap fun r =>
    (List.range (64 * scale)).flatMap fun c =>
      let px := 64 * scale * tx + c
      let py := 32 * scale * ty + r
      if px < w && py < h then s.extentBytes (s.buf i).extents (frame * s.bufFrameBytes i + (y0 + py) * s.obj (O.layBufStride i) + (x0 + px) * bpp) bpp
      else (List.range bpp).map fun b => Config.clusterByte i ((py * 16384 + px) * 8 + b) s.carve.nextTile

/-- An INGEST tile of a layer in the scene of output `m` (Table 08-2); a source region that cannot be read gives no tile and counts as unreadable. -/
def State.issueIngest (s : State) (m l : Nat) (prev : Bool) (tx ty : Nat) (bad : List Nat) : State :=
  match s.producing m, (s.comp (s.leadOf m)).scene.find? fun z => z.layer == l with
  | some k, some z =>
    let key := workKey l prev tx ty
    let mine (t : Tile) : Bool := t.cls == 1 && t.output == m && t.layerMask == 2 ^ l && t.prev == prev && t.tx == tx && t.ty == ty
    let busy := s.carve.waiting.any mine || allClusters.any fun c => (s.held c).any mine
    let handle := if prev then z.prev else z.handle
    let frame := if prev then 0 else z.frame
    if !s.needsIngest z || (kvFind (s.comp m).work key).isSome || busy || z.srcW ≤ 64 * tx || z.srcH ≤ 32 * ty then s
    else
      let w := min 64 (z.srcW - 64 * tx)
      let h := min 32 (z.srcH - 32 * ty)
      if (!prev && bad.contains l) || !s.regionClean handle frame (z.srcX + 64 * tx) (z.srcY + 32 * ty) w h then
        s.setComp m { s.comp m with work := kvInsert (s.comp m).work key [] }
      else
        let input := s.layerInput handle frame z.srcX z.srcY z.srcW z.srcH tx ty 1
        let t : Tile := { id := s.carve.nextTile, order := s.carve.nextTile + 1, output := m, view := 0, chg := false, poison := false, redisp := false, prio := 3, layerMask := 2 ^ l
                          frame := k % 65536, fence := z.fence, tx := tx, ty := ty, format := z.format, comp := 0, cset := s.obj (O.colSetId m) % 256, chain := 4, stage := 0
                          cluster := 0, engine := 0, cls := 1, prev := prev, page := 0, pages := pagesFor input, input := input }
        match s.placeTile t with
        | none => s
        | some s => s.setCarve { s.carve with nextTile := s.carve.nextTile + 1 }
  | _, _ => s

/-- Tiles across and down the destination of a job. -/
def State.jobTiles (s : State) (j : Job) : Nat × Nat :=
  let i := handleIndex j.dst
  (ceilDiv (s.obj (O.layBufWidth i)) 64, ceilDiv (s.obj (O.layBufHeight i)) 32)

def State.setJob (s : State) (n : Nat) (j : Job) : State := s.setCarve { s.carve with jobs := kvInsert s.carve.jobs n j }

/-- The next tile of a job (R256). A source that reads poisoned fails the job, and E169 is raised once (R329). -/
def State.issueJob (s : State) (n : Nat) : State :=
  match kvFind s.carve.jobs n with
  | none => s
  | some j =>
    let (w, h) := s.jobTiles j
    if j.failed.isSome || w * h ≤ j.issued then s
    else
      let tx := j.issued % w
      let ty := j.issued / w
      let scale := match s.kernel? j.kernel with | some k => max 1 k.jobScale | none => 1
      let bad := s.regionPoison j.src 0 (j.srcX + 64 * scale * tx) (j.srcY + 32 * scale * ty) (min (64 * scale) (j.srcW - 64 * scale * tx)) (min (32 * scale) (j.srcH - 32 * scale * ty))
      match bad with
      | some a => (s.setJob n { j with failed := some St.poisoned }).raise 169 (s.where_ a)
      | none =>
        let input := s.layerInput j.src 0 j.srcX j.srcY j.srcW j.srcH tx ty scale
        let t : Tile := { id := s.carve.nextTile, order := s.carve.nextTile + 1, output := n, view := 0, chg := false, poison := false, redisp := false, prio := j.prio, layerMask := 0
                          frame := 0, fence := 0, tx := tx, ty := ty, format := s.obj (O.layBufFormat (handleIndex j.src)), comp := 0, cset := 0, chain := 5, stage := 0
                          cluster := 0, engine := 0, cls := 2, prev := false, page := 0, pages := pagesFor input, input := input }
        match s.placeTile t with
        | none => s
        | some s =>
          let s := s.setCarve { s.carve with nextTile := s.carve.nextTile + 1 }
          (s.setJob n { j with issued := j.issued + 1 }).setObj (O.crvJobState n) (2 * 2 ^ 24)

/-- TILE_ISSUE (R233): the next FRAME tile of view `v` of output `n`, an INGEST tile of a layer, or the next tile of job `n`. -/
def execTileIssue (t : Nat) (cls : Fin 3) (n : Fin 4) (v : Fin 8) (layer : Fin 64) (prev : Bool) (x y : Nat) (bad : List (Fin 64)) (s : State) :
    Host.Outcome State Fault Refusal :=
  let s := s.at t
  .next (match cls.val with
    | 0 => s.issueFrame n.val v.val (bad.map (·.val))
    | 1 => s.issueIngest n.val layer.val prev x y (bad.map (·.val))
    | _ => s.issueJob n.val)

/-! ### Dispatch (R234, R250) -/

/-- Table 08-11: scalars at the start of a stage; `s1` is the input of a stage after the first. -/
def State.entryScalars (s : State) (t : Tile) (k : Kernel) (stage s1 : Nat) : List Nat :=
  let m := t.output
  let patch := 0x01180000 + 4096 * t.page
  let c := s.cfg (s.leadOf m)
  let frame := t.cls == 0
  let z := (s.comp (s.leadOf m)).scene.find? fun z => t.layerMask == 2 ^ z.layer
  let enc := match z with | some z => z.encoding + 256 * z.alphaMode + 65536 * s.workCode | none => 0
  let org := match z with | some z => (z.srcX, z.srcY) | none => (0, 0)
  [0, if stage = 0 then patch else s1, if stage % 2 = 0 then 0 else 0x6000, 0x01120000 + k.paramAt, if frame then lutAddr (s.lutSlotFor m t.view) else 0,
   if frame then matrixAddr m ((s.slm (s.leadOf m)).composing.getD 0) else 0, (if t.cls = 1 then org.1 else 0) + 64 * t.tx, (if t.cls = 1 then org.2 else 0) + 32 * t.ty,
   if frame then c.depth else 0, if frame then c.prims else 0, if t.cls = 2 then 0 else t.frame, if t.cls = 1 then enc else 0, if frame then patch else 0, 0, 0, 0]

/-- The scalar file that a list of sixteen values makes. -/
def scalarFile (l : List Nat) : List (Nat × Word) := (l.zipIdx.drop 1).foldl (fun m x => kvPut (fun _ => 0) m x.2 (BitVec.ofNat 32 x.1)) []

/-- The chain a tile runs. -/
def State.tileChain (s : State) (t : Tile) : List Nat :=
  match t.cls with
  | 0 => (s.comp t.output).chain
  | 1 => chainOf (s.blobFor t.output O.crvChainIngest)
  | _ => match kvFind s.carve.jobs t.output with | some j => [j.kernel] | none => []

/-- The first tile of a queue by PRIO, then re-dispatch, then age (R234). -/
def firstTile (q : List Tile) : Option Tile :=
  let before (a b : Tile) : Bool := decide (b.prio < a.prio) || (a.prio == b.prio && decide (a.order < b.order))
  q.foldl (fun (m : Option Tile) t => match m with | none => some t | some x => if before t x then some t else some x) none

/-- Engine `e` takes a tile of its cluster's queues and starts stage 0. -/
def State.dispatch (s : State) (e : Nat) : State :=
  let c := engineCluster e
  if (s.engine e).run.isSome || (s.clState c != clOnline && s.clState c != clDraining) then s
  else
    match firstTile (s.cluster c).queue with
    | none => s
    | some t =>
      let x := s.cluster c
      let s := s.setCluster c { x with queue := x.queue.filter fun y => y.id != t.id }
      let t := { t with engine := e % 64 }
      let chain := s.tileChain t
      match s.kernel? (chain.headD 0) with
      | none => s
      | some k =>
        s.setEngine e { s.engine e with
          v := [], s := scalarFile (s.entryScalars t k 0 0), p := [], pc := 0x01000000 + k.codeAt, sat := false, run := some ⟨t, chain, 0, none, s.tick⟩ }

def execEngineDispatch (t : Nat) (e : Fin 1024) (s : State) : Host.Outcome State Fault Refusal := .next ((s.at t).dispatch e.val)

/-! ### Results (R235, R257) -/

/-- The key of R235; INGEST tiles of different layers are no duplicates of each other. -/
def Tile.key (t : Tile) : Nat × Nat × Nat × Nat × Nat :=
  (t.cls, t.output, if t.cls = 1 then (bitsOf 64 t.layerMask).headD 0 + 64 * boolNat t.prev else t.view, t.frame, t.tseq)

/-- A result is the first of its key, of a frame in production. -/
def State.accepts (s : State) (t : Tile) : Bool :=
  match s.producing t.output with
  | some k => k % 65536 == t.frame && !s.carve.seen.contains t.key
  | none => false

/-- A job tile is written to the destination; the first puts it in WRITING. -/
def State.jobWrite (s : State) (t : Tile) (out : List Byte) : State :=
  match kvFind s.carve.jobs t.output with
  | none => s
  | some j =>
    if j.failed.isSome || j.written.contains (t.tx, t.ty) then s.bump O.crvDiscarded
    else
      let i := handleIndex j.dst
      let bpp := fmtBytes (s.obj (O.layBufFormat i))
      let w := min 64 (s.obj (O.layBufWidth i) - 64 * t.tx)
      let h := min 32 (s.obj (O.layBufHeight i) - 32 * t.ty)
      let s := s.setObj (O.layBufState i) bufWriting
      let s := (List.range h).foldl (fun s r => s.bufRow i 0 (64 * t.tx) (32 * t.ty + r) (slice out (64 * bpp * r) (bpp * w))) s
      s.setJob t.output { j with written := j.written ++ [(t.tx, t.ty)] }

/-- TILE_RESULT (R235): a final output leaves engine `e`; `corrected` memory errors were corrected meanwhile (R224). -/
def State.tileResult (s : State) (e corrected : Nat) : State :=
  match (s.engine e).run with
  | none => s
  | some r =>
    match r.out with
    | none => s
    | some out =>
      let t := r.tile
      let c := engineCluster e
      let s := ((s.engineIdle e).bump O.crvTiles).bump (O.crvClTiles c)
      let s := s.bumpBy (O.crvClCorrected c) corrected
      let s :=
        if t.cls = 2 then s.jobWrite t out
        else if !s.accepts t then s.bump O.crvDiscarded
        else
          let s := s.setCarve { s.carve with seen := s.carve.seen ++ [t.key] }
          if t.cls = 0 then s.sliceTile t.output t.view t.tx t.ty out t.chg
          else
            let x := s.comp t.output
            s.setComp t.output { x with work := kvInsert x.work (workKey ((bitsOf 64 t.layerMask).headD 0) t.prev t.tx t.ty) out }
      s.settle.retryWaiting

def execTileResult (t : Nat) (e : Fin 1024) (corrected : Nat) (s : State) : Host.Outcome State Fault Refusal := .next ((s.at t).tileResult e.val corrected)

/-! ### Faults (R236 to R239) -/

/-- A tile is ended after a second fault: E111, and its replacement by class (R237). -/
def State.substitute (s : State) (t : Tile) (kernel cause : Nat) : State :=
  let s := (s.raiseTile 111 t.cluster t.engine kernel t).bump O.crvSubstituted
  match t.cls with
  | 0 => if s.accepts t then
      (s.setCarve { s.carve with seen := s.carve.seen ++ [t.key] }).sliceTile t.output t.view t.tx t.ty (s.standIn t.output t.view t.tx t.ty) t.chg
    else s
  | 1 =>
    let x := s.comp t.output
    s.setComp t.output { x with work := kvInsert x.work (workKey ((bitsOf 64 t.layerMask).headD 0) t.prev t.tx t.ty) [] }
  | _ =>
    match kvFind s.carve.jobs t.output with
    | none => s
    | some j => s.setJob t.output { j with failed := some (Config.jobFault cause t.tseq % 65536) }

/-- The format of a tile's input. -/
def State.inputFormat (s : State) (t : Tile) : Nat :=
  match t.cls with
  | 0 => fmtPatch
  | 1 => match (s.comp (s.leadOf t.output)).scene.find? fun z => t.layerMask == 2 ^ z.layer with | some z => z.format | none => t.format
  | _ => match kvFind s.carve.jobs t.output with | some j => s.obj (O.layBufFormat (handleIndex j.src)) | none => t.format

/-- The compositor or job unit builds a tile's input again. -/
def State.rebuilt (s : State) (t : Tile) : Tile :=
  let t := { t with redisp := true, order := 0, stage := 0, format := s.inputFormat t }
  if t.cls = 0 then
    match s.frameTile t.output t.view ((s.producing t.output).getD 0) t.tx t.ty [] with
    | some (u, _) => { t with input := u.input, pages := u.pages, poison := u.poison }
    | none => t
  else t

/-- A tile that faulted on cluster `c`: re-dispatched once, to another cluster where one serves it; or ended (R237). -/
def State.refault (s : State) (c kernel cause : Nat) (t : Tile) : State :=
  if t.redisp || s.onlineClusters.isEmpty then s.substitute t kernel cause
  else
    let s := (s.raiseTile 110 c t.engine kernel t).bump O.crvRedispatched
    let t := s.rebuilt t
    let others := (s.tileClusters t).filter (· != c)
    match if others.isEmpty then s.placeTile t else (s.mostFree others).bind fun d => s.enqueue_ d t with
    | some s => s
    | none => s.setCarve { s.carve with waiting := s.carve.waiting ++ [t] }

/-- The kernel that runs on an engine. -/
def Run.kernel (r : Run) : Nat := r.chain.getD r.tile.stage 0

/-- A cluster becomes FAULTED (R238): E112, its queued tiles move, its running tiles are handled as faulted, and its view takes another cluster. -/
def State.clusterFault (s : State) (c cause : Nat) : State :=
  if s.clState c = clFaulted then s
  else
    let s := ((s.setObj (O.crvClState c) clFaulted).countEngines).raiseCarve 112 c 0
    let v := s.obj (O.crvClView c)
    let s := (s.setCluster c { s.cluster c with next := none }).moveQueue c
    let s := s.replaceCluster v
    let runs := (clusterEngines c).filterMap fun e => (s.engine e).run.map fun r => (e, r)
    (runs.foldl (fun s x => (s.engineIdle x.1).refault c x.2.kernel cause x.2.tile) s).retryWaiting

/-- A tile fault on engine `e` (R236): recorded, the tile re-dispatched or ended, and the cluster faulted by its limit or by its CODE, LUT or PARAM memory (`shared`). -/
def State.tileFault (s : State) (e cause : Nat) (shared : Bool) : State :=
  match (s.engine e).run with
  | none => s
  | some r =>
    let c := engineCluster e
    let s := (s.bump O.crvFaults).bump (O.crvClFaults c)
    let s := s.setObj (O.crvClLastFault c) (cause * 2 ^ 24 + e % 64 * 2 ^ 16 + r.kernel)
    let x := s.cluster c
    let recent := (x.faults ++ [s.tick]).filter fun f => decide (s.tick < f + ticksPerSec)
    let s := (s.setCluster c { x with faults := recent }).engineIdle e
    let s := if (cause == 4 && shared) || decide (s.obj O.crvFaultLimit ≤ recent.length) then s.clusterFault c cause else s
    ((s.refault c r.kernel cause r.tile).settle).retryWaiting

/-! ### Clusters offline and back (R240, R241) -/

/-- The exact demand in force is within the ceiling for `n` engines (R258). -/
def State.computeFits (s : State) (d : Nat × Nat) (n : Nat) : Bool := decide (100 * d.1 ≤ s.obj O.crvLoadCeiling * n * 1718750000 * d.2)

/-- A write of `CRV_CL_ONLINE`. -/
def effClOnline : Effect := fun _ _ r ref v s =>
  let c := refIndex ref - 0x2710
  let n := s.onlineClusters.length - 1
  if beNat v = 0 then
    if s.clState c ≠ clOnline then done (s.store r ref v)
    else if !s.computeFits s.carve.demand (64 * n) || n < s.viewWeights.length then refuse s St.capacity
    else
      let s := ((s.store r ref v).setObj (O.crvClState c) clDraining).countEngines
      let s := (s.setCluster c { s.cluster c with next := none }).moveQueue c
      done ((s.replaceCluster (s.obj (O.crvClView c))).retryWaiting)
  else if s.clState c = clOffline || s.clState c = clFaulted then done ((s.store r ref v).setObj (O.crvClState c) clTesting)
  else done (s.store r ref v)

def execClusterOfflineReq (t : Nat) (q : Req) (c : Fin 16) (s : State) : Host.Outcome State Fault Refusal :=
  .next ((s.at t).hostWrite q (O.crvClOnline c.val) [0] effClOnline)
def execClusterOnlineReq (t : Nat) (q : Req) (c : Fin 16) (s : State) : Host.Outcome State Fault Refusal :=
  .next ((s.at t).hostWrite q (O.crvClOnline c.val) [1] effClOnline)

/-- CLUSTER_DRAINED (R240): the last running tile of a draining cluster has finished. -/
def State.drained (s : State) (c : Nat) : State :=
  if s.clState c = clDraining && (s.held c).isEmpty then (s.setObj (O.crvClState c) clOffline).raiseCarve 113 c 0 else s

def execClusterDrained (t : Nat) (c : Fin 16) (s : State) : Host.Outcome State Fault Refusal := .next ((s.at t).drained c.val)

/-- The view a new cluster receives when it makes `n` of them: an unserved one first, else the lowest that has fewer clusters than its share (R225, R239). -/
def State.viewFor (s : State) (n : Nat) : Nat :=
  let w := s.viewWeights
  match w.find? fun x => s.unservedView x.1 with
  | some x => x.1
  | none =>
    match (clusterShares n w).find? fun x => decide ((s.serving x.1).length < x.2) with
    | some x => x.1
    | none => 0

/-- CLUSTER_TEST_DONE (R241): ONLINE with a view and E114, or FAULTED with E115. -/
def State.testDone (s : State) (c : Nat) (ok : Bool) : State :=
  if s.clState c ≠ clTesting then s
  else if !ok then (s.setObj (O.crvClState c) clFaulted).raiseCarve 115 c 0
  else
    let lost := s.viewWeights.any fun x => s.unservedView x.1
    let v := s.viewFor (s.onlineClusters.length + 1)
    let s := ((s.setObj (O.crvClState c) clOnline).countEngines).setCluster c {}
    let s :=
      if lost || s.obj (O.crvClView c) ≠ v then
        ((s.setObj (O.crvClView c) v).setCarve { s.carve with unserved := s.carve.unserved.filter (· != v) }).raiseCarve 119 c 0
      else s
    (s.raiseCarve 114 c 0).retryWaiting

def execClusterTestDone (t : Nat) (c : Fin 16) (ok : Bool) (s : State) : Host.Outcome State Fault Refusal := .next ((s.at t).testDone c.val ok)

/-! ### Jobs (R256, R257) -/

/-- A write of `CRV_JOB`; the answer names the slot. -/
def effCrvJob : Effect := fun _ _ _ _ v s =>
  let f (o n : Nat) : Nat := leAt v o n
  let src := f 4 4
  let dst := f 8 4
  let i := handleIndex src
  let d := handleIndex dst
  match (List.range 4).find? fun n => (kvFind s.carve.jobs n).isNone with
  | none => refuse s St.noSlot
  | some n =>
    match (s.handleFault src).orElse fun _ => s.handleFault dst with
    | some st => refuse s st
    | none =>
      if s.bufState i = bufWriting then refuse s St.bufferWriting
      else if s.bufState d = bufRelease then refuse s St.bufferRetiring
      else if s.bufRefs d ≠ 0 then refuse s St.bufferInUse
      else
        match s.kernel? (f 0 2) with
        | none => refuse s St.badValue
        | some k =>
          let j : Job := ⟨k.id, f 2 1, src, dst, f 12 2, f 14 2, f 16 2, f 18 2, 0, [], none⟩
          let sc := max 1 k.jobScale
          if !bit k.cls 2 || 1 < j.prio || f 3 1 ≠ 0 || !(slice v 20 12).all (· == 0) || s.obj (O.layBufFormat d) ≠ s.obj (O.layBufFormat i)
              || s.obj (O.layBufWidth d) ≠ ceilDiv j.srcW sc || s.obj (O.layBufHeight d) ≠ ceilDiv j.srcH sc
              || s.obj (O.layBufWidth i) < j.srcX + j.srcW || s.obj (O.layBufHeight i) < j.srcY + j.srcH then refuse s St.badValue
          else doneWith ((s.setJob n j).setObj (O.crvJobState n) (1 * 2 ^ 24)) (leBytes 1 n)

def execCrvJob (t : Nat) (q : Req) (v : List Byte) (s : State) : Host.Outcome State Fault Refusal := .next ((s.at t).hostWrite q O.crvJob v effCrvJob)

/-- The last destination tile of a job is written: its commit point has passed. -/
def State.jobWritten (s : State) (j : Job) : Bool := let (w, h) := s.jobTiles j; j.written.length == w * h

/-- A job ends: state (3 COMPLETED, 4 ABORTED, 5 FAILED) and status, both references released, E118. -/
def State.endJob (s : State) (n state status : Nat) (j : Job) : State :=
  let s := s.setCarve { s.carve with jobs := kvErase s.carve.jobs n }
  let s := s.dropTiles fun t => t.cls == 2 && t.output == n
  let s := s.setObj (O.crvJobState n) (state * 2 ^ 24 + status)
  let s := if state = 3 then s.bufWritten (handleIndex j.dst) 0 else s
  (s.raise 118 [0, 0, j.kernel, 0, 0, state]).reap

/-- A write of `CRV_JOB_CANCEL`: ABORTED before the commit point, NOT_ACTIVE otherwise. -/
def effCrvJobCancel : Effect := fun _ _ _ _ v s =>
  let n := beNat v
  match kvFind s.carve.jobs n with
  | none => refuse s St.notActive
  | some j => if s.jobWritten j || j.failed.isSome then refuse s St.notActive else done (s.endJob n 4 0 j)

def execCrvJobCancel (t : Nat) (q : Req) (v : List Byte) (s : State) : Host.Outcome State Fault Refusal :=
  .next ((s.at t).hostWrite q O.crvJobCancel v effCrvJobCancel)

/-- CRV_JOB_END (R257): a job whose last tile is written is COMPLETED, one with a tile faulted twice FAILED. -/
def State.jobEnds (s : State) (n : Nat) : State :=
  match kvFind s.carve.jobs n with
  | none => s
  | some j =>
    match j.failed with
    | some st => s.endJob n 5 st j
    | none => if s.jobWritten j then s.endJob n 3 0 j else s

def execCrvJobEnd (t : Nat) (j : Fin 4) (s : State) : Host.Outcome State Fault Refusal := .next ((s.at t).jobEnds j.val)

end Sys2Proof.Machine
end

