-- ==== Sys2Proof/Machine/Engine.lean ====
section
/-! DEFINITION. The instruction set of the Carve engines (R242 to R246, Tables 08-8 and 08-9): fields of an instruction word, registers, memory, the guard, and one meaning for each opcode. -/

namespace Sys2Proof.Machine

/-! ### Fields (Table 08-8) -/

/-- The fields that formats V, I and M share, and those of V. -/
structure VOp where
  pg   : Nat
  pn   : Bool
  d    : Nat
  a    : Nat
  b    : Nat
  c    : Nat
  w16  : Bool
  u    : Bool
  sh   : Nat
  pd   : Nat
  cond : Nat
deriving DecidableEq, Repr

def opcodeOf (w : Nat) : Nat := bits w 63 56

def vOp (w : Nat) : VOp :=
  ⟨bits w 55 53, bit w 52, bits w 51 47, bits w 46 42, bits w 41 37, bits w 36 32, bit w 31, bit w 30, bits w 29 25, bits w 24 22, bits w 21 18⟩

/-- Format V is well formed: reserved bits zero, COND at most 6 (R246). -/
def vOk (w : Nat) : Bool := bits w 17 0 == 0 && decide (bits w 21 18 ≤ 6)
/-- No guard: a scalar or control instruction (R246). -/
def noGuard (w : Nat) : Bool := bits w 55 52 == 0
/-- A scalar in a 5-bit field has its top bit clear (R243). -/
def scalarField (f : Nat) : Bool := decide (f < 16)

/-- Format I. -/
structure IOp where
  pg  : Nat
  pn  : Bool
  d   : Nat
  a   : Nat
  w16 : Bool
  imm : Nat
deriving DecidableEq, Repr

def iOp (w : Nat) : IOp := ⟨bits w 55 53, bit w 52, bits w 51 47, bits w 46 42, bit w 41, bits w 31 0⟩
def iOk (w : Nat) : Bool := bits w 40 32 == 0

/-- Format M. -/
structure MOp where
  pg    : Nat
  pn    : Bool
  d     : Nat
  sb    : Nat
  x     : Nat
  size  : Nat
  scale : Nat
  off   : Int
deriving DecidableEq, Repr

def mOp (w : Nat) : MOp := ⟨bits w 55 53, bit w 52, bits w 51 47, bits w 46 43, bits w 42 38, bits w 37 36, bits w 35 33, toI32 (bits w 31 0)⟩
def mOk (w : Nat) : Bool := !bit w 32

/-- Format B. -/
structure BOp where
  sa   : Nat
  sb   : Nat
  cond : Nat
  off  : Int
deriving DecidableEq, Repr

def bOp (w : Nat) : BOp := ⟨bits w 51 48, bits w 47 44, bits w 43 40, toI32 (bits w 31 0)⟩
def bOk (w : Nat) : Bool := bits w 55 52 == 0 && bits w 39 32 == 0 && decide (bits w 43 40 ≤ 6)

/-- A condition on two words (R243). -/
def condHolds (c : Nat) (x y : Word) : Bool :=
  match c with
  | 0 => x == y
  | 1 => x != y
  | 2 => x.slt y
  | 3 => !x.slt y
  | 4 => x.ult y
  | 5 => !x.ult y
  | _ => true

/-! ### Registers (R242) -/

def Eng.sreg (g : Eng) (r : Nat) : Word := if r = 0 then 0 else kvGet (fun _ => 0) g.s r
def Eng.setS (g : Eng) (r : Nat) (x : Word) : Eng := if r = 0 then g else { g with s := kvPut (fun _ => 0) g.s r x }
def Eng.lane (g : Eng) (r l : Nat) : Word := kvGet (fun _ => 0) g.v (16 * r + l)
def Eng.setLane (g : Eng) (r l : Nat) (x : Word) : Eng := { g with v := kvPut (fun _ => 0) g.v (16 * r + l) x }
def Eng.preg (g : Eng) (r : Nat) : Half := if r = 0 then 0xFFFF else kvGet (fun _ => 0) g.p r
def Eng.setP (g : Eng) (r : Nat) (x : Half) : Eng := if r = 0 then g else { g with p := kvPut (fun _ => 0) g.p r x }

/-- The guard of lane `l`: p[PG] XOR PN. -/
def Eng.guard (g : Eng) (pg : Nat) (pn : Bool) (l : Nat) : Bool := (g.preg pg).getLsbD l != pn

def lanes : List Nat := List.range 16

/-- Write the guarded lanes of a v register. -/
def Eng.putLanes (g : Eng) (pg : Nat) (pn : Bool) (d : Nat) (f : Nat → Word) : Eng :=
  lanes.foldl (fun h l => if g.guard pg pn l then h.setLane d l (f l) else h) g

/-- SAT is set where a guarded lane clamped. -/
def Eng.putSat (g : Eng) (pg : Nat) (pn : Bool) (f : Nat → Bool) : Eng := { g with sat := g.sat || lanes.any fun l => g.guard pg pn l && f l }

/-! ### Elements -/

/-- Element `h` of a lane: the lane, or one of its halves. -/
def element (w16 : Bool) (x : Word) (h : Nat) : Nat := if w16 then x.toNat / 2 ^ (16 * h) % 65536 else x.toNat
/-- An element as a number, signed unless U. -/
def elemInt (w16 u : Bool) (v : Nat) : Int := if u then (v : Int) else toSigned (if w16 then 16 else 32) v
/-- An exact result clamped to the element range (R244), and whether it was. -/
def saturate (w16 u : Bool) (v : Int) : Nat × Bool :=
  let n := if w16 then 16 else 32
  let lo : Int := if u then 0 else -(2 ^ (n - 1) : Nat)
  let hi : Int := if u then (2 ^ n : Nat) - 1 else (2 ^ (n - 1) : Nat) - 1
  (ofSigned n (clampInt lo hi v), decide (v < lo) || decide (hi < v))
/-- An exact result modulo the element width. -/
def wrap (w16 : Bool) (v : Int) : Nat := ofSigned (if w16 then 16 else 32) v

/-- A lane from an operation on its elements. -/
def eachElem (w16 : Bool) (f : Nat → Nat × Bool) : Word × Bool :=
  if w16 then (BitVec.ofNat 32 ((f 0).1 + 65536 * (f 1).1), (f 0).2 || (f 1).2) else (BitVec.ofNat 32 (f 0).1, (f 0).2)

/-- An elementwise operation on a, b, c and the old d: the guarded lanes of d, and SAT. -/
def Eng.elementwise (g : Eng) (o : VOp) (f : Int → Int → Int → Int → Nat × Bool) : Eng :=
  let r (l : Nat) : Word × Bool := eachElem o.w16 fun h =>
    let e (x : Nat) : Int := elemInt o.w16 o.u (element o.w16 (g.lane x l) h)
    f (e o.a) (e o.b) (e o.c) (e o.d)
  (g.putLanes o.pg o.pn o.d fun l => (r l).1).putSat o.pg o.pn fun l => (r l).2

/-- r of R244. -/
def roundTerm (sh : Nat) : Int := if sh = 0 then 0 else (2 ^ (sh - 1) : Nat)
/-- An exact arithmetic shift right. -/
def shiftDown (v : Int) (sh : Nat) : Int := v / (2 ^ sh : Nat)

/-! ### Memory (R223) -/

/-- The address of an access: sB + OFF, modulo 2³². -/
def effAddr (base : Word) (off : Int) : Nat := (base + BitVec.ofInt 32 off).toNat

/-- Whether `n` bytes at `a` lie in local memory, or in cluster memory that a kernel may read. -/
def inLocal (a n : Nat) : Bool := decide (a + n ≤ 0x10000)
def inCluster (a n : Nat) : Bool := decide (0x01040000 ≤ a) && decide (a + n ≤ 0x01400000)
def readable (a n : Nat) : Bool := a % n == 0 && (inLocal a n || inCluster a n)

/-- A byte as engine `e` sees it. -/
def State.engByte (s : State) (e a : Nat) : Byte := if a < 0x10000 then kvGet (fun _ => 0) (s.engine e).loc a else s.clusterByte (engineCluster e) a
/-- `n` bytes, little-endian. -/
def State.engLoad (s : State) (e a n : Nat) : Nat := leNat ((List.range n).map fun i => s.engByte e (a + i))

def Eng.store (g : Eng) (a : Nat) (l : List Byte) : Eng := { g with loc := l.zipIdx.foldl (fun m x => kvPut (fun _ => 0) m (a + x.2) x.1) g.loc }

/-! ### One instruction -/

/-- What an instruction does: a fault cause, or the engine after it and its cycles; the pc has moved on unless `jump` names the next. -/
inductive Issue where
  | fault (cause : Nat)
  | done (g : Eng) (cycles : Nat)
  | jump (g : Eng) (cycles : Nat) (pc : Nat)

/-- The WCET of the stage in progress. -/
def State.stageLimit (s : State) (r : Run) : Nat := match s.kernel? r.kernel with | some k => k.wcet | none => 0

/-- Whether pc names a CODE word. -/
def pcOk (pc : Nat) : Bool := pc % 8 == 0 && decide (0x01000000 ≤ pc) && decide (pc < 0x01040000)

/-- Engine `e` issues its next instruction if its opcode is one of `ops`; `f` gives its effect (R246, R250: a stage runs until END, a fault or its WCET). -/
def State.issue (s : State) (e : Nat) (ops : Nat) (f : State → Eng → Nat → Issue) : State :=
  let g := s.engine e
  match g.run with
  | none => s
  | some r =>
    if r.out.isSome || !pcOk g.pc then s
    else
      let w := s.codeWord g.pc
      if opcodeOf w ≠ ops then s
      else
        let go (g : Eng) (n pc : Nat) : State :=
          if s.stageLimit r < r.cycles + n then s.tileFault e 3 false
          else s.setEngine e { g with pc := pc, run := some { r with cycles := r.cycles + n } }
        match f s g w with
        | .fault c => s.tileFault e c false
        | .done g n => go g n (g.pc + 8)
        | .jump g n pc => go g n pc

/-- An instruction that is well formed, else ILLEGAL. -/
def legal (ok : Bool) (x : Issue) : Issue := if ok then x else .fault 1

/-! ### Control (0x00 to 0x05) -/

def execEngNop (t : Nat) (e : Fin 1024) (s : State) : Host.Outcome State Fault Refusal :=
  .next ((s.at t).issue e.val 0x00 fun _ g w => legal (bOk w) (.done g 1))

/-- Bytes of the payload in a stage's buffer (Table 08-3). -/
def State.outBytes (s : State) (t : Tile) (f : Nat) : Nat :=
  if f = fmtWork then 16384
  else if f = fmtDrive then 24576
  else if f = fmtFrag then 256 * (s.cfg (s.leadOf t.output)).tilePlanes.length
  else if isLayer f then 2048 * fmtBytes (if t.cls = 2 then (match kvFind s.carve.jobs t.output with | some j => s.obj (O.layBufFormat (handleIndex j.dst)) | none => f) else f)
  else 0

/-- END: the stage ends with the buffer at s2 as its output; the next stage starts, or the tile's final output is ready (R234, R250). `clips` is the number of pixels of a COLOUR
stage with a clamped drive (R126). -/
def State.engEnd (s : State) (e clips : Nat) : State :=
  let g := s.engine e
  match g.run with
  | none => s
  | some r =>
    if r.out.isSome || !pcOk g.pc then s
    else
      let w := s.codeWord g.pc
      if opcodeOf w ≠ 1 then s
      else if !bOk w then s.tileFault e 1 false
      else if s.stageLimit r < r.cycles + 1 then s.tileFault e 3 false
      else
        match s.kernel? r.kernel with
        | none => s
        | some k =>
          let s2 := (g.sreg 2).toNat
          let n := s.outBytes r.tile k.outFmt
          if !inLocal s2 n then s.tileFault e 2 false
          else
            let s := if k.id = 0x0010 && r.tile.cls = 0 then s.bumpBy (O.colClips r.tile.output) (min clips 2048) else s
            let t := { r.tile with format := if k.outFmt = fmtLayer then r.tile.format else k.outFmt }
            match r.chain[r.tile.stage + 1]? with
            | none =>
              let s := if g.sat then s.bump O.crvSatTiles else s
              s.setEngine e { g with run := some { r with tile := t, out := some ((List.range n).map fun i => s.engByte e (s2 + i)) } }
            | some id =>
              match s.kernel? id with
              | none => s
              | some k =>
                let stage := r.tile.stage + 1
                s.setEngine e { g with
                  s := scalarFile (s.entryScalars t k stage s2), pc := 0x01000000 + k.codeAt, run := some { r with tile := { t with stage := stage }, cycles := 0 } }

def execEngEnd (t : Nat) (e : Fin 1024) (clips : Nat) (s : State) : Host.Outcome State Fault Refusal := .next ((s.at t).engEnd e.val clips)

/-- A branch target. -/
def branchTo (pc : Nat) (off : Int) : Nat := (((pc : Int) + 8 * off) % 4294967296).toNat

def execBr (t : Nat) (e : Fin 1024) (s : State) : Host.Outcome State Fault Refusal :=
  .next ((s.at t).issue e.val 0x02 fun _ g w => legal (bOk w) (.jump g 2 (branchTo g.pc (bOp w).off)))

def execBrs (t : Nat) (e : Fin 1024) (s : State) : Host.Outcome State Fault Refusal :=
  .next ((s.at t).issue e.val 0x03 fun _ g w =>
    let o := bOp w
    legal (bOk w) (if condHolds o.cond (g.sreg o.sa) (g.sreg o.sb) then .jump g 2 (branchTo g.pc o.off) else .done g 1))

def execEngFault (t : Nat) (e : Fin 1024) (s : State) : Host.Outcome State Fault Refusal :=
  .next ((s.at t).issue e.val 0x04 fun _ _ w => legal (bOk w) (.fault 5))

/-- SHDR: a header word; the spec gives words 0 to 7. -/
def execShdr (t : Nat) (e : Fin 1024) (s : State) : Host.Outcome State Fault Refusal :=
  .next ((s.at t).issue e.val 0x05 fun s g w =>
    let o := iOp w
    let x : Word := match g.run with
      | some r => if o.imm ≤ 7 then BitVec.ofNat 32 (r.tile.word o.imm) else Config.headerBeyond o.imm s.carve.nextTile
      | none => 0
    legal (iOk w && noGuard w && scalarField o.d) (.done (g.setS o.d x) 1))

/-! ### Scalars (0x10 to 0x1B) -/

/-- sD = f(sA, sB). -/
def scalarOp (f : VOp → Word → Word → Word) (g : Eng) (w : Nat) : Issue :=
  let o := vOp w
  legal (vOk w && noGuard w && scalarField o.d && scalarField o.a && scalarField o.b) (.done (g.setS o.d (f o (g.sreg o.a) (g.sreg o.b))) 1)

/-- sD = f(sA): SSHL and SSHR name no sB. -/
def scalarShift (f : VOp → Word → Word) (g : Eng) (w : Nat) : Issue :=
  let o := vOp w
  legal (vOk w && noGuard w && scalarField o.d && scalarField o.a) (.done (g.setS o.d (f o (g.sreg o.a))) 1)

def execSadd (t : Nat) (e : Fin 1024) (s : State) : Host.Outcome State Fault Refusal :=
  .next ((s.at t).issue e.val 0x10 fun _ g w => scalarOp (fun _ x y => x + y) g w)
def execSsub (t : Nat) (e : Fin 1024) (s : State) : Host.Outcome State Fault Refusal :=
  .next ((s.at t).issue e.val 0x11 fun _ g w => scalarOp (fun _ x y => x - y) g w)
def execSmul (t : Nat) (e : Fin 1024) (s : State) : Host.Outcome State Fault Refusal :=
  .next ((s.at t).issue e.val 0x12 fun _ g w => scalarOp (fun _ x y => x * y) g w)
def execSand (t : Nat) (e : Fin 1024) (s : State) : Host.Outcome State Fault Refusal :=
  .next ((s.at t).issue e.val 0x13 fun _ g w => scalarOp (fun _ x y => x &&& y) g w)
def execSor (t : Nat) (e : Fin 1024) (s : State) : Host.Outcome State Fault Refusal :=
  .next ((s.at t).issue e.val 0x14 fun _ g w => scalarOp (fun _ x y => x ||| y) g w)
def execSxor (t : Nat) (e : Fin 1024) (s : State) : Host.Outcome State Fault Refusal :=
  .next ((s.at t).issue e.val 0x15 fun _ g w => scalarOp (fun _ x y => x ^^^ y) g w)
def execSshl (t : Nat) (e : Fin 1024) (s : State) : Host.Outcome State Fault Refusal :=
  .next ((s.at t).issue e.val 0x16 fun _ g w => scalarShift (fun o x => x <<< o.sh) g w)
def execSshr (t : Nat) (e : Fin 1024) (s : State) : Host.Outcome State Fault Refusal :=
  .next ((s.at t).issue e.val 0x17 fun _ g w => scalarShift (fun o x => if o.u then x >>> o.sh else x.sshiftRight o.sh) g w)

def execSmovi (t : Nat) (e : Fin 1024) (s : State) : Host.Outcome State Fault Refusal :=
  .next ((s.at t).issue e.val 0x18 fun _ g w =>
    let o := iOp w
    legal (iOk w && noGuard w && scalarField o.d) (.done (g.setS o.d (BitVec.ofNat 32 o.imm)) 1))
def execSaddi (t : Nat) (e : Fin 1024) (s : State) : Host.Outcome State Fault Refusal :=
  .next ((s.at t).issue e.val 0x19 fun _ g w =>
    let o := iOp w
    legal (iOk w && noGuard w && scalarField o.d && scalarField o.a) (.done (g.setS o.d (g.sreg o.a + BitVec.ofNat 32 o.imm)) 1))

/-- A 32-bit scalar load. -/
def execSld (t : Nat) (e : Fin 1024) (s : State) : Host.Outcome State Fault Refusal :=
  .next ((s.at t).issue e.val 0x1A fun s g w =>
    let o := mOp w
    let a := effAddr (g.sreg o.sb) o.off
    legal (mOk w && noGuard w && scalarField o.d)
      (if !readable a 4 then .fault 2 else .done (g.setS o.d (BitVec.ofNat 32 (s.engLoad e.val a 4))) (if inLocal a 4 then 1 else 2)))

/-- A 32-bit scalar store, to local memory only. -/
def execSst (t : Nat) (e : Fin 1024) (s : State) : Host.Outcome State Fault Refusal :=
  .next ((s.at t).issue e.val 0x1B fun _ g w =>
    let o := mOp w
    let a := effAddr (g.sreg o.sb) o.off
    legal (mOk w && noGuard w && scalarField o.d)
      (if a % 4 != 0 || !inLocal a 4 then .fault 2 else .done (g.store a (leBytes 4 (g.sreg o.d).toNat)) 1))

/-! ### Elementwise vectors (0x20 to 0x2F) -/

/-- An elementwise instruction in one cycle. -/
def vectorOp (f : VOp → Int → Int → Int → Int → Nat × Bool) (g : Eng) (w : Nat) : Issue :=
  let o := vOp w
  legal (vOk w) (.done (g.elementwise o (f o)) 1)

def execVadd (t : Nat) (e : Fin 1024) (s : State) : Host.Outcome State Fault Refusal :=
  .next ((s.at t).issue e.val 0x20 fun _ g w => vectorOp (fun o a b _ _ => (wrap o.w16 (a + b), false)) g w)
def execVsub (t : Nat) (e : Fin 1024) (s : State) : Host.Outcome State Fault Refusal :=
  .next ((s.at t).issue e.val 0x21 fun _ g w => vectorOp (fun o a b _ _ => (wrap o.w16 (a - b), false)) g w)
def execVadds (t : Nat) (e : Fin 1024) (s : State) : Host.Outcome State Fault Refusal :=
  .next ((s.at t).issue e.val 0x22 fun _ g w => vectorOp (fun o a b _ _ => saturate o.w16 o.u (a + b)) g w)
def execVsubs (t : Nat) (e : Fin 1024) (s : State) : Host.Outcome State Fault Refusal :=
  .next ((s.at t).issue e.val 0x23 fun _ g w => vectorOp (fun o a b _ _ => saturate o.w16 o.u (a - b)) g w)
def execVmul (t : Nat) (e : Fin 1024) (s : State) : Host.Outcome State Fault Refusal :=
  .next ((s.at t).issue e.val 0x24 fun _ g w => vectorOp (fun o a b _ _ => (wrap o.w16 (a * b), false)) g w)
def execVmulq (t : Nat) (e : Fin 1024) (s : State) : Host.Outcome State Fault Refusal :=
  .next ((s.at t).issue e.val 0x25 fun _ g w => vectorOp (fun o a b _ _ => saturate o.w16 o.u (shiftDown (a * b + roundTerm o.sh) o.sh)) g w)
def execVmac (t : Nat) (e : Fin 1024) (s : State) : Host.Outcome State Fault Refusal :=
  .next ((s.at t).issue e.val 0x26 fun _ g w => vectorOp (fun o a b _ d => saturate o.w16 o.u (d + shiftDown (a * b + roundTerm o.sh) o.sh)) g w)
def execVmin (t : Nat) (e : Fin 1024) (s : State) : Host.Outcome State Fault Refusal :=
  .next ((s.at t).issue e.val 0x27 fun _ g w => vectorOp (fun o a b _ _ => (wrap o.w16 (min a b), false)) g w)
def execVmax (t : Nat) (e : Fin 1024) (s : State) : Host.Outcome State Fault Refusal :=
  .next ((s.at t).issue e.val 0x28 fun _ g w => vectorOp (fun o a b _ _ => (wrap o.w16 (max a b), false)) g w)

/-- A bitwise instruction on lanes. -/
def bitwiseOp (f : Word → Word → Word) (g : Eng) (w : Nat) : Issue :=
  let o := vOp w
  legal (vOk w) (.done (g.putLanes o.pg o.pn o.d fun l => f (g.lane o.a l) (g.lane o.b l)) 1)

def execVand (t : Nat) (e : Fin 1024) (s : State) : Host.Outcome State Fault Refusal :=
  .next ((s.at t).issue e.val 0x29 fun _ g w => bitwiseOp (fun x y => x &&& y) g w)
def execVor (t : Nat) (e : Fin 1024) (s : State) : Host.Outcome State Fault Refusal :=
  .next ((s.at t).issue e.val 0x2A fun _ g w => bitwiseOp (fun x y => x ||| y) g w)
def execVxor (t : Nat) (e : Fin 1024) (s : State) : Host.Outcome State Fault Refusal :=
  .next ((s.at t).issue e.val 0x2B fun _ g w => bitwiseOp (fun x y => x ^^^ y) g w)

def execVshl (t : Nat) (e : Fin 1024) (s : State) : Host.Outcome State Fault Refusal :=
  .next ((s.at t).issue e.val 0x2C fun _ g w => vectorOp (fun o a _ _ _ => (wrap o.w16 (a * (2 ^ o.sh : Nat)), false)) g w)
/-- A logical shift reads unsigned elements, an arithmetic one signed. -/
def execVshr (t : Nat) (e : Fin 1024) (s : State) : Host.Outcome State Fault Refusal :=
  .next ((s.at t).issue e.val 0x2D fun _ g w => vectorOp (fun o a _ _ _ => (wrap o.w16 (shiftDown a o.sh), false)) g w)

/-- Unsigned 16-bit interpolation, whatever U. -/
def execVlerp (t : Nat) (e : Fin 1024) (s : State) : Host.Outcome State Fault Refusal :=
  .next ((s.at t).issue e.val 0x2E fun _ g w =>
    let o := { vOp w with u := true }
    legal (vOk w && o.w16) (.done (g.elementwise o fun a b c _ => (wrap true (a + shiftDown ((b - a) * c + 32768) 16), false)) 1))

/-- Predicate PD from a comparison of lanes, 0 where the guard is false. -/
def execVcmp (t : Nat) (e : Fin 1024) (s : State) : Host.Outcome State Fault Refusal :=
  .next ((s.at t).issue e.val 0x2F fun _ g w =>
    let o := vOp w
    let r := lanes.foldl (fun a l => if g.guard o.pg o.pn l && condHolds o.cond (g.lane o.a l) (g.lane o.b l) then a + 2 ^ l else a) 0
    legal (vOk w && !o.w16) (.done (g.setP o.pd (BitVec.ofNat 16 r)) 1))

/-! ### Moves between registers (0x30 to 0x36) -/

/-- A lane instruction: guarded lanes of d, and SAT. -/
def laneOp (ok : VOp → Bool) (f : VOp → Nat → Word × Bool) (g : Eng) (w : Nat) : Issue :=
  let o := vOp w
  legal (vOk w && ok o) (.done ((g.putLanes o.pg o.pn o.d fun l => (f o l).1).putSat o.pg o.pn fun l => (f o l).2) 1)

def execVsel (t : Nat) (e : Fin 1024) (s : State) : Host.Outcome State Fault Refusal :=
  .next ((s.at t).issue e.val 0x30 fun _ g w =>
    laneOp (fun _ => true) (fun o l => (if (g.preg o.pd).getLsbD l then g.lane o.a l else g.lane o.b l, false)) g w)
def execVbcast (t : Nat) (e : Fin 1024) (s : State) : Host.Outcome State Fault Refusal :=
  .next ((s.at t).issue e.val 0x31 fun _ g w => laneOp (fun o => scalarField o.a) (fun o _ => (g.sreg o.a, false)) g w)

def execVmovi (t : Nat) (e : Fin 1024) (s : State) : Host.Outcome State Fault Refusal :=
  .next ((s.at t).issue e.val 0x32 fun _ g w =>
    let o := iOp w
    let x : Word := BitVec.ofNat 32 (if o.w16 then o.imm % 65536 * 65537 else o.imm)
    legal (iOk w) (.done (g.putLanes o.pg o.pn o.d fun _ => x) 1))

def execVlane (t : Nat) (e : Fin 1024) (s : State) : Host.Outcome State Fault Refusal :=
  .next ((s.at t).issue e.val 0x33 fun _ g w =>
    laneOp (fun o => scalarField o.a && scalarField o.b) (fun o l => (g.sreg o.a + BitVec.ofNat 32 l * g.sreg o.b, false)) g w)

def execVext (t : Nat) (e : Fin 1024) (s : State) : Host.Outcome State Fault Refusal :=
  .next ((s.at t).issue e.val 0x34 fun _ g w =>
    let o := vOp w
    legal (vOk w && scalarField o.d && scalarField o.b) (.done (g.setS o.d (g.lane o.a ((g.sreg o.b).toNat % 16))) 1))

def execVpack (t : Nat) (e : Fin 1024) (s : State) : Host.Outcome State Fault Refusal :=
  .next ((s.at t).issue e.val 0x35 fun _ g w =>
    laneOp (fun _ => true) (fun o l =>
      let x := saturate true o.u (elemInt false o.u (g.lane o.a l).toNat)
      let y := saturate true o.u (elemInt false o.u (g.lane o.b l).toNat)
      (BitVec.ofNat 32 (x.1 + 65536 * y.1), x.2 || y.2)) g w)

def execVunpk (t : Nat) (e : Fin 1024) (s : State) : Host.Outcome State Fault Refusal :=
  .next ((s.at t).issue e.val 0x36 fun _ g w =>
    laneOp (fun _ => true) (fun o l =>
      let h := element true (g.lane o.a l) (o.sh % 2)
      (BitVec.ofNat 32 (if o.u then h else ofSigned 32 (toSigned 16 h)), false)) g w)

/-! ### Vector memory (0x40 to 0x42) -/

def execVld (t : Nat) (e : Fin 1024) (s : State) : Host.Outcome State Fault Refusal :=
  .next ((s.at t).issue e.val 0x40 fun s g w =>
    let o := mOp w
    let a := effAddr (g.sreg o.sb) o.off
    legal (mOk w)
      (if !readable a 64 then .fault 2
       else .done (g.putLanes o.pg o.pn o.d fun l => BitVec.ofNat 32 (s.engLoad e.val (a + 4 * l) 4)) (if inLocal a 64 then 1 else 2)))

def execVst (t : Nat) (e : Fin 1024) (s : State) : Host.Outcome State Fault Refusal :=
  .next ((s.at t).issue e.val 0x41 fun _ g w =>
    let o := mOp w
    let a := effAddr (g.sreg o.sb) o.off
    legal (mOk w)
      (if a % 64 != 0 || !inLocal a 64 then .fault 2
       else .done (lanes.foldl (fun h l => if g.guard o.pg o.pn l then h.store (a + 4 * l) (leBytes 4 (g.lane o.d l).toNat) else h) g) 1))

/-- GATHER: each guarded lane reads an element of 8 to 64 bits; SIZE 3 fills v(D + 1) with the high words. -/
def execGather (t : Nat) (e : Fin 1024) (s : State) : Host.Outcome State Fault Refusal :=
  .next ((s.at t).issue e.val 0x42 fun s g w =>
    let o := mOp w
    let n := 2 ^ o.size
    let at_ (l : Nat) : Nat := effAddr (g.sreg o.sb + g.lane o.x l <<< o.scale) o.off
    let on := lanes.filter fun l => g.guard o.pg o.pn l
    let base := if o.size = 3 then 2 else 1
    legal (mOk w && !(o.size == 3 && o.d == 31))
      (if on.any fun l => !readable (at_ l) n then .fault 2
       else
        let v (l : Nat) : Nat := s.engLoad e.val (at_ l) n
        let g' := g.putLanes o.pg o.pn o.d fun l => BitVec.ofNat 32 (v l)
        let g' := if o.size = 3 then on.foldl (fun h l => h.setLane (o.d + 1) l (BitVec.ofNat 32 (v l / 2 ^ 32))) g' else g'
        .done g' (if on.any fun l => !inLocal (at_ l) n then 2 * base else base)))

/-! ### Pixels (0x50 to 0x53) -/

/-- The four nodes of R124 with their weights out of 65,535. -/
def tetraNodes (r g b : Nat) : List ((Nat × Nat × Nat) × Nat) :=
  let (i, fi) := lutIndex r
  let (j, fj) := lutIndex g
  let (k, fk) := lutIndex b
  match insertAxis (2, fk) (insertAxis (1, fj) (insertAxis (0, fi) [])) with
  | [x, y, z] =>
    let n1 := axisStep (i, j, k) x.1
    let n2 := axisStep n1 y.1
    [((i, j, k), 65535 - x.2), (n1, x.2 - y.2), (n2, y.2 - z.2), (axisStep n2 z.1, z.2)]
  | _ => []

/-- TETRA: drives 2·SH and 2·SH + 1 of R124 from the nodes at sC. A node with weight 0 is read as any other. -/
def execTetra (t : Nat) (e : Fin 1024) (s : State) : Host.Outcome State Fault Refusal :=
  .next ((s.at t).issue e.val 0x50 fun s g w =>
    let o := vOp w
    let nodes (l : Nat) : List (Nat × Nat) :=
      (tetraNodes (element true (g.lane o.a l) 0) (element true (g.lane o.a l) 1) (element true (g.lane o.b l) 0)).map fun n =>
        (effAddr (g.sreg o.c) (((n.1.1 * 33 + n.1.2.1) * 33 + n.1.2.2) * 12 + 4 * o.sh : Nat), n.2)
    let on := lanes.filter fun l => g.guard o.pg o.pn l
    let drive (l h : Nat) : Nat :=
      let sum := (nodes l).foldl (fun a n => a + s.engLoad e.val (n.1 + 2 * h) 2 * n.2) 0
      min 65535 ((2 * sum + 65535) / 131070)
    legal (vOk w && decide (o.sh ≤ 2) && scalarField o.c)
      (if on.any fun l => (nodes l).any fun n => !readable n.1 4 then .fault 2
       else .done (g.putLanes o.pg o.pn o.d fun l => BitVec.ofNat 32 (drive l 0 + 65536 * drive l 1)) 8))

/-- Element `k` of a register read as 32 elements of 16 bits. -/
def Eng.elem16 (g : Eng) (r k : Nat) : Nat := element true (g.lane r (k / 2)) (k % 2)
/-- Write the guarded lanes of a register from 32 elements of 16 bits. -/
def Eng.putElems (g : Eng) (pg : Nat) (pn : Bool) (d : Nat) (f : Nat → Nat) : Eng :=
  g.putLanes pg pn d fun l => BitVec.ofNat 32 (f (2 * l) % 65536 + 65536 * (f (2 * l + 1) % 65536))

/-- BPX: a bit transpose of each half of 16 elements. -/
def execBpx (t : Nat) (e : Fin 1024) (s : State) : Host.Outcome State Fault Refusal :=
  .next ((s.at t).issue e.val 0x51 fun _ g w =>
    let o := vOp w
    let out (k : Nat) : Nat := (List.range 16).foldl (fun a i => if bit (g.elem16 o.a (k / 16 * 16 + i)) (k % 16) then a + 2 ^ i else a) 0
    legal (vOk w && o.w16) (.done (g.putElems o.pg o.pn o.d out) 2))

/-- DITO: ordered dither with the 16 × 16 table at s3. -/
def execDito (t : Nat) (e : Fin 1024) (s : State) : Host.Outcome State Fault Refusal :=
  .next ((s.at t).issue e.val 0x52 fun s g w =>
    let o := vOp w
    let y := (g.sreg o.c).toNat % 65536
    let addr (k : Nat) : Nat := effAddr (g.sreg 3) (16 * (y % 16) + g.elem16 o.b k % 16 : Nat)
    let out (k : Nat) : Nat :=
      min (2 ^ o.sh - 1) ((g.elem16 o.a k + s.engLoad e.val (addr k) 1 * 2 ^ (16 - o.sh) / 256) / 2 ^ (16 - o.sh))
    let on := (List.range 32).filter fun k => g.guard o.pg o.pn (k / 2)
    legal (vOk w && o.w16 && decide (1 ≤ o.sh) && decide (o.sh ≤ 16) && scalarField o.c)
      (if on.any fun k => !readable (addr k) 1 then .fault 2 else .done (g.putElems o.pg o.pn o.d out) 1))

/-- The error diffusion of R245 over elements: codes, errors for the row below, carry. -/
def diffuse (d : Nat) (a : List Nat) (c : List Int) (carry : Int) : List Nat × List Int × Int :=
  let step : Int := (2 ^ (16 - d) : Nat)
  (List.range 32).foldl (fun (x : List Nat × List Int × Int) e =>
    let u := ((nth a e 0 : Nat) : Int) + nth c e 0 + x.2.2
    let q := clampInt 0 ((2 ^ d : Nat) - 1) ((2 * u + step) / (2 * step))
    let err := u - q * step
    let add (n : List Int) (k : Nat) (v : Int) : List Int := n.set k (nth n k 0 + v)
    let n := if e = 0 then x.2.1 else add x.2.1 (e - 1) (3 * err / 16)
    let n := add n e (5 * err / 16)
    let n := if e = 31 then n else add n (e + 1) (err / 16)
    (x.1 ++ [q.toNat], n, (7 * err + 8) / 16)) ([], List.replicate 32 0, carry)

/-- DIFE: d, v(D + 1) and sC (R245). -/
def execDife (t : Nat) (e : Fin 1024) (s : State) : Host.Outcome State Fault Refusal :=
  .next ((s.at t).issue e.val 0x53 fun _ g w =>
    let o := vOp w
    let (q, n, carry) := diffuse o.sh ((List.range 32).map fun k => g.elem16 o.a k) ((List.range 32).map fun k => toSigned 16 (g.elem16 o.c k)) (g.sreg o.c).toInt
    let below := n.map (saturate true false)
    let g' := (g.putElems o.pg o.pn o.d fun k => nth q k 0).putElems o.pg o.pn (o.d + 1) fun k => (nth below k (0, false)).1
    let g' := g'.putSat o.pg o.pn fun l => (nth below (2 * l) (0, false)).2 || (nth below (2 * l + 1) (0, false)).2
    legal (vOk w && o.w16 && decide (1 ≤ o.sh) && decide (o.sh ≤ 16) && scalarField o.c && o.d != 31) (.done (g'.setS o.c (BitVec.ofInt 32 carry)) 32))

/-! ### Faults that no instruction of the table meets -/

/-- The opcodes of Table 08-9. -/
def opcodeKnown (op : Nat) : Bool :=
  decide (op ≤ 5) || (decide (0x10 ≤ op) && decide (op ≤ 0x1B)) || (decide (0x20 ≤ op) && decide (op ≤ 0x36)) || (decide (0x40 ≤ op) && decide (op ≤ 0x42))
    || (decide (0x50 ≤ op) && decide (op ≤ 0x53))

/-- TILE_FAULT (R236): a fault with its cause, where the cause's condition of Table 08-7 holds. MEMORY and HEADER come from outside; `shared` names CODE, LUT or PARAM memory. -/
def State.faultEvent (s : State) (e cause : Nat) (shared : Bool) : State :=
  let g := s.engine e
  match g.run with
  | none => s
  | some r =>
    let w := s.codeWord g.pc
    let running := r.out.isNone
    let holds := match cause with
      | 1 => running && pcOk g.pc && !opcodeKnown (opcodeOf w)
      | 2 => running && !pcOk g.pc
      | 3 => running && decide (s.stageLimit r ≤ r.cycles)
      | 4 => true
      | 5 => running && pcOk g.pc && opcodeOf w == 4
      | 6 => true
      | _ => false
    if holds then s.tileFault e cause shared else s

def execTileFault (t : Nat) (e : Fin 1024) (cause : Fin 8) (shared : Bool) (s : State) : Host.Outcome State Fault Refusal :=
  .next ((s.at t).faultEvent e.val cause.val shared)

end Sys2Proof.Machine
end

