-- ==== Sys2Proof/Machine/CodecJobs.lean ====
section
/-! DEFINITION. Codec jobs (R275 to R277) and the occupancy of the inline pools, with the meanings of their commands. -/

namespace Sys2Proof.Machine

/-- The request a value spells (Table 09-4). -/
def codecJobOf (v : List Byte) : CodecJob := ⟨leAt v 0 1, leAt v 1 1, leAt v 2 1, leAt v 4 4, leAt v 8 4, leAt v 12 4, leAt v 16 4, leAt v 20 2⟩

/-- A buffer's size for R275. -/
def State.bufSize (s : State) (i : Nat) : Nat := s.obj (O.layBufFrames i) * s.bufFrameBytes i

/-- Offset of slot 0 in a codec image of `count` blocks (R276). -/
def imageSlots (count : Nat) : Nat := ceilDiv count 4096 * 4096

/-- The fields are in the table and the ranges within the buffers (R275, check 5). -/
def State.codecOk (s : State) (j : CodecJob) (v : List Byte) : Bool :=
  let src := s.bufSize (handleIndex j.src)
  let dst := s.bufSize (handleIndex j.dst)
  let raw := (j.first + j.count) * 4096
  let img := imageSlots j.count + 4096 * j.count
  leAt v 3 1 == 0 && (slice v 22 10).all (· == 0) && decide (1 ≤ j.count) && decide (j.row ≤ 4095)
    && (if j.mode = 2 then fmtOk j.format && fmtCode j.format != 2 else j.format == 0)
    && (match j.op with
        | 1 => decide (1 ≤ j.mode) && decide (j.mode ≤ 3) && decide (raw ≤ src) && decide (img ≤ dst)
        | 2 => j.mode == 0 && decide (img ≤ src) && decide (raw ≤ dst)
        | _ => false)

/-- A write of `CODEC_JOB`; the answer names the unit. -/
def effCodecJob : Effect := fun _ _ _ _ v s =>
  let j := codecJobOf v
  let i := handleIndex j.src
  let d := handleIndex j.dst
  match (List.range 2).find? fun u => (kvFind s.codecJobs u).isNone with
  | none => refuse s St.noSlot
  | some u =>
    match (s.handleFault j.src).orElse fun _ => s.handleFault j.dst with
    | some st => refuse s st
    | none =>
      if s.bufState i = bufWriting then refuse s St.bufferWriting
      else if s.bufState d = bufRelease then refuse s St.bufferRetiring
      else if s.bufRefs d ≠ 0 then refuse s St.bufferInUse
      else if !s.codecOk j v then refuse s St.badValue
      else
        let s := { s with codecJobs := kvInsert s.codecJobs u j }
        doneWith (s.setObjs [(O.codecJobState u, 2 ^ 24), (O.codecJobDone u, 0), (O.codecJobGranules u, 0), (O.layBufState d, bufWriting)]) (leBytes 1 u)

def execCodecCompress (t : Nat) (q : Req) (mode : Fin 256) (rest : List Byte) (s : State) : Host.Outcome State Fault Refusal :=
  .next ((s.at t).hostWrite q O.codecJob (leBytes 1 1 ++ leBytes 1 mode.val ++ rest) effCodecJob)
def execCodecDecompress (t : Nat) (q : Req) (mode : Fin 256) (rest : List Byte) (s : State) : Host.Outcome State Fault Refusal :=
  .next ((s.at t).hostWrite q O.codecJob (leBytes 1 2 ++ leBytes 1 mode.val ++ rest) effCodecJob)

/-- A codec job ends: state, status, E131, both references released. -/
def State.endCodec (s : State) (u state status : Nat) (j : CodecJob) : State :=
  let s := { s with codecJobs := kvErase s.codecJobs u }
  let s := s.setObj (O.codecJobState u) (state * 2 ^ 24 + status)
  let d := handleIndex j.dst
  let n := max 1 (s.bufFrameBytes d)
  let s := if state = 3 then
      (if j.op = 1 then s.bufWritten d 0
       else (List.range ((j.first + j.count) * 4096 / n + 1)).foldl (fun s f => if j.first * 4096 < (f + 1) * n && f * n < (j.first + j.count) * 4096 then s.bufWritten d f else s) s)
    else s
  (s.raise 131 [u, state, status]).reap

/-- A write of `CODEC_JOB_CANCEL`. -/
def effCodecCancel : Effect := fun _ _ _ _ v s =>
  match kvFind s.codecJobs (beNat v) with
  | none => refuse s St.notActive
  | some j => done (s.endCodec (beNat v) 4 0 j)

def execCodecJobCancel (t : Nat) (q : Req) (v : List Byte) (s : State) : Host.Outcome State Fault Refusal :=
  .next ((s.at t).hostWrite q O.codecJobCancel v effCodecCancel)

/-- A stream carries the job's mode, format and row, and decodes to the block. -/
def streamFits (j : CodecJob) (block s : List Byte) : Bool :=
  let h := beAt s 0 4
  encodes j.mode block s && (j.mode != 2 || (bits h 29 22 == j.format && bits h 21 10 == j.row))

/-- COMPRESS: blocks from number `n` on, each zero or with the stream its encoder gives; none where a stream is not one that the encoder may give. -/
def State.compressFrom (s : State) (u : Nat) (j : CodecJob) : Nat → Nat → List (List Byte) → Option State
  | 0, _, _ => some s
  | k + 1, n, streams =>
    let src := (s.buf (handleIndex j.src)).extents
    let dst := (s.buf (handleIndex j.dst)).extents
    let b := s.extentBytes src ((j.first + n) * 4096) 4096
    let stream := streams.headD []
    if !allZero b && !streamFits j b stream then none
    else
      let (idx, out) := storedForm b stream
      let s := (s.extentWrite dst n [BitVec.ofNat 8 idx]).extentWrite dst (imageSlots j.count + 4096 * n) out
      let s := s.setObj (O.codecJobDone u) (n + 1)
      (s.setObj (O.codecJobGranules u) (s.obj (O.codecJobGranules u) + ceilDiv out.length 64)).compressFrom u j k (n + 1) (streams.drop 1)

/-- DECOMPRESS: blocks from number `n` on, until one is unreadable; whether all were read. -/
def State.decompressFrom (s : State) (u : Nat) (j : CodecJob) : Nat → Nat → Bool × State
  | 0, _ => (true, s)
  | k + 1, n =>
    let src := (s.buf (handleIndex j.src)).extents
    let dst := (s.buf (handleIndex j.dst)).extents
    let idx := leNat (s.extentBytes src n 1)
    let slot := s.extentBytes src (imageSlots j.count + 4096 * n) (if idx = 0 then 4096 else if idx ≤ 0x3F then 64 * idx else 0)
    match decodeBlock idx slot with
    | none => (false, s.setObj (O.codecJobDone u) n)
    | some b =>
      let s := (s.extentWrite dst ((j.first + n) * 4096) b).setObj (O.codecJobDone u) (n + 1)
      (s.setObj (O.codecJobGranules u) (s.obj (O.codecJobGranules u) + 64)).decompressFrom u j k (n + 1)

/-- The first block whose source bytes are poisoned, with the first poisoned address (R329). -/
def State.codecBad (s : State) (j : CodecJob) : Option (Nat × Nat) :=
  let src := (s.buf (handleIndex j.src)).extents
  (List.range j.count).findSome? fun n =>
    (if j.op = 1 then s.extentPoison src ((j.first + n) * 4096) 4096
     else
      let idx := leNat (s.extentBytes src n 1)
      (s.extentPoison src n 1).orElse fun _ => s.extentPoison src (imageSlots j.count + 4096 * n) (if idx = 0 then 4096 else if idx ≤ 0x3F then 64 * idx else 0)).map fun a => (n, a)

/-- A job that received poisoned data ends with POISONED, and E169 is raised once (R329). -/
def State.codecPoisoned (s : State) (u : Nat) (j : CodecJob) (n a : Nat) : State :=
  ((s.setObj (O.codecJobDone u) n).raise 169 (s.where_ a)).endCodec u 5 St.poisoned j

/-- CODEC_JOB_END (R277). `streams` are what the encoder gave for the blocks in order. -/
def State.codecEnds (s : State) (u : Nat) (streams : List (List Byte)) : State :=
  match kvFind s.codecJobs u with
  | none => s
  | some j =>
    let bad := s.codecBad j
    let count := match bad with | some b => b.1 | none => j.count
    if j.op = 1 then
      let pad := (s.buf (handleIndex j.dst)).extents
      match s.compressFrom u j count 0 streams, bad with
      | none, _ => s
      | some s, some b => s.codecPoisoned u j b.1 b.2
      | some s, none => (s.extentWrite pad j.count (fill (imageSlots j.count - j.count) 0)).endCodec u 3 0 j
    else
      match s.decompressFrom u j count 0, bad with
      | (false, s), _ => s.endCodec u 5 St.decode j
      | (true, s), some b => s.codecPoisoned u j b.1 b.2
      | (true, s), none => s.endCodec u 3 0 j

def execCodecJobEnd (t : Nat) (u : Fin 2) (streams : List (List Byte)) (s : State) : Host.Outcome State Fault Refusal := .next ((s.at t).codecEnds u.val streams)

/-- `CODEC_COMP_BUSY` and `CODEC_DECOMP_BUSY`: 1,536 ticks a block over eight units and the last second, in per mille; the rounding is open. -/
def State.codecBusy (s : State) (compress : Bool) : Nat × State :=
  let n := (s.codecRecent.filter fun x => x.2 == compress && decide (s.tick < x.1 + ticksPerSec)).length
  let (v, s) := s.openRound ((1000 * 1536 * n : Nat) : Int) (8 * ticksPerSec)
  (v.toNat, s)

end Sys2Proof.Machine
end

