-- ==== Sys2Proof/Machine/Events.lean ====
section
/-! DEFINITION. The event system (chapter 18): capture, the drain to the log ring, lost raises and the clears, with the meanings of their commands. -/

namespace Sys2Proof.Machine

def State.setEv (s : State) (x : EvSt) : State := { s with ev := x }

/-- Ticks of a PERI cycle (R20). -/
abbrev periTicks : Nat := 60

/-! ### Records (R495) -/

def Record.pair (r : Record) : Bool := decide (12 < r.detail.length)
/-- Entries a record takes in the FIFO and in the ring. -/
def Record.size (r : Record) : Nat := if r.pair then 2 else 1

/-- The 32 bytes of a record under a sequence number. -/
def Record.head (r : Record) (seq : Nat) : List Byte :=
  leBytes 1 r.src ++ leBytes 1 (boolNat r.free + 4 * boolNat r.pair) ++ leBytes 2 r.repeats ++ leBytes 4 seq ++ leBytes 4 r.nanos ++ leBytes 4 r.secs ++ leBytes 4 r.lastUs
    ++ padTo 12 r.detail
/-- The extension record. -/
def Record.ext (r : Record) (seq : Nat) : List Byte := leBytes 1 r.src ++ [2] ++ [0, 0] ++ leBytes 4 seq ++ padTo 24 (r.detail.drop 12)

/-- A record of a raise. -/
def Raised.record (r : Raised) : Record := ⟨r.src, r.detail, 0, r.at_, r.secs, r.nanos, 0, r.free⟩

/-- A record that the device makes now. -/
def State.recordNow (s : State) (src : Nat) (vals : List Nat) : Record :=
  ⟨src, packDetail (eventLayout src) vals, 0, s.tick, s.stampSecs, s.stampNanos, 0, s.obj O.timeState == 0⟩

/-! ### Capture (R497, R498) -/

/-- Entries in use in the FIFO. -/
def EvSt.fill (x : EvSt) : Nat := x.fifo.foldl (fun a r => a + r.size) 0

/-- The last record of a source in the FIFO takes another occurrence at tick `now`; none where there is no record. -/
def coalesce (src now : Nat) : List Record → Option (List Record)
  | [] => none
  | r :: l =>
    match coalesce src now l with
    | some l => some (r :: l)
    | none => if r.src = src then some ({ r with repeats := min 0xFFFF (r.repeats + 1), lastUs := min 0xFFFFFFFF ((now - r.at_) * 2 / 20625) } :: l) else none

/-- An E253 record owed enters the FIFO with the first free entry (R498). -/
def State.lostRecord (s : State) : State :=
  if s.ev.lostOwed && decide (s.ev.fill < 64) then
    let s := s.countEntry false 253
    let s := s.setEv { s.ev with lostOwed := false, fifo := s.ev.fifo ++ [s.recordNow 253 [popCount 256 s.ev.lostMap]] }
    s
  else s

/-- A raise that finds no room is lost. -/
def State.loseRaise (s : State) (src : Nat) : State :=
  let s := s.countEntry true src
  let x := s.ev
  (s.setEv { x with lostMap := setBit x.lostMap src, lostOwed := x.lostOwed || !x.lostEpisode, lostEpisode := true }).lostRecord

/-- EVENT_CAPTURE: the oldest raise, a PERI cycle after it was raised. -/
def State.capture (s : State) : State :=
  match s.ev.raised with
  | [] => s
  | r :: rest =>
    if s.tick < r.at_ + periTicks then s
    else
      let s := s.setEv { s.ev with raised := rest }
      match coalesce r.src r.at_ s.ev.fifo with
      | some l => (s.setEv { s.ev with fifo := l }).bump O.evtCoalesced
      | none =>
        let n := r.record
        if s.ev.fill + n.size ≤ 64 then s.setEv { s.ev with fifo := s.ev.fifo ++ [n] } else s.loseRaise r.src

def execEventCapture (t : Nat) (s : State) : Host.Outcome State Fault Refusal := .next (s.at t).capture

/-! ### The log ring (R499 to R501) -/

/-- Unread records. -/
def State.unread (s : State) : Nat := (s.obj O.evtLogWrite + 4294967296 - s.obj O.evtLogRead) % 4294967296

/-- The ring's slot of a sequence number. -/
def State.ringSlot (s : State) (seq : Nat) : List Byte := s.extentBytes s.ev.ringAt (32 * (seq % 4096)) 32

/-- A subscription's mask names a source (Table 13-5), and it is not suspended (R390). -/
def Sub.wants (x : Sub) (src : Nat) : Bool := !x.object && !x.suspended && maskBit x.target src

/-- 32 bytes enter the next slot, and every subscription that names their source (R502). -/
def State.ringRecord (s : State) (src : Nat) (bytes : Nat → List Byte) : State :=
  let w := s.obj O.evtLogWrite
  let b := bytes w
  let s := (s.extentWrite s.ev.ringAt (32 * (w % 4096)) b).advance O.evtLogWrite 1
  s.setSubs (s.resil.subs.map fun p => if p.2.wants src then (p.1, { p.2 with records := p.2.records ++ [(s.tick, b)] }) else p)

/-- A record, with its extension where it has one. -/
def State.ringWriteRecord (s : State) (r : Record) : State :=
  let s := s.ringRecord r.src r.head
  if r.pair then s.ringRecord r.src r.ext else s

/-- The oldest record of a full ring is overwritten, and with a head its extension. -/
def State.overwriteOldest (s : State) : State :=
  let more := bit (leAt (s.ringSlot (s.obj O.evtLogRead)) 1 1) 2
  let s := (s.advance O.evtLogRead 1).bump O.evtOverwritten
  if more then (s.advance O.evtLogRead 1).bump O.evtOverwritten else s

/-- Room for `n` records in the ring, by overwriting. -/
def State.makeRoom (s : State) (n : Nat) : Nat → State
  | 0 => s
  | k + 1 => if s.unread + n ≤ 4096 then s else s.overwriteOldest.makeRoom n k

/-- The E252 record. -/
def State.fullRecord (s : State) : State := let s := s.countEntry false 252; s.ringWriteRecord (s.recordNow 252 [])

/-- The FIFO head leaves for the ring. -/
def State.drainHead (s : State) (r : Record) (rest : List Record) : State := ((s.setEv { s.ev with fifo := rest }).ringWriteRecord r).lostRecord

/-- LOG_DRAIN: every 64 PERI cycles, under the ring policy. -/
def State.drain (s : State) : State :=
  if s.tick / periTicks < s.ev.lastDrain + 64 || s.ev.ringAt.isEmpty then s
  else
    let s := s.setEv { s.ev with lastDrain := s.tick / periTicks }
    match s.ev.fifo with
    | [] => s
    | r :: rest =>
      if s.obj O.evtRingPolicy = 0 then
        if s.unread + r.size ≤ 4095 then (s.setObj O.evtRingFull 0).drainHead r rest
        else if s.objB O.evtRingFull || 4096 ≤ s.unread then s
        else s.fullRecord.setObj O.evtRingFull 1
      else if s.unread + r.size ≤ 4096 then s.drainHead r rest
      else
        let s := if s.objB O.evtRingFull then s else ((s.setObj O.evtRingFull 1).makeRoom 1 2).fullRecord
        (s.makeRoom r.size 3).drainHead r rest

def execLogDrain (t : Nat) (s : State) : Host.Outcome State Fault Refusal := .next (s.at t).drain

/-- A write of `EVT_LOG_READ` (R500). -/
def effLogRead : Effect := fun _ _ r ref v s =>
  let n := beNat v
  if serialAbove n (s.obj O.evtLogWrite) then refuse s St.logRange
  else if serialAbove (s.obj O.evtLogRead) n then done s
  else
    let s := s.store r ref v
    done (if s.obj O.evtRingPolicy = 1 then s.setObj O.evtRingFull 0 else s)

def execEvtLogRead (t : Nat) (q : Req) (v : List Byte) (s : State) : Host.Outcome State Fault Refusal := .next ((s.at t).hostWrite q O.evtLogRead v effLogRead)

/-- A write of 0x01 to `EVT_LOG_RESET` (R501). -/
def effLogReset : Effect := fun _ _ _ _ _ s => done ((s.setObjs [(O.evtLogRead, s.obj O.evtLogWrite), (O.evtRingFull, 0)]).raise 255 [])

def execEvtLogReset (t : Nat) (q : Req) (v : List Byte) (s : State) : Host.Outcome State Fault Refusal := .next ((s.at t).hostWrite q O.evtLogReset v effLogReset)

/-! ### Clears (R498, R505) -/

/-- The sources a 32-byte mask names. -/
def maskSources (v : List Byte) : List Nat := (List.range 256).filter (maskBit v)

/-- A write of `EVT_LOST_MAP`: set bits clear, with their `EVT_LOST` entries; an empty map ends the episode. -/
def effLostMap : Effect := fun _ _ _ _ v s =>
  let x := (maskSources v).foldl (fun (x : EvSt) e =>
    { x with lostMap := clearBit x.lostMap e, losts := kvPut (fun _ => 0) x.losts e 0, satBits := clearBit x.satBits (256 + e) }) s.ev
  done (s.setEv (if x.lostMap = 0 then { x with lostOwed := false, lostEpisode := false } else x))

def execEvtLostMap (t : Nat) (q : Req) (v : List Byte) (s : State) : Host.Outcome State Fault Refusal := .next ((s.at t).hostWrite q O.evtLostMap v effLostMap)

/-- A write of `EVT_COUNT_CLEAR`. -/
def effCountClear : Effect := fun _ _ _ _ v s =>
  done (s.setEv ((maskSources v).foldl (fun (x : EvSt) e => { x with counts := kvPut (fun _ => 0) x.counts e 0, satBits := clearBit x.satBits e }) s.ev))

def execEvtCountClear (t : Nat) (q : Req) (v : List Byte) (s : State) : Host.Outcome State Fault Refusal := .next ((s.at t).hostWrite q O.evtCountClear v effCountClear)

/-- A write of `EVT_MASK`: the bits of E252 to E255 read 0 (R494). -/
def effEvtMask : Effect := fun _ _ r ref v s => done (s.store r ref (leBytes 1 ((v.headD 0).toNat % 16) ++ v.drop 1))

/-! ### What the event objects read -/

/-- 256 values of 4 bytes, little-endian. -/
def countImage (m : List (Nat × Nat)) : List Byte := (List.range 256).flatMap fun e => leBytes 4 (kvGet (fun _ => 0) m e)
/-- A map of 256 bits in the byte order of Table 13-5 TARGET. -/
def mapImage (v : Nat) : List Byte := beBytes 32 (v % 2 ^ 256)
/-- `EVT_LAYOUT`. -/
def layoutImage : List Byte := (List.range 256).flatMap fun e => padTo 16 ((eventLayout e).map fun c => BitVec.ofNat 8 c)
/-- `EVT_LOG`. -/
def State.logImage (s : State) : List Byte := padTo 131072 (s.extentBytes s.ev.ringAt 0 131072)

end Sys2Proof.Machine
end

