-- ==== Sys2Proof/Machine/Xfers.lean ====
section
/-! DEFINITION. Block transfers as other chapters meet them (R386, R387): acknowledgements, the end of a transfer, and the whole-image objects
whose final acknowledgement waits for their own checks, with the meanings of LUT_ACCEPT (R125, R226) and KERNEL_INSTALL (R248). -/

namespace Sys2Proof.Machine

def State.xfer? (s : State) (n : Nat) : Option Xfer := kvFind s.resil.xfers n
def State.setXfer (s : State) (n : Nat) (x : Xfer) : State := s.setXfers (kvInsert s.resil.xfers n x)

/-- The blocks of a transfer, and the bytes that block `i` carries (R386). -/
def Xfer.blocks (x : Xfer) : Nat := ceilDiv x.len (max 1 x.block)
def Xfer.size (x : Xfer) (i : Nat) : Nat := min x.block (x.len - i * x.block)

/-- CUM: the blocks from `c` on that are held without a gap. -/
def cumFrom (held : Nat) : Nat → Nat → Nat
  | c, 0 => c
  | c, k + 1 => if bit held c then cumFrom held (c + 1) k else c

/-- MAP: bit i for block CUM + 1 + i (R386). -/
def Xfer.map (x : Xfer) : Nat := (List.range 64).foldl (fun m i => if bit x.held (x.cum + 1 + i) then m + 2 ^ i else m) 0

/-- A message that the device originates on a session. Only EVENT numbers are given by R390; the SEQ of every other message of the device is open. -/
def State.deviceMsg (s : State) (num op status : Nat) (payload : List Byte) : State :=
  match s.session? num with
  | none => s
  | some y =>
    let m : Msg := ⟨op, 0x40, s.obj O.dictNodeId, num, s.fresh % 4294967296, status, payload, []⟩
    s.took.emit (.resil y.port y.src (m.tagged y.key))

/-- The payload of a BLOCK_ACK (Table 13-2). -/
def ackPayload (tid cum map : Nat) : List Byte := beBytes 2 tid ++ [0, 0] ++ beBytes 4 cum ++ beBytes 8 map

/-- A BLOCK_ACK for an open transfer. -/
def State.blockAck (s : State) (tid : Nat) (x : Xfer) : State :=
  (s.setXfer tid { x with fresh := 0 }).deviceMsg x.session 0x12 St.ok (ackPayload tid x.cum x.map)

/-- A transfer ends with a status: the final BLOCK_ACK carries it (R387). A transfer to the host that completes has been acknowledged by the host. -/
def State.endXfer (s : State) (tid status : Nat) : State :=
  match s.xfer? tid with
  | none => s
  | some x =>
    let s := { s with resil := { s.resil with
      xfers := kvErase s.resil.xfers tid
      ended := kvInsert s.resil.ended tid (x.session, x.cum, status) } }
    if x.toHost && status == St.ok then s else s.deviceMsg x.session 0x12 status (ackPayload tid x.cum x.map)

/-- The transfer to an object whose blocks are all held and whose checks are outstanding. -/
def State.wholeOf (s : State) (ref : Nat) : Option (Nat × Xfer) := s.resil.xfers.find? fun e => e.2.ref == ref && e.2.whole && !e.2.toHost

/-- The value a transfer gives its object: from offset 0 it replaces the value, else it overwrites part of it. -/
def State.xferValue (s : State) (x : Xfer) : List Byte := if x.off = 0 then x.data else overwrite (s.blob x.ref) x.off x.data

/-! ### Whole-image objects -/

/-- The running outputs that show a view. -/
def State.showingView (s : State) (v : Nat) : List Nat := outputs.filter fun m => s.showing m && bit (s.viewOnOutputs v) m

/-- LUT_ACCEPT (R125, R226): the length decides; the acceptance waits until the other slot is free, and the image goes there. -/
def State.lutAccept (s : State) (v : Nat) : State :=
  match s.wholeOf (O.colLutStage v) with
  | none => s
  | some (tid, x) =>
    let img := s.xferValue x
    if img.length ≠ lutBytes then s.endXfer tid St.badSize
    else if (s.showingView v).any fun m => (s.col m).lutPend.contains v then s
    else
      let old := kvGet (fun _ => []) s.lutAcc v
      let slot := 1 - (s.lutSlotOf v).1
      let s := { (s.setBlob (O.colLutStage v) img).setObj (O.colLutLoaded v) 1 with lutAcc := kvPut (fun _ => []) s.lutAcc v img }
      let s := s.setCarve { s.carve with lutSlot := kvInsert s.carve.lutSlot v (slot, old) }
      let s := outputs.foldl (fun s m =>
        let c := s.col m
        s.setCol m { c with lutPend := if c.lutPend.contains v then c.lutPend else c.lutPend ++ [v] }) s
      s.endXfer tid St.ok

def execLutAccept (t : Nat) (v : Fin 8) (s : State) : Host.Outcome State Fault Refusal := .next ((s.at t).lutAccept v.val)

/-- KERNEL_INSTALL (R248): the completed transfer to `CRV_KERNEL_STAGE`. -/
def State.kernelInstall (s : State) : State :=
  match s.wholeOf O.crvKernelStage with
  | none => s
  | some (tid, x) =>
    let (st, s) := s.installKernel (s.xferValue x)
    s.endXfer tid st

def execKernelInstall (t : Nat) (s : State) : Host.Outcome State Fault Refusal := .next (s.at t).kernelInstall

end Sys2Proof.Machine
end

