-- ==== Sys2Proof/Machine/Age.lean ====
section
/-! DEFINITION. Ageing (R458, R462, R463) and the restore of a calibration snapshot (R457), with the meanings of their commands. -/

namespace Sys2Proof.Machine

/-- CAL_RESTORE: the completed transfer (R457). -/
def State.calRestored (s : State) : State :=
  match s.wholeOf O.calRestore with
  | none => s
  | some (tid, x) =>
    let (st, s) := s.restore (s.xferValue x)
    s.endXfer tid st

def execCalRestore (t : Nat) (s : State) : Host.Outcome State Fault Refusal := .next (s.at t).calRestored

/-! ### Margin planning (R462, R463) -/

/-- Margins are applied by the device itself (`HIER_SERVICE_NOW` AUTONOMOUS). -/
def State.autonomous (s : State) : Bool := s.obj O.hierServiceNow == 0

/-- A session record for what the device itself writes; no effect it is used with reads it. -/
def selfSession : Session := ⟨0, levelVendor, 0, 0, false, [], 0, [], [], [], 0, false, 0, false, false, 0, [], 0, []⟩

/-- The device writes an object as a host would, past the checks of R381 (Table 16-6, R464). -/
def State.selfWrite (s : State) (ref : Nat) (v : List Byte) (eff : Effect) : State :=
  match findObj ref with
  | some (r, _) => (eff 0 selfSession r ref v s).st
  | none => s

/-- E234 or E235 for margin `m`: 0 VDD_CORE, 1 DDR, 2 + b the ceiling of bank b. -/
def State.marginEvent (s : State) (e m : Nat) : State := s.raise e [if m < 2 then Config.causeCode e m else m - 2]

/-- The VDD_CORE proposal in mV (Table 16-6). -/
def State.vcoreProposal (s : State) : Nat :=
  (clampInt 720 840 (s.obj O.ageVcoreBase + (s.obj O.ageVcoreK : Int) * s.objI O.ageRoWorst / 1000)).toNat

/-- Propose and apply VDD_CORE; past `AGE_RO_LIMIT` the device applies it in either mode, with E236. -/
def State.planVcore (s : State) : State :=
  let v := s.vcoreProposal
  let old := s.obj O.ageVcoreProp
  let s := s.setObj O.ageVcoreProp v
  let forced := decide (s.objI O.ageRoLimit < s.objI O.ageRoWorst)
  let s := if forced then s.raise 236 [Config.causeCode 236 0] else if v = 840 && old ≠ 840 then s.raise 236 [Config.causeCode 236 0] else s
  let s := if (s.autonomous || forced) && s.obj O.ageVcoreTarget != v then
      let s := s.setObj O.ageVcoreTarget v
      if s.autonomous then s.marginEvent 234 0 else s
    else s
  if !s.autonomous && old != v then s.marginEvent 235 0 else s

/-- The MARGIN set of the setpoint in force: NOMINAL with tCL, tCWL, tRCD and tRP one longer, VALID, and trims whose re-centred values the spec does not give. -/
def State.writeMargin (s : State) : State :=
  let p := s.obj O.memSetpoint
  let img := padTo 384 (s.blob O.memTset)
  let nom := slice img (p * 128) 64
  let f (o : Nat) : List Byte := leBytes 2 (leAt nom o 2 + 1)
  let trims := leBytes 2 s.fresh ++ leBytes 2 s.took.fresh
  let set := leBytes 1 p ++ [1] ++ leBytes 2 1 ++ f 4 ++ f 6 ++ f 8 ++ f 10 ++ slice nom 12 30 ++ trims ++ slice nom 46 18
  s.took.took.setBlob O.memTset (overwrite img (p * 128 + 64) set)

/-- Propose and apply the DDR timing set. -/
def State.planDdr (s : State) : State :=
  let eyes := s.blob O.ageDdrEye
  let low := (List.range 16).any fun i => decide (leAt eyes (2 * i) 2 < s.obj O.ageDdrMin)
  let old := s.obj O.ageDdrProp
  let s := s.setObj O.ageDdrProp (boolNat low)
  let s := if low then s.writeMargin else s
  let p := s.obj O.memSetpoint
  let s := if s.autonomous && low && !bit (s.obj O.memTsetSel) p then
      let s := s.selfWrite O.memTsetSel (beBytes 1 (setBit (s.obj O.memTsetSel) p)) effTsetSel
      (s.selfWrite O.memFreqTarget (beBytes 1 p) effFreqTarget).marginEvent 234 1
    else s
  if !s.autonomous && old != boolNat low then s.marginEvent 235 1 else s

/-- A_lim of bank `b`: the least `LOOP_OUT_MAX` of the AUTO loops and the least MANUAL contribution in force on its actuator, at most a full code. -/
def State.actuatorLimit (s : State) (b : Nat) : Int :=
  allLoops.foldl (fun m l =>
    if s.obj (O.loopActuator l) != b then m
    else if s.obj (O.loopMode l) == 1 then min m (s.objI (O.loopOutMax l))
    else if s.obj (O.loopMode l) == 2 then min m (s.loop l).own
    else m) 65535

/-- The base target of a bank at the reference temperature (R463). -/
def State.baseAtRef (s : State) (b : Nat) : Nat :=
  match s.bankOwner b with
  | none => 0
  | some (n, p) => (s.setObj (O.colBankTemp b) (s.obj O.ageTRef)).baseTarget n p b

/-- Propose and apply the ceiling of a bank that has an accepted BANK_EFF; a value that is no U32 is not stated. -/
def State.planCeiling (s : State) (b : Nat) : State :=
  if (kvFind s.cal.ends (6 * 256 + b)).isNone then s
  else
    let d : Int := (100 - s.obj O.ageHeadroom : Nat) * s.actuatorLimit b - 100 * (s.obj (O.ageBankThresh b) : Int)
    let c : Int := (s.obj (O.ageBankSlope b) : Int) * d / 25600
    let (v, s) : Nat × State := if 0 ≤ c && decide (c < 4294967296) then (c.toNat, s) else (s.fresh % 4294967296, s.took)
    let old := s.obj (O.ageBankCeilProp b)
    let low (x : Nat) : Bool := decide (x < s.baseAtRef b)
    let s := s.setObj (O.ageBankCeilProp b) v
    let s := if low v && !low old then s.raise 236 [b] else s
    let s := if s.autonomous && s.obj (O.colBankCeiling b) != v then (s.setObj (O.colBankCeiling b) v).marginEvent 234 (2 + b) else s
    if !s.autonomous && old != v then s.marginEvent 235 (2 + b) else s

/-- AGE_PERIOD_TICK (R458, R462): the monitors and trends of the period, then the three proposals. -/
def State.ageTick (s : State) (ro : List Int) (ddrEye ethEye : List Nat) : State :=
  let st := s.opState
  if !(st == startup || st == normal || st == test || st == recovery) || s.tick < s.cal.ageAt + secTicks (s.obj O.agePeriod) then s
  else
    let ro := (List.range 64).map fun i => clampInt (-2147483648) 2147483647 (nth ro i 0)
    let s := s.setCal { s.cal with ageAt := s.tick }
    let s := s.setBlob O.ageRo (ro.flatMap fun i => leBytes 4 (ofI32 i))
    let s := s.setObjI O.ageRoWorst (ro.foldl (fun m i => if m < i then i else m) (ro.headD 0))
    let s := s.setBlob O.ageDdrEye ((List.range 16).flatMap fun i => leBytes 2 (nth ddrEye i 0))
    let s := s.setBlob O.ageEthEye ((List.range 4).flatMap fun i => leBytes 2 (nth ethEye i 0))
    let s := s.setBlob O.ageMlaneErr (outputs.flatMap fun n => (List.range 24).flatMap fun l => leBytes 4 (kvGet (fun _ => 0) (s.mout n).errSums l))
    allBanks.foldl State.planCeiling s.planVcore.planDdr

def execAgePeriodTick (t : Nat) (ro : List Int) (ddrEye ethEye : List Nat) (s : State) : Host.Outcome State Fault Refusal :=
  .next ((s.at t).ageTick ro ddrEye ethEye)

/-- A host write of `AGE_VCORE_TARGET` (R462). -/
def effVcoreTarget : Effect := fun _ _ r ref v s => if s.autonomous then refuse s St.calState else done (s.store r ref v)

def execAgeVcoreTarget (t : Nat) (q : Req) (v : List Byte) (s : State) : Host.Outcome State Fault Refusal :=
  .next ((s.at t).hostWrite q O.ageVcoreTarget v effVcoreTarget)

end Sys2Proof.Machine
end

