-- ==== Sys2Proof/Machine/Switch.lean ====
section
/-! DEFINITION. The Ethernet ports and the switch (R343 to R353, R367): links, VLANs, the MAC table, snooping, egress queues and the transparent clock, and what the internal endpoint
answers, with the meanings of their commands. -/

namespace Sys2Proof.Machine

def State.setNet (s : State) (x : NetSt) : State := { s with net := x }
def State.netPort (s : State) (p : Nat) : NetPort := kvGet (fun _ => {}) s.net.ports p
def State.setNetPort (s : State) (p : Nat) (x : NetPort) : State := s.setNet { s.net with ports := kvPut (fun _ => {}) s.net.ports p x }
def State.flow (s : State) (f : Nat) : FlowSt := kvGet (fun _ => {}) s.net.flows f
def State.setFlow (s : State) (f : Nat) (x : FlowSt) : State := s.setNet { s.net with flows := kvPut (fun _ => {}) s.net.flows f x }

/-- The flows. -/
def allFlows : List Nat := List.range 8
/-- A port is UP. -/
def State.portUp (s : State) (p : Nat) : Bool := s.obj (O.netPortState p) == 1
/-- The ports a standby leaves on (R367). -/
def State.portAwake (s : State) (p : Nat) : Bool := s.opState != cold && (s.opState != standby || p == 0)

/-! ### Frames -/

/-- Ethernet destination, source and type, and the bytes after the type; `bytes` holds no VLAN tag. -/
def ethDst (l : List Byte) : Nat := beAt l 0 6
def ethSrc (l : List Byte) : Nat := beAt l 6 6
def ethType (l : List Byte) : Nat := beAt l 12 2
def ethBody (l : List Byte) : List Byte := l.drop 14

/-- What an IP packet carries: version, source and destination (4 or 16 bytes), protocol, whether it is a fragment, and the bytes above IP. -/
structure IpView where
  v6   : Bool
  src  : List Byte
  dst  : List Byte
  proto : Nat
  frag : Bool
  body : List Byte
  /-- offset of `body` in the frame -/
  off  : Nat

/-- The IP packet of a frame. An IPv6 hop-by-hop header is passed over. -/
def ipView (l : List Byte) : Option IpView :=
  let b := ethBody l
  if ethType l = 0x0800 && beAt b 0 1 / 16 = 4 then
    let n := beAt b 0 1 % 16 * 4
    some ⟨false, slice b 12 4, slice b 16 4, beAt b 9 1, beAt b 6 2 % 16384 != 0, (b.take (max n (beAt b 2 2))).drop n, 14 + n⟩
  else if ethType l = 0x86DD && beAt b 0 1 / 16 = 6 then
    let hop := beAt b 6 1 == 0
    let n := if hop then 40 + 8 * (beAt b 41 1 + 1) else 40
    let proto := if hop then beAt b 40 1 else beAt b 6 1
    some ⟨true, slice b 8 16, slice b 24 16, proto, proto == 44, (b.take (40 + beAt b 4 2)).drop n, 14 + n⟩
  else none

/-- UDP destination port and payload. -/
def IpView.udp (v : IpView) : Option (Nat × List Byte) := if v.proto = 17 && !v.frag then some (beAt v.body 2 2, v.body.drop 8) else none

/-- Group addresses: multicast, and the link-local control groups 224.0.0.x and ff02::/16 (R349). -/
def ipMulticast (a : List Byte) : Bool := if a.length = 4 then beAt a 0 1 / 16 == 14 else beAt a 0 1 == 0xFF
def ipControl (a : List Byte) : Bool := if a.length = 4 then beAt a 0 3 == 0xE00000 else beAt a 0 2 == 0xFF02

/-- A PTP message of a frame: domain, type, two-step flag, and the key that matches a Follow_Up to its Sync (R353). -/
structure PtpView where
  domain : Nat
  type   : Nat
  twoStep : Bool
  key    : List Byte
  /-- offset of the PTP header in the frame -/
  off    : Nat

def ptpView (l : List Byte) : Option PtpView :=
  match ipView l with
  | none => none
  | some v =>
    match v.udp with
    | some (port, b) =>
      if port = 319 || port = 320 then some ⟨beAt b 4 1, beAt b 0 1 % 16, bit (beAt b 6 1) 1, slice b 20 10 ++ slice b 30 2, v.off + 8⟩ else none
    | none => none

/-! ### VLANs (R347) -/

/-- The members and untagged ports of a VID in `NET_VLAN_TABLE`. -/
def State.vlan (s : State) (vid : Nat) : Option (Nat × Nat) :=
  let t := s.blob O.netVlanTable
  ((List.range (t.length / 8)).find? fun i => leAt t (8 * i) 2 == vid).map fun i => (leAt t (8 * i + 2) 1, leAt t (8 * i + 3) 1)

/-- The endpoint record of a leg (Table 12-3), its family, port and VID. -/
def State.leg (s : State) (f g : Nat) : List Byte := s.blob (if g = 0 then O.netFlowLegA f else O.netFlowLegB f)
def State.legOn (s : State) (f g : Nat) : Bool := s.objB (O.netFlowEnable f) && leAt (s.leg f g) 0 1 != 0
def State.legVid (s : State) (f g : Nat) : Nat :=
  let r := s.leg f g
  if leAt r 36 2 = 0 then s.obj (O.netPortPvid (leAt r 1 1)) else leAt r 36 2

/-- Every leg in use. -/
def State.legsOn (s : State) : List (Nat × Nat) := (allFlows.flatMap fun f => [(f, 0), (f, 1)]).filter fun x => s.legOn x.1 x.2

/-- The internal endpoint takes frames of a VID (R347). -/
def State.endpointVlan (s : State) (vid : Nat) : Bool := vid == s.obj O.netMgmtVlan || s.legsOn.any fun x => s.legVid x.1 x.2 == vid

/-! ### Egress (R348, R352, R353) -/

/-- Bytes a frame takes in frame memory, and line ticks it takes with preamble, FCS and gap: 66 line bits carry 64. -/
def EgFrame.size (f : EgFrame) : Nat := f.bytes.length + 4 + (if f.untag then 0 else 4)
def EgFrame.ticks (f : EgFrame) : Nat := ceilDiv ((f.size + 20) * 8 * 66) 64

/-- Frame memory in use above the reserves of 32 KiB. -/
def sharedUse (q : List EgFrame) : Nat :=
  ((List.range 8).map fun k => ((q.filter fun f => f.queue == k).foldl (fun a f => a + f.size) 0) - 32768).foldl (· + ·) 0

/-- The weight of queues 5 to 0. -/
def queueWeight (k : Nat) : Nat := 2 ^ k

/-- The next frame among those ready: the highest of queues 7 and 6, else of queues 5 to 0 the one that has sent least for its weight, ties to the higher. -/
def nextFrame (served : List (Nat × Nat)) (ready : List EgFrame) : Option EgFrame :=
  let sent (k : Nat) : Nat := kvGet (fun _ => 0) served k
  let order := [7, 6] ++ ([5, 4, 3, 2, 1, 0].foldl (fun l k => insertQ sent k l) [])
  order.findSome? fun k => ready.find? fun f => f.queue == k
where
  insertQ (sent : Nat → Nat) (k : Nat) : List Nat → List Nat
    | [] => [k]
    | j :: l => if sent k * queueWeight j < sent j * queueWeight k then k :: j :: l else j :: insertQ sent k l

/-- The ones' complement sum of a byte string as 16-bit words. -/
def onesSum : List Byte → Nat → Nat
  | [], a => a
  | [x], a => let v := a + x.toNat * 256; v % 65536 + v / 65536
  | x :: y :: l, a => let v := a + x.toNat * 256 + y.toNat; onesSum l (v % 65536 + v / 65536)

/-- A frame with `c` added to the correctionField of its PTP message; the UDP checksum becomes zero for IPv4 and is recomputed for IPv6 (R353). -/
def ptpCorrected (l : List Byte) (off : Nat) (c : Int) : List Byte :=
  let v := toSigned 64 (beAt l (off + 8) 8)
  let l := overwrite l (off + 8) (beBytes 8 (ofSigned 64 (v + c)))
  match ipView l with
  | none => l
  | some ip =>
    if !ip.v6 then overwrite l (off - 2) [0, 0]
    else
      let udp := overwrite ip.body 6 [0, 0]
      let sum := onesSum (ip.src ++ ip.dst ++ beBytes 4 udp.length ++ beBytes 4 17 ++ udp) 0
      let k := 65535 - sum
      overwrite l (off - 2) (beBytes 2 (if k = 0 then 65535 else k))

/-- The residence of a PTP message in units of its correctionField (R352, R353): from `rx` on port `q` to `tx` on port `p`. -/
def State.residence (s : State) (q rx p tx : Nat) : Int :=
  let a := ((tickInstant ((rx : Int) - s.fecLat q false)).plusFrac (-((s.obj (O.netPortRxLat q) * 165 : Nat) : Int)) 16000)
  let b := ((tickInstant ((tx : Int) + s.fecLat p true)).plusFrac (s.obj (O.netPortTxLat p) * 165 : Nat) 16000)
  stimeUnits (b.num * a.den - a.num * b.den) (a.den * b.den)

/-- A frame leaves port `p` at tick `tx`, corrected where it is an event message of a transparent clock. -/
def State.sendFrame (s : State) (p tx : Nat) (f : EgFrame) : State :=
  let send (s : State) (l : List Byte) : State := (s.bump (O.netPortTxFrames p)).emit (.frame p (if f.untag then 0 else f.vid) f.prio l)
  match f.ptp, ptpView f.bytes with
  | some (rx, q), some v =>
    let r := s.residence q rx p tx
    if v.type = ptpSync && v.twoStep then send (s.setNet { s.net with tc := s.net.tc ++ [(p, v.key, r)] }) f.bytes
    else if v.type = ptpFollowUp then
      match s.net.tc.find? fun e => e.1 == p && e.2.1 == v.key with
      | some e => send (s.setNet { s.net with tc := s.net.tc.erase e }) (ptpCorrected f.bytes v.off e.2.2)
      | none => send s f.bytes
    else if v.type = ptpSync || v.type = ptpDelayReq || v.type = ptpDelayResp then send s (ptpCorrected f.bytes v.off r)
    else send s f.bytes
  | _, _ => send s f.bytes

/-- What port `p` has sent up to now. -/
def State.egressRun (s : State) (p : Nat) : Nat → State
  | 0 => s
  | k + 1 =>
    let x := s.netPort p
    match x.queue with
    | [] => s
    | f :: _ =>
      let start := max x.freeAt f.at_
      if s.tick < start then s
      else
        match nextFrame x.served (x.queue.filter fun g => decide (g.at_ ≤ start)) with
        | none => s
        | some g =>
          let rest := x.queue.erase g
          let low := rest.any fun h => decide (h.queue < 6)
          let served := if !low then [] else if g.queue < 6 then kvPut (fun _ => 0) x.served g.queue (kvGet (fun _ => 0) x.served g.queue + g.size) else x.served
          ((s.setNetPort p { queue := rest, freeAt := start + g.ticks, served := served }).sendFrame p start g).egressRun p k

/-- Everything that the ports have sent up to now. -/
def State.egressAll (s : State) : State := (List.range 4).foldl (fun s p => s.egressRun p (s.netPort p).queue.length) s

/-- A frame goes to an egress port of its VLAN, or is dropped for want of frame memory. -/
def State.egress (s : State) (p : Nat) (vid pcp queue : Nat) (ptp : Option (Nat × Nat)) (bytes : List Byte) : State :=
  match s.vlan vid with
  | none => s
  | some (mem, untag) =>
    if !bit mem p || !s.portUp p then s
    else
      let x := s.netPort p
      let q := x.queue ++ [⟨queue, vid, bit untag p, pcp, bytes, s.tick, ptp⟩]
      if 262144 < sharedUse q then s.bump (O.netPortEgressDrops p) else s.setNetPort p { x with queue := q }

/-! ### Learning and snooping (R346, R349) -/

def State.showMacs (s : State) : State := s.setObj O.netMacEntries s.net.macs.length

/-- A source address is learned or refreshed; a full table learns nothing new. Group addresses are no sources. -/
def State.learn (s : State) (vid mac p : Nat) : State :=
  let k := vid * 2 ^ 48 + mac
  if mac / 2 ^ 40 % 2 = 1 || ((kvFind s.net.macs k).isNone && 4096 ≤ s.net.macs.length) then s
  else (s.setNet { s.net with macs := kvInsert s.net.macs k (p, s.tick) }).showMacs

/-- MAC_AGE_OUT: entries not refreshed for `NET_MAC_AGE` go. -/
def State.macAge (s : State) : State :=
  (s.setNet { s.net with macs := s.net.macs.filter fun e => decide (s.tick < e.2.2 + secTicks (s.obj O.netMacAge)) }).showMacs

def execMacAgeOut (t : Nat) (s : State) : Host.Outcome State Fault Refusal := .next (s.at t).macAge

/-- The group records of an IGMPv3 or MLDv2 report: (group, it keeps the group). A record that includes no source leaves it. -/
def groupRecords (alen : Nat) : Nat → List Byte → List (List Byte × Bool)
  | 0, _ => []
  | n + 1, l =>
    let type := beAt l 0 1
    let srcs := beAt l 2 2
    let keeps := type == 2 || type == 4 || ((type == 1 || type == 3 || type == 5) && srcs != 0)
    let rest := groupRecords alen n (l.drop (4 + alen + alen * srcs + 4 * beAt l 1 1))
    if type = 6 || type = 5 && srcs = 0 then rest else (slice l 4 alen, keeps) :: rest

/-- The records of a membership report in a frame. -/
def reportOf (v : IpView) : List (List Byte × Bool) :=
  if !v.v6 && v.proto = 2 && beAt v.body 0 1 = 0x22 then groupRecords 4 (beAt v.body 6 2) (v.body.drop 8)
  else if v.v6 && v.proto = 58 && beAt v.body 0 1 = 143 then groupRecords 16 (beAt v.body 6 2) (v.body.drop 8)
  else []

/-- A report heard on a port. -/
def State.snoop (s : State) (p : Nat) (v : IpView) : State :=
  (reportOf v).foldl (fun s r =>
    let others := s.net.groups.filter fun g => !(g.1 == p && g.2.1 == r.1)
    s.setNet { s.net with groups := if r.2 then others ++ [(p, r.1, s.tick)] else others }) s

/-- MEMBERSHIP_EXPIRY: a membership lasts 260 s. -/
def State.membersExpire (s : State) : State :=
  s.setNet { s.net with groups := s.net.groups.filter fun g => decide (s.tick < g.2.2 + secTicks 260) }

def execMembershipExpiry (t : Nat) (s : State) : Host.Outcome State Fault Refusal := .next (s.at t).membersExpire

/-- The ports that take a multicast group: those with a member, and the mrouter ports. -/
def State.groupPorts (s : State) (g : List Byte) : List Nat :=
  (List.range 4).filter fun p => s.objB (O.netPortMrouter p) || s.net.groups.any fun e => e.1 == p && e.2.1 == g && decide (s.tick < e.2.2 + secTicks 260)

/-! ### The endpoint's addresses (R350) -/

/-- The link-local address derived from a MAC as a modified EUI-64. -/
def linkLocal (mac : Nat) : List Byte :=
  beBytes 8 0xFE80000000000000 ++ beBytes 1 (Nat.xor (mac / 2 ^ 40) 2) ++ beBytes 2 (mac / 2 ^ 24 % 65536) ++ [0xFF, 0xFE] ++ beBytes 3 (mac % 2 ^ 24)

/-- An address is the device's own; a zero IPv4 and an empty IPv6 address are none. -/
def State.ownAddress (s : State) (a : List Byte) : Bool :=
  if a.length = 4 then s.obj O.netIpv4Addr != 0 && beNat a == s.obj O.netIpv4Addr
  else a == linkLocal (s.obj O.netMac) || (!(s.blob O.netIpv6Addr).isEmpty && a == s.blob O.netIpv6Addr)

/-- A leg's destination as an address of its family. -/
def groupOf (r : List Byte) : List Byte := slice r 4 (if leAt r 0 1 = 4 then 4 else 16)

/-- A packet to the device that the endpoint accepts (R350): the rows of ARP, Neighbour Solicitation, echo, queries, Resil, PTP, the hierarchy and media say what it does with it. -/
def State.accepted (s : State) (v : IpView) : Bool :=
  !v.frag &&
    ((v.proto == 2 && !v.v6) || (v.proto == 1 && !v.v6 && beAt v.body 0 1 == 8)
      || (v.proto == 58 && v.v6 && (let k := beAt v.body 0 1; k == 128 || k == 135 || k == 130 || k == 143))
      || match v.udp with
         | some (port, _) => port == s.obj O.dictUdpPort || s.resil.oldPort == some port || port == 319 || port == 320 || port == 60471
             || s.legsOn.any (fun x => leAt (s.leg x.1 x.2) 2 2 == port)
         | none => false)

/-- A frame reaches the internal endpoint: a packet to the device that is nothing it answers or accepts is counted. -/
def State.endpointRx (s : State) (vid : Nat) (l : List Byte) : State :=
  if !s.endpointVlan vid || !(match s.vlan vid with | some (mem, _) => bit mem 4 | none => false) then s
  else if ethType l = 0x0806 then s
  else
    match ipView l with
    | none => if ethDst l = s.obj O.netMac then s.bump O.netRxUnhandled else s
    | some v => if s.ownAddress v.dst && !s.accepted v then s.bump O.netRxUnhandled else s

/-! ### FRAME_RX (R346 to R349, R353) -/

/-- The PTP messages the switch does not pass on, corrects, or treats as ordinary multicast (Table 12-2): none, some true, some false. -/
def State.ptpForward (s : State) (p : Nat) (v : PtpView) : Option Bool :=
  if v.domain != s.obj O.timePtpDomain || !s.objB (O.netPortPtp p) || s.obj O.timePtpRole = 0 then some false
  else if s.obj O.timePtpRole = 3 then none
  else some true

/-- A frame that has passed the ingress checks is forwarded. -/
def State.forward (s : State) (p vid pcp queue : Nat) (l : List Byte) : State :=
  let others := (List.range 4).filter (· != p)
  let go (s : State) (ps : List Nat) (ptp : Option (Nat × Nat)) : State := ps.foldl (fun s e => s.egress e vid pcp queue ptp l) s
  let dst := ethDst l
  if dst = 2 ^ 48 - 1 then (go s others none).endpointRx vid l
  else if dst / 2 ^ 40 % 2 = 1 then
    match ipView l with
    | none => (go s (others.filter fun e => s.objB (O.netPortMrouter e)) none).endpointRx vid l
    | some v =>
      let s := s.snoop p v
      let discover := match v.udp with | some (port, b) => port == 60471 && beAt b 1 1 == 1 | none => false
      if discover then s.endpointRx vid l
      else
        match ptpView l with
        | some m =>
          match s.ptpForward p m with
          | none => s.endpointRx vid l
          | some true =>
            let s := go s (others.filter fun e => s.objB (O.netPortPtp e)) (some (s.tick, p))
            (go s ((s.groupPorts v.dst).filter fun e => e != p && !s.objB (O.netPortPtp e)) none).endpointRx vid l
          | some false => (go s ((s.groupPorts v.dst).filter (· != p)) none).endpointRx vid l
        | none =>
          if ipControl v.dst then (go s others none).endpointRx vid l
          else (go s ((s.groupPorts v.dst).filter (· != p)) none).endpointRx vid l
  else if dst = s.obj O.netMac then s.endpointRx vid l
  else
    let ptp := match ptpView l with | some m => if s.ptpForward p m == some true then some (s.tick, p) else none | none => none
    match kvFind s.net.macs (vid * 2 ^ 48 + dst) with
    | some (e, _) => if e = p then s else go s [e] ptp
    | none => go s others ptp

/-- A frame received by port `p`, with its VLAN tag where it has one, without FCS. -/
def State.frameIn (s : State) (p : Nat) (fcsOk : Bool) (fecCorrected fecBad : Nat) (bytes : List Byte) : State :=
  if !s.objB (O.netPortEnable p) || !s.portUp p || !s.portAwake p || s.opState = standby then s
  else
    let s := s.egressAll.bump (O.netPortRxFrames p)
    let fec := s.objB (O.netPortFec p)
    let s := if fec then (s.bumpBy (O.netPortFecCorrected p) fecCorrected).bumpBy (O.netPortFecUncorrected p) fecBad else s
    if !fcsOk || (fec && fecBad != 0) then s.bump (O.netPortFcsErrors p)
    else if (if s.objB O.netJumbo then 9216 else 1522) < bytes.length + 4 then s.bump (O.netPortOversize p)
    else if ethType bytes = 0x8808 then s.bump (O.netPortPauseRx p)
    else
      let tagged := ethType bytes == 0x8100
      let tci := beAt bytes 14 2
      let l := if tagged then bytes.take 12 ++ bytes.drop 16 else bytes
      let vid := if tagged && tci % 4096 != 0 then tci % 4096 else s.obj (O.netPortPvid p)
      let pcp := if tagged then tci / 8192 else s.obj (O.netPortPrio p)
      match s.vlan vid with
      | none => s
      | some (mem, _) => if !bit mem p then s else (s.learn vid (ethSrc l) p).forward p vid pcp pcp l

def execFrameRx (t : Nat) (p : Fin 4) (fcsOk : Bool) (fecCorrected fecBad : Nat) (bytes : List Byte) (s : State) : Host.Outcome State Fault Refusal :=
  .next ((s.at t).frameIn p.val fcsOk fecCorrected fecBad bytes)

/-! ### Links (R345) -/

/-- The redundant legs that use a port, or that carry no packet, go down (R363): E186 for each. -/
def State.legFalls (s : State) (f g : Nat) : State :=
  let x := s.flow f
  if bit x.down g || !(s.legOn f 0 && s.legOn f 1) then s
  else (s.setFlow f { x with down := setBit x.down g }).raise 186 [f, g, x.newest.getD 0]

/-- LINK_UP: the PCS of a port has held block lock without hi_ber since tick `since`. -/
def State.linkUp (s : State) (p since : Nat) : State :=
  if s.portUp p || !s.objB (O.netPortEnable p) || !s.portAwake p || s.tick < since + msTicks 100 then s
  else (s.setObj (O.netPortState p) 1).raise 180 [p]

def execLinkUp (t : Nat) (p : Fin 4) (since : Nat) (s : State) : Host.Outcome State Fault Refusal := .next ((s.at t).linkUp p.val since)

/-- LINK_DOWN. -/
def State.linkDown (s : State) (p : Nat) : State :=
  if !s.portUp p then s
  else
    let s := s.egressAll
    let s := ((s.setNetPort p { s.netPort p with queue := [] }).setObj (O.netPortState p) 0).raise 181 [p]
    s.legsOn.foldl (fun s x => if leAt (s.leg x.1 x.2) 1 1 = p then s.legFalls x.1 x.2 else s) s

def execLinkDown (t : Nat) (p : Fin 4) (s : State) : Host.Outcome State Fault Refusal := .next ((s.at t).linkDown p.val)

/-- A write of `NET_PORT_ENABLE`: a port that no longer transmits and receives goes down. -/
def effPortEnable : Effect := fun _ _ r ref v s =>
  let s := s.store r ref v
  done (if beNat v = 0 then s.linkDown (refIndex ref - 0x2B10) else s)

/-! ### The endpoint's answers (R350, R351) -/

/-- A packet on port `p` and a VLAN reaches the endpoint. -/
def State.heard (s : State) (p vid : Nat) : Bool :=
  s.portAwake p && s.portUp p && s.endpointVlan vid && match s.vlan vid with | some (mem, _) => bit mem p && bit mem 4 | none => false

def State.arp (s : State) (p vid target mac : Nat) : State :=
  if s.heard p vid && s.ownAddress (beBytes 4 target) then s.emit (.arp p vid target mac) else s

def execArpRx (t : Nat) (p : Fin 4) (vlan target _sender mac : Nat) (s : State) : Host.Outcome State Fault Refusal := .next ((s.at t).arp p.val vlan target mac)

def State.solicited (s : State) (p vid : Nat) (target : List Byte) (mac : Nat) : State :=
  if s.heard p vid && target.length = 16 && s.ownAddress target then s.emit (.neighbour p vid target mac) else s

def execNeighbourSolicitationRx (t : Nat) (p : Fin 4) (vlan : Nat) (target _src : List Byte) (mac : Nat) (s : State) : Host.Outcome State Fault Refusal :=
  .next ((s.at t).solicited p.val vlan target mac)

/-- An echo request is answered, but not in STANDBY (R367). -/
def State.echo (s : State) (p vid : Nat) (v6 : Bool) (dst src data : List Byte) : State :=
  if s.opState != standby && s.heard p vid && dst.length = (if v6 then 16 else 4) && s.ownAddress dst then s.emit (.echo p vid v6 src data) else s

def execEchoRx (t : Nat) (p : Fin 4) (vlan : Nat) (v6 : Bool) (dst src data : List Byte) (s : State) : Host.Outcome State Fault Refusal :=
  .next ((s.at t).echo p.val vlan v6 dst src data)

/-- The membership report of a leg: INCLUDE its source, or EXCLUDE none. A leg with a unicast destination joins nothing. -/
def State.reportLeg (s : State) (f g : Nat) : State :=
  let r := s.leg f g
  let src := slice r 20 (if leAt r 0 1 = 4 then 4 else 16)
  if !ipMulticast (groupOf r) then s
  else s.emit (.report (leAt r 1 1) (s.legVid f g) (leAt r 0 1) (groupOf r) (if src.all (· == 0) then 1 else 0) src)

/-- MEMBERSHIP_QUERY_RX: a general query (no group) or one for a group. -/
def State.query (s : State) (p vid : Nat) (v6 : Bool) (group : List Byte) : State :=
  if s.opState = standby || !s.heard p vid then s
  else s.legsOn.foldl (fun s x =>
    let r := s.leg x.1 x.2
    if leAt r 1 1 = p && leAt r 0 1 = (if v6 then 6 else 4) && s.legVid x.1 x.2 = vid && (group.isEmpty || group = groupOf r) then s.reportLeg x.1 x.2 else s) s

def execMembershipQueryRx (t : Nat) (p : Fin 4) (vlan : Nat) (v6 : Bool) (group : List Byte) (s : State) : Host.Outcome State Fault Refusal :=
  .next ((s.at t).query p.val vlan v6 group)

/-- MEMBERSHIP_REPORT_REPEAT: a second after a leg has started. -/
def State.repeatReports (s : State) : State :=
  allFlows.foldl (fun s f =>
    let x := s.flow f
    if x.repeats.isEmpty || s.tick < x.since + ticksPerSec then s
    else x.repeats.foldl (fun s g => if s.legOn f g then s.reportLeg f g else s) (s.setFlow f { x with repeats := [] })) s

def execMembershipReportRepeat (t : Nat) (s : State) : Host.Outcome State Fault Refusal := .next (s.at t).repeatReports

/-! ### Wake frames (R367) -/

/-- WAKE_FRAME_RX: the match presents NETWAKE to Patrol. -/
def State.wakeFrame (s : State) (p vid : Nat) (dst : List Byte) (udp : Nat) (payload : List Byte) : State :=
  if s.opState = standby && p = 0 && s.portUp 0 && vid = s.obj O.netMgmtVlan && s.ownAddress dst && udp = s.obj O.netWakePort && 8 ≤ payload.length
      && s.obj O.netWakeToken ≠ 0 && beAt payload 0 8 = s.obj O.netWakeToken
  then { s.setNet { s.net with wake := true } with power := { s.power with netwake := true } } else s

def execWakeFrameRx (t : Nat) (p : Fin 4) (vlan : Nat) (dst : List Byte) (udp : Nat) (payload : List Byte) (s : State) : Host.Outcome State Fault Refusal :=
  .next ((s.at t).wakeFrame p.val vlan dst udp payload)

end Sys2Proof.Machine
end

