-- ==== Sys2Proof/Machine/Media.lean ====
section
/-! DEFINITION. Media flows (R354 to R365): packets, pixels, frames, redundant legs, the checks of a compositor commit and the start and stop of a flow, with the meanings of their commands. -/

namespace Sys2Proof.Machine

/-! ### Parameters of a flow -/

/-- A flow's values under a reading of its objects: in force, or staged. -/
structure FlowVals where
  num  : Nat → Nat
  blob : Nat → List Byte

def State.flowVals (s : State) : FlowVals := ⟨s.obj, s.blob⟩

def FlowVals.on (v : FlowVals) (f : Nat) : Bool := v.num (O.netFlowEnable f) != 0
def FlowVals.joined (v : FlowVals) (f : Nat) : Bool := v.num (O.netFlowJoin f) != 0xFF
/-- The flow that chooses buffers and queues flips for `f` (R362), and the parts of a leader's frame. -/
def FlowVals.lead (v : FlowVals) (f : Nat) : Nat := if v.joined f then v.num (O.netFlowJoin f) else f
def FlowVals.parts (v : FlowVals) (f : Nat) : List Nat := allFlows.filter fun g => v.on g && v.lead g == f
/-- The endpoint record of leg `g`; in use when it names a family. -/
def FlowVals.leg (v : FlowVals) (f g : Nat) : List Byte := v.blob (if g = 0 then O.netFlowLegA f else O.netFlowLegB f)
def FlowVals.legUsed (v : FlowVals) (f g : Nat) : Bool := leAt (v.leg f g) 0 1 != 0
/-- Bits of a pixel (R356). -/
def FlowVals.bpp (v : FlowVals) (f : Nat) : Nat := (if v.num (O.netFlowSampling f) = 0 then 2 else 3) * v.num (O.netFlowDepth f)
/-- Stored format and encoding (R357, Table 12-5). -/
def FlowVals.format (v : FlowVals) (f : Nat) : Nat := let d := v.num (O.netFlowDepth f); if d = 8 then 0x30 else if d = 10 then 0x40 else 0x50
def FlowVals.encoding (v : FlowVals) (f : Nat) : Nat := v.num (O.netFlowColorimetry f) * 16 + v.num (O.netFlowTcs f) + 1
def FlowVals.pool (v : FlowVals) (f : Nat) : List Nat := let p := v.blob (O.netFlowPool f); (List.range (p.length / 4)).map fun i => leAt p (4 * i) 4

/-! ### The checks of a commit (Table 12-6) and the ingress term (R365) -/

/-- Check 1 on one flow. -/
def FlowVals.paramsOk (v : FlowVals) (f : Nat) : Bool :=
  let w := v.num (O.netFlowWidth f)
  let h := v.num (O.netFlowHeight f)
  let p := v.num (O.netFlowPeriod f)
  let family (g : Nat) := leAt (v.leg f g) 0 1
  let port (g : Nat) := leAt (v.leg f g) 1 1
  decide (64 ≤ w) && decide (w ≤ 7680) && (v.num (O.netFlowSampling f) != 0 || w % 2 == 0) && decide (1 ≤ h) && decide (h ≤ 4320)
    && decide (ratioDen p ≤ 60 * ratioNum p) && decide (ratioNum p * 24000 ≤ 1001 * ratioDen p)
    && (family 0 == 4 || family 0 == 6) && decide (port 0 < 4)
    && (!v.legUsed f 1 || ((family 1 == 4 || family 1 == 6) && decide (port 0 < 2) && port 1 == 1 - port 0))

/-- The active-video rate on a port in bits per second, over a common denominator (R356). -/
def FlowVals.portRate (v : FlowVals) (p : Nat) : Nat × Nat :=
  allFlows.foldl (fun a f =>
    let uses := v.on f && (List.range 2).any fun g => v.legUsed f g && leAt (v.leg f g) 1 1 == p
    let per := v.num (O.netFlowPeriod f)
    if uses then (a.1 * ratioNum per + v.num (O.netFlowWidth f) * v.num (O.netFlowHeight f) * v.bpp f * ratioDen per * a.2, a.2 * ratioNum per) else a) (0, 1)

/-- Check 4 on a leader: its pool. -/
def State.poolOk (s : State) (v : FlowVals) (f : Nat) : Bool :=
  let pool := v.pool f
  decide (2 ≤ pool.length) && decide (pool.length ≤ 8) && pool.all fun h =>
    let i := handleIndex h
    (s.handleFault h).isNone && handleType h == tyBuffer && s.obj (O.layBufFormat i) == v.format f
      && (v.parts f).all (fun g => decide (v.num (O.netFlowWidth g) ≤ s.obj (O.layBufWidth i))
          && decide (v.num (O.netFlowRow0 g) + v.num (O.netFlowHeight g) ≤ s.obj (O.layBufHeight i)))
      && allFlows.all (fun g => g == f || !v.on g || v.joined g || !(v.pool g).contains h)
      && (pool.filter (· == h)).length == 1

/-- Check 6 on a joined flow. -/
def FlowVals.joinOk (v : FlowVals) (f : Nat) : Bool :=
  let l := v.lead f
  let same (r : Nat → Nat) : Bool := v.num (r f) == v.num (r l)
  l != f && v.on l && !v.joined l && same O.netFlowSampling && same O.netFlowDepth && same O.netFlowColorimetry && same O.netFlowTcs && same O.netFlowRange && same O.netFlowPeriod
    && (v.parts l).all fun g => g == f || decide (v.num (O.netFlowRow0 f) + v.num (O.netFlowHeight f) ≤ v.num (O.netFlowRow0 g))
        || decide (v.num (O.netFlowRow0 g) + v.num (O.netFlowHeight g) ≤ v.num (O.netFlowRow0 f))

/-- The first flow check that fails. `layer` reads the layer objects the commit gives. -/
def State.flowFault (s : State) (v : FlowVals) (layer : Nat → Nat) : Option Nat :=
  let on := allFlows.filter v.on
  let leads := on.filter fun f => !v.joined f
  let lay := v.num
  if !on.all v.paramsOk then some St.flowConfig
  else if (List.range 4).any fun p => let r := v.portRate p; decide (9000000000 * r.2 < r.1) then some St.flowRate
  else if !leads.all (fun f =>
      let l := lay (O.netFlowLayer f)
      decide (l < 64) && layer (O.layEnable l) != 0 && layer (O.layKind l) == 0 && layer (O.layFormat l) == v.format f && layer (O.layEncoding l) == v.encoding f)
    then some St.flowBinding
  else if !leads.all (s.poolOk v) then some St.flowBinding
  else if !on.all (fun f => v.num (O.netFlowMode f) != 1 || decide (layer (O.layOutput (lay (O.netFlowLayer (v.lead f)))) ≤ 3)) then some St.flowBinding
  else if !(on.filter v.joined).all v.joinOk then some St.flowConfig
  else none

/-- The media ingress term in bytes per second as a fraction (R365). -/
def State.mediaIngress (s : State) (v : FlowVals) : Nat × Nat :=
  (allFlows.filter fun f => v.on f && !v.joined f).foldl (fun a f =>
    let per := v.num (O.netFlowPeriod f)
    let stride := s.obj (O.layBufStride (handleIndex ((v.pool f).headD 0)))
    let rows := v.num (O.netFlowRow0 f) + ((v.parts f).map fun g => v.num (O.netFlowHeight g)).foldl (· + ·) 0
    (a.1 * ratioNum per + stride * rows * ratioDen per * a.2, a.2 * ratioNum per)) (0, 1)

/-! ### Pixels (R357) -/

/-- `n` bits from bit `o` of a byte string, most significant first. -/
def bitField (l : List Byte) (o n : Nat) : Nat :=
  let k := (o + n + 7) / 8 - o / 8
  beAt l (o / 8) k / 2 ^ (8 * k - o % 8 - n) % 2 ^ n

/-- Octets and pixels of a pixel group (ST 2110-20). -/
def pixelGroup (sampling depth : Nat) : Nat × Nat :=
  if sampling = 0 then (depth / 2, 2) else if depth = 8 then (3, 1) else if depth = 10 then (15, 4) else (9, 2)

/-- The components of pixel `j` of a segment: Y, CB, CR (an odd pixel of 4:2:2 has no chroma of its own), or R, G, B. -/
def samplePixel (sampling depth : Nat) (l : List Byte) (j : Nat) : Nat × Nat × Nat :=
  let g (o : Nat) : Nat := bitField l o depth
  if sampling = 0 then
    let o := 4 * depth * (j / 2)
    if j % 2 = 0 then (g (o + depth), g o, g (o + 2 * depth)) else (g (o + 3 * depth), 0, 0)
  else
    let o := 3 * depth * j
    if sampling = 1 then (g (o + depth), g o, g (o + 2 * depth)) else (g o, g (o + depth), g (o + 2 * depth))

/-- A value scaled to `n` bits, rounded to nearest, halves up, and clamped. -/
def toDepth (n : Nat) (x : Rat) : Nat :=
  let y := x * ((2 ^ n - 1 : Nat) : Rat)
  (clampInt 0 (2 ^ n - 1) (roundDiv y.num y.den)).toNat

/-- The R, G and B of a pixel at depth `n`: BT.709 or BT.2020 non-constant luminance, NARROW or FULL range. -/
def mediaRGB (sampling colorimetry range n : Nat) (c : Nat × Nat × Nat) : Nat × Nat × Nat :=
  let m : Rat := (2 ^ (n - 8) : Nat)
  let full : Rat := (2 ^ n - 1 : Nat)
  let luma (y : Nat) : Rat := if range = 0 then ((y : Rat) - 16 * m) / (219 * m) else (y : Rat) / full
  let chroma (v : Nat) : Rat := let d := (v : Rat) - ((2 ^ (n - 1) : Nat) : Rat); if range = 0 then d / (224 * m) else d / full
  if sampling = 2 then (toDepth n (luma c.1), toDepth n (luma c.2.1), toDepth n (luma c.2.2))
  else
    let kr : Rat := if colorimetry = 0 then 2126 / 10000 else 2627 / 10000
    let kb : Rat := if colorimetry = 0 then 722 / 10000 else 593 / 10000
    let y := luma c.1
    let r := y + 2 * (1 - kr) * chroma c.2.2
    let b := y + 2 * (1 - kb) * chroma c.2.1
    let g := (y - kr * r - kb * b) / (1 - kr - kb)
    (toDepth n r, toDepth n g, toDepth n b)

/-- The bytes of a pixel in the stored format (Table 12-5). -/
def storedPixel (n : Nat) (c : Nat × Nat × Nat) : List Byte :=
  let f := if n = 8 then 0x30 else if n = 10 then 0x40 else 0x50
  let w (x : Nat) : Nat := if n = 12 then widen16 12 x else x
  leBytes (fmtBytes f) (pixelWord (fmtFields f) [w c.1, w c.2.1, w c.2.2, if n = 8 then 255 else if n = 10 then 3 else 65535])

/-- The key of a sample: flow, row, column. -/
def sampleKey (f row x : Nat) : Nat := f * 2 ^ 32 + row * 65536 + x

/-- The components of a pixel with its chroma, once they are known. -/
def FlowFrame.pixel (x : FlowFrame) (sampling w f row i : Nat) : Option (Nat × Nat × Nat) :=
  match kvFind x.samples (sampleKey f row i) with
  | none => none
  | some c =>
    if sampling ≠ 0 || i % 2 = 0 then some c
    else
      match kvFind x.samples (sampleKey f row (i - 1)), (if i + 1 = w then kvFind x.samples (sampleKey f row (i - 1)) else kvFind x.samples (sampleKey f row (i + 1))) with
      | some a, some b => some (c.1, (a.2.1 + b.2.1 + 1) / 2, (a.2.2 + b.2.2 + 1) / 2)
      | _, _ => none

/-! ### Episodes -/

/-- An event that is raised once in an episode `k` of a flow. -/
def State.flowEvent (s : State) (f k e leg ts : Nat) : State :=
  let x := s.flow f
  if bit x.episodes k then s else (s.setFlow f { x with episodes := setBit x.episodes k }).raise e [f, leg, ts]
def State.flowEpisodeEnds (s : State) (f k : Nat) : State := s.setFlow f { s.flow f with episodes := clearBit (s.flow f).episodes k }

/-! ### Frames (R359 to R362) -/

/-- The studio instant of an RTP timestamp: the one congruent to it that lies nearest the arrival (R360). Ticks are 343,750/3 per unit of the RTP clock. -/
def State.rtpInstant (s : State) (ts : Nat) : Instant :=
  let wrap : Nat := 4294967296 * 343750
  let m := roundDiv (3 * s.studio - ts * 343750) wrap
  ⟨(ts * 343750 : Nat) + m * wrap, 3⟩

/-- Pool buffers that the host has freed are let go once nothing else refers to them (R359). -/
def State.dropFreed (s : State) (f : Nat) : State :=
  let x := s.flow f
  (s.setFlow f { x with holds := x.holds.filter fun h => !(s.bufState (handleIndex h) == bufRelease && s.bufRefs (handleIndex h) == 1) }).reap

/-- The pool buffer for a new frame of leader `f`: READY, with no reference but the pool's, least recently written. -/
def State.choosePool (s : State) (f : Nat) : Option Nat :=
  let at_ (h : Nat) : Nat := (kvFind (s.buf (handleIndex h)).wrote 0).getD 0
  let ok := (s.flow f).holds.filter fun h => s.bufState (handleIndex h) == bufReady && s.bufRefs (handleIndex h) == 1
  (ok.foldl (fun b h => match b with | some g => if at_ h < at_ g then some h else b | none => some h) none).map handleIndex

/-- A new frame at its first packet, from flow `f` with leader `l`: older frames learn of it, and a buffer is chosen or the frame is dropped. -/
def State.newFrame (s : State) (f l ts leg : Nat) : State :=
  let s := s.dropFreed l
  let i := s.choosePool l
  let inst := s.rtpInstant ts
  let x := s.flow l
  let old := x.frames.map fun y => { y with newer := some (y.newer.getD s.tick) }
  let s := s.setFlow l { x with newest := some ts, frames := old ++ [⟨ts, i, s.tick, inst, none, [], [], false⟩] }
  let s := (s.setObj (O.netFlowLastT l) inst.stime).setObj (O.netFlowLastT f) inst.stime
  match i with
  | some i => (s.setObj (O.layBufState i) bufWriting).flowEpisodeEnds l 1
  | none => (s.bump (O.netFlowNoBuffer l)).flowEvent l 1 185 leg ts

/-- Change the frame of a timestamp of leader `l`. -/
def State.setFrame (s : State) (l : Nat) (y : FlowFrame) : State :=
  s.setFlow l { s.flow l with frames := (s.flow l).frames.map fun z => if z.ts = y.ts then y else z }

/-- The samples of one segment, and the pixels they complete. -/
def State.takeSegment (s : State) (f l ts : Nat) (d : MediaSrd) (data : List Byte) : State :=
  match (s.flow l).frames.find? fun y => y.ts == ts with
  | none => s
  | some y =>
    let sampling := s.obj (O.netFlowSampling f)
    let n := s.obj (O.netFlowDepth f)
    let w := s.obj (O.netFlowWidth f)
    let (oct, px) := pixelGroup sampling n
    let count := d.length / max 1 oct * px
    let y := { y with samples := (List.range count).foldl (fun m j => kvInsert m (sampleKey f d.row (d.offset + j)) (samplePixel sampling n data j)) y.samples }
    let s := s.setFrame l y
    match y.index with
    | none => s
    | some i =>
      let lo := d.offset - 1
      (List.range (d.offset + count - lo)).foldl (fun s j =>
        match y.pixel sampling w f d.row (lo + j) with
        | some c => s.bufRow i 0 (lo + j) (s.obj (O.netFlowRow0 f) + d.row) (storedPixel n (mediaRGB sampling (s.obj (O.netFlowColorimetry f)) (s.obj (O.netFlowRange f)) n c))
        | none => s) s

/-- The segments of a packet in order. -/
def State.takeSegments (s : State) (f l ts : Nat) : List MediaSrd → List Byte → State
  | [], _ => s
  | d :: ds, data => (s.takeSegment f l ts d (data.take d.length)).takeSegments f l ts ds (data.drop d.length)

/-- Every part of a frame is there, and every marker (R360, R362). -/
def State.frameWhole (s : State) (l : Nat) (y : FlowFrame) : Bool :=
  (s.flowVals.parts l).all fun f =>
    y.markers.contains f && (y.samples.filter fun e => e.1 / 2 ^ 32 == f).length == s.obj (O.netFlowWidth f) * s.obj (O.netFlowHeight f)

/-- A frame leaves the list. -/
def State.frameGone (s : State) (l ts : Nat) : State := s.setFlow l { s.flow l with frames := (s.flow l).frames.filter fun z => z.ts != ts }

/-- The flip of a completed frame (R360), and whether an ALIGNED frame came too late for its target. -/
def State.frameFlip (s : State) (l i : Nat) (y : FlowFrame) : Flip × Bool :=
  let h := s.obj (O.layBufHandle i)
  if s.obj (O.netFlowMode l) = 0 then (⟨h, 0, 0, 1, 0, none⟩, false)
  else
    let g := s.timing (s.leadOf (s.obj (O.layOutput (s.obj (O.netFlowLayer l)))))
    let due := y.inst.plusFrac ((s.obj (O.netFlowDelay l) * 20625 : Nat) : Int) 2
    let k := g.firstFrom due
    let limit := (g.boundary k).plus (-(usTicks 200 : Int))
    (⟨h, 0, 0, 0, (k + 1).toNat, none⟩, limit.lt (tickInstant s.studio))

/-- FLOW_FRAME_COMPLETE (R360): the leader's oldest whole frame. -/
def State.frameComplete (s : State) (l : Nat) : State :=
  match (s.flow l).frames.find? (s.frameWhole l) with
  | none => s
  | some y =>
    let s := s.frameGone l y.ts
    match y.index with
    | none => s
    | some i =>
      let s := (s.bufWritten i 0).flowEpisodeEnds l 2
      let s := if y.broken then s else s.flowEpisodeEnds l 5
      let s := (s.flowVals.parts l).foldl (fun s f => s.bump (O.netFlowFrames f)) s
      let s := if (s.flow l).fresh then (s.setFlow l { s.flow l with fresh := false }).raise 182 [l, 0, y.ts] else s
      let (p, late) := s.frameFlip l i y
      let s := if late then s.bump (O.netFlowLate l) else s
      let layer := s.obj (O.netFlowLayer l)
      match s.flipFault layer p with
      | some _ => (s.bump (O.netFlowFlipRefused l)).flowEvent l 3 193 0 y.ts
      | none => (s.queueFlip layer p).flowEpisodeEnds l 3

def execFlowFrameComplete (t : Nat) (f : Fin 8) (s : State) : Host.Outcome State Fault Refusal := .next ((s.at t).frameComplete f.val)

/-- A frame ends incomplete (R361). -/
def State.frameIncomplete (s : State) (l : Nat) (y : FlowFrame) : State :=
  let s := s.frameGone l y.ts
  match y.index with
  | none => s
  | some i => ((s.setObj (O.layBufState i) bufReady).bump (O.netFlowIncomplete l)).flowEvent l 2 184 0 y.ts

/-- FLOW_FRAME_INCOMPLETE. -/
def State.framesOverdue (s : State) (l : Nat) : State :=
  let wait := max (msTicks 1) (usTicks (s.obj (O.netFlowSkew l)))
  let late := (s.flow l).frames.filter fun y => match y.newer with | some n => decide (n + wait ≤ s.tick) && !s.frameWhole l y | none => false
  late.foldl (fun s y => s.frameIncomplete l y) s

def execFlowFrameIncomplete (t : Nat) (f : Fin 8) (s : State) : Host.Outcome State Fault Refusal := .next ((s.at t).framesOverdue f.val)

/-! ### Sequence numbers (R363) -/

/-- `a` is above `b`, both 32-bit serial numbers. -/
def FlowSt.settledBelow (x : FlowSt) (q : Nat) : Bool := match x.floor with | some f => !serialAbove q f | none => false

/-- A number is settled: lost, or its skew window has passed. -/
def SeqSeen.settled (e : SeqSeen) (skew now : Nat) : Bool := e.leg == 2 || decide (e.first + skew < now)

/-- The floor rises over settled numbers without a gap; one that came only on leg B, of a flow with leg A, counts as recovered when it is settled. -/
def State.settleSeqs (s : State) (f : Nat) : Nat → State
  | 0 => s
  | k + 1 =>
    let x := s.flow f
    match x.floor with
    | none => s
    | some b =>
      match x.seen.find? fun e => e.seq == (b + 1) % 4294967296 with
      | none => s
      | some e =>
        if !e.settled (usTicks (s.obj (O.netFlowSkew f))) s.tick then s
        else
          let s := s.setFlow f { x with floor := some e.seq, seen := x.seen.filter fun z => z.seq != e.seq }
          let s := if e.leg = 1 && e.a.isNone then s.bump (O.netFlowRecovered f) else s
          s.settleSeqs f k

/-- The measured skew moves by one number received on both legs: the mean in µs, E188 beyond the limit. -/
def State.measureSkew (s : State) (f : Nat) (d : Int) (ts : Nat) : State :=
  let x := s.flow f
  let sum := x.skewSum + d
  let n := x.skewN + 1
  let s := s.setFlow f { x with skewSum := sum, skewN := n }
  let (us, s) := s.openRound (2 * sum) (20625 * n)
  let s := s.setObjI (O.netFlowSkewMeas f) us
  if s.obj (O.netFlowSkew f) < us.natAbs then s.flowEvent f 4 188 1 ts else s.flowEpisodeEnds f 4

/-- A packet's number: the state, and whether it is the first copy. -/
def State.takeSeq (s : State) (f g q ts : Nat) : Bool × State :=
  let s := s.settleSeqs f (s.flow f).seen.length
  let x := s.flow f
  let x := { x with floor := some (x.floor.getD ((q + 4294967295) % 4294967296)) }
  let s := s.setFlow f x
  if x.settledBelow q then (false, s)
  else
    match x.seen.find? fun e => e.seq == q with
    | none => (true, s.setFlow f { x with seen := x.seen ++ [⟨q, s.tick, g, if g = 0 then some s.tick else none, if g = 1 then some s.tick else none⟩] })
    | some e =>
      if e.settled (usTicks (s.obj (O.netFlowSkew f))) s.tick || (if g = 0 then e.a else e.b).isSome then (false, s)
      else
        let e' := if g = 0 then { e with a := some s.tick } else { e with b := some s.tick }
        let s := s.setFlow f { x with seen := x.seen.map fun z => if z.seq = q then e' else z }
        match e'.a, e'.b with
        | some a, some b => (false, s.measureSkew f ((b : Int) - a) ts)
        | _, _ => (false, s)

/-- PACKET_LOST: the lowest number that has not come and above which a copy came a skew ago. -/
def State.packetLost (s : State) (f : Nat) : State :=
  let s := s.settleSeqs f (s.flow f).seen.length
  let x := s.flow f
  match x.floor with
  | none => s
  | some b =>
    let known (q : Nat) : Bool := x.seen.any fun e => e.seq == q
    match ((List.range (x.seen.length + 1)).map fun i => (b + 1 + i) % 4294967296).find? fun q => !known q with
    | none => s
    | some q =>
      let skew := usTicks (s.obj (O.netFlowSkew f))
      if x.seen.any fun e => e.leg != 2 && serialAbove e.seq q && decide (e.first + skew ≤ s.tick) then
        ((s.setFlow f { x with seen := x.seen ++ [⟨q, s.tick, 2, none, none⟩] }).bump (O.netFlowLostPkts f)).settleSeqs f (x.seen.length + 1)
      else s

def execPacketLost (t : Nat) (f : Fin 8) (s : State) : Host.Outcome State Fault Refusal := .next ((s.at t).packetLost f.val)

/-! ### Packets (R355) -/

/-- A packet matches a leg's endpoint record (Table 12-3). -/
def State.legMatches (s : State) (p : MediaPkt) (f g : Nat) : Bool :=
  let r := s.leg f g
  let n := if p.family = 4 then 4 else 16
  let group := groupOf r
  let src := slice r 20 n
  leAt r 0 1 == p.family && leAt r 1 1 == p.port.val && leAt r 2 2 == p.udp && s.legVid f g == p.vlan
    && (if ipMulticast group then group == p.dst.take n else s.ownAddress (p.dst.take n))
    && (src.all (· == 0) || src == p.src.take n)

/-- The packet is one of Table 12-4. -/
def State.packetOk (s : State) (f : Nat) (p : MediaPkt) : Bool :=
  let sampling := s.obj (O.netFlowSampling f)
  let (oct, px) := pixelGroup sampling (s.obj (O.netFlowDepth f))
  p.pt == s.obj (O.netFlowPt f) && p.srds.all (fun d => !d.field) && decide (p.srds.length ≤ 3)
    && p.srds.all (fun d => decide (d.row < s.obj (O.netFlowHeight f)) && decide (d.offset + d.length / max 1 oct * px ≤ s.obj (O.netFlowWidth f))
        && d.length % max 1 oct == 0 && d.offset % px == 0)
    && p.udpLen == 14 + 6 * p.srds.length + p.data.length && p.data.length == (p.srds.map (·.length)).foldl (· + ·) 0

/-- MEDIA_PACKET_RX (R355, R359, R363, R364). -/
def State.mediaPacket (s : State) (p : MediaPkt) : State :=
  if s.opState = standby || !s.heard p.port.val p.vlan then s
  else
    match s.legsOn.find? fun x => s.legMatches p x.1 x.2 with
    | none => s
    | some (f, g) =>
      let x := s.flow f
      let s := s.setFlow f { x with last := kvInsert x.last g s.tick, down := clearBit x.down g }
      let s := if bit x.down g then s.raise 187 [f, g, p.ts] else s
      if !s.packetOk f p then (s.bump (O.netFlowDiscarded f)).flowEvent f 0 190 g p.ts
      else
        let s := ((s.flowEpisodeEnds f 0).setObj (O.netFlowState f) 2).setObj (O.netFlowVrxPeak f) (max (s.obj (O.netFlowVrxPeak f)) p.vrx)
        match s.takeSeq f g p.seq p.ts with
        | (false, s) => s
        | (true, s) =>
          let l := s.flowVals.lead f
          let known := (s.flow l).frames.any fun y => y.ts == p.ts
          let newer := match (s.flow l).newest with | some n => serialAbove p.ts n | none => true
          if !known && !newer then s
          else
            let s := if known then s else s.newFrame f l p.ts g
            let s := s.takeSegments f l p.ts p.srds p.data
            match (s.flow l).frames.find? fun y => y.ts == p.ts with
            | none => s
            | some y =>
              let s := s.setFrame l { y with markers := if p.marker then f :: y.markers.filter (· != f) else y.markers, broken := y.broken || p.breaks }
              if p.breaks && !y.broken then (s.bump (O.netFlowNonconform f)).flowEvent f 5 189 g p.ts else s

def execMediaPacketRx (t : Nat) (p : MediaPkt) (s : State) : Host.Outcome State Fault Refusal := .next ((s.at t).mediaPacket p)

/-! ### Legs and flows without packets (R363, R370) -/

/-- A leg has had no packet for 100 ms; before its first packet the time counts from the start of the flow. -/
def State.legSilent (s : State) (f g : Nat) : Bool := decide ((kvFind (s.flow f).last g).getD (s.flow f).since + msTicks 100 ≤ s.tick)

/-- LEG_DOWN. -/
def State.legDown (s : State) (f g : Nat) : State := if s.legOn f g && s.legSilent f g then s.legFalls f g else s

def execLegDown (t : Nat) (f : Fin 8) (leg : Fin 2) (s : State) : Host.Outcome State Fault Refusal := .next ((s.at t).legDown f.val leg.val)

/-- FLOW_STOPPED: E183. -/
def State.flowSilent (s : State) (f : Nat) : State :=
  if s.obj (O.netFlowState f) = 2 && (List.range 2).all fun g => !s.legOn f g || s.legSilent f g then
    (s.setObj (O.netFlowState f) 1).raise 183 [f, 0, (s.flow (s.flowVals.lead f)).newest.getD 0]
  else s

def execFlowStopped (t : Nat) (f : Fin 8) (s : State) : Host.Outcome State Fault Refusal := .next ((s.at t).flowSilent f.val)

/-! ### Start and stop (R351, R358, R359) -/

/-- A flow stops: a frame in reception ends incomplete, its legs leave their groups, its pool is let go. -/
def State.flowStop (s : State) (f : Nat) : State :=
  if !s.objB (O.netFlowEnable f) then s
  else
    let l := s.flowVals.lead f
    let s := (s.flow l).frames.foldl (fun s y => s.frameIncomplete l y) s
    let s := (List.range 2).foldl (fun s g =>
      let r := s.leg f g
      if s.legOn f g && ipMulticast (groupOf r) then s.emit (.report (leAt r 1 1) (s.legVid f g) (leAt r 0 1) (groupOf r) 2 []) else s) s
    ((s.setFlow f {}).setObj (O.netFlowState f) 0).reap

/-- A flow starts under its values in force. -/
def State.flowStart (s : State) (f : Nat) : State :=
  let v := s.flowVals
  let s := s.setObjs [(O.netFlowEncoding f, v.encoding f), (O.netFlowFormat f, v.format f)]
  if !v.on f then s
  else
    let legs := (List.range 2).filter fun g => s.legOn f g
    let s := s.setFlow f { since := s.tick, repeats := legs, holds := if v.joined f then [] else v.pool f }
    legs.foldl (fun s g => s.reportLeg f g) (s.setObj (O.netFlowState f) 1)

end Sys2Proof.Machine
end

