-- ==== Sys2Proof/Machine/Hier.lean ====
section
/-! DEFINITION. Manager and workers (chapter 14): discovery, enumeration, heartbeats, proxied answers, custody, the strobe bus and system flips, with the meanings of
their commands. -/

namespace Sys2Proof.Machine

def State.setHier (s : State) (x : HierSt) : State := { s with hier := x }

/-- The role in force. -/
def State.isManager (s : State) : Bool := s.obj O.hierRoleNow == 1
def State.isWorker (s : State) : Bool := s.obj O.hierRoleNow == 2

/-- The endpoint serves the hierarchy: not in COLD nor in standby (R471, R481). -/
def State.hierServes (s : State) : Bool := s.opState != cold && s.opState != standby

def usInstant (i : Instant) (us : Nat) : Instant := i.plusFrac (-((us * 20625 : Nat) : Int)) 2

/-! ### Datagrams (Table 14-1) -/

/-- The fields of a hierarchy datagram. -/
structure Dgram where
  type : Nat
  hops : Nat := 0
  state : Nat := 0
  mgr : Nat := 0
  value : Nat := 0
  path : Nat := 0
  serial : Nat := 0
  slot : Nat := 0
  node : Nat := 0
  fw : Nat := 0
  segment : Nat := 0

/-- Bytes 0 to 47. -/
def Dgram.head (d : Dgram) : List Byte :=
  [1] ++ beBytes 1 d.type ++ beBytes 1 d.hops ++ beBytes 1 d.state ++ beBytes 8 d.mgr ++ beBytes 8 d.value ++ beBytes 8 d.path ++ beBytes 8 d.serial ++ beBytes 1 d.slot ++ [0]
    ++ beBytes 2 d.node ++ beBytes 4 d.fw ++ beBytes 2 d.segment ++ [0, 0]

/-- TAG of types 3 to 5 (R400). -/
def sysTag (key head : List Byte) : List Byte := kmac256 key head 16 (nameBytes "RESIL-SYS")

/-- The 64 bytes. -/
def State.dgramBytes (s : State) (d : Dgram) : List Byte := d.head ++ (if 3 ≤ d.type then sysTag (s.blob O.hierSysKey) d.head else fill 16 0)

/-- A datagram of the device's own: its straps, node and firmware version (Table 14-1). -/
def State.ownDgram (s : State) (d : Dgram) : Dgram := { d with slot := s.hier.slotId, node := s.obj O.dictNodeId, fw := s.obj O.secFwVersion }

/-- The fields that 64 bytes spell. -/
def readDgram (l : List Byte) : Dgram :=
  ⟨beAt l 1 1, beAt l 2 1, beAt l 3 1, beAt l 4 8, beAt l 12 8, beAt l 20 8, beAt l 28 8, beAt l 36 1, beAt l 38 2, beAt l 40 4, beAt l 44 2⟩

/-- A received datagram of a type: its fields, or none where it is discarded; a tag that fails is counted. -/
def State.takeDgram (s : State) (type : Nat) (l : List Byte) : Option Dgram × State :=
  let d := readDgram l
  if !s.hierServes || l.length ≠ 64 || beAt l 0 1 ≠ 1 || d.type ≠ type then (none, s)
  else if 3 ≤ type && l.drop 48 ≠ sysTag (s.blob O.hierSysKey) (l.take 48) then (none, s.bump O.dictBadTags)
  else (some d, s)

/-- A datagram sent to ff02::1:8816 three times, 20 µs apart (R411, R416). -/
def State.thrice (s : State) (d : Dgram) : State :=
  let l := s.dgramBytes (s.ownDgram d)
  ((s.emit (.hier 4 s.tick l)).emit (.hier 4 (s.tick + usTicks 20) l)).emit (.hier 4 (s.tick + usTicks 40) l)

/-! ### Service mode (R424) -/

/-- The mode for the role in force; a worker keeps what its manager wrote. -/
def State.serviceMode (s : State) : Nat :=
  match s.obj O.hierRoleNow with
  | 0 => 0
  | 1 => if s.obj O.hierServiceMode = 0 && s.obj O.hierNodesJoined ≤ 15 then 0 else 1
  | _ => s.obj O.hierServiceNow

/-- Nodes with a hierarchy session. -/
def State.liveNodes (s : State) : List Nat := (s.hier.nodes.filter fun x => x.2.state == 2 || x.2.state == 3).map (·.1)

/-- A WRITE of one object on the hierarchy session of a node, under the NODE number it answers to. -/
def State.writeWorker (s : State) (n node ref : Nat) (v : List Byte) : State := s.sendTo n node 0x02 (valueForm ref v)

/-- The mode in force follows its rule; a change goes to every worker. -/
def State.showService (s : State) : State :=
  let m := s.serviceMode
  if s.obj O.hierServiceNow = m then s
  else s.liveNodes.foldl (fun s n => s.writeWorker n n O.hierServiceNow (beBytes 1 m)) (s.setObj O.hierServiceNow m)

/-- `HIER_NODES_JOINED` counts again. -/
def State.countJoined (s : State) : State := (s.setObj O.hierNodesJoined (s.hier.nodes.filter fun x => x.2.state == 3).length).showService

/-- A write of `HIER_SERVICE_MODE`. -/
def effServiceMode : Effect := fun _ _ r ref v s => done (s.store r ref v).showService

/-! ### Discovery (R401, R402) -/

/-- The node whose custody holds a key. -/
def State.keyNode (s : State) (path slot : Nat) : Option Nat :=
  (s.hier.nodes.find? fun x => x.2.state != 0 && x.2.path == path && x.2.slot == slot).map (·.1)

/-- The node that holds a serial. -/
def State.serialNode (s : State) (serial : Nat) : Option Nat := (s.hier.nodes.find? fun x => x.2.state != 0 && x.2.serial == serial).map (·.1)

/-- The lowest FREE node from `n` on. -/
def State.freeNode (s : State) (n : Nat) : Nat → Option Nat
  | 0 => none
  | k + 1 => if (s.node n).state = 0 then some n else s.freeNode (n + 1) k

/-- The segment that `HIER_SEG_MAP` names for a key (R412). -/
def State.segmentOf (s : State) (path slot : Nat) : Nat :=
  let m := s.blob O.hierSegMap
  match (List.range (m.length / 16)).find? fun i => leAt m (16 * i) 8 == path && leAt m (16 * i + 8) 1 == slot with
  | some i => leAt m (16 * i + 10) 2
  | none => 0

/-- Two live devices at one key: its node reads CONFLICT, with E215 (R402). -/
def State.conflict (s : State) (path slot : Nat) : State :=
  match (match s.keyNode path slot with | some n => some n | none => s.freeNode 1 (s.obj O.hierNodeLimit)) with
  | none => s
  | some n =>
    let x := s.node n
    if x.state = 5 then s
    else ((s.setNode n { x with state := 5, path := path, slot := slot, segment := s.segmentOf path slot }).countJoined).raise 215 [n]

/-- NODE_ENUMERATE (R403): the hierarchy session with device `a` at node `n`, and what the manager writes on it. `hs` is the session the handshake ends with; a refused handshake gives none
and is tried again in the next round. -/
def State.enumerate (s : State) (n : Nat) (a : Announced) (hs : Option (Nat × List Byte)) : State :=
  let x := s.node n
  let seg := s.segmentOf a.path a.slot
  let y : HierNode := { x with serial := a.serial, path := a.path, slot := a.slot, segment := seg, fw := a.fw, tried := s.hier.round }
  match hs with
  | none => s.setNode n { y with state := if x.state = 0 then 1 else x.state, serial := if x.state = 0 then a.serial else x.serial }
  | some (num, key) =>
    let s := (s.setNode n { y with
      state := 2, status := 0, sess := num, key := key, seq := 0, beats := [], cmds := [], trips := [], adopt := 0, repl := 0, stbOut := false, alone := none, leader := false
      cons := x.prod }).countJoined
    -- until it has its number a worker answers as node 0 (R398)
    let to_ := if a.state = 1 then 0 else n
    let s := (s.writeWorker n to_ O.hierSysKey (s.blob O.hierSysKey)).writeWorker n to_ O.hierSegment (beBytes 2 seg)
    let s := if a.state = 1 then s.writeWorker n 0 O.hierNodeId (beBytes 2 n) else s
    s.writeWorker n n O.hierServiceNow (beBytes 1 (s.obj O.hierServiceNow))

/-- A device found at its key (R402, R403, R422). -/
def State.placeDevice (s : State) (a : Announced) (hs : Option (Nat × List Byte)) : State :=
  let rivals := s.hier.answers.any fun b => b.serial != a.serial && b.path == a.path && b.slot == a.slot
  match s.keyNode a.path a.slot with
  | none =>
    if rivals then s.conflict a.path a.slot
    else if a.state ≠ 1 then s
    else match s.freeNode 1 (s.obj O.hierNodeLimit) with | some n => s.enumerate n a hs | none => s
  | some n =>
    let x := s.node n
    if rivals || (x.serial != a.serial && (x.state == 3 || x.state == 2)) then s.conflict a.path a.slot
    else if x.state = 5 then s
    else if x.serial = a.serial then
      -- its own key: it comes back, or its handshake is tried again in a new round
      if x.state = 3 then (if a.state = 1 then s.enumerate n a hs else s)
      else if x.state = 2 then (if a.state = 1 && x.tried != s.hier.round then s.enumerate n a hs else s)
      else if a.state = 1 && x.tried = s.hier.round && hs.isNone then s
      else if 1 ≤ a.state && a.state ≤ 3 then s.enumerate n a hs
      else s
    else
      let s := if x.repl = a.serial then s else (s.setNode n { x with repl := a.serial }).raise 216 [n]
      if a.state = 1 && (s.objB O.hierAutoAdopt || x.adopt == a.serial) then s.enumerate n a hs else s

/-- The answers of a round with the smallest PATH for each device. -/
def addAnswer (a : Announced) (l : List Announced) : Announced × List Announced :=
  match l.find? fun b => b.serial == a.serial with
  | none => (a, a :: l)
  | some b => let m := if a.path < b.path then a else { a with path := b.path }; (m, m :: l.filter fun c => c.serial != a.serial)

/-- A received ANNOUNCE at the manager. -/
def State.hierAnnounce (s : State) (l : List Byte) (hs : Option (Nat × List Byte)) : State :=
  match s.takeDgram 2 l with
  | (none, s) => s
  | (some d, s) =>
    if !s.isManager || d.mgr ≠ s.obj O.dictSerial then s
    else
      let (a, answers) := addAnswer ⟨d.serial, d.path, d.slot, d.state, d.node, d.fw⟩ s.hier.answers
      let s := s.setHier { s.hier with answers := answers }
      match s.serialNode a.serial with
      | none => s.placeDevice a hs
      | some n =>
        let x := s.node n
        if x.path = a.path && x.slot = a.slot then s.placeDevice a hs
        -- a smaller PATH in the round in which it was placed moves the node; any other change waits for the round's end
        else if x.tried = s.hier.round && a.path < x.path && x.slot = a.slot then
          (match s.keyNode a.path a.slot with
           | none => s.setNode n { x with path := a.path, segment := s.segmentOf a.path a.slot }
           | some _ => s.conflict a.path a.slot)
        else s

def execAnnounce (t : Nat) (d : List Byte) (hs : Option (Nat × List Byte)) (s : State) : Host.Outcome State Fault Refusal := .next ((s.at t).hierAnnounce d hs)

/-- The end of a round: devices found at a new key leave the old one RESERVED (R422), a LOST device that did not answer is gone (R421), a CONFLICT with at most one device left is over. -/
def State.closeRound (s : State) : State :=
  let ans := s.hier.answers
  (s.hier.nodes.foldl (fun s e =>
    let x := e.2
    let mine := ans.find? fun a => a.serial == x.serial
    let gone := { x with state := 1 }
    if x.state = 5 then
      (if (ans.filter fun a => a.path == x.path && a.slot == x.slot).length ≤ 1 then s.setNode e.1 gone else s)
    else
      match mine with
      | some a => if x.state != 0 && (a.path != x.path || a.slot != x.slot) then s.setNode e.1 { gone with serial := 0 } else s
      | none => if x.state = 4 then s.setNode e.1 gone else s) s).countJoined

/-- DISCOVER_SEND (R401): a new round on each enabled port. -/
def State.discoverSend (s : State) : State :=
  let due := match s.hier.lastDiscover with | some e => decide (e + msTicks (s.obj O.hierDiscoverPeriod) ≤ s.tick) | none => true
  if !s.isManager || !s.hierServes || !due then s
  else
    let s := s.closeRound
    let h := s.hier
    let s := s.setHier { h with round := h.round + 1, answers := [], lastDiscover := some s.tick }
    ((List.range 4).filter fun p => s.objB (O.netPortEnable p)).foldl (fun s p =>
      s.emit (.hier p s.tick (s.dgramBytes (s.ownDgram { type := 1, hops := 1, mgr := s.obj O.dictSerial, value := s.hier.round, path := (1 + p) * 2 ^ 60 })))) s

def execDiscoverSend (t : Nat) (s : State) : Host.Outcome State Fault Refusal := .next (s.at t).discoverSend

/-- A DISCOVER received on port `p`: relayed once for each round, and every copy answered (R401, R402). -/
def State.discover (s : State) (p : Nat) (l : List Byte) : State :=
  match s.takeDgram 1 l with
  | (none, s) => s
  | (some d, s) =>
    if d.mgr = s.obj O.dictSerial then s
    else
      let s :=
        if kvFind s.hier.relayed d.mgr == some d.value then s
        else
          let s := s.setHier { s.hier with relayed := kvInsert s.hier.relayed d.mgr d.value }
          if 16 ≤ d.hops then s
          else
            ((List.range 4).filter fun e => e != p && s.objB (O.netPortEnable e)).foldl (fun s e =>
              let sh := 4 * (15 - d.hops)
              let cut := d.path - bits d.path (sh + 3) sh * 2 ^ sh
              s.emit (.hier e s.tick (s.dgramBytes { d with path := cut + (1 + e) * 2 ^ sh, hops := d.hops + 1 }))) s
      if s.obj O.hierState = 2 && s.hier.manager ≠ some d.mgr then s
      else
        let s := if s.obj O.hierState = 1 then s.setHier { s.hier with manager := some d.mgr } else s
        s.emit (.hier p s.tick (s.dgramBytes (s.ownDgram
          { type := 2, hops := d.hops, state := s.obj O.hierState, mgr := d.mgr, value := d.value, path := d.path, serial := s.obj O.dictSerial })))

def execDiscover (t : Nat) (p : Fin 4) (d : List Byte) (s : State) : Host.Outcome State Fault Refusal := .next ((s.at t).discover p.val d)

/-! ### The worker's side (R399, R404) -/

/-- A write of `HIER_NODE_ID`: only on the hierarchy session of an UNASSIGNED worker. -/
def effNodeId : Effect := fun _ x _ _ v s =>
  if !s.isWorker || s.obj O.hierState ≠ 1 || !x.hier then refuse s St.role
  else if beNat v = 0 then refuse s St.badValue
  else done ((s.setObjs [(O.hierNodeId, beNat v), (O.dictNodeId, beNat v), (O.hierState, 2)]).raise 210 [beNat v])

def execHierNodeId (t : Nat) (q : Req) (v : List Byte) (s : State) : Host.Outcome State Fault Refusal :=
  .next ((s.at t).hostWrite q O.hierNodeId v effNodeId)

/-- The STB_CLK driver follows `HIER_STB_LEADER`: on from the next whole millisecond of studio time (R413, R417). -/
def State.stbDrive (s : State) (on : Bool) : State :=
  if on then
    if s.hier.stbFrom.isSome || s.obj O.hierState = 3 then s
    else
      let from_ : Int := -((-s.studio) / 10312500) * 10312500
      (s.setHier { s.hier with stbFrom := some from_ }).emit (.stbClk (some from_))
  else if s.hier.stbFrom.isNone then s
  else (s.setHier { s.hier with stbFrom := none }).emit (.stbClk none)

/-- A write of `HIER_STB_LEADER`. -/
def effStbLeader : Effect := fun _ _ r ref v s => done ((s.store r ref v).stbDrive (beNat v == 1))

/-- The session a worker holds with its manager. -/
def State.hierSession (s : State) : Option (Nat × Session) := s.resil.sessions.find? fun x => x.2.hier

/-- ORPHAN (R404, R417). -/
def State.orphan (s : State) : State :=
  let silent := match s.hierSession with | some (_, x) => decide (x.lastAuth + 4 * msTicks (s.obj O.hierHeartbeat) ≤ s.tick) | none => true
  if !s.isWorker || s.obj O.hierState ≠ 2 || !silent then s
  else ((s.setObj O.hierState 3).stbDrive false).raise 218 [s.obj O.dictNodeId]

def execOrphan (t : Nat) (s : State) : Host.Outcome State Fault Refusal := .next (s.at t).orphan

/-! ### Heartbeats and loss (R404, R417) -/

/-- A node is LOST. -/
def State.loseNode (s : State) (n : Nat) : State :=
  ((s.setNode n { s.node n with state := 4, lostAt := s.tick, beats := [], sess := 0, key := [] }).countJoined).raise 211 [n]

/-- HEARTBEAT: `TIME_NOW` is read on each session; four reads without an answer lose the node. -/
def State.heartbeat (s : State) : State :=
  let due := match s.hier.lastBeat with | some e => decide (e + msTicks (s.obj O.hierHeartbeat) ≤ s.tick) | none => true
  if !s.isManager || !s.hierServes || !due then s
  else
    s.liveNodes.foldl (fun s n =>
      if 4 ≤ (s.node n).beats.length then s.loseNode n
      else
        let s := s.sendWorker n 0x01 (refBytes O.timeNow)
        let x := s.node n
        s.setNode n { x with beats := x.seq :: x.beats }) (s.setHier { s.hier with lastBeat := some s.tick })

def execHeartbeat (t : Nat) (s : State) : Host.Outcome State Fault Refusal := .next (s.at t).heartbeat

/-- LEADER_APPOINT: 4 × `HIER_HEARTBEAT` after the leader of segment `seg` was declared lost, the lowest JOINED node of the segment becomes its leader. -/
def State.leaderAppoint (s : State) (seg : Nat) : State :=
  let lost := s.hier.nodes.find? fun x =>
    x.2.leader && x.2.segment == seg && (x.2.state == 4 || x.2.state == 1) && decide (x.2.lostAt + 4 * msTicks (s.obj O.hierHeartbeat) ≤ s.tick)
  let next := s.hier.nodes.find? fun x => x.2.state == 3 && x.2.segment == seg
  if !s.isManager then s
  else
    match lost, next with
    | some (o, x), some (n, _) =>
      let s := s.setNode o { x with leader := false }
      (s.setNode n { s.node n with leader := true }).writeWorker n n O.hierStbLeader [1]
    | _, _ => s

def execLeaderAppoint (t seg : Nat) (s : State) : Host.Outcome State Fault Refusal := .next ((s.at t).leaderAppoint seg)

/-! ### Custody (R420 to R423) -/

/-- Keep an image in a GROOMED buffer: the new handle, where there is room for it; the old buffer goes. -/
def State.keepImage (s : State) (old : Nat) (l : List Byte) : Option (Nat × State) :=
  let s := if old = 0 then s else s.releaseIndex (handleIndex old)
  match s.pick (fun i => s.bufState i != bufFree) 1 16383 with
  | (none, _) => none
  | (some i, s1) =>
    match s1.alloc (max 1 l.length) true with
    | none => none
    | some (es, s) =>
      let s := (s.newBuf i tyBuffer true 0 0 0 1 (numDefault (O.layBufPeriod i)) es).extentWrite es 0 l
      some (s.obj (O.layBufHandle i), s)

/-- The configuration image of node `n` is captured. -/
def State.captureConfig (s : State) (n : Nat) (image : List Byte) : Option State :=
  (s.keepImage (s.node n).config image).map fun r => r.2.setNode n { r.2.node n with config := r.1, configLen := image.length }

/-- CUSTODY_RESTORE_DONE: the restore of node `n` ends with a status; `snapshot` is the calibration the manager captures where the serial differs, `probes` what the other JOINED nodes of the
segment counted of its strobe probe (R412). -/
def State.restoreDone (s : State) (n status : Nat) (snapshot : List Byte) (probes : List Nat) : State :=
  let x := s.node n
  if !s.isManager || x.state ≠ 2 then s
  else if status ≠ 0 then s.setNode n { x with status := status }
  else
    let s := ((s.setNode n { x with state := 3, status := 0 }).raise 210 [n]).countJoined
    let s :=
      if x.cal != 0 && x.calSerial = x.serial then s
      else
        match s.keepImage x.cal snapshot with
        | some (h, s) => s.setNode n { s.node n with cal := h, calLen := snapshot.length, calSerial := x.serial }
        | none => s
    let s := s.writeWorker n n O.hierStbProbe [1]
    if probes.any fun c => decide (c < 1000) then (s.setNode n { s.node n with stbOut := true }).raise 217 [n, x.segment] else s

def execCustodyRestoreDone (t n status : Nat) (snapshot : List Byte) (probes : List Nat) (s : State) : Host.Outcome State Fault Refusal :=
  .next ((s.at t).restoreDone n status snapshot probes)

/-- What an access to node `n` of the window gives where it is not JOINED (R408). -/
def HierNode.absent (x : HierNode) : Option Nat :=
  match x.state with
  | 0 => some St.noRoute
  | 3 => none
  | 5 => some St.positionConflict
  | 2 => some St.busy
  | _ => some St.nodeLost

/-- A write of `HIER_NODE_CAPTURE` with the image the manager reads. -/
def effNodeCapture (image : List Byte) : Effect := fun _ x _ _ _ s =>
  if !s.isManager then refuse s St.role
  else
    match (s.node x.nodeSel).absent with
    | some st => refuse s st
    | none =>
      match s.captureConfig x.nodeSel image with
      | some s => done s
      | none => refuse s St.noMemory

def execHierNodeCapture (t : Nat) (q : Req) (v image : List Byte) (s : State) : Host.Outcome State Fault Refusal :=
  .next ((s.at t).hostWrite q O.hierNodeCapture v (effNodeCapture image))

/-- A write of `HIER_NODE_RELEASE`: a RESERVED or LOST node reads FREE, and its custody record is gone. -/
def effNodeRelease : Effect := fun _ x _ _ _ s =>
  let y := s.node x.nodeSel
  if !s.isManager then refuse s St.role
  else if y.state = 5 then refuse s St.positionConflict
  else if y.state ≠ 1 && y.state ≠ 4 then refuse s St.badValue
  else
    let s := if y.config = 0 then s else s.releaseIndex (handleIndex y.config)
    let s := if y.cal = 0 then s else s.releaseIndex (handleIndex y.cal)
    done (s.setNode x.nodeSel { prod := y.prod, cons := y.prod }).countJoined

def execHierNodeRelease (t : Nat) (q : Req) (v : List Byte) (s : State) : Host.Outcome State Fault Refusal :=
  .next ((s.at t).hostWrite q O.hierNodeRelease v effNodeRelease)

/-- A write of `HIER_NODE_ADOPT`: a replacement that waits with this serial is enumerated (R422). -/
def effNodeAdopt (hs : Option (Nat × List Byte)) : Effect := fun _ x _ _ v s =>
  let n := x.nodeSel
  let y := s.node n
  let serial := beNat v
  if !s.isManager then refuse s St.role
  else if y.state = 5 then refuse s St.positionConflict
  else
    let s := s.setNode n { y with adopt := serial }
    match s.hier.answers.find? fun a => a.serial == serial && a.path == y.path && a.slot == y.slot && a.state == 1 with
    | some a => if y.repl = serial && (y.state = 1 || y.state = 4) then done (s.enumerate n a hs) else done s
    | none => done s

def execHierNodeAdopt (t : Nat) (q : Req) (v : List Byte) (hs : Option (Nat × List Byte)) (s : State) : Host.Outcome State Fault Refusal :=
  .next ((s.at t).hostWrite q O.hierNodeAdopt v (effNodeAdopt hs))

/-- A write of `HIER_NODE_SEL`, held per session. -/
def effNodeSel : Effect := fun num x _ _ v s =>
  if !s.isManager then refuse s St.role
  else if beNat v = 0 || s.obj O.hierNodeLimit < beNat v then refuse s St.badValue
  else done (s.setSession num { (s.session? num).getD x with nodeSel := beNat v })

/-- `HIER_NODE_RINGS` of a node. -/
def HierNode.rings (x : HierNode) : List Byte := (List.range 4).flatMap fun r => leBytes 2 (x.prod.getD r 0) ++ leBytes 2 (x.cons.getD r 0)

/-- The number an object of the node window shows, sub-indices 0x01 to 0x0B (Table 14-6). -/
def HierNode.window (x : HierNode) (sub : Nat) : Nat :=
  match sub with
  | 2 => x.state * 256 + x.status % 256
  | 3 => x.serial
  | 4 => x.path
  | 5 => x.slot
  | 6 => x.segment
  | 7 => x.fw
  | 8 => x.lastSeen
  | 10 => x.config
  | 11 => x.cal
  | _ => 0

/-! ### Answers of workers (R407 to R410) -/

/-- The answer to a proxied request goes to its host session, and its command entries are consumed. -/
def State.answerProxy (s : State) (n : Nat) (c : ProxyCmd) (status : Nat) (payload : List Byte) : State :=
  let x := s.node n
  let s := (s.setNode n { x with cmds := x.cmds.filter fun d => d.seq != c.seq }).ringTake n 0 c.entries
  match s.session? c.hostSession with
  | none => s
  | some y =>
    let s := s.setSession c.hostSession { y with inflight := y.inflight.filter (· != c.hostSeq) }
    let m : Msg := (⟨c.op, 0x80, n, c.hostSession, c.hostSeq, status, payload, []⟩ : Msg).tagged y.key
    let z := (s.session? c.hostSession).getD y
    let s :=
      if status = St.busy then s.setSession c.hostSession { z with busied := c.hostSeq :: z.busied.filter (· != c.hostSeq) }
      else s.setSession c.hostSession { z with cache := ((c.hostSeq, m) :: z.cache.filter fun e => e.1 != c.hostSeq).take 64 }
    (s.emit (.resil c.port c.src m)).answerFences c.hostSession c.hostSeq

/-- What the manager learns from a request it has carried: a COMMIT makes it capture the configuration (R420), a write of `HIER_STB_LEADER` names the leader. -/
def State.carried (s : State) (n : Nat) (c : ProxyCmd) (image : List Byte) : State :=
  if c.op = 0x08 then (s.captureConfig n image).getD s
  else if c.op = 0x02 && refOf c.payload = O.hierStbLeader then s.setNode n { s.node n with leader := c.payload.getD 8 0 == 1 }
  else s

/-- WORKER_RESPONSE: a message on the hierarchy session of node `n`. -/
def State.workerMessage (s : State) (n : Nat) (w : WorkerMsg) : State :=
  let x := s.node n
  let m : Msg := ⟨w.op, w.flags, n, x.sess, w.seq, w.status, w.payload, w.tag⟩
  if !s.isManager || !s.hierServes || !(x.state == 2 || x.state == 3) then s
  else if w.tag ≠ tagOf x.key m then s.bump O.dictBadTags
  else if w.kind = 2 then
    if x.beats.contains w.seq then
      s.setNode n { x with beats := x.beats.takeWhile (· != w.seq), lastSeen := stimeOf s.studio }
    else
      match x.cmds.find? fun c => c.seq == w.seq with
      | none => s
      | some c =>
        let s := s.ringPut n 1 2 c.hostSeq c.hostSession (m.bytes ++ w.tag)
        let y := s.node n
        let s := s.setNode n { y with trips := (s.tick, s.tick - c.sentAt) :: y.trips.filter fun p => decide (s.tick ≤ p.1 + msTicks 100) }
        let s := s.answerProxy n c w.status w.payload
        let s := s.ringTake n 1 (ringEntries w.payload)
        if w.status = St.ok then s.carried n c w.image else s
  else
    let r := if w.kind = 3 then 2 else 3
    let s := s.ringPut n r w.kind 0 w.host (m.bytes ++ w.tag)
    let s :=
      match s.session? w.host with
      | some y => s.emit (.resil y.port y.src ((⟨w.op, w.flags, n, w.host, w.seq, w.status, w.payload, []⟩ : Msg).tagged y.key))
      | none => s
    s.ringTake n r (ringEntries w.payload)

def execWorkerResponse (t n : Nat) (m : WorkerMsg) (s : State) : Host.Outcome State Fault Refusal := .next ((s.at t).workerMessage n m)

/-- PROXY_TIMEOUT: requests unanswered for 4 × `HIER_HEARTBEAT` are answered NODE_LOST. -/
def State.proxyTimeout (s : State) (n : Nat) : State :=
  ((s.node n).cmds.filter fun c => decide (c.sentAt + 4 * msTicks (s.obj O.hierHeartbeat) ≤ s.tick)).foldl (fun s c => s.answerProxy n c St.nodeLost []) s

def execProxyTimeout (t n : Nat) (s : State) : Host.Outcome State Fault Refusal := .next ((s.at t).proxyTimeout n)

/-! ### Fences (R411) -/

/-- A write of `HIER_FENCE`. -/
def effHierFence : Effect := fun _ _ _ _ v s =>
  if !s.isManager then refuse s St.role
  else done (s.thrice { type := 5, mgr := s.obj O.dictSerial, value := beNat v % 2 ^ 38 })

def execHierFence (t : Nat) (q : Req) (v : List Byte) (s : State) : Host.Outcome State Fault Refusal :=
  .next ((s.at t).hostWrite q O.hierFence v effHierFence)

/-- A FENCE datagram at a JOINED worker. -/
def State.fenceDatagram (s : State) (l : List Byte) : State :=
  match s.takeDgram 5 l with
  | (none, s) => s
  | (some d, s) =>
    let f := bits d.value 31 0
    let r := O.layFenceDone (bits d.value 37 32)
    if s.isWorker && s.obj O.hierState = 2 && serialAbove f (s.obj r) then s.setObj r f else s

def execFenceDatagram (t : Nat) (d : List Byte) (s : State) : Host.Outcome State Fault Refusal := .next ((s.at t).fenceDatagram d)

/-! ### Windows and readiness (R414, R415) -/

/-- The system timing. -/
def State.sysTiming (s : State) : Timing := ⟨ratioNum (s.obj O.hierSysPeriod), ratioDen (s.obj O.hierSysPeriod), s.objI O.hierSysPhase⟩

/-- Two timings with the same boundaries. -/
def Timing.same (a b : Timing) : Bool := a.num * b.den == b.num * a.den && a.phase == b.phase

/-- A write of `HIER_WIN_A`, `HIER_WIN_B`, `HIER_WIN_END` or `HIER_SYS_PERIOD`. -/
def effSysWindow : Effect := fun _ _ r ref v s =>
  let val (o : Nat) : Nat := if o = ref then beNat v else s.obj o
  let a := val O.hierWinA
  let b := val O.hierWinB
  let e := val O.hierWinEnd
  let p := val O.hierSysPeriod
  if b < a && e < b && 200 ≤ e && 2 * a * ratioDen p ≤ ratioNum p * 1000000 && ratioDen p ≠ 0 then done (s.store r ref v) else refuse s St.badValue

/-- The composition start a studio instant comes before, and its frame index k: s = B of k − 1. -/
def State.sysFrame (s : State) (c : Int) : Instant × Int :=
  let g := s.sysTiming
  let j := g.firstFrom (tickInstant c)
  (g.boundary j, j + 1)

/-- The window of the cycle at studio tick `c` (1 A, 2 B, 0 neither), its frame and its composition start. -/
def State.sysWindow (s : State) (c : Int) : Nat × Nat × Instant :=
  let (st, k) := s.sysFrame c
  let i := tickInstant c
  let after (o : Nat) : Bool := (usInstant st (s.obj o)).le i
  (if after O.hierWinEnd || !after O.hierWinA || k < 0 then 0 else if after O.hierWinB then 2 else 1, k.toNat, st)

/-- The enabled members of the system group. -/
def State.sysMembers (s : State) : List Nat :=
  let g := s.obj O.hierSysGroup
  if g = 0 then [] else allLayers.filter fun l => s.objB (O.layEnable l) && s.obj (O.layKind l) == 0 && s.obj (O.layGroup l) == g

/-- The device is ready for frame `k` with composition start `st`. -/
def State.sysReady (s : State) (k : Nat) (st : Instant) : Bool :=
  let heads := s.sysMembers.map fun l => (l, (s.lay l).queue.head?)
  let ok := heads.all fun h => match h.2 with | some f => f.due k && s.eligible h.1 f st | none => false
  match heads.filterMap fun h => h.2.map (·.ticket) with
  | [] => heads.isEmpty
  | t :: ts => ok && ts.all (· == t)

/-- SYS_TIMING (R414): an enabled member of the group, by the values `num`, on an output whose timing is not the system timing. -/
def State.sysTimingFault (s : State) (num : Nat → Nat) : Bool :=
  let g := num O.hierSysGroup
  g != 0 && allLayers.any fun l =>
    num (O.layEnable l) == 1 && num (O.layKind l) == 0 && num (O.layGroup l) == g &&
      (let o := num (O.layOutput l)
       let outs := if o = 0x0F then outputs.filter fun m => num (O.tgEnable (s.leadOf m)) == 1 else [o]
       outs.any fun m => !(timingIn num (s.leadOf m)).same s.sysTiming)

/-! ### Strobe cycles (R413, R415, R418, R419) -/

/-- The device drives STB_CLK. -/
def State.isLeader (s : State) : Bool := s.hier.stbFrom.isSome

/-- The device ignores the bus (R419, NETWORK). -/
def State.onNetwork (s : State) : Bool := s.obj O.hierStbState == 3 && s.obj O.hierStuckAction == 1 && s.obj O.hierSysScope == 1

/-- A leader, or a segment of one, talks to the manager. -/
def State.speaks (s : State) : Bool := s.obj O.hierSysScope == 1 && (s.isLeader || s.onNetwork)

/-- STB_CLK_EDGE: the cycle's index, the driver for this cycle, and the sample of the bus; `others` says whether another device asserts. -/
def State.stbEdge (s : State) (others : Bool) : State :=
  let cyc := roundDiv s.studio 200
  let (w, k, st) := s.sysWindow (cyc * 200)
  let s := s.setHier { s.hier with cycle := cyc, lastEdge := some s.tick }
  let s := if s.obj O.hierStbState = 0 || s.obj O.hierStbState = 2 then s.setObj O.hierStbState 1 else s
  let h := s.hier
  let ready := h.pinned == some k || s.sysReady k st
  let s := if w = 1 && ready then s.setHier { h with pinned := some k } else s
  let h := s.hier
  let agreed := h.consensus == some k
  let drive :=
    match w with
    | 1 => !ready
    | 2 => !(agreed && (!s.isLeader || s.obj O.hierSysScope == 0 || h.flipFor == some k))
    | _ => decide (0 < h.probe)
  let s := if drive = h.nrdy then s else (s.setHier { h with nrdy := drive }).emit (.nrdy drive)
  let bus := drive || others
  let h := s.hier
  if w ≠ 0 then s.setHier { h with bus := bus }
  else
    let s := s.setHier { h with
      bus := bus, probe := h.probe - 1, stuckRun := if bus then h.stuckRun + 1 else 0, freeRun := if bus then 0 else h.freeRun + 1 }
    let s := if !bus then s else if h.stuckRun = 0 then s.setObj O.hierStbProbeSeen 1 else s.runUp O.hierStbProbeSeen
    if s.obj O.hierStbState = 3 && 1024 ≤ s.hier.freeRun then s.setObj O.hierStbState 1 else s

def execStbClkEdge (t : Nat) (others : Bool) (s : State) : Host.Outcome State Fault Refusal := .next ((s.at t).stbEdge others)

/-- A write of `HIER_STB_PROBE` (R412). -/
def effStbProbe : Effect := fun _ _ _ _ _ s => done (s.setHier { s.hier with probe := 1024 })

def execHierStbProbe (t : Nat) (q : Req) (v : List Byte) (s : State) : Host.Outcome State Fault Refusal :=
  .next ((s.at t).hostWrite q O.hierStbProbe v effStbProbe)

/-- SEG_READY from this device (R416). -/
def State.sendSegReady (s : State) (k st : Nat) : State :=
  s.emit (.hier 4 s.tick (s.dgramBytes (s.ownDgram
    { type := 3, state := st, mgr := s.hier.manager.getD (s.obj O.dictSerial), value := k, serial := s.obj O.dictSerial, segment := s.obj O.hierSegment })))

/-- The last sample was taken in window `w`: its frame. -/
def State.sampledIn (s : State) (w : Nat) : Option Nat := let x := s.sysWindow (s.hier.cycle * 200); if s.hier.lastEdge.isSome && x.1 = w then some x.2.1 else none

/-- SEGMENT_CONSENSUS. -/
def State.segmentConsensus (s : State) : State :=
  match s.sampledIn 1 with
  | none => s
  | some k =>
    let free := if s.onNetwork then s.hier.pinned == some k else !s.hier.bus && s.obj O.hierStbState == 1
    if !free || s.hier.consensus = some k then s
    else
      let s := s.setHier { s.hier with consensus := some k }
      if s.speaks then s.sendSegReady k 1 else s

def execSegmentConsensus (t : Nat) (s : State) : Host.Outcome State Fault Refusal := .next (s.at t).segmentConsensus

/-- SEGMENT_FLIP_DECIDED. -/
def State.segmentFlip (s : State) : State :=
  match s.sampledIn 2 with
  | none => s
  | some k =>
    let free := if s.onNetwork then s.hier.flipFor == some k && s.hier.consensus == some k else !s.hier.bus && s.obj O.hierStbState == 1
    if free then s.setHier { s.hier with decided := some k } else s

def execSegmentFlipDecided (t : Nat) (s : State) : Host.Outcome State Fault Refusal := .next (s.at t).segmentFlip

/-- FLIP_RX (R416). -/
def State.flipRx (s : State) (l : List Byte) : State :=
  match s.takeDgram 4 l with
  | (none, s) => s
  | (some d, s) => if (s.isLeader || s.onNetwork) && s.obj O.hierState ≠ 3 then s.setHier { s.hier with flipFor := some d.value } else s

def execFlipRx (t : Nat) (d : List Byte) (s : State) : Host.Outcome State Fault Refusal := .next ((s.at t).flipRx d)

/-- STB_NO_CLOCK: 16 cycles without an edge. -/
def State.stbNoClock (s : State) : State :=
  match s.hier.lastEdge with
  | none => s
  | some e =>
    if s.tick < e + 3200 || s.obj O.hierStbState = 2 || s.obj O.hierStbState = 0 then s
    else (s.setObj O.hierStbState 2).raise 219 [s.obj O.dictNodeId, s.obj O.hierSegment]

def execStbNoClock (t : Nat) (s : State) : Host.Outcome State Fault Refusal := .next (s.at t).stbNoClock

/-- STB_STUCK. -/
def State.stbStuck (s : State) : State :=
  if s.hier.stuckRun < 1024 || s.obj O.hierStbState = 3 then s else (s.setObj O.hierStbState 3).raise 213 [s.obj O.dictNodeId, s.obj O.hierSegment]

def execStbStuck (t : Nat) (s : State) : Host.Outcome State Fault Refusal := .next (s.at t).stbStuck

/-! ### The manager's decision (R416, R417) -/

/-- Segments with a JOINED node that `HIER_SEG_MAP` names, and the nodes that act as a segment of one near frame `k`. -/
def State.segmentList (s : State) : List Nat :=
  let m := s.blob O.hierSegMap
  (((List.range (m.length / 16)).map fun i => leAt m (16 * i + 10) 2).eraseDups).filter fun g => s.hier.nodes.any fun x => x.2.state == 3 && x.2.segment == g && !x.2.stbOut

def State.loneNodes (s : State) (k : Nat) : List Nat :=
  (s.hier.nodes.filter fun x => x.2.state == 3 && match x.2.alone with | some f => decide (k ≤ f + 2) | none => false).map (·.1)

/-- A report is kept by frame, who it speaks for (a segment, or 65,536 + a lone node) and state. -/
def State.reported (s : State) (k who : Nat) (q : Nat → Bool) : Bool := s.hier.reports.any fun r => r.1 == k && r.2.1 == who && q r.2.2

/-- SEG_READY at the manager. -/
def State.segReady (s : State) (l : List Byte) : State :=
  match s.takeDgram 3 l with
  | (none, s) => s
  | (some d, s) =>
    if !s.isManager then s
    else
      let k := d.value
      let x := s.node d.node
      let led := s.hier.nodes.any fun y => y.2.leader && y.2.state == 3 && y.2.segment == d.segment
      let lone := d.node != 0 && x.state == 3 && led && !x.leader
      let s :=
        if d.node = 0 || x.state ≠ 3 then s
        else if lone then s.setNode d.node { x with alone := some (max k (x.alone.getD 0)) }
        else s.setNode d.node { x with leader := true }
      let who := if lone then 65536 + d.node else d.segment
      let rs := (k, who, d.state) :: s.hier.reports.filter fun r => decide (k ≤ r.1 + 4) && r != (k, who, d.state)
      let s := s.setHier { s.hier with reports := rs }
      if d.state = 1 then
        let all := s.segmentList ++ (s.loneNodes k).map (65536 + ·)
        let st := s.sysTiming.boundary ((k : Int) - 1)
        let inTime := (tickInstant s.studio).lt (usInstant st (s.obj O.hierWinEnd))
        if all.all (fun w => s.reported k w fun _ => true) && s.hier.flipSent ≠ some k && inTime then
          (s.setHier { s.hier with flipSent := some k }).thrice { type := 4, mgr := s.obj O.dictSerial, value := k }
        else s
      else if s.hier.reports.any (fun r => r.1 == k && r.2.2 == 2) && s.hier.reports.any (fun r => r.1 == k && r.2.2 == 3) && !s.hier.splits.contains k then
        ((s.setHier { s.hier with splits := k :: s.hier.splits.take 15 }).bump O.hierSplits).raise 214 [d.node, d.segment, k]
      else s

def execSegReady (t : Nat) (d : List Byte) (s : State) : Host.Outcome State Fault Refusal := .next ((s.at t).segReady d)

/-! ### At a composition start (R415, R416) -/

/-- The output whose composition starts carry the system group: that of its first enabled member, else the lowest running output with the system timing. -/
def State.sysOutput (s : State) : Option Nat :=
  if s.obj O.hierSysGroup = 0 then none
  else
    match s.sysMembers with
    | l :: _ => some (s.leadOf (s.obj (O.layOutput l)))
    | [] => outputs.find? fun n => s.leadOf n == n && (s.tg n).running && (s.timing n).same s.sysTiming

/-- What the system decided for layer `l` on output `m` in frame `k`: taken, held, or not its concern. -/
def State.sysTake (s : State) (k l : Nat) : Option Bool := if s.sysMembers.contains l then some (s.hier.decided == some k) else none

/-- Step 1 of R206 and the fence timeout for members whose heads are not pinned. -/
def State.sysPrepare (s : State) (k : Nat) (st : Instant) : State :=
  let ls := s.sysMembers
  if ls.isEmpty || s.hier.pinned == some k then s
  else (ls.foldl (fun s l => (s.setQueue l (markDue k st (s.lay l).queue)).expire l k st (s.lay l).queue.length) s).supersede ls k (ls.foldl (fun a l => a + (s.lay l).queue.length) 0)

/-- The outcome of frame `k`: flips and holds counted, the leader's report. -/
def State.sysOutcome (s : State) (k : Nat) : State :=
  let taken := s.hier.decided == some k
  let s :=
    if taken then (s.setHier { s.hier with holdEp := false }).bump O.hierFlips
    else
      let s' := s.bump O.hierHolds
      if s.hier.holdEp then s' else (s'.setHier { s'.hier with holdEp := true }).raise 212 [s.obj O.dictNodeId, s.obj O.hierSegment, k]
  if s.speaks then s.sendSegReady k (if taken then 2 else 3) else s

end Sys2Proof.Machine
end

