-- ==== Sys2Proof/Machine/Boot.lean ====
section
/-! DEFINITION. Images, the boot record and the boot ROM (R511 to R518), the restart of the management processor (R528), with the meanings of their commands. -/

namespace Sys2Proof.Machine

/-! ### Images (R513 to R515) -/

/-- An image: the fields of Table 19-2 and its bytes, header, body and signature. -/
structure Image where
  kind     : Nat
  keySlot  : Nat
  rollback : Nat
  version  : Nat
  bundle   : Nat
  serial   : Nat
  bytes    : List Byte

/-- MAGIC stands at the front of these bytes; BODY_LEN. -/
def imageMagic (l : List Byte) : Bool := leAt l 0 4 == 0x4D494C46
def imageBody (l : List Byte) : Nat := leAt l 16 4

/-- Bytes of the image at the front. -/
def imageSize (l : List Byte) : Nat := 64 + imageBody l + 1280

/-- The lengths and the fields that are 0. -/
def imageFields (l : List Byte) : Bool :=
  imageMagic l && imageBody l % 8 == 0 && decide (8 ≤ imageBody l) && decide (imageBody l ≤ 8388608) && leAt l 7 1 == 0 && (slice l 28 36).all (· == 0)

/-- The image at the front. -/
def imageOf (l : List Byte) : Image := ⟨leAt l 4 1, leAt l 5 1, leAt l 6 1, leAt l 8 4, leAt l 12 4, leAt l 20 8, l.take (imageSize l)⟩

/-- Header and body; the digest (R513). -/
def Image.signed (x : Image) : List Byte := x.bytes.take (x.bytes.length - 1280)
def Image.digest (x : Image) : List Byte := shake256 x.signed 64
def Image.body (x : Image) : List Byte := x.signed.drop 64

/-- The signature verifies under the key of the image's slot; 0xFE is the device identity. -/
def State.imageVerifies (s : State) (x : Image) : Bool :=
  Config.falconVerify (if x.keySlot = 0xFE then Config.identityKey else s.keyOf x.keySlot) x.digest (x.bytes.drop (x.bytes.length - 1280))

/-- The image may run on this device. -/
def State.serialOk (s : State) (x : Image) : Bool := x.serial == 0 || x.serial == s.obj O.dictSerial

/-- What refuses an image of a bundle (R514, R517, R523). -/
def State.bundleImage (s : State) (x : Image) (have_ : List Image) : Option Nat :=
  if !(decide (1 ≤ x.kind) && decide (x.kind ≤ 4)) || have_.any (fun y => y.kind == x.kind || y.bundle != x.bundle) then some St.bundleIncomplete
  else if x.keySlot ≠ 0 then some St.noKey
  else if x.rollback < s.obj O.secRollback then some St.rollback
  else if !s.serialOk x then some St.badImage
  else if !s.imageVerifies x then some St.signature
  else none

/-- The bundle at the front of these bytes: status, kind of the image that failed, images (R514, R515). -/
def State.readBundle (s : State) : Nat → List Byte → List Image → Nat × Nat × List Image
  | 0, _, xs => (St.bundleIncomplete, 0, xs)
  | n + 1, l, xs =>
    if !imageMagic l then (if xs.isEmpty then St.badImage else if xs.length = 4 then St.ok else St.bundleIncomplete, 0, xs)
    else
      let x := imageOf l
      if !imageFields l then (St.badImage, x.kind, xs)
      else if l.length < imageSize l then (St.bundleIncomplete, x.kind, xs)
      else
        match s.bundleImage x xs with
        | some st => (st, x.kind, xs)
        | none => s.readBundle n (l.drop (ceilDiv (imageSize l) 4096 * 4096)) (xs ++ [x])

/-- The bundle in slot `k`. -/
def State.slotBundle (s : State) (k : Nat) : Nat × Nat × List Image := s.readBundle 5 (s.sec.slots.getD k []) []

/-! ### CONFIG images (R514, R530) -/

/-- An object a CONFIG image may name. -/
def configObject (ref : Nat) : Option ObjRow :=
  match findObj ref with
  | none => none
  | some (r, _) =>
    let ix := refIndex ref
    let in_ (a b : Nat) : Bool := decide (a ≤ ix) && decide (ix ≤ b)
    if (r.acc == .rw || r.acc == .rwi) && (in_ 0x1000 0x1FFF || in_ 0x2B00 0x2CFF || in_ 0x3100 0x31FF) then some r else none

/-- The values of a body; bytes of 0 may fill it up to its multiple of 8. -/
def configValues : Nat → List Byte → Option (List (Nat × List Byte))
  | 0, _ => none
  | n + 1, l =>
    if l.length < 8 || l.all (· == 0) then (if l.all (· == 0) then some [] else none)
    else
      let len := beAt l 4 2
      if l.length < 8 + len then none else (configValues n (l.drop (8 + len))).map fun r => (refOf l, slice l 8 len) :: r

/-- What refuses a CONFIG image. -/
def State.configFault (s : State) (l : List Byte) : Option Nat :=
  let x := imageOf l
  if !imageFields l || x.kind ≠ 5 || l.length < imageSize l || 1048576 < imageSize l || x.rollback ≠ 0 || x.bundle ≠ 0 || !s.serialOk x then some St.badImage
  else if x.keySlot = 0xFE && x.serial ≠ s.obj O.dictSerial then some St.noKey
  else if x.keySlot ≠ 0xFE && !s.keyEnrolled x.keySlot then some St.noKey
  else if !s.imageVerifies x then some St.signature
  else
    match configValues (x.body.length + 1) x.body with
    | none => some St.badImage
    | some vs => if vs.all fun p => (configObject p.1).isSome then none else some St.badImage

/-- The values take effect in order; one that its object does not allow changes nothing. -/
def State.applyConfig (s : State) (x : Image) : State :=
  ((configValues (x.body.length + 1) x.body).getD []).foldl (fun s p =>
    match configObject p.1 with
    | some r => if (valueFault r p.2).isNone then s.store r p.1 p.2 else s
    | none => s) s

/-- The copies, the later generation first. -/
def SecSt.configOrder (x : SecSt) : List (Nat × List Byte) :=
  let c (k : Nat) : Nat × List Byte := (k, (x.configs.getD k (0, [])).2)
  if serialAbove (x.configs.getD 1 (0, [])).1 (x.configs.getD 0 (0, [])).1 then [c 1, c 0] else [c 0, c 1]

/-- A CONFIG image goes over the older copy with a new generation (R525). -/
def State.writeConfig (s : State) (l : List Byte) : State :=
  let g (k : Nat) : Nat := (s.sec.configs.getD k (0, [])).1
  let old := if serialAbove (g 1) (g 0) then 0 else 1
  s.setSec { s.sec with configs := s.sec.configs.set old ((g (1 - old) + 1) % 2 ^ 32, l) }

/-! ### The boot record (R516) -/

/-- The record changes: the other copy is written. -/
def State.writeRecord (s : State) (pref tries : Nat) : State :=
  let x := s.sec
  let k := match x.recordIn with | some k => 1 - k | none => 0
  s.setSec { x with records := x.records.set k (recordBytes ((leAt x.record 4 4 + 1) % 2 ^ 32) pref tries) }

/-! ### The boot ROM (R517, R518) -/

/-- The state of key slot `n` by OTP and its record (R522). -/
def SecSt.keyState (x : SecSt) (n : Nat) : Nat :=
  let d := x.digests.getD (n - 1) []
  if bit x.revoked (n - 1) then 2
  else if d.isEmpty then 0
  else if shake256 (slice (x.keys.getD (n - 1) []) 8 1793) 64 = d then 1 else 3

/-- `SEC_KEY_STATE`. -/
def SecSt.keyStates (x : SecSt) : Nat := x.keyState 1 + 4 * x.keyState 2 + 16 * x.keyState 3 + 64 * x.keyState 4

/-- Key slots and rollback as the boot ROM finds them. -/
def State.readOtp (s : State) : State :=
  let s := s.setObjs [(O.secKeyState, s.sec.keyStates), (O.secRollback, s.sec.rollback)]
  [1, 2, 3, 4].foldl (fun s n => s.setBlob (O.secKey n) (s.sec.keys.getD (n - 1) [])) s

/-- An organisation of Table 10-1; its channel size (R281). -/
def orgSize (kind org : Nat) : Option Nat :=
  match bits org 31 24, bits org 23 16, bits org 15 8 with
  | 8, 16, 1 => some (16 * 2 ^ 30)
  | 8, 16, 2 => some (32 * 2 ^ 30)
  | 8, 24, 1 => some (24 * 2 ^ 30)
  | 8, 32, 1 => some (32 * 2 ^ 30)
  | 4, 16, 1 => if kind = 2 then some (32 * 2 ^ 30) else none
  | _, _, _ => none

/-- Channel `c` takes its organisation from its SPD or from `MEM_CH_DOWN_CFG` (R281, R282). -/
def State.fitChannel (s : State) (c spd : Nat) : State :=
  let down := s.obj (O.memChDownCfg c)
  let kind := if spd ≠ 0 then 2 else if down ≠ 0 then 1 else 0
  let org := if spd ≠ 0 then spd else down
  let s := s.setObjs [(O.memChKind c, kind), (O.memChOrg c, org)]
  if kind = 0 then s.setObj (O.memChState c) 0
  else
    match orgSize kind org with
    | none => (s.setObj (O.memChState c) 3).raise 149 [c]
    | some n =>
      let s := s.setObj (O.memChSize c) n
      if 2 < bits org 7 0 then (s.setObj (O.memChState c) 3).raise 141 [c] else s.setObj (O.memChState c) 1

/-- The channels and the setpoint that all of them allow; NOMINAL of the three setpoints as training and SPD give it (R282, R305). -/
def State.fitChannels (s : State) (spd : List Nat) (nominal : List Byte) : State :=
  let s := (List.range 8).foldl (fun s c => s.fitChannel c (spd.getD c 0)) s
  let on := (List.range 8).filter fun c => s.obj (O.memChState c) == 1
  let s := s.setObj O.memSetpoint (on.foldl (fun m c => max m (bits (s.obj (O.memChOrg c)) 7 0)) 0)
  let sets := (List.range 3).flatMap fun p => padTo 64 (nominal.drop (64 * p)) ++ fill 64 0
  (s.setBlob O.memTset sets).setMemc { s.memc with tsetDflt := sets }

/-- The roles of R398, R399: a worker starts UNASSIGNED. -/
def State.takeRole (s : State) : State :=
  let r := s.obj O.hierRole
  let s := s.setObjs [(O.hierRoleNow, r), (O.hierState, if r = 1 then 4 else if r = 2 then 1 else 0), (O.hierNodeId, 0), (O.dictNodeId, 0), (O.hierServiceNow, 0)]
  if r = 2 then s else s.setObj O.hierServiceNow s.serviceMode

/-- The kernel images of a KERNELS body (R514, R526): those whose identifiers are not installed are installed. -/
def State.bundleKernels : Nat → List Byte → State → State
  | 0, _, s => s
  | n + 1, l, s =>
    let len := 64 + leAt l 8 4 + leAt l 12 4 + 1280
    if l.length < len then s
    else
      let img := l.take len
      State.bundleKernels n (l.drop len) (if (s.kernel? (kernelOf img).id).isSome then s else (s.installKernel img).2)

/-- An image's entry in the measurement registers: M1 to M5 by kind (R519). -/
def State.measure (s : State) (x : Image) : State := s.extend x.kind x.kind x.keySlot x.rollback x.version x.digest

/-- The image of a kind in a bundle. -/
def imageIn (xs : List Image) (kind : Nat) : Option Image := xs.find? fun x => x.kind == kind

/-- The configuration is applied: the newest copy that verifies, else defaults with E247. -/
def State.bootConfig (s : State) : State :=
  match s.sec.configOrder.find? fun c => (s.configFault c.2).isNone with
  | some c => let x := imageOf c.2; (s.applyConfig x).measure x
  | none =>
    let c := s.sec.configOrder.headD (0, [])
    s.raise 247 [c.1, 5, (s.configFault c.2).getD 0]

/-- Slot `k` is accepted: it is loaded, and STARTUP begins (R517, Table 17-4). -/
def State.loadSlot (s : State) (k : Nat) (xs : List Image) (spd : List Nat) (nominal : List Byte) : State :=
  let pref := s.sec.preferred
  let s := xs.foldl State.measure s
  let other := 1 - k
  let s := s.setSlotState k slotActive
  let s := if s.slotState other = slotInvalid then s else s.setSlotState other (if (s.slotBundle other).1 = St.ok then slotFallback else slotEmpty)
  let s := s.setObjs [(O.secFwSlot, k), (O.secFwVersion, match imageIn xs 1 with | some x => x.version | none => 0)]
  let s := if k = pref then s else (s.setRecovery recFirmware).raise 248 []
  let s := s.bootConfig
  let s := vendorKernels.foldl (fun s x => (s.placeKernel x).getD s) s
  let s := match imageIn xs 4 with | some x => State.bundleKernels 32 x.body s | none => s
  ((s.takeRole.fitChannels spd nominal).setOp startup 0).startupRuns.usable

/-- The slots are tried in order; each that is refused reads INVALID, with E247. With none accepted the device is in RESCUE. -/
def State.trySlots (s : State) (spd : List Nat) (nominal : List Byte) : List Nat → State
  | [] => s.setSec { s.sec with rescue := true }
  | k :: more =>
    match s.slotBundle k with
    | (0, _, xs) => s.loadSlot k xs spd nominal
    | (st, kind, _) => ((s.setSlotState k slotInvalid).raise 247 [k, kind, st]).trySlots spd nominal more

/-- BOOT_ROM_START: in BOOT with every group good and the root PLL locked. `spd` is what each channel's SPD hub gives (0 where there is none). -/
def State.bootRom (s : State) (spd : List Nat) (nominal : List Byte) : State :=
  if s.opState ≠ boot || s.sec.rescue || bits s.power.good 3 0 ≠ 15 || !s.time.pllLocked then s
  else
    let s := (s.setBlob O.secMeas (fill 512 0)).setBlob O.secLog []
    let s := (s.setObjs [(O.secLogCount, 0), (O.secJtagState, 0)]).setSec { s.sec with truncated := false, debugged := false, tapInstr := 0 }
    let s := s.readOtp.extend 0 0x15 0 0 0 (Config.bootDigest s.sec.rollback s.sec.keyStates)
    let p := s.sec.preferred
    let t := s.sec.tries
    let s := if t = 0 || t = 0xFF then s else s.writeRecord p (t - 1)
    s.trySlots spd nominal (if t = 0 then [1 - p, p] else [p, 1 - p])

def execBootRomStart (t : Nat) (spd : List Nat) (nominal : List Byte) (s : State) : Host.Outcome State Fault Refusal := .next ((s.at t).bootRom spd nominal)

/-- STARTUP_COMPLETE (R471): the state becomes `PWR_BOOT_TARGET`, and RECOVERY follows at once where a cause is set. -/
def State.startupComplete (s : State) : State :=
  if s.opState ≠ startup || s.memc.n = 0 || s.memc.clearing.isSome || !s.cal.startQ.isEmpty || !s.cal.runs.isEmpty then s
  else
    let s := s.setOp (s.obj O.pwrBootTarget) 0
    let c := s.obj O.pwrRecoveryCause
    if c = 0 then s else s.setOp recovery ((bitsOf 3 c).headD 0)

def execStartupComplete (t : Nat) (s : State) : Host.Outcome State Fault Refusal := .next (s.at t).startupComplete

/-! ### Staging (R525) -/

/-- Whole bytes to be staged: the status and the state. In RESCUE an accepted bundle becomes preferred, and the boot ROM starts again (R518). -/
def State.stage (s : State) (l : List Byte) : Nat × State :=
  if imageMagic l && leAt l 4 1 == 5 then
    match s.configFault l with
    | none => (St.ok, (s.writeConfig (imageOf l).bytes).stageEnd 3 0)
    | some st => (st, (s.raise 247 [0xFF, 5, st]).stageEnd 5 st)
  else
    let k := s.stageSlot
    match s.readBundle 5 l [] with
    | (0, _, _) =>
      let s := ((s.setSec { s.sec with slots := s.sec.slots.set k l }).setSlotState k slotStaged).stageEnd 3 0
      (St.ok, if s.sec.rescue then let s := s.writeRecord k 3; s.setSec { s.sec with rescue := false } else s)
    | (st, kind, _) => (st, ((s.setSlotState k slotStaging).stageDrop.raise 247 [k, kind, st]).stageEnd 5 st)

/-- SEC_STAGE: the completed transfer. -/
def State.stageDone (s : State) : State :=
  match s.wholeOf O.secStage with
  | none => s
  | some (tid, x) =>
    let (st, s) := s.stage x.data
    s.endXfer tid st

def execSecStage (t : Nat) (s : State) : Host.Outcome State Fault Refusal := .next (s.at t).stageDone

/-- A transfer ends before its commit point (R387, R507, R525). -/
def State.abortXfer (s : State) (tid status : Nat) : State :=
  match s.xfer? tid with
  | none => s
  | some x =>
    let s := if x.ref = O.secStage then s.stageAbort else s
    s.endXfer tid status

/-! ### The management processor (R526 to R528) -/

/-- A transfer of the Schuss path. -/
def isBufData (ref : Nat) : Bool := decide (0x4001 ≤ refIndex ref)

/-- The restart of the management processor: causes 0 heartbeat, 1 activation, 2 warm wake (Config.causeCode). -/
def State.mgmtReset (s : State) (cause : Nat) : State :=
  let s := s.bump O.secMgmtRestarts
  let s := s.raise 246 [Config.causeCode 246 cause, s.obj O.secMgmtRestarts]
  let s := { s with resil := { s.resil with procDown := true } }
  let s := s.cal.runs.foldl (fun (s : State) x => ((s.rejectRun x).endRun x 4 St.calInterrupted).nextInstance x false) s
  let s := (s.resil.xfers.filter fun x => !isBufData x.2.ref).foldl (fun (s : State) x => s.abortXfer x.1 St.aborted) s
  let recent := s.tick :: s.sec.restarts.filter fun t => decide (s.tick < t + secTicks 60)
  let s : State := s.setSec { s.sec with restarts := recent, revertDue := s.sec.revertDue || (cause != 1 && s.obj O.secActivateState == 2) }
  if 3 ≤ recent.length then s.setRecovery recFirmware else s

/-- The processor runs in these states. -/
def State.procRuns (s : State) : Bool := let st := s.opState; !s.resil.procDown && (decide (startup ≤ st && st ≤ recovery) || (st == standby && s.power.awake))

/-- MGMT_WATCHDOG: no heartbeat for 100 ms. -/
def execMgmtWatchdog (t : Nat) (s : State) : Host.Outcome State Fault Refusal :=
  let s := s.at t
  .next (if s.procRuns then s.mgmtReset 0 else s)

/-- Every output has swapped Slalom: the processor restarts from the slot of the activation (R526, step 4). -/
def State.swapsDone (s : State) : State :=
  let s := (s.setSec { s.sec with newCode := true }).mgmtReset 1
  if s.obj O.secActivateState = 1 then s.setObj O.secActivateState 2 else s

/-- Output `n` swaps Slalom at its B_k, or when it no longer shows frames. -/
def State.slalomSwap (s : State) (n : Nat) : State :=
  if bit s.sec.swapLeft n then
    let s := s.setSec { s.sec with swapLeft := clearBit s.sec.swapLeft n }
    if s.sec.swapLeft = 0 then s.swapsDone else s
  else s

/-- Slalom, Patrol and the processor are to be replaced from slot `k` (R526, steps 2 to 4). The filters of Patrol restart (R477). -/
def State.replaceFrom (s : State) (k : Nat) : State :=
  let left := outputs.foldl (fun m n => if s.showing n then m + 2 ^ n else m) 0
  let s := s.setSec { s.sec with target := k, old := s.obj O.secFwSlot, swapLeft := left }
  let s := s.setPower { s.power with chans := s.power.chans.map fun c => (c.1, { c.2 with samples := [] }) }
  let xs := (s.slotBundle k).2.2
  let s := [3, 2].foldl (fun s kind => match imageIn xs kind with | some x => s.measure x | none => s) s
  if left = 0 then s.swapsDone else s

/-- An activation runs until it is confirmed or reverted. -/
def State.activating (s : State) : Bool := s.obj O.secActivateState == 1 || s.obj O.secActivateState == 2 || s.sec.swapLeft != 0 || s.sec.newCode

/-- The slot that is STAGED. -/
def State.stagedSlot (s : State) : Option Nat := [0, 1].find? fun k => s.slotState k == slotStaged

/-- A write of `SEC_ACTIVATE` (R526). -/
def effActivate : Effect := fun _ _ _ _ _ s =>
  let st := s.opState
  if s.activating then refuse s St.fwState
  else if !(st == normal || st == test || st == recovery) then refuse s St.stateRequest
  else
    match s.stagedSlot with
    | none => refuse s St.notStaged
    | some k => done (((s.writeRecord k 3).setObj O.secActivateState 1).replaceFrom k)

def execSecActivate (t : Nat) (q : Req) (v : List Byte) (s : State) : Host.Outcome State Fault Refusal := .next ((s.at t).hostWrite q O.secActivate v effActivate)

/-- The processor runs the code of the slot it was restarted for (R526, steps 4 and 5). -/
def State.newRuns (s : State) : State :=
  let k := s.sec.target
  let xs := (s.slotBundle k).2.2
  let s := s.setObjs [(O.secFwSlot, k), (O.secFwVersion, match imageIn xs 1 with | some x => x.version | none => 0)]
  let s := match imageIn xs 1 with | some x => s.measure x | none => s
  let s := s.setSec { s.sec with newCode := false, started := s.tick, revertDue := false }
  match imageIn xs 4 with
  | some x => State.bundleKernels 32 x.body (s.measure x)
  | none => s

/-- MGMT_RESTART_DONE (R528): `same` says that the image in memory has the digest recorded in M1. Else the running slot is loaded again with a full check; if that fails the processor stays
down. -/
def State.restartDone (s : State) (same : Bool) : State :=
  if !s.resil.procDown then s
  else
    let up := ({ s with resil := { s.resil with procDown := false } } : State).lateDone
    if s.sec.newCode then up.newRuns
    else if same then up
    else
      match s.slotBundle (s.obj O.secFwSlot) with
      | (0, _, _) => up
      | (st, kind, _) => (s.setRecovery recFirmware).raise 247 [s.obj O.secFwSlot, kind, st]

def execMgmtRestartDone (t : Nat) (same : Bool) (s : State) : Host.Outcome State Fault Refusal := .next ((s.at t).restartDone same)

/-- ACTIVATION_CONFIRM (R526). -/
def State.activationConfirm (s : State) : State :=
  if s.obj O.secActivateState ≠ 2 || s.resil.procDown || s.sec.revertDue || s.tick < s.sec.started + secTicks (s.obj O.secConfirmTime) then s
  else
    let k := s.obj O.secFwSlot
    let s := ((s.writeRecord k 0xFF).setSlotState k slotActive).setSlotState (1 - k) slotFallback
    ((s.setObj O.secActivateState 3).clearRecovery recFirmware).raise 250 []

def execActivationConfirm (t : Nat) (s : State) : Host.Outcome State Fault Refusal := .next (s.at t).activationConfirm

/-- ACTIVATION_REVERT (R527): `silent` says that the new firmware has given no heartbeat within 1 s of its start. -/
def State.activationRevert (s : State) (silent : Bool) : State :=
  let quiet := silent && decide (s.sec.started + ticksPerSec ≤ s.tick)
  if s.obj O.secActivateState ≠ 2 || !(quiet || s.sec.revertDue) then s
  else
    let new := s.sec.target
    let k := s.sec.old
    let s := (s.writeRecord k 0xFF).setSlotState new slotInvalid
    let s := ((s.setSlotState k slotActive).setRecovery recFirmware).raise 248 []
    ((s.setObj O.secActivateState 4).setSec { s.sec with revertDue := false, newCode := false }).replaceFrom k

def execActivationRevert (t : Nat) (silent : Bool) (s : State) : Host.Outcome State Fault Refusal := .next ((s.at t).activationRevert silent)

/-- A write of `SEC_FW_CLEAR` (R528); it reaches its effect only while the processor runs. -/
def effFwClear : Effect := fun _ _ _ _ _ s => done (s.clearRecovery recFirmware)

def execSecFwClear (t : Nat) (q : Req) (v : List Byte) (s : State) : Host.Outcome State Fault Refusal := .next ((s.at t).hostWrite q O.secFwClear v effFwClear)

end Sys2Proof.Machine
end

