-- ==== Sys2Proof/Machine/Sec.lean ====
section
/-! DEFINITION. Attestation, keys, rollback, the TAP and saved configurations (R519 to R524, R530), with the meanings of their commands. -/

namespace Sys2Proof.Machine

/-! ### Quotes (R519, R520) -/

/-- A write of `SEC_QUOTE_REQ`. -/
def effQuoteReq : Effect := fun _ _ _ _ v s =>
  if s.obj O.secQuoteState = 1 then refuse s St.noSlot else done ((s.setObj O.secQuoteState 1).setSec { s.sec with quote := some v })

def execSecQuoteReq (t : Nat) (q : Req) (v : List Byte) (s : State) : Host.Outcome State Fault Refusal := .next ((s.at t).hostWrite q O.secQuoteReq v effQuoteReq)

/-- Bytes 0 to 647 of a quote (Table 19-4). -/
def State.quoteBody (s : State) (nonce : List Byte) : List Byte :=
  let flags := boolNat s.sec.truncated + 2 * boolNat s.sec.debugged + 4 * boolNat (bit (s.obj O.pwrRecoveryCause) recFirmware)
  leBytes 4 0x544F5551 ++ leBytes 2 1 ++ leBytes 2 flags ++ leBytes 8 (s.obj O.dictSerial) ++ leBytes 12 (stimeOf s.studio) ++ leBytes 1 (s.obj O.secRollback) ++ fill 3 0
    ++ padTo 32 nonce ++ leBytes 4 (s.obj O.secLogCount) ++ fill 4 0 ++ shake256 (s.blob O.secLog) 64 ++ padTo 512 (s.blob O.secMeas)

/-- QUOTE_READY: the quote is formed and signed; a signature takes a fresh number. -/
def State.quoteReady (s : State) : State :=
  match s.sec.quote with
  | none => s
  | some n =>
    let b := s.quoteBody n
    let sig := padTo 1280 (Config.falconSign s.fresh (shake256 b 64))
    ((s.took.setBlob O.secQuote (b ++ sig)).setObj O.secQuoteState 2).setSec { s.sec with quote := none }

def execQuoteReady (t : Nat) (s : State) : Host.Outcome State Fault Refusal := .next (s.at t).quoteReady

/-- A write of `SEC_EXTEND`. -/
def effExtend : Effect := fun _ _ _ _ v s => done (s.extend 7 0x12 0 0 0 v)

def execSecExtend (t : Nat) (q : Req) (v : List Byte) (s : State) : Host.Outcome State Fault Refusal := .next ((s.at t).hostWrite q O.secExtend v effExtend)

/-! ### Keys and rollback (R522, R523) -/

/-- A write of `SEC_KEY_ENROL`: digest in OTP, record in the key area, M0, E251. -/
def effKeyEnrol : Effect := fun _ _ _ _ v s =>
  let n := leAt v 0 1
  if n = 0 || 4 < n || !(slice v 1 7 ++ v.drop 1801).all (· == 0) then refuse s St.badValue
  else if s.sec.keyState n ≠ 0 then refuse s St.keyUsed
  else
    let x := s.sec
    let s := (s.setSec { x with digests := x.digests.set (n - 1) (shake256 (slice v 8 1793) 64), keys := x.keys.set (n - 1) v }).readOtp
    done ((s.extend 0 0x13 n 0 0 (Config.changeDigest 0x13 n)).raise 251 [])

def execSecKeyEnrol (t : Nat) (q : Req) (v : List Byte) (s : State) : Host.Outcome State Fault Refusal := .next ((s.at t).hostWrite q O.secKeyEnrol v effKeyEnrol)

/-- A write of `SEC_KEY_REVOKE`. -/
def effKeyRevoke : Effect := fun _ _ _ _ v s =>
  let n := beNat v
  let s := (s.setSec { s.sec with revoked := setBit s.sec.revoked (n - 1) }).readOtp
  done ((s.extend 0 0x13 n 0 0 (Config.changeDigest 0x13 (256 + n))).raise 251 [])

def execSecKeyRevoke (t : Nat) (q : Req) (v : List Byte) (s : State) : Host.Outcome State Fault Refusal := .next ((s.at t).hostWrite q O.secKeyRevoke v effKeyRevoke)

/-- A write of `SEC_ROLLBACK_ADVANCE`. -/
def effRollbackAdvance : Effect := fun _ _ _ _ v s =>
  let n := beNat v
  let held := [0, 1].filter fun k => let st := s.slotState k; st == slotActive || st == slotStaged || st == slotFallback
  if n ≤ s.obj O.secRollback || 64 < n then refuse s St.rollback
  else if !held.all fun k => (s.slotBundle k).2.2.all fun x => decide (n ≤ x.rollback) then refuse s St.rollbackSlot
  else
    let s := (s.setSec { s.sec with rollback := n }).readOtp
    done ((s.extend 0 0x14 0 n 0 (Config.changeDigest 0x14 n)).raise 251 [])

def execSecRollbackAdvance (t : Nat) (q : Req) (v : List Byte) (s : State) : Host.Outcome State Fault Refusal :=
  .next ((s.at t).hostWrite q O.secRollbackAdvance v effRollbackAdvance)

/-! ### The TAP (R524) -/

/-- A read of `SEC_JTAG_CHALLENGE` gives a fresh challenge. -/
def State.newChallenge (s : State) : List Byte × State :=
  let b := leBytes 8 (s.obj O.dictSerial) ++ padTo 32 (Config.nonce s.fresh) ++ leBytes 4 s.sec.counter ++ fill 4 0
  (b, s.took.setSec { s.sec with challenge := some (b, s.tick), counter := (s.sec.counter + 1) % 2 ^ 32 })

/-- A write of `SEC_JTAG_UNLOCK` answers the last challenge, once. -/
def effJtagUnlock : Effect := fun _ _ _ _ v s =>
  let level := leAt v 0 1
  let slot := leAt v 1 1
  let used := s.setSec { s.sec with challenge := none }
  if level = 0 || 2 < level || !(slice v 2 6).all (· == 0) then refuse s St.badValue
  else
    match s.sec.challenge with
    | none => refuse s St.signature
    | some (c, at_) =>
      let allowed := if level = 2 then slot == 0 else s.keyEnrolled slot
      if at_ + secTicks 60 < s.tick || !allowed || !Config.falconVerify (s.keyOf slot) (shake256 (c ++ leBytes 1 level) 64) (v.drop 8) then refuse used St.signature
      else
        let s := (used.setSec { used.sec with debugged := true }).setObj O.secJtagState level
        done ((s.extend 0 0x11 slot 0 0 (Config.changeDigest 0x11 level)).raise 251 [])

def execSecJtagUnlock (t : Nat) (q : Req) (v : List Byte) (s : State) : Host.Outcome State Fault Refusal := .next ((s.at t).hostWrite q O.secJtagUnlock v effJtagUnlock)

/-- The instructions of the TAP: 0 BYPASS, 1 IDCODE, 2 SAMPLE/PRELOAD, 3 EXTEST, 4 INTEST, 5 a vendor debug instruction; whether the level allows one. -/
def State.tapAllows (s : State) (code : Nat) : Bool := decide (code ≤ 2) || (decide (code ≤ 4) && decide (1 ≤ s.obj O.secJtagState)) || decide (2 ≤ s.obj O.secJtagState)

/-- The TAP holds an instruction; one that drives the pins ends what the gate lanes emit. -/
def State.tapHold (s : State) (code : Nat) : State :=
  let s := s.setSec { s.sec with tapInstr := code }
  if s.jtagDrives then allBanks.foldl (fun s b => s.cutLane b) s else s

/-- A write of `SEC_JTAG_LOCK`. -/
def effJtagLock : Effect := fun _ _ _ _ _ s =>
  let s := s.setObj O.secJtagState 0
  done ((if s.tapAllows s.sec.tapInstr then s else s.tapHold 0).raise 251 [])

def execSecJtagLock (t : Nat) (q : Req) (v : List Byte) (s : State) : Host.Outcome State Fault Refusal := .next ((s.at t).hostWrite q O.secJtagLock v effJtagLock)

/-- TAP_INSTRUCTION: an instruction that the level does not allow is BYPASS. What is shifted out is the bit before for BYPASS, the identification code, or what the BSDL file lays down. -/
def State.tapRun (s : State) (code data : Nat) : State :=
  let c := if s.tapAllows code then code else 0
  (s.tapHold c).emit (.tap (if c = 0 then data else if c = 1 then Config.tapIdcode else Config.tapBoundary c data))

def execTapInstruction (t : Nat) (code : Fin 6) (data : Nat) (s : State) : Host.Outcome State Fault Refusal := .next ((s.at t).tapRun code.val data)

/-! ### A saved configuration (R530) -/

/-- The bytes of the value of an object in force. -/
def State.valueBytes (s : State) (r : ObjRow) (ref : Nat) : List Byte := if r.ty.isBlob then s.blob ref else beBytes r.ty.size (s.obj ref)

/-- Every object a CONFIG image may name, in order. -/
def configRefs : List (Nat × ObjRow) :=
  objFams.flatMap fun f => (List.range f.count).flatMap fun i => f.rows.filterMap fun r =>
    let ref := (f.base + i) * 256 + r.sub
    (configObject ref).map fun r => (ref, r)

/-- The image of the values in force, signed by the device. -/
def State.configImage (s : State) : List Byte :=
  let b := configRefs.flatMap fun p => valueForm p.1 (s.valueBytes p.2 p.1)
  let b := padTo (ceilDiv b.length 8 * 8) b
  let h := leBytes 4 0x4D494C46 ++ [5, 0xFE, 0, 0] ++ fill 8 0 ++ leBytes 4 b.length ++ leBytes 8 (s.obj O.dictSerial) ++ fill 36 0
  h ++ b ++ padTo 1280 (Config.falconSign s.fresh (shake256 (h ++ b) 64))

/-- A staging is open. -/
def State.staging (s : State) : Bool := s.resil.xfers.any fun x => x.2.ref == O.secStage

/-- A write of `SEC_CONFIG_SAVE`: the device's own image needs no further check but that of its region (Table 19-1). -/
def effConfigSave : Effect := fun _ _ _ _ _ s =>
  if s.activating then refuse s St.fwState
  else if s.staging then refuse s St.noSlot
  else if 1048576 < s.configImage.length then ⟨St.badSize, [], (s.took.raise 247 [0xFF, 5, St.badSize]).stageEnd 5 St.badSize⟩
  else done ((s.took.writeConfig s.configImage).stageEnd 3 0)

def execSecConfigSave (t : Nat) (q : Req) (v : List Byte) (s : State) : Host.Outcome State Fault Refusal := .next ((s.at t).hostWrite q O.secConfigSave v effConfigSave)

end Sys2Proof.Machine
end

