-- ==== Sys2Proof/Machine/Commit.lean ====
section
/-! DEFINITION. Commits of the timing generators and of the compositor (R17, R48 to R55, R58, R83 to R86, R112, R146, R181, R216, R218, R251, R258, R289, R308, R358): the form checks, admission, the
compute check, acceptance and cancellation, with the meanings of TG_COMMIT, TG_CANCEL, COMPOSITOR_COMMIT and LAY_CANCEL. -/

namespace Sys2Proof.Machine

/-! ### Staged values (R16, R17) -/

/-- The RWS objects that generator `n` owns: its own, those of Slalom, the lane advances of its banks and outputs (R96, R116, R173), and its cameras' (R144). -/
def State.tgRefs (s : State) (n : Nat) : List Nat :=
  [O.tgEnable n, O.tgPeriod n, O.tgPhase n, O.tgSlotCount n] ++ (List.range 16).map (O.tgSlot n)
    ++ (List.range 31).map (fun i => 0x221001 + 256 * n + i)
    ++ (allBanks.filter fun b => decide (s.obj (O.gateOutput b) ≤ 3) && s.leadOf (s.obj (O.gateOutput b)) == n).map O.gateDrvLatency
    ++ (outputs.filter fun m => s.leadOf m == n).map O.moutTlLatency
    ++ ((List.range 8).filter fun c => s.obj (O.camOutput c) == n).flatMap fun c => [O.camView c, O.camOpen c, O.camLength c, O.camGuard c]

/-- The flow objects of R358, numbers and byte strings. -/
def flowNums (f : Nat) : List Nat := [O.netFlowEnable f, O.netFlowSampling f, O.netFlowDepth f, O.netFlowWidth f, O.netFlowHeight f, O.netFlowPeriod f, O.netFlowColorimetry f,
  O.netFlowTcs f, O.netFlowRange f, O.netFlowPt f, O.netFlowRxType f, O.netFlowLayer f, O.netFlowJoin f, O.netFlowRow0 f, O.netFlowMode f, O.netFlowDelay f, O.netFlowSkew f]
def flowBlobs (f : Nat) : List Nat := [O.netFlowLegA f, O.netFlowLegB f, O.netFlowPool f]

/-- The RWS objects of one layer. -/
def layRefs (l : Nat) : List Nat := (List.range 17).map fun i => O.layEnable l + i

/-- The RWS objects that the compositor owns, numbers and byte strings (R218, R259, R358, R414). -/
def layNums : List Nat := O.layFlatten :: O.hierSysGroup :: O.hierSysScope :: (allLayers.flatMap layRefs ++ allFlows.flatMap flowNums)
def layBlobs : List Nat := O.crvChainIngest :: ((List.range 4).flatMap (fun m => [O.crvChain m, O.crvMesh m, O.crvBlend m]) ++ allFlows.flatMap flowBlobs)

/-- The staged values of objects that differ from those in force. -/
def State.stagedNums (s : State) (l : List Nat) : List (Nat × Nat) := (l.filter fun r => s.obj (staged r) != s.obj r).map fun r => (r, s.obj (staged r))
def State.stagedBlobs (s : State) (l : List Nat) : List (Nat × List Byte) := (l.filter fun r => s.blob (staged r) != s.blob r).map fun r => (r, s.blob (staged r))

/-- The bytes of an object under captured staged values. -/
def blobIn (s : State) (blobs : List (Nat × List Byte)) (ref : Nat) : List Byte := (kvFind blobs ref).getD (s.blob ref)

/-! ### Form (R48, R49, R58, R557) and tiling (R181) -/

/-- Slots in order, apart and within the frame. -/
def slotsOk (ticks : Nat) : Nat → List (Nat × Nat × Nat) → Bool
  | _, [] => true
  | from_, (_, a, l) :: rest => decide (from_ ≤ a) && decide (1 ≤ l) && decide (a + l ≤ ticks) && slotsOk ticks (a + l) rest

/-- The form of a generator's staged values. -/
def tgFormOk (val : Nat → Nat) (n : Nat) : Bool :=
  let g := timingIn val n
  let words := (List.range (val (O.tgSlotCount n))).map fun j => val (O.tgSlot n j)
  g.num != 0 && g.den != 0 && decide (g.den ≤ 240 * g.num) && decide (20 * g.num ≤ g.den) && decide (g.phase.natAbs * g.den < g.pNum)
    && words.all (fun w => !bit w 63) && slotsOk g.frameTicks 0 (words.map slotFields)
    && (List.range 16).all (fun j => decide (val (O.slmLadder n j) ≤ 32768)) && decide (val (O.slmSplitBits n) ≤ val (O.slmDepth n))

/-- The group of leader `n` keeps the rules of R181. -/
def State.tileOk (s : State) (n : Nat) : Bool :=
  let g := s.group n
  let pos := g.map fun m => (s.obj (O.moutTileX m), s.obj (O.moutTileY m))
  let xs := pos.foldl (fun a p => max a p.1) 0 + 1
  let ys := pos.foldl (fun a p => max a p.2) 0 + 1
  s.leader n ≤ n && g.all (fun m => decide (n ≤ m)) &&
    (g.length == 1 ||
      (g.all (fun m => s.obj (O.moutWidth m) == s.obj (O.moutWidth n) && s.obj (O.moutHeight m) == s.obj (O.moutHeight n)) && decide (pos.eraseDups.length = g.length) && xs * ys == g.length
        && g.all fun m => m == n || s.tgOff m))

/-! ### Totals (R84, R219, R289) -/

/-- Sum of fractions. -/
def fracAdd (a b : Nat × Nat) : Nat × Nat := (a.1 * b.2 + b.1 * a.2, a.2 * b.2)
def fracSum (l : List (Nat × Nat)) : Nat × Nat := l.foldl fracAdd (0, 1)

/-- Slot size of a plane of output `m` (R78). -/
def State.slotSize (s : State) (m : Nat) : Nat := s.imageBlocks m * 4096

/-- The generators that run frames under values `val`. -/
def State.leadersOn (s : State) (val : Nat → Nat) : List Nat := outputs.filter fun n => s.leadOf n == n && val (O.tgEnable n) == 1

/-- A generator that commits, and the period its composition interval is compared with (none for an enabling commit). -/
abbrev Committing := Option (Nat × Option Timing)

/-- The composition interval charged to generator `n` (R53), as a timing's period. -/
def chargedPeriod (val : Nat → Nat) (n : Nat) (c : Committing) : Timing :=
  let p := timingIn val n
  match c with
  | some (m, some old) => if m = n && old.num * p.den < p.num * old.den then old else p
  | _ => p

/-- The plane read term of output `m`, in bytes per second, with f = 1. -/
def State.readTerm (s : State) (val : Nat → Nat) (m : Nat) : Nat × Nat :=
  let n := s.leadOf m
  let p := timingIn val n
  ((s.planCfg val n).maxEntries * s.slotSize m * p.den, p.num)

/-- The plane traffic of output `m`, scaled by the charge factor `f`. -/
def State.planeTerm (s : State) (val : Nat → Nat) (c : Committing) (f : Nat × Nat) (m : Nat) : Nat × Nat :=
  let n := s.leadOf m
  let q := chargedPeriod val n c
  let r := fracAdd ((s.planCfg val n).images * s.slotSize m * q.den, q.num) (s.readTerm val m)
  (f.1 * r.1, f.2 * r.2)

/-- The charge factor of output `m` (R84). -/
def State.chargeFactor (s : State) (m : Nat) : Nat × Nat :=
  if s.objB O.slmCompressionCredit then (min 65536 (s.obj (O.slmCompRatio m) + s.obj O.slmCompGuard), 65536) else (1, 1)

/-- The layer and clip demand of leader `n` (R219). -/
def State.layerTerm (s : State) (val : Nat → Nat) (n : Nat) : Nat × Nat :=
  let p := timingIn val n
  let vs := (s.planCfg val n).views
  let layers := (allLayers.filter fun l => layerOn val vs n l && decide (val (O.layKind l) ≤ 1)).foldl
    (fun a l => a + val (O.laySrcW l) * val (O.laySrcH l) * fmtBytes (val (O.layFormat l))) 0
  let (w, h) := s.canvas n
  let cache := if bit (val O.layFlatten) n then w * h * 8 * vs.length else 0
  ((layers + cache) * p.den, p.num)

/-- The total of R84 in bytes per second; `raw` takes f = 1. -/
def State.bandwidthTotal (s : State) (val : Nat → Nat) (v : FlowVals) (c : Committing) (raw : Bool) : Nat × Nat :=
  fracSum ((s.obj O.slmBwFixed * 1000000, 1) :: s.mediaIngress v ::
    (s.leadersOn val).flatMap fun n =>
      s.layerTerm val n :: (s.group n).map fun m => s.planeTerm val c (if raw then (1, 1) else s.chargeFactor m) m)

/-- A fraction in units of a million, rounded up, as a U32 object shows it. -/
def millions (x : Nat × Nat) : Nat := min 0xFFFFFFFF (ceilDiv x.1 (1000000 * x.2))

/-! ### Compute (R225, R258) -/

/-- The cycles of a chain: the sum of its kernels' WCET. -/
def State.chainCycles (s : State) (b : List Byte) : Nat := (chainOf b).foldl (fun a k => a + match s.kernel? k with | some x => x.wcet | none => 0) 0

/-- The tiles of output `m`. -/
def State.tilesOf (s : State) (m : Nat) : Nat := s.arrayW m / 64 * ceilDiv (s.arrayH m) 32

/-- The demand of one view on output `m`, in cycles per second. -/
def State.viewTerm (s : State) (val : Nat → Nat) (blob : Nat → List Byte) (m : Nat) : Nat × Nat :=
  let p := timingIn val (s.leadOf m)
  (s.tilesOf m * s.chainCycles (blob (O.crvChain m)) * p.den, p.num)

/-- The ingest demand of leader `n`. -/
def State.ingestTerm (s : State) (val : Nat → Nat) (blob : Nat → List Byte) (n : Nat) : Nat × Nat :=
  let p := timingIn val n
  let need (l : Nat) : Bool := !(fmtCode (val (O.layFormat l)) == 5 && val (O.layEncoding l) == s.workCode)
  let ls := allLayers.filter fun l => layerOn val (s.planCfg val n).views n l && decide (val (O.layKind l) ≤ 1) && need l
  let tiles := ls.foldl (fun a l => a + ceilDiv (val (O.laySrcW l)) 64 * ceilDiv (val (O.laySrcH l)) 32) 0
  (tiles * s.chainCycles (blob O.crvChainIngest) * p.den, p.num)

/-- The demand of R258. -/
def State.computeDemand (s : State) (val : Nat → Nat) (blob : Nat → List Byte) : Nat × Nat :=
  fracSum ((s.leadersOn val).flatMap fun n =>
    let k := (s.planCfg val n).views.length
    s.ingestTerm val blob n :: (s.group n).map fun m => let t := s.viewTerm val blob m; (k * t.1, t.2))

/-- The row-gated latency of output `m` is within the ceiling less 200 µs. -/
def State.rowsFit (s : State) (val : Nat → Nat) (blob : Nat → List Byte) (m : Nat) : Bool :=
  let p := timingIn val (s.leadOf m)
  let w := ceilDiv (s.arrayH m) 32 * s.chainCycles (blob (O.crvChain m))
  decide (100 * w * p.den + 34375000 * p.den ≤ s.obj O.crvLoadCeiling * p.num * 1718750000)

/-- The views in use with their demands, in proportion (R225). -/
def State.viewDemands (s : State) (val : Nat → Nat) (blob : Nat → List Byte) : List (Nat × Nat) :=
  let outs := (s.leadersOn val).flatMap fun n => (s.group n).map fun m => (m, (s.planCfg val n).views, s.viewTerm val blob m)
  let all := outs.foldl (fun a x => a * x.2.2.2) 1
  (List.range 8).filterMap fun v =>
    let mine := outs.filter fun x => x.2.1.contains v
    if v = 0 || !mine.isEmpty then some (v, mine.foldl (fun a x => a + x.2.2.1 * (all / max 1 x.2.2.2)) 0) else none

/-! ### Admission check 6 and the compute check -/

/-- What a commit brings into an admission: the values, the byte strings, the flows, and the generator that commits. -/
structure Admission where
  val  : Nat → Nat
  blob : Nat → List Byte
  com  : Committing

def Admission.flows (a : Admission) : FlowVals := ⟨a.val, a.blob⟩

/-- The total fits the ceiling (R84) and, below F0 or with channels missing, `MEM_CEILING` (R308). -/
def State.bandwidthFits (s : State) (t : Nat × Nat) : Bool :=
  decide (t.1 ≤ s.obj O.slmBwCeiling * 1000000 * t.2) &&
    ((s.obj O.memSetpoint == 0 && s.memc.n == 8) || decide (t.1 ≤ s.obj O.memCeiling * 1000000 * t.2))

/-- Check 6 of R83 and the compute check: the failure if any, and the figures they write whether or not the commit is accepted. -/
def State.letIn (s : State) (a : Admission) : Option Nat × State :=
  let t := s.bandwidthTotal a.val a.flows a.com false
  let s := s.setObj O.slmBwLastRequest (millions t)
  if !s.bandwidthFits t then (some St.bandwidth, s)
  else
    let d := s.computeDemand a.val a.blob
    let s := s.setObj O.crvDemandLast (millions d)
    let outs := (s.leadersOn a.val).flatMap s.group
    if !outs.all (s.rowsFit a.val a.blob) || !s.computeFits d (64 * s.onlineClusters.length)
        || s.onlineClusters.length < (s.viewDemands a.val a.blob).length then (some St.compute, s)
    else (none, s)

/-- The ports whose rate the device sets (R289). -/
def ratePorts : List Nat := [0, 1, 2, 3, 14]

/-- The objects that an accepted admission writes. -/
def figureRefs : List Nat := [O.slmBwAdmitted, O.slmBwAdmittedRaw, O.crvDemand, O.netIngressBw] ++ ratePorts.map O.memPortRate

/-- The figures as they stand. -/
def State.figures (s : State) : List (Nat × Nat) := figureRefs.map fun r => (r, s.obj r)

/-- The state with new rates of the ports of R289. -/
def State.setRates (s : State) (rate : Nat → Nat) : State := ratePorts.foldl (fun s p => (s.setMport p (s.fillPort p)).setObj (O.memPortRate p) (rate p)) s

/-- An admission is accepted: totals, demand, port rates, and the clusters' views (R84, R225, R258, R289). -/
def State.admitted (s : State) (a : Admission) : State :=
  let t := s.bandwidthTotal a.val a.flows a.com false
  let raw := s.bandwidthTotal a.val a.flows a.com true
  let d := s.computeDemand a.val a.blob
  let ingress := s.mediaIngress a.flows
  let up (x : Nat × Nat) : Nat := millions (5 * x.1, 4 * x.2)
  let outs := (s.leadersOn a.val).flatMap s.group
  let rate (p : Nat) : Nat := if p = 14 then up ingress else if outs.contains p then up (s.readTerm a.val p) else 0
  let s := s.setObjs [(O.slmBwAdmitted, millions t), (O.slmBwAdmittedRaw, millions raw), (O.crvDemand, millions d), (O.netIngressBw, millions ingress)]
  let s := (s.setRates rate).setCarve { s.carve with demand := d }
  s.assignClusters (s.viewDemands a.val a.blob)

/-- The figures of the configuration in force come back after a cancel; the clusters stay as the last accepted admission assigned them (R225). -/
def State.restoreFigures (s : State) (before : List (Nat × Nat)) : State :=
  let s := s.setRates fun p => (kvFind (before.map fun x => (x.1, x.2)) (O.memPortRate p)).getD (s.obj (O.memPortRate p))
  let s := s.setObjs before
  s.setCarve { s.carve with demand := s.computeDemand s.obj s.blob }

/-! ### A timing commit (R51 to R55) -/

/-- Bytes of one half of output `m`: slots and the index byte of every block (R78). -/
def State.halfSize (s : State) (val : Nat → Nat) (m : Nat) : Nat := val (O.slmBufPlanes (s.leadOf m)) * (s.slotSize m + s.imageBlocks m)

/-- Bytes allocated over extents. -/
def extentTotal (es : List (Nat × Nat)) : Nat := es.foldl (fun a e => a + e.2) 0

/-- The halves that output `m` has fit the values. -/
def State.halvesFit (s : State) (val : Nat → Nat) (m : Nat) : Bool :=
  [(s.slm m).half0, (s.slm m).half1].all fun h => extentTotal h.extents == ceilDiv (s.halfSize val m) 4096 * 4096 && decide (0 < extentTotal h.extents)

/-- The halves to allocate for the group of `n`; none where those it has fit. -/
def State.halfNeeds (s : State) (val : Nat → Nat) (n : Nat) : List Nat :=
  if (s.group n).all (s.halvesFit val) then [] else (s.group n).flatMap fun m => [s.halfSize val m, s.halfSize val m]

/-- Checks 1 to 5 of R83 for the staged plan, the manual table after check 2 (R76). -/
def State.planChecks (s : State) (val : Nat → Nat) (n : Nat) : Option Nat :=
  let c := s.planCfg val n
  match c.base with
  | none => some St.planInfeasible
  | some p =>
    match c.verify p with
    | some f => some f.1
    | none =>
      match (if val (O.slmPlanMode n) = 2 then c.verify (s.stagedPlan n) else none) with
      | some f => some f.1
      | none =>
        if (s.group n).any fun m => decide (c.minDwell < s.obj (O.moutLoadTime m)) then some St.planeRate
        else if val (O.slmBufPlanes n) < c.images || 512 < val (O.slmBufPlanes n) then some St.planTooLarge
        else if (s.allocAll false (s.halfNeeds val n)).isNone then some St.noMemory
        else none

/-- B_old and B_new of a commit (R51, R52, R55). -/
def State.commitInstants (s : State) (val : Nat → Nat) (n : Nat) (treq : Option Nat) (running off : Bool) : Instant × Option (Instant × Nat) :=
  let now := tickInstant s.studio
  let want (i : Instant) : Instant := match treq with | some t => i.max (stimeInstant t) | none => i
  let old := s.timing n
  let new := timingIn val n
  if running then
    let bOld := old.boundary (old.firstFrom (want (now.plusFrac old.pNum old.den)))
    let k := new.firstFrom (bOld.plus darkTicks)
    (bOld, if off then none else some (new.boundary k, k.toNat))
  else
    let bOld := want now
    let k := new.enableFrom bOld
    (bOld, if off then none else some (new.boundary k, k.toNat))

/-- The banks of the group whose table in use will not hold the staged ladder (R112); a wire that is not enabled takes the ladder when it is initialised (R111). -/
def State.levelBanks (s : State) (val : Nat → Nat) (n : Nat) : List Nat :=
  let ladder := (List.range 16).map fun i => val (O.slmLadder n i)
  (s.banksOf (s.group n)).filter fun b => s.objB (O.lwEnable b) && s.tableHolds b (s.obj (O.gateTable b)) != ladder

/-- LEVEL frames with the staged ladder for the tables not in use. -/
def State.queueLevels (s : State) (val : Nat → Nat) (n : Nat) : State :=
  let ladder := (List.range 16).map fun i => val (O.slmLadder n i)
  (s.levelBanks val n).foldl (fun s b =>
    let t := 1 - s.obj (O.gateTable b)
    let s := s.setWire b { s.wire b with levelQ := queueLevel ⟨t, ladder, some n⟩ (s.wire b).levelQ }
    s.setBank b { s.bank b with tableNext := some t }) s

/-- The new frames are in time for the tables: every LEVEL frame ends before B_new − 100 µs. -/
def State.levelsInTime (s : State) (n : Nat) (bNew : Instant) : Bool :=
  match s.levelsEnd n with
  | some e => decide (e + levelMargin < s.rootTick bNew)
  | none => true

/-- A refused timing commit (R53). -/
def State.tgRefused (s : State) (n status : Nat) : State := (s.setObjs [(O.tgCommitState n, 3), (O.tgCommitResult n, status)]).bump (O.tgRefusals n)

/-- The extents are put into the two halves of each output of the group. -/
def State.giveHalves (s : State) : List Nat → List (List (Nat × Nat)) → State
  | m :: ms, a :: b :: es => (s.setSlm m { s.slm m with half0 := { extents := a }, half1 := { extents := b } }).giveHalves ms es
  | _, _ => s

/-- The checks of R53 in order: the first failure, and the figures written on the way. -/
def State.tgChecks (s : State) (n : Nat) (val : Nat → Nat) (off : Bool) (com : Committing) : Option Nat × State :=
  let busy := match s.layCommit with | some c => c.outs.contains n | none => false
  if busy then (some St.commitPending, s)
  else if !off && !tgFormOk val n then (some St.badValue, s)
  else if s.leadOf n = n && !s.tileOk n then (some St.tileConfig, s)
  else if !off && s.leadOf n ≠ n then (some St.tileMember, s)
  else if !off && s.sysTimingFault val then (some St.sysTiming, s)
  else
    match (if off then none else s.placement val n) with
    | some f => (some f.status, s.setObj O.viewPlaceDetail (f.detail n))
    | none =>
      match (if off then none else s.planChecks val n) with
      | some st => (some st, s)
      | none => s.letIn ⟨val, s.blob, com⟩

/-- Acceptance of a timing commit whose checks have passed up to check 6: check 7, then PENDING with B_old in the answer. -/
def State.tgAccept (s : State) (n : Nat) (treq : Option Nat) (vals : List (Nat × Nat)) (running off : Bool) (com : Committing) : Ans :=
  let val := valIn s vals
  let (bOld, bNew) := s.commitInstants val n treq running off
  let q := if off then s else s.queueLevels val n
  let late := match bNew with | some b => !q.levelsInTime n b.1 | none => false
  if late then ⟨St.lwLate, [], s.tgRefused n St.lwLate⟩
  else
    let before := s.figures
    let s := q.admitted ⟨val, s.blob, com⟩
    let c := s.planCfg val n
    let plan := if off then [] else if val (O.slmPlanMode n) = 2 then s.stagedPlan n else c.base.getD []
    let (halves, s) := if off then ([], s) else (s.allocAll false (s.halfNeeds val n)).getD ([], s)
    let keep := running && !halves.isEmpty
    let s := if keep then s else s.giveHalves (s.group n) halves
    let t : TgCommit := ⟨true, vals, !off && !running, off && running, off && !running, false, treq, bOld, bNew, false, plan, if keep then halves else [], before⟩
    let s := s.setTg n { s.tg n with commit := some t }
    let s := s.setObjs [(O.tgCommitState n, 1), (O.tgCommitResult n, 0), (O.tgBOld n, bOld.stime), (O.tgBNew n, match bNew with | some b => b.1.stime | none => 0)]
    doneWith s (beBytes 12 bOld.stime)

/-- TG_COMMIT. -/
def State.tgCommit (s : State) (n : Nat) (treq : Option Nat) : Ans :=
  if (s.tg n).commit.isSome then refuse s St.commitPending
  else
    let vals := s.stagedNums (s.tgRefs n)
    let val := valIn s vals
    let running := (s.tg n).running
    let off := val (O.tgEnable n) == 0
    let com : Committing := if off then none else some (n, if running then some (s.timing n) else none)
    match s.tgChecks n val off com with
    | (some st, s) => ⟨st, [], s.tgRefused n st⟩
    | (none, s) => s.tgAccept n treq vals running off com

def execTgCommit (t : Nat) (q : Req) (n : Fin 4) (treq : Option Nat) (s : State) : Host.Outcome State Fault Refusal :=
  .next ((s.at t).hostCommit q (0x2110 + n.val) treq fun _ _ s => s.tgCommit n.val treq)

/-- The commit point of a commit (R54, R55, R559). -/
def State.commitPoint (s : State) (n : Nat) (c : TgCommit) : Instant :=
  if c.enabling || c.idle || c.stepped then c.bOld else c.bOld.plusFrac (-((s.timing n).pNum : Int)) (s.timing n).den

/-- Tables that a commit had prepared are not used; its LEVEL frames serve no commit any more. -/
def State.dropTables (s : State) (n : Nat) : State :=
  (s.banksOf (s.group n)).foldl (fun s b =>
    let s := s.setBank b { s.bank b with tableNext := none }
    s.setWire b { s.wire b with levelQ := (s.wire b).levelQ.map fun f => if f.tg == some n then { f with tg := none } else f }) s

/-- The plane-buffer halves of a group are released (R78). -/
def State.freeHalves (s : State) (n : Nat) : State :=
  (s.group n).foldl (fun s m =>
    let x := s.slm m
    (s.freeMem (x.half0.extents ++ x.half1.extents)).setSlm m { x with half0 := {}, half1 := {} }) s

/-- A cancelled host commit (R54, R559): the old timing runs on, or, after a step, restarts as a commit with no host part. -/
def State.tgCancelled (s : State) (n : Nat) (c : TgCommit) : State :=
  let s := (s.dropTables n).freeMem c.halves.flatten
  let s := if c.enabling then s.freeHalves n else s
  let s := (s.restoreFigures c.before).setObjs [(O.tgCommitState n, 4), (O.tgCommitResult n, St.aborted)]
  if c.stepped && (s.tg n).running then
    let g := s.timing n
    let k := g.enableFrom c.bOld
    let s := s.setTg n { s.tg n with commit := some { c with host := false, vals := [], disabling := false, treq := none, bNew := some (g.boundary k, k.toNat), plan := [], halves := [] } }
    s.setObj (O.tgBNew n) (g.boundary k).stime
  else s.setTg n { s.tg n with commit := none }

/-- A write of `TG_CANCEL`. -/
def effTgCancel : Effect := fun _ _ _ ref _ s =>
  let n := refIndex ref - 0x2110
  match (s.tg n).commit with
  | none => refuse s St.notActive
  | some c => if !c.host || c.passed || s.reached (s.commitPoint n c) then refuse s St.notActive else done (s.tgCancelled n c)

def execTgCancel (t : Nat) (q : Req) (n : Fin 4) (v : List Byte) (s : State) : Host.Outcome State Fault Refusal :=
  .next ((s.at t).hostWrite q (O.tgCancel n.val) v effTgCancel)

/-! ### A compositor commit (R216, R218, R251, R358) -/

/-- The outputs that layer `l` appears on, by leaders (R192). -/
def State.layerOuts (s : State) (val : Nat → Nat) (l : Nat) : List Nat :=
  (s.leadersOn s.obj).filter fun n => layerOn val (s.planCfg s.obj n).views n l

/-- An enabled layer with a source that is scaled (R216). -/
def layScaled (val : Nat → Nat) (l : Nat) : Bool :=
  val (O.layEnable l) == 1 && decide (val (O.layKind l) ≤ 1) && (val (O.laySrcW l) != val (O.layDstW l) || val (O.laySrcH l) != val (O.layDstH l))

/-- The limits of a scaler unit. -/
def scaleOk (val : Nat → Nat) (l : Nat) : Bool :=
  let sw := val (O.laySrcW l)
  let sh := val (O.laySrcH l)
  let dw := val (O.layDstW l)
  let dh := val (O.layDstH l)
  decide (sw ≤ 8192) && decide (sh ≤ 2 * dh) && decide (sw ≤ 8 * dw) && decide (dw ≤ 16 * sw) && decide (dh ≤ 16 * sh)

/-- The scaler units that each scaled layer takes. -/
def State.scalerNeeds (s : State) (val : Nat → Nat) : List (Nat × Nat) := (allLayers.filter (layScaled val)).map fun l => (l, (s.layerOuts val l).length)

/-- The members of an atomic group share one output of 0 to 3 (R206). -/
def groupsOk (val : Nat → Nat) : Bool :=
  let ls := allLayers.filter fun l => val (O.layEnable l) == 1 && val (O.layKind l) == 0 && val (O.layGroup l) != 0
  ls.all fun l => decide (val (O.layOutput l) ≤ 3) && ls.all fun k => val (O.layGroup k) != val (O.layGroup l) || val (O.layOutput k) == val (O.layOutput l)

/-- Each stage's output is the next stage's input, from `first` to `last`, and every kernel is installed and of class `cls` (R251). -/
def State.chainOk (s : State) (cls first last : Nat) (b : List Byte) : Bool :=
  let ks := (chainOf b).map s.kernel?
  let rec link : Nat → List (Option Kernel) → Bool
    | f, [] => f == last
    | f, some k :: l => bit k.cls cls && (k.inFmt == f || (f == fmtLayer && isLayer k.inFmt)) && link k.outFmt l
    | _, none :: _ => false
  !ks.isEmpty && link first ks

/-- Every patch of output `m` fits (R231). -/
def State.warpOk (s : State) (blob : Nat → List Byte) (m : Nat) : Bool :=
  let apron := match (chainOf (blob (O.crvChain m))).head?.bind s.kernel? with | some k => k.apron | none => 0
  (List.range (s.tilesY m)).all fun y => (List.range (s.tilesX m)).all fun x => (s.patchRect m (blob (O.crvMesh m)) apron x y).patchOk

/-- The checks of R218 that come before the flows. -/
def State.layChecks (s : State) (val : Nat → Nat) (blob : Nat → List Byte) : Option Nat :=
  let on (l : Nat) : Bool := val (O.layEnable l) == 1
  let zero (l : Nat) : Bool := on l && (val (O.laySrcW l) == 0 || val (O.laySrcH l) == 0 || val (O.layDstW l) == 0 || val (O.layDstH l) == 0)
  if allLayers.any fun l => !fmtOk (val (O.layFormat l)) then some St.badFormat
  else if allLayers.any zero then some St.badValue
  else if allLayers.any fun l => decide (val (O.layOutput l) ≤ 3) && s.leadOf (val (O.layOutput l)) != val (O.layOutput l) then some St.layerBinding
  else if !groupsOk val then some St.groupSpan
  else if allLayers.any fun l => layScaled val l && !scaleOk val l then some St.scaleRange
  else if 16 < (s.scalerNeeds val).foldl (fun a x => a + x.2) 0 then some St.scalers
  else if !s.chainOk 1 fmtLayer fmtWork (blob O.crvChainIngest) || (List.range 4).any fun m => !s.chainOk 0 fmtPatch fmtFrag (blob (O.crvChain m)) then some St.chainBad
  else if (List.range 4).any fun m => !s.warpOk blob m then some St.warpRange
  else if s.sysTimingFault val then some St.sysTiming
  else s.flowFault ⟨val, blob⟩ val

/-- The running leaders that a commit affects: their layers, chains, meshes, blend maps or flattening change, or the ingest chain, a flow or the system group does. -/
def State.layAffects (s : State) (vals : List (Nat × Nat)) (blobs : List (Nat × List Byte)) : List Nat :=
  let val := valIn s vals
  let num (r : Nat) : Bool := vals.any fun x => x.1 == r
  let str (r : Nat) : Bool := blobs.any fun x => x.1 == r
  let all := str O.crvChainIngest || num O.hierSysGroup || num O.hierSysScope || allFlows.any fun f => (flowNums f).any num || (flowBlobs f).any str
  let moved := allLayers.filter fun l => (layRefs l).any num
  (s.leadersOn s.obj).filter fun n =>
    all || bit (val O.layFlatten) n != bit (s.obj O.layFlatten) n
      || (s.group n).any (fun m => str (O.crvChain m) || str (O.crvMesh m) || str (O.crvBlend m))
      || moved.any fun l => layerOn s.obj (s.planCfg s.obj n).views n l || layerOn val (s.planCfg s.obj n).views n l

/-- The first composition start of generator `n` at or after an instant: a boundary (R204). -/
def State.startFrom (s : State) (n : Nat) (i : Instant) : Instant := (s.timing n).boundary ((s.timing n).firstFrom i)

/-- The instant from which an accepted commit may take effect. -/
def LayCommit.due (c : LayCommit) : Instant :=
  let e := c.accAt.plus darkTicks
  match c.treq with | some t => e.max (stimeInstant t) | none => e

/-- The commit point: the earliest of the composition starts at which the commit takes effect; none where it affects no running output. -/
def State.layPoint (s : State) (c : LayCommit) : Option Instant :=
  c.outs.foldl (fun m n => let i := s.startFrom n c.due; match m with | none => some i | some j => some (if i.lt j then i else j)) none

/-- The scaler units of the layers in force (R216). -/
def State.giveScalers (s : State) : State :=
  let needs := s.scalerNeeds s.obj
  let s := s.setObj O.layScalersUsed (needs.foldl (fun a x => a + x.2) 0)
  (allLayers.foldl (fun (a : Nat × State) l =>
    match kvFind needs l with
    | some k => if k = 0 then (a.1, a.2.setObj (O.layScaler l) 0xFF) else (a.1 + k, a.2.setObj (O.layScaler l) a.1)
    | none => (a.1, a.2.setObj (O.layScaler l) 0xFF)) (0, s)).2

/-- The values of a commit come into force; flows that it changes end under their old values and start under the new, disabled layers lose their queued flips (R218, R358). -/
def State.layForce (s : State) (c : LayCommit) : State :=
  let flows := allFlows.filter fun f => (flowNums f).any (fun r => c.vals.any fun x => x.1 == r) || (flowBlobs f).any fun r => c.blobs.any fun x => x.1 == r
  let offs := allLayers.filter fun l => s.objB (O.layEnable l) && valIn s c.vals (O.layEnable l) == 0
  let s := flows.foldl State.flowStop s
  let s := c.blobs.foldl (fun s x => s.setBlob x.1 x.2) (s.setObjs c.vals)
  let s := flows.foldl State.flowStart s
  let s := offs.foldl (fun (s : State) l =>
    let x := s.lay l
    ((s.setQueue l []).bumpBy (O.laySkipped l) x.queue.length).setObj (O.layState l) 0) s
  let s := outputs.foldl (fun s n => s.setComp n { s.comp n with caches := (s.comp n).caches.map fun x => { x with failed := false } }) s
  s.giveScalers

/-- The current source of a layer that is off is released; `held` names the output and frame whose composition is the last to read it. -/
def State.releaseOff (s : State) (c : LayCommit) (held : Option (Nat × Nat)) : State :=
  let offs := (c.vals.filterMap fun x => if x.2 = 0 then allLayers.find? fun l => O.layEnable l == x.1 else none).filter fun l => s.obj (O.layCurrent l) != 0
  (offs.foldl (fun (s : State) l =>
    let x := s.lay l
    let keep : List Held := match held with | some (m, k) => [⟨m, k, s.obj (O.layCurrent l), s.obj (O.layFenceGen l), s.obj (O.layShownFrame l), none⟩] | none => []
    (s.setLay l { x with held := x.held ++ keep, kLast := none, stale := none, quiet := 0 }).setObj (O.layCurrent l) 0) s).reap

/-- COMPOSITOR_COMMIT. -/
def State.compositorCommit (s : State) (treq : Option Nat) : Ans :=
  if s.layCommit.isSome then refuse s St.commitPending
  else
    let vals := s.stagedNums layNums
    let blobs := s.stagedBlobs layBlobs
    let val := valIn s vals
    let blob := blobIn s blobs
    let outs := s.layAffects vals blobs
    let refused (s : State) (st : Nat) : Ans := ⟨st, [], s.setObjs [(O.layCommitState, 3), (O.layCommitResult, st)]⟩
    if outs.any fun n => (s.tg n).commit.isSome then refused s St.commitPending
    else
      match s.layChecks val blob with
      | some st => refused s st
      | none =>
        let a : Admission := ⟨val, blob, none⟩
        match s.letIn a with
        | (some st, s) => refused s st
        | (none, s) =>
          let now := tickInstant s.studio
          let c : LayCommit := ⟨now, treq, vals, blobs, outs, false, vals.map fun x => (x.1, s.obj x.1), blobs.map fun x => (x.1, s.blob x.1), s.figures⟩
          let s := s.admitted a
          match s.layPoint c with
          | some i => doneWith ({ s with layCommit := some c }.setObjs [(O.layCommitState, 1), (O.layCommitResult, 0)]) (beBytes 12 i.stime)
          | none => doneWith (((s.layForce c).releaseOff c none).setObjs [(O.layCommitState, 0), (O.layCommitResult, 0)]) (beBytes 12 now.stime)

def execCompositorCommit (t : Nat) (q : Req) (treq : Option Nat) (s : State) : Host.Outcome State Fault Refusal :=
  .next ((s.at t).hostCommit q 0x2600 treq fun _ _ s => s.compositorCommit treq)

/-- COMPOSITOR_COMMIT_APPLY at a composition start of leader `n` at instant `st`, for frame `k` (R218). -/
def State.layApply (s : State) (n k : Nat) (st : Instant) : State :=
  match s.layCommit with
  | none => s
  | some c =>
    if !c.outs.contains n || st.lt c.due then s
    else
      let s := if c.taken then s else s.layForce c
      let c := { c with taken := true, outs := c.outs.filter (· != n) }
      if c.outs.isEmpty then ({ s with layCommit := none }.setObjs [(O.layCommitState, 0), (O.layCommitResult, 0)]).releaseOff c (some (n, k))
      else { s with layCommit := some c }

/-- An output that stops showing frames no longer waits for a compositor commit; a commit that waits for no other output is in force. -/
def State.layLeave (s : State) (n k : Nat) : State :=
  match s.layCommit with
  | some c => if c.outs.contains n then s.layApply n k (c.due) else s
  | none => s

/-- A write of `LAY_CANCEL`. -/
def effLayCancel : Effect := fun _ _ _ _ _ s =>
  match s.layCommit with
  | none => ⟨St.notActive, [], s.setObj O.layCommitResult St.notActive⟩
  | some c =>
    let late := c.taken || match s.layPoint c with | some i => s.reached i | none => true
    if late then ⟨St.notActive, [], s.setObj O.layCommitResult St.notActive⟩
    else done (({ s with layCommit := none }.restoreFigures c.before).setObjs [(O.layCommitState, 4), (O.layCommitResult, St.aborted)])

def execLayCancel (t : Nat) (q : Req) (v : List Byte) (s : State) : Host.Outcome State Fault Refusal :=
  .next ((s.at t).hostWrite q O.layCancel v effLayCancel)

end Sys2Proof.Machine
end

