-- ==== Sys2Proof/Machine/Frame.lean ====
section
/-! DEFINITION. Frames (R45 to R47, R52 to R55, R65, R75, R77, R80, R101, R112, R155, R185 to R187, R204 to R208, R230, R235): boundaries, composition starts and ends, and the way of a timing
commit through its commit point and its dark interval, with the meanings of their commands. -/

namespace Sys2Proof.Machine

/-! ### Composition (R77, R204, R205, R230) -/

/-- Every block of every image of output `m`'s configuration is written in half `h`. -/
def State.imagesDone (s : State) (m : Nat) (h : Bool) : Bool :=
  (List.range (s.cfg (s.leadOf m)).images).all fun p => kvGet (fun _ => 0) (s.half m h).done p == 2 ^ s.imageBlocks m - 1

/-- COMPOSITION_COMPLETE of leader `n`: every image of the group stands in the half being written. -/
def State.compositionComplete (s : State) (n : Nat) : State :=
  match s.producing n with
  | none => s
  | some k =>
    if !(s.group n).all fun m => s.imagesDone m (!s.frontHalf m) then s
    else
      let s := (s.group n).foldl (fun (s : State) m => s.setSlm m { s.slm m with composed := true, hist := (s.slm m).occ }) s
      (s.cachesDone n).releaseHeld n k

def execCompositionComplete (t : Nat) (n : Fin 4) (s : State) : Host.Outcome State Fault Refusal := .next ((s.at t).compositionComplete n.val)

/-- The composition in progress on leader `n` is abandoned (R80, R205, R235): its layers go back, its tiles go, what was written stays unused. `bk` is the B_k that has come. -/
def State.abandon (s : State) (n : Nat) (bk : Instant) : State :=
  match s.producing n with
  | none => s
  | some k =>
    let s := s.restoreLayers n k bk
    (s.group n).foldl (fun (s : State) m =>
      let s := s.setSlm m { s.slm m with composed := true, outQ := [] }
      (s.setComp m { s.comp m with band := [] }).dropFrame m) s

/-- The frame whose composition starts now on leader `n`: index, start, B_k. -/
def State.composeDue (s : State) (n : Nat) : Option (Nat × Instant × Instant) :=
  if s.leadOf n ≠ n then none
  else
    match s.nextComposed n with
    | none => none
    | some k =>
      let st := s.compositionInstant n k
      let new : Option Instant := (s.tg n).commit.bind fun c => if c.passed then c.bNew.bind fun b => if b.2 = k then some b.1 else none else none
      if !s.reached st then none
      else
        match new with
        | some b => some (k, st, b)
        | none => if (s.tg n).running && (s.tg n).frame + 1 = k then some (k, st, (s.timing n).boundary k) else none

/-- Output `m` begins to be composed for frame `k`: an empty half and band, the chain and what R230 compares. `before` is the matrix of the frame before. -/
def State.startOutput (s : State) (m k : Nat) (before : List Byte) : State :=
  let h := !s.frontHalf m
  let s := s.setHalf m h { s.half m h with done := [], index := [], changed := [] }
  let s := s.setSlm m { s.slm m with composing := some k, composed := false, occ := [], outQ := [], bypassed := false }
  let x := s.comp m
  let chain := chainOf (s.blobFor m (O.crvChain m))
  let mesh := s.blobFor m (O.crvMesh m)
  let blend := s.blobFor m (O.crvBlend m)
  let set := s.obj (O.colSetId m)
  let s := s.setComp m { x with
    chain := chain, cset := set, lastMatrix := before, lastMesh := mesh, lastBlend := blend
    allChg := set != x.cset || chain != x.chain || mesh != x.lastMesh || blend != x.lastBlend
    streams := [], work := [], poisoned := [], band := [] }
  s.setCarve { s.carve with seen := s.carve.seen.filter fun y => y.1 == 2 || y.2.1 != m }

/-! ### What every first tick of a frame does -/

/-- The plan that takes force is shown in the objects of Table 02-5. -/
def State.showPlan (s : State) (n : Nat) (p : List Entry) : State :=
  let c := s.cfg n
  s.setObjs [(O.slmPlanEntries n, p.length), (O.slmPlanSlack n, c.slack p), (O.slmImages n, c.images)]

/-- Frame `k` begins at instant `b` on leader `n`: its number and start, cameras, timing lanes, the HOST cause that waited (R47, R155, R172, Table 03-3), Slalom microcode (R526). -/
def State.frameBegins (s : State) (n k : Nat) (b : Instant) : State :=
  let s := (s.setTg n { s.tg n with frame := k }).setObjs [(O.tgFrame n, k % 2 ^ 64), (O.tgFrameStart n, b.stime)]
  (s.group n).foldl (fun (s : State) m =>
    let s := (s.camsOf m).foldl (fun s c => s.camBegin c k) s
    let s := ((s.syncSymbol m k).joinFrames m).slalomSwap m
    (s.outBanks m).foldl State.hostDue s) s

/-! ### FRAME_BOUNDARY (R45, R65, R80, R82, R185) -/

/-- The next boundary of a running leader, unless a commit or a step ends the frames at or before it. -/
def State.boundaryDue (s : State) (n : Nat) : Option (Nat × Instant) :=
  let g := s.tg n
  let k := g.frame + 1
  let b := (s.timing n).boundary k
  let ends := match g.commit with | some c => c.stepped || decide (s.rootTick c.bOld ≤ s.rootTick b) | none => false
  if s.leadOf n = n && g.running && !ends && s.reached b then some (k, b) else none

/-- The plan of the next frame (R65, R70, R75, R76). -/
def State.nextPlan (s : State) (n k : Nat) : List Entry :=
  let m := s.slm n
  match s.obj (O.slmPlanMode n) with
  | 0 => m.inactive.getD (s.basePlan n)
  | 1 => s.basePlan n
  | _ => match m.swapTable with | some (j, p) => if j = k then p else m.active | none => m.active

/-- What ends with a frame on each output of the group: the ratio of R82 and the signatures of R185. -/
def State.frameEnds (s : State) (n : Nat) : State := (s.group n).foldl (fun (s : State) m => (s.frameRatio m).freezeDetect m false) s

/-- FRAME_BOUNDARY. -/
def State.frameBoundary (s : State) (n : Nat) : State :=
  match s.boundaryDue n with
  | none => s
  | some (k, b) =>
    let s := (s.plannerDeadline n).compositionComplete n
    let s := s.frameEnds n
    let plan := s.nextPlan n k
    let m := s.slm n
    let ok := m.composing == some k && s.groupComplete n (!m.front) plan
    let rest (x : SlmSt) : SlmSt := { x with inactive := none, planned := false, raised := [], swapTable := match x.swapTable with | some (j, p) => if j ≤ k then none else some (j, p) | none => none }
    let s :=
      if ok then (s.setSlm n { rest m with front := !m.front, active := plan, frontPlan := plan }).showPlan n plan
      else
        let s := (s.setSlm n { rest m with active := m.frontPlan }).abandon n b
        let s := ((s.slmRaise n 42).bump (O.slmRepeats n)).showPlan n m.frontPlan
        (s.group n).foldl (fun (s : State) m => s.setMout m { s.mout m with skipCmp := true }) s
    s.frameBegins n k b

def execFrameBoundary (t : Nat) (n : Fin 4) (s : State) : Host.Outcome State Fault Refusal := .next ((s.at t).frameBoundary n.val)

/-! ### The commit point (R54, R55, R76, R208) -/

/-- The back half, then the front half, of each output of a group is replaced by new extents. -/
def State.renewHalf (s : State) (which : Bool) : List Nat → List (List (Nat × Nat)) → State
  | m :: ms, a :: b :: es =>
    let h := if which then s.frontHalf m else !s.frontHalf m
    ((s.freeMem (s.half m h).extents).setHalf m h { extents := if which then b else a }).renewHalf which ms es
  | _, _ => s

/-- The plan of the first new frame: the host's commit brings it; after a step, the table in force under MANUAL, else the base plan (R70, R76, R559). -/
def State.firstPlan (s : State) (n : Nat) (c : TgCommit) : List Entry :=
  if !c.plan.isEmpty then c.plan else if s.obj (O.slmPlanMode n) = 2 then (s.slm n).active else s.basePlan n

/-- The commit point of a commit is passed. -/
def State.passPoint (s : State) (n : Nat) (c : TgCommit) : State :=
  let s := if c.host then s.targetsAsap n else s
  let plan := s.firstPlan n c
  let s := s.setTg n { s.tg n with commit := some { c with passed := true, plan := plan } }
  if c.bNew.isNone then s.setSlm n { s.slm n with swapReq := none, swapTable := none }
  else
    let s := s.renewHalf false (s.group n) c.halves
    s.setSlm n { s.slm n with inactive := some plan, planned := true, planning := none, firstFrame := true, swapReq := none, swapTable := none }

/-- TG_COMMIT_POINT. The commit point of a change of timing is a boundary: the last old frame begins first. -/
def State.tgCommitPoint (s : State) (n : Nat) : State :=
  match (s.tg n).commit with
  | none => s
  | some c => if c.passed || !s.reached (s.commitPoint n c) then s else (s.frameBoundary n).passPoint n c

def execTgCommitPoint (t : Nat) (n : Fin 4) (s : State) : Host.Outcome State Fault Refusal := .next ((s.at t).tgCommitPoint n.val)

/-! ### Composition starts (R204) -/

/-- COMPOSITION_START (R204): commits due, the colour set, the layers, the caches; then tiles may be issued. A commit point on the same tick comes first (R54). -/
def State.compositionStart (s : State) (n : Nat) : State :=
  let s := s.tgCommitPoint n
  match s.composeDue n with
  | none => s
  | some (k, st, bk) =>
    let s := (s.compositionComplete n).abandon n st
    let s := s.layApply n k st
    let sys := s.sysOutput == some n
    let before := (s.group n).map fun m => (m, s.blob (O.colMatrix m))
    let s := (s.group n).foldl (fun (s : State) m => s.takeColourSet m k) s
    let s := if sys then s.sysPrepare k st else s
    let s := s.layersStep n k st bk fun l => if sys then s.sysTake k l else none
    let s := if sys then s.sysOutcome k else s
    let s := s.cachesStep n k
    before.foldl (fun (s : State) m => s.startOutput m.1 k m.2) s

def execCompositionStart (t : Nat) (n : Fin 4) (s : State) : Host.Outcome State Fault Refusal := .next ((s.at t).compositionStart n.val)

/-! ### The dark interval (R52, R55, R186, R187) -/

/-- The outputs of a group stop: gates dark, array parked, measurement of their cameras over, no transfer of the old timing. -/
def State.groupDark (s : State) (n : Nat) (bOld : Int) : State :=
  (s.group n).foldl (fun (s : State) m =>
    let s := (s.forceAll (s.outBanks m) causeDark).outputDark m bOld
    let s := s.setSlm m { s.slm m with stored := 0, raw := 0, ratios := [] }
    let s := s.setObj (O.slmCompRatio m) 65536
    ((s.camsOf m).foldl State.camStop s).slalomSwap m) s

/-- The first transfer of each output starts its load time before the first flip (R186). -/
def State.firstTransfers (s : State) (n : Nat) (k : Nat) (plan : List Entry) : State :=
  match plan.head? with
  | none => s
  | some e =>
    (s.group n).foldl (fun (s : State) m =>
      let flip := s.emittedFlip m k e
      if s.laneOn m then s.openTransfer m (k, 0, e, !s.frontHalf m) (flip - s.obj (O.moutLoadTime m)) flip else s) s

/-- The values of a commit come into force, and with them the short condition and the lanes' advances (R178). -/
def State.tgForce (s : State) (n : Nat) (c : TgCommit) : State := (s.group n).foldl (fun (s : State) m => s.shortCheck m) (s.setObjs c.vals)

/-- A disabling commit, or one of a generator that stays disabled, is complete at B_old (R55). -/
def State.tgDisabled (s : State) (n : Nat) (c : TgCommit) : State :=
  let s := if c.idle then s else (s.abandon n c.bOld).freeHalves n
  let s := s.setTg n { s.tg n with running := false, dark := false, commit := none }
  let s := if c.idle then s else s.setSlm n { s.slm n with composing := none, inactive := none, planning := none, frontPlan := [], swapReq := none, swapTable := none }
  (s.setObjs [(O.tgCommitState n, 0), (O.tgCommitResult n, 0)]).bump (O.tgCommits n)

/-- TG_DARK_BEGIN: B_old (R52), or D after a step (R559). -/
def State.tgDarkBegin (s : State) (n : Nat) : State :=
  match (s.tg n).commit with
  | none => s
  | some c =>
    if (s.tg n).dark || !s.reached c.bOld then s
    else
      let s := s.tgCommitPoint n
      let c := ((s.tg n).commit).getD c
      let was := (s.tg n).running
      let s := if was then (s.compositionComplete n).frameEnds n else s
      let s := if was || c.enabling then s.groupDark n (s.rootTick c.bOld) else s
      let s := s.renewHalf true (s.group n) c.halves
      let s := s.tgForce n c
      match c.bNew with
      | none => s.tgDisabled n c
      | some b =>
        let s := s.setTg n { s.tg n with running := false, dark := true }
        let s := s.setObj (O.tgCommitState n) 2
        s.firstTransfers n b.2 c.plan

def execTgDarkBegin (t : Nat) (n : Fin 4) (s : State) : Host.Outcome State Fault Refusal := .next ((s.at t).tgDarkBegin n.val)

/-- TG_DARK_END: B_new. The first new frame is shown from the half composed for it; blocks of it that are not written are what they are in memory, with E042 (log entry 18). -/
def State.tgDarkEnd (s : State) (n : Nat) : State :=
  match (s.tg n).commit with
  | none => s
  | some c =>
    match c.bNew with
    | none => s
    | some (b, k) =>
      if !(s.tg n).dark || !s.reached b then s
      else
        let s := s.compositionComplete n
        let m := s.slm n
        let ok := m.composing == some k && s.groupComplete n (!m.front) c.plan
        let s := s.setTg n { s.tg n with running := true, dark := false, commit := none }
        let s := s.setSlm n { m with front := !m.front, active := c.plan, frontPlan := c.plan, inactive := none, planned := false, firstFrame := false, raised := [] }
        let s := if ok then s else ((s.abandon n b).slmRaise n 42).bump (O.slmRepeats n)
        let s := (s.showPlan n c.plan).setObjs [(O.tgCommitState n, 0), (O.tgCommitResult n, 0)]
        let s := s.bump (O.tgCommits n)
        let s := (s.banksOf (s.group n)).foldl (fun (s : State) b =>
          let x := s.bank b
          match x.tableNext with | some t => (s.setBank b { x with tableNext := none }).setObj (O.gateTable b) t | none => s) s
        let s := (s.banksOf (s.group n)).foldl (fun (s : State) b => s.darkClear n b k) s
        s.frameBegins n k b

def execTgDarkEnd (t : Nat) (n : Fin 4) (s : State) : Host.Outcome State Fault Refusal := .next ((s.at t).tgDarkEnd n.val)

end Sys2Proof.Machine
end

