-- ==== Sys2Proof/Machine/Slots.lean ====
section
/-! DEFINITION. The lamp-wire slot (R103 to R105, R109 to R114, R130, R134, R135, R432, R442): what every unit does at a slot start, and the frame each enabled wire sends. -/

namespace Sys2Proof.Machine

/-- The device keeps slots: from STARTUP to RECOVERY, and in a warm wake once its domains run (R482). -/
def State.slotsRun (s : State) : Bool :=
  let st := s.opState
  (decide (startup ≤ st) && decide (st ≤ recovery)) || (st == standby && s.power.awake)

/-- A frame goes out on wire `w` in slot `m`; LIMIT and LEVEL frames count as auxiliary too. -/
def State.sendLamp (s : State) (w m kind : Nat) (words : Nat → List Nat) : State :=
  let s := (s.emit (.lamp w m (kind :: frameBytes kind (s.obj (O.lwDrivers w)) words))).bump (O.lwFrames w)
  if kind = 1 then s else s.bump (O.lwAuxFrames w)

/-- A LIMIT frame carries the limits (R104). -/
def State.sendLimit (s : State) (w m : Nat) : State := let img := s.blob (O.lwLimits w); s.sendLamp w m 2 fun d => imageWords img d

/-- A LEVEL frame carries a ladder for one table, which the driver holds from then on (R104, R112). -/
def State.sendLevel (s : State) (w m table : Nat) (ladder : List Nat) : State :=
  let words := (List.range 16).map fun i => levelWord table i (nth ladder i 0)
  let s := s.sendLamp w m 3 fun _ => words
  s.setWire w (if table = 0 then { s.wire w with held0 := ladder } else { s.wire w with held1 := ladder })

/-- The setpoints of a SET frame (R104). -/
def State.setWords (s : State) (w d : Nat) : List Nat :=
  let trim := imageWords (s.blob (O.lwTrim w)) d
  trim.map fun t => setWord (s.obj (O.loopBankCode w)) t

/-- A SET frame. -/
def State.sendSet (s : State) (w m : Nat) : State :=
  let n := s.obj (O.lwDrivers w)
  let img := (List.range 64).flatMap fun d => if d < n then (s.setWords w d).flatMap (leBytes 2) else fill 32 0
  (s.sendLamp w m 1 (s.setWords w)).setBlob (O.lwSetImage w) img

/-- The first queued LEVEL frame that may be sent now, and the queue without it (R112). -/
def takeLevel (ok : LevelFrame → Bool) : List LevelFrame → Option (LevelFrame × List LevelFrame)
  | [] => none
  | f :: l => if ok f then some (f, l) else (takeLevel ok l).map fun x => (x.1, f :: x.2)

/-- The frame of wire `w` in slot `m` (R110, R111). -/
def State.wireSlot (s : State) (w m : Nat) : State :=
  let x := s.wire w
  if !s.objB (O.lwEnable w) then s
  else
    match x.initLeft with
    | 3 => (s.setWire w { x with initLeft := 2, limitQ := false }).sendLimit w m
    | 2 => (s.setWire w { x with initLeft := 1 }).sendLevel w m 0 (s.ladderOf w)
    | 1 => (s.setWire w { x with initLeft := 0, initSlot := some m }).sendLevel w m 1 (s.ladderOf w)
    | _ =>
      if x.limitQ then (s.setWire w { x with limitQ := false }).sendLimit w m
      else
        match takeLevel (fun f => s.mayWrite w f.table) x.levelQ with
        | some (f, q) => (s.setWire w { x with levelQ := q }).sendLevel w m f.table f.ladder
        | none => s.sendSet w m

/-- Photodiode readings that no loop boundary can use any more are forgotten: a set's period is at most 1,000 slots (R442). -/
def State.pruneReadings (s : State) (b : Nat) : State :=
  let keep := usTicks (1000 * s.obj O.lwPeriod)
  let x := s.bank b
  s.setBank b { x with readings := x.readings.filter fun r => decide (s.tick < r.1 + keep) }

/-- LW_SLOT_START: slot `m` begins at the present tick. `ain` and `die` are what the analogue inputs and the die sensors read. -/
def State.slotStarts (s : State) (ain die : List (Option Int)) : State :=
  let m := s.nextSlot
  if !s.slotsRun || (s.tick : Int) < s.slotStart m then s
  else
    let s := (s.setObj O.lwSlot m).publishWaiting
    let s := allBanks.foldl State.settleWin s
    let s := allBanks.foldl State.fadeStep s
    let s := s.latchSources ain die
    let s := s.latchTemps s.tick s.bankSensor
    let s := allBanks.foldl State.baseStep s
    let s := s.leaders.foldl State.targetForm s
    let s := allBanks.foldl State.targetNone s
    let s := ((s.sweepSlot m).sweepsDone).loopSlot m
    let s := if s.jtagDrives then s else allBanks.foldl (fun (s : State) w => s.wireSlot w m) s
    allBanks.foldl State.pruneReadings s

def execLwSlotStart (t : Nat) (ain die : List (Option Int)) (s : State) : Host.Outcome State Fault Refusal := .next ((s.at t).slotStarts ain die)

end Sys2Proof.Machine
end

