-- ==== Sys2Proof/Machine/Patrol.lean ====
section
/-! DEFINITION. Patrol (R476 to R480, R483): its channels and filters, the decision table, the log, and the writes of its objects, with the meanings of
their commands. -/

namespace Sys2Proof.Machine

/-! ### Channels (R476, R477) -/

def State.chanSt (s : State) (c : Nat) : ChanSt := kvGet (fun _ => {}) s.power.chans c
def State.setChanSt (s : State) (c : Nat) (x : ChanSt) : State := s.setPower { s.power with chans := kvPut (fun _ => {}) s.power.chans c x }

/-- The sources that the island measures itself (R469, R476): AIN0 to AIN3, the rail monitors, VAUX, its temperature, VDD_AON. -/
def islandMeasures (code : Nat) : Bool :=
  decide (code < 4) || (decide (0x30 ≤ code) && decide (code < 0x39)) || code == 0x80 || code == 0x81 || code == 0x84

/-- What a source reads now (Tables 15-1 and 17-5): `x` is the island's own measurement in the source's unit, none where it failed; `since` is the channel's last sample. -/
def State.chanSource (s : State) (code since : Nat) (x : Option Int) : Option Int × State :=
  if islandMeasures code then (x, s)
  else if code = 0x82 then (some (boolNat s.intlk.low : Nat), s)
  else if s.opState = standby then (none, s)
  else if code = 0x83 then (some ((allBanks.filter fun w => s.obj (O.lwFaultState w) != 0).length : Nat), s)
  else s.source code since

/-- The median of five values. -/
def median5 (l : List Int) : Int :=
  (l.find? fun x => decide ((l.filter fun y => decide (y < x)).length ≤ 2) && decide ((l.filter fun y => decide (x < y)).length ≤ 2)).getD 0

/-- One step of IIR. -/
def iirStep (k : Nat) (y x : Int) : Int := y + (x - y + 2 ^ (k - 1)) / (2 ^ k : Nat)

/-- A valid sample enters a filter: kind (R477), k, `PTL_CH_DEBOUNCE`, whether the filter restarts from it. -/
def ChanSt.step (z : ChanSt) (kind k n : Nat) (restart : Bool) (x : Int) : ChanSt :=
  let samples := if restart then List.replicate 5 x else (x :: z.samples).take 5
  let run := if !restart && x = z.cand then z.run + 1 else 1
  let y :=
    if restart then x
    else
      match kind with
      | 0 => x
      | 1 => median5 samples
      | 2 => iirStep k z.y x
      | 3 => iirStep k z.y (median5 samples)
      | _ => if n ≤ run then x else z.y
  { z with samples := samples, y := y, cand := x, run := min run 255, hist := (y :: z.hist).take 65 }

/-- CHANNEL_SAMPLE of channel `c`. -/
def State.channelSample (s : State) (c : Nat) (x : Option Int) : State :=
  let z := s.chanSt c
  let due := match z.at_ with | some a => decide (a + usTicks (s.obj (O.ptlChPeriod c)) ≤ s.tick) || !s.time.pllLocked | none => true
  if s.opState = cold || !due then s
  else
    let (v, s) := s.chanSource (s.obj (O.ptlChSource c)) (z.at_.getD 0) x
    match v with
    | none => (s.setChanSt c { z with at_ := some s.tick }).setObj (O.ptlChValid c) 0
    | some v =>
      let z := z.step (s.obj (O.ptlChFilter c)) (s.obj (O.ptlChIirK c)) (s.obj (O.ptlChDebounce c)) (z.samples.isEmpty || !s.objB (O.ptlChValid c)) v
      ((s.setChanSt c { z with at_ := some s.tick }).setObjI (O.ptlChValue c) z.y).setObj (O.ptlChValid c) 1

def execChannelSample (t : Nat) (c : Fin 16) (x : Option Int) (s : State) : Host.Outcome State Fault Refusal := .next ((s.at t).channelSample c.val x)

/-! ### Rules (R478, R479, Table 17-6) -/

def State.ruleSt (s : State) (r : Nat) : RuleSt := kvGet (fun _ => {}) s.power.rules r
def State.setRuleSt (s : State) (r : Nat) (x : RuleSt) : State := s.setPower { s.power with rules := kvPut (fun _ => {}) s.power.rules r x }

/-- A rule entry. -/
structure PtlRule where
  kind    : Nat
  chan    : Nat
  actions : Nat
  states  : Nat
  a       : Int
  b       : Int
  hyst    : Int
  hold    : Nat
  window  : Nat
  mask    : Nat
  banks   : Nat
  invalid : Nat

/-- The entry that 32 bytes spell. -/
def ruleEntry (l : List Byte) : PtlRule :=
  ⟨leAt l 0 1, leAt l 1 1, leAt l 2 1, leAt l 3 1, toI32 (leAt l 4 4), toI32 (leAt l 8 4), (leAt l 12 4 : Nat), leAt l 16 2, leAt l 18 2, leAt l 20 4, leAt l 24 2, leAt l 26 1⟩

/-- The entry of rule `r`. -/
def State.rule (s : State) (r : Nat) : PtlRule := ruleEntry (s.blob (O.ptlRule r))

abbrev actWake : Nat := 0
abbrev actStandby : Nat := 1
abbrev actGate : Nat := 2
abbrev actEvent : Nat := 3
abbrev actLog : Nat := 4
abbrev actLatch : Nat := 5

/-- The rules. -/
def allRules : List Nat := List.range 32

/-- The rule is on, and its bit for the present state is set. -/
def State.ruleActive (s : State) (r : Nat) : Bool := let e := s.rule r; e.kind != 0 && decide (1 ≤ s.opState) && bit e.states (s.opState - 1)

/-- The rule reads true: it is active and asserted. -/
def State.ruleTrue (s : State) (r : Nat) : Bool := s.ruleActive r && (s.ruleSt r).asserted

/-- The conditions of KIND 9 (Table 17-6); `sched` in the extra evaluation of R483. -/
def State.ruleCondition (s : State) (c : Nat) (sched : Bool) : Bool :=
  match c with
  | 0 => s.power.netwake
  | 1 => sched
  | 2 => s.power.faults != 0
  | 3 => s.power.warn
  | 4 => s.objB O.ptlHostFlag
  | _ => !s.time.pllLocked

/-- A threshold condition on value `x`, with HYST toward release once it is asserted. -/
def PtlRule.test (e : PtlRule) (on : Bool) (x : Int) : Bool :=
  let h : Int := if on then e.hyst else 0
  match e.kind with
  | 1 => decide (e.a - h < x)
  | 2 => decide (x < e.a + h)
  | 3 => decide (x < e.a + h) || decide (e.b - h < x)
  | 4 => decide (e.a - h ≤ x) && decide (x ≤ e.b + h)
  | 5 => decide (e.a - h < x)
  | _ => decide (x < h - e.a)

/-- The condition of rule `r` in an evaluation; with too few samples for WINDOW, RISE and FALL are open. -/
def State.ruleHolds (s : State) (r : Nat) (sched : Bool) : Bool × State :=
  let e := s.rule r
  let on := (s.ruleSt r).asserted
  let x := s.objI (O.ptlChValue e.chan)
  match e.kind with
  | 7 => ((bitsOf 32 e.mask).all s.ruleTrue, s)
  | 8 => ((bitsOf 32 e.mask).any s.ruleTrue, s)
  | 9 => (s.ruleCondition e.chan sched, s)
  | k =>
    if !s.objB (O.ptlChValid e.chan) then (e.invalid == 1, s)
    else if k < 5 then (e.test on x, s)
    else
      match (s.chanSt e.chan).hist[e.window]? with
      | some old => (e.test on (x - old), s)
      | none => (s.fresh % 2 == 1, s.took)

/-- A Patrol log entry (Table 17-11): the ring holds the last 64. -/
def State.ptlLog (s : State) (rule edge : Nat) : State :=
  let l := s.blob O.ptlLog ++ leBytes 12 (if s.timeKnown then stimeOf s.studio else 0) ++ leBytes 1 rule ++ leBytes 1 edge ++ leBytes 1 s.opState ++ [0]
  s.setBlob O.ptlLog (l.drop (l.length - 1024))

/-- `PTL_RULE_STATE`; LATCHED stays until `PTL_RULE_CLEAR`. -/
def State.latched (s : State) (r : Nat) : Bool := s.obj (O.ptlRuleState r) == 3

/-- What the record of E238 carries: the channel's value; a rule without a channel has none to give. -/
def State.ruleValue (s : State) (r : Nat) : Nat × State :=
  let e := s.rule r
  if 7 ≤ e.kind then (s.fresh % 4294967296, s.took) else (s.obj (O.ptlChValue e.chan), s)

/-- Rule `r` asserts (R479). WAKE is taken after the evaluation. -/
def State.ruleAsserts (s : State) (r : Nat) : State :=
  let e := s.rule r
  let s := (s.setRuleSt r { run := 0, asserted := true }).bump (O.ptlRuleCount r)
  let s := s.setObj (O.ptlRuleState r) (if bit e.actions actLatch then 3 else 2)
  let s := if bit e.actions actEvent then (let (v, s) := s.ruleValue r; s.raise 238 [r, v]) else s
  let s := if bit e.actions actLog then s.ptlLog r 1 else s
  if bit e.actions actStandby && (s.opState != standby || s.power.wakeAt.isSome || s.power.wakeReq.isSome)
  then s.setPower { s.power with standbyReq := true } else s

/-- Rule `r` deasserts. -/
def State.ruleReleases (s : State) (r : Nat) : State :=
  let s := (s.setRuleSt r {}).setObj (O.ptlRuleState r) 1
  if bit (s.rule r).actions actLog then s.ptlLog r 0 else s

/-- One rule in an evaluation (R478). -/
def State.ruleStep (s : State) (r : Nat) (sched : Bool) : State :=
  if s.latched r then s
  else if !s.ruleActive r then (s.setRuleSt r {}).setObj (O.ptlRuleState r) 0
  else
    let (c, s) := s.ruleHolds r sched
    let x := s.ruleSt r
    let run := if c = x.asserted then 0 else x.run + 1
    if c != x.asserted && decide ((s.rule r).hold ≤ run) then (if c then s.ruleAsserts r else s.ruleReleases r)
    else (s.setRuleSt r { x with run := run }).setObj (O.ptlRuleState r) (if x.asserted then 2 else 1)

/-- The PATROL cause stands on the banks of every asserted rule with the GATE action (R479). -/
def State.patrolGates (s : State) : State :=
  let m := allRules.foldl (fun m r => let e := s.rule r; if (s.ruleSt r).asserted && bit e.actions actGate then Nat.lor m e.banks else m) 0
  allBanks.foldl (fun (s : State) b => s.forcePut b causePatrol (bit m b)) s

/-- The wake that a rule asserted in STANDBY asks for (R479): not taken while an active rule with STANDBY is asserted; one that arises during the entry waits for its end. -/
def State.askWake (s : State) : State :=
  if s.opState ≠ standby then s
  else if allRules.any fun r => s.ruleTrue r && bit (s.rule r).actions actStandby then s.bump O.ptlWakeSuppressed
  else if s.power.wakeAt.isSome || s.power.wakeReq.isSome then s
  else s.setPower { s.power with wakeReq := some (max s.tick s.power.entryEnd) }

/-- An evaluation of rules 0 to 31 in order. -/
def State.evaluate (s : State) (sched : Bool) : State :=
  let before := s.power.rules
  let s := allRules.foldl (fun (s : State) r => s.ruleStep r sched) s
  let s := s.patrolGates
  let woke := allRules.any fun r => (s.ruleSt r).asserted && !(kvGet (fun _ => ({} : RuleSt)) before r).asserted && bit (s.rule r).actions actWake
  let s := if woke then s.askWake else s
  s.setPower { s.power with netwake := false }

/-- RULE_EVAL: every `PTL_EVAL_PERIOD`; with ROOT not locked, Patrol's timing is not exact (R20). -/
def State.ruleEval (s : State) : State :=
  let due := match s.power.lastEval with | some a => decide (a + usTicks (s.obj O.ptlEvalPeriod) ≤ s.tick) || !s.time.pllLocked | none => true
  if s.opState = cold || !due then s
  else
    let s := s.evaluate false
    s.setPower { s.power with lastEval := some s.tick }

def execRuleEval (t : Nat) (s : State) : Host.Outcome State Fault Refusal := .next (s.at t).ruleEval

/-! ### The scheduled wake (R483) -/

/-- 24 ms in ticks: a warm wake. -/
abbrev wakeTicks : Nat := 247500000

/-- The tick of the extra evaluation: 24 ms before `PTL_WAKE_AT`. -/
def State.schedTick (s : State) : Option Nat :=
  let v := s.obj O.ptlWakeAt
  if v = 0 then none else some (s.rootTick (stimeInstant v) - wakeTicks).toNat

/-- SCHEDULED_EVAL: on its exact tick while ROOT is locked. -/
def State.scheduledEval (s : State) (t : Nat) : State :=
  match s.schedTick with
  | none => s.at t
  | some d =>
    let w := s.at (if s.time.pllLocked then min d t else t)
    if t < d || s.opState = cold then s.at t else (w.evaluate true).setObj O.ptlWakeAt 0

def execScheduledEval (t : Nat) (s : State) : Host.Outcome State Fault Refusal := .next (s.scheduledEval t)

/-- A write of `PTL_WAKE_AT`: 0 cancels. -/
def effWakeAt : Effect := fun _ _ r ref v s =>
  let n := beNat v
  if n ≠ 0 && (stimeInstant n).lt (tickInstant (s.studio + wakeTicks)) then refuse s St.wakeTime else done (s.store r ref v)

def execPtlWakeAt (t : Nat) (q : Req) (v : List Byte) (s : State) : Host.Outcome State Fault Refusal := .next ((s.at t).hostWrite q O.ptlWakeAt v effWakeAt)

/-! ### Writes of the rules -/

/-- The rule a reference in 0x3120 to 0x313F belongs to. -/
def refRule (ref : Nat) : Nat := refIndex ref - 0x3120

/-- RULE_BAD (R478): an unknown kind, a channel above 15, a condition above 5, a MASK bit at or above the rule's own number. -/
def PtlRule.bad (e : PtlRule) (r : Nat) : Bool :=
  decide (9 < e.kind) || (if e.kind = 9 then decide (5 < e.chan) else decide (15 < e.chan)) || decide (2 ^ r ≤ e.mask)

/-- The fields lie in the ranges of Table 17-6, and what is reserved is 0. -/
def PtlRule.fits (e : PtlRule) (l : List Byte) : Bool :=
  decide (e.actions < 64) && decide (e.states < 64) && (e.kind == 0 || decide (1 ≤ e.hold))
    && (!(e.kind == 5 || e.kind == 6) || (decide (1 ≤ e.window) && decide (e.window ≤ 64))) && decide (e.invalid ≤ 1) && leAt l 27 5 == 0

/-- A write of `PTL_RULE`. -/
def effPtlRule : Effect := fun _ _ row ref v s =>
  let r := refRule ref
  let e := ruleEntry v
  if e.bad r then refuse s St.ruleBad
  else if !e.fits v then refuse s St.badValue
  else done ((s.store row ref v).setRuleSt r { s.ruleSt r with run := 0 })

def execPtlRule (t : Nat) (q : Req) (r : Fin 32) (v : List Byte) (s : State) : Host.Outcome State Fault Refusal := .next ((s.at t).hostWrite q (O.ptlRule r.val) v effPtlRule)

/-- A write of `PTL_RULE_CLEAR` releases a latched rule and its gate cause; a rule that is not latched has nothing to release. -/
def effRuleClear : Effect := fun _ _ _ ref _ s =>
  let r := refRule ref
  if s.latched r then done (s.ruleReleases r).patrolGates else refuse s St.notActive

def execPtlRuleClear (t : Nat) (q : Req) (r : Fin 32) (v : List Byte) (s : State) : Host.Outcome State Fault Refusal :=
  .next ((s.at t).hostWrite q (O.ptlRuleClear r.val) v effRuleClear)

/-! ### State requests (R472) -/

/-- A write of `PWR_STATE_REQ`: 3 NORMAL, 4 TEST, 6 STANDBY. -/
def effStateReq : Effect := fun _ _ _ _ v s =>
  let n := beNat v
  let st := s.opState
  if n = standby then
    if st = cold || (st = standby && s.power.wakeAt.isNone && s.power.wakeReq.isNone) then refuse s St.stateRequest
    else done (s.setPower { s.power with standbyReq := true })
  else if st = recovery then (if s.obj O.pwrRecoveryCause ≠ 0 then refuse s St.recoveryCause else done (s.setOp n 3))
  else if (st = normal && n = test) || (st = test && n = normal) then done (s.setOp n 3)
  else refuse s St.stateRequest

def execStateReqNormal (t : Nat) (q : Req) (s : State) : Host.Outcome State Fault Refusal := .next ((s.at t).hostWrite q O.pwrStateReq [3] effStateReq)
def execStateReqTest (t : Nat) (q : Req) (s : State) : Host.Outcome State Fault Refusal := .next ((s.at t).hostWrite q O.pwrStateReq [4] effStateReq)
def execStateReqStandby (t : Nat) (q : Req) (s : State) : Host.Outcome State Fault Refusal := .next ((s.at t).hostWrite q O.pwrStateReq [6] effStateReq)

end Sys2Proof.Machine
end

