-- ==== Sys2Proof/Machine/Power.lean ====
section
/-! DEFINITION. Supplies and operating states (R469 to R475, R481 to R486): VAUX, the rail groups, PMBus, standby entry and the wakes, with the meanings of
their commands. -/

namespace Sys2Proof.Machine

/-! ### VAUX (R470) -/

/-- What power cannot take away: the boot flash and OTP; with them the levels of pins that others drive, and the model's own clock, queue and free values. Studio time starts at 0 again. -/
def State.powerLost (s : State) : State :=
  { pending := s.pending, tick := s.tick, free := s.free, tx := s.tx
    time := { offset := -(s.tick : Int) }
    intlk := { low := s.intlk.low }
    mouts := (outputs.filter fun n => (s.mout n).arrStat).map fun n => (n, { arrStat := true })
    sec := { records := s.sec.records, slots := s.sec.slots, keys := s.sec.keys, configs := s.sec.configs
             rollback := s.sec.rollback, digests := s.sec.digests, revoked := s.sec.revoked } }

/-- A pin level that holds through a loss of power shows at once: the INTLK cause. -/
def State.pinsShow (s : State) : State := if s.intlk.low then (s.forceAll allBanks causeIntlk).intlkState else s

/-- VAUX_RELEASE: the island leaves reset and the cold start begins (Table 17-4). -/
def State.vauxRelease (s : State) : State :=
  if s.opState ≠ cold then s
  else
    let s := if s.obj O.ptlResetCause = 1 then s.raise 240 [] else s
    (s.setOp boot 4).groupOn 0

def execVauxRelease (t : Nat) (s : State) : Host.Outcome State Fault Refusal := .next (s.at t).vauxRelease

/-- VAUX_WARNING: VAUX crosses the warning threshold; E239 once per episode. -/
def State.vauxWarning (s : State) (below : Bool) : State :=
  if s.opState = cold || s.power.warn = below then s
  else
    let s := s.setPower { s.power with warn := below }
    if below then s.raise 239 [] else s

def execVauxWarning (t : Nat) (below : Bool) (s : State) : Host.Outcome State Fault Refusal := .next ((s.at t).vauxWarning below)

/-- BROWN_OUT: every lane low, every enable off at once, state COLD; the island keeps its log and records the cause. -/
def State.brownOut (s : State) : State :=
  if s.opState = cold then s
  else
    let s := (s.setOp cold 5).groupsOff [0, 1, 2, 3]
    let log := s.blob O.ptlLog
    ((s.powerLost.setObj O.ptlResetCause 1).setBlob O.ptlLog log).pinsShow

def execBrownOut (t : Nat) (s : State) : Host.Outcome State Fault Refusal := .next (s.at t).brownOut

/-- ISLAND_POWER_ON_RESET: island state is lost, and the cause reads POWER_ON. -/
def State.islandReset (s : State) : State := ((s.setOp cold 5).groupsOff [0, 1, 2, 3]).powerLost.pinsShow

def execIslandPowerOnReset (t : Nat) (s : State) : Host.Outcome State Fault Refusal := .next (s.at t).islandReset

/-! ### Rail groups (R473, R474) -/

/-- The nominal voltage of a rail; for VDD_CORE the target in force (Table 17-14). -/
def State.railNom (s : State) (r : Nat) : Nat := if r = 0 then s.obj O.ageVcoreTarget else s.obj (O.pwrRailNom r)

/-- A monitor reads within 5 % of nominal. -/
def State.railWithin (s : State) (r mv : Nat) : Bool := let n := s.railNom r; decide (19 * n ≤ 20 * mv) && decide (20 * mv ≤ 21 * n)

/-- Monitor readings are shown. -/
def State.showMv (s : State) (mv : List Nat) : State := s.setObjs ((List.range 9).filterMap fun r => mv[r]?.map fun v => (O.pwrRailMv r, min v 65535))

/-- The sequence of a warm wake runs, before READY or after a late one. -/
def State.waking (s : State) : Bool := s.power.wakeAt.isSome

/-- The domains of the main rails run again in a warm wake (Table 17-9): self-refresh exit, the management firmware, the loop engine, lamp wires and arrays. `geo` is what the arrays'
registers give. -/
def State.domainsUp (s : State) (geo : List (Nat × Nat)) : State :=
  let s := s.ranksOn.foldl (fun (s : State) x => s.setRank x.1 x.2 { s.rank x.1 x.2 with nextRef := s.tick + s.refi x.1 x.2, lastMr4 := 0, pd := false }) s
  let s := (s.mgmtReset 2).engineStart
  let s := allBanks.foldl (fun (s : State) w => if s.objB (O.lwEnable w) then s.wireInit w else s) s
  let s := outputs.foldl (fun (s : State) n => if s.objB (O.moutEnable n) then (let g := geo.getD n (0, 0); s.bringup n g.1 g.2) else s) s
  let late := s.opState != standby
  s.setPower { s.power with awake := !late, step := none, wakeAt := if late then none else s.power.wakeAt }

/-- RAIL_GROUP_GOOD: every rail of the group that the sequence waits for has read within 5 % for 100 µs. `straps` are the SLOT_ID pins (R400). -/
def State.groupGood (s : State) (g : Nat) (mv : List Nat) (straps : Nat) (geo : List (Nat × Nat)) : State :=
  let p := s.power
  if p.step ≠ some g || bit p.good g || s.tick < p.stepAt + usTicks 100 || !(groupRails g).all (fun r => s.railWithin r (mv.getD r 0)) then s
  else
    let s := (s.setPower { p with good := setBit p.good g }).showMv mv
    let s := s.setObjs ((groupRails g).map fun r => (O.pwrRailState r, 1))
    if s.waking then (if g < 2 then s.groupOn (g + 1) else s.domainsUp geo)
    else
      let s := if g = 0 then s.setHier { s.hier with slotId := straps % 256 } else s
      let s := if g = 1 && !s.time.pllLocked then s.startRun 0x10 0 0 [] else s
      s.coldNext g

def execRailGroupGood (t : Nat) (g : Fin 4) (mv : List Nat) (straps : Nat) (geo : List (Nat × Nat)) (s : State) : Host.Outcome State Fault Refusal :=
  .next ((s.at t).groupGood g.val mv straps geo)

/-- The group that the sequence waits for has failed: it is not good in time, or in step 3 the root PLL has not locked (Table 17-4). -/
def State.groupLate (s : State) : Option Nat :=
  match s.power.step with
  | none => none
  | some g =>
    let limit := s.power.stepAt + msTicks (s.obj O.pwrRailTimeout)
    let limit := if bit s.power.good g then limit + msTicks 50 else limit
    if s.tick < limit || (bit s.power.good g && s.time.pllLocked) then none else some g

/-- RAIL_GROUP_TIMEOUT in a cold start (R474). -/
def State.groupTimeout (s : State) (rail : Nat) : State :=
  match s.groupLate with
  | none => s
  | some _ =>
    if s.waking || s.opState ≠ boot then s
    else
      let s := (s.groupsOff [3, 2, 1, 0]).raise 241 [rail]
      let s := s.ptlLog (Config.railLogRule rail) 1
      let s := s.cal.runs.foldl (fun (s : State) x => (s.rejectRun x).endRun x 4 St.calTimeout) s
      let s := s.setCal { s.cal with runs := [] }
      let n := s.power.tries + 1
      s.showRuns.setPower { s.power with tries := n, retryAt := if n < 3 then some (s.tick + msTicks (s.obj O.pwrRetryDelay)) else none }

def execRailGroupTimeout (t : Nat) (rail : Fin 8) (s : State) : Host.Outcome State Fault Refusal := .next ((s.at t).groupTimeout rail.val)

/-- COLD_START_RETRY: from step 2 again. -/
def State.coldRetry (s : State) : State :=
  match s.power.retryAt with
  | none => s
  | some a => if s.tick < a || s.opState ≠ boot then s else (s.setPower { s.power with retryAt := none }).groupOn 0

def execColdStartRetry (t : Nat) (s : State) : Host.Outcome State Fault Refusal := .next (s.at t).coldRetry

/-! ### Regulators and monitors (R475) -/

/-- A rail presents RAIL_FAULT; E241 once per episode. -/
def State.railFaults (s : State) (r : Nat) : State :=
  if bit s.power.faults r then s
  else
    let s := s.setPower { s.power with faults := setBit s.power.faults r }
    let s := if bit s.power.groups (railGroup r) && s.obj (O.pwrRailState r) ≠ 3 then s.setObj (O.pwrRailState r) 2 else s
    s.raise 241 [r]

/-- The episode of a rail ends. -/
def State.railClears (s : State) (r : Nat) : State :=
  if !bit s.power.faults r then s
  else
    let s := s.setPower { s.power with faults := clearBit s.power.faults r }
    if s.obj (O.pwrRailState r) = 2 then s.setObj (O.pwrRailState r) (boolNat (bit s.power.good (railGroup r))) else s

/-- RAIL_FAULT: a monitor has read outside 5 % for 100 µs while its group is on and good. -/
def State.railFault (s : State) (r mv : Nat) : State :=
  if s.opState = cold || !bit s.power.good (railGroup r) || s.railWithin r mv then s else (s.setObj (O.pwrRailMv r) (min mv 65535)).railFaults r

def execRailFault (t : Nat) (r : Fin 8) (mv : Nat) (s : State) : Host.Outcome State Fault Refusal := .next ((s.at t).railFault r.val mv)

/-- The bits of STATUS_WORD that R475 names: VOUT, IOUT, INPUT, OFF, TEMPERATURE, at their PMBus 1.3 positions. -/
def statusBad (w : Nat) : Bool := [15, 14, 13, 6, 2].any (bit w)

/-- One regulator's answer; a rail in VOUT_MODE other than ULINEAR16 is CONFIG_BAD. -/
def State.pollRail (s : State) (r : Nat) (mv : Option Nat) (x : Option Pmbus) : State :=
  let x := if s.obj (O.pwrRailPmbus r) = 0xFF then none else x
  let s := match x with
    | some y =>
      let s := s.setObjs [(O.pwrRailIout r, min y.iout 4294967295), (O.pwrRailStatus r, y.status % 65536)]
      if y.modeOk then s else s.setObj (O.pwrRailState r) 3
    | none => s
  let bad := match x with | some y => statusBad y.status | none => false
  let off := match mv with | some v => bit s.power.good (railGroup r) && decide (r < 8) && !s.railWithin r v | none => false
  if bad then s.railFaults r else if off then s else s.railClears r

/-- VDD_CORE goes on toward `AGE_VCORE_TARGET` in steps of at most 5 mV. -/
def State.vcoreStep (s : State) (x : Pmbus) : State :=
  let last := s.power.vcmd
  let want := s.obj O.ageVcoreTarget
  let near := decide (x.vout ≤ last + 5) && decide (last ≤ x.vout + 5)
  if last = 0 || want = last || !bit s.power.good 2 || !x.modeOk || !near || s.tick < s.power.vcmdAt + msTicks 10 then s
  else s.vcore (if last < want then min want (last + 5) else max want (last - 5))

/-- PMBUS_POLL: every 10 ms outside STANDBY. -/
def State.pmbusPoll (s : State) (mv : List Nat) (regs : List (Option Pmbus)) : State :=
  let due := match s.power.lastPoll with | some a => decide (a + msTicks 10 ≤ s.tick) || !s.time.pllLocked | none => true
  if s.opState = cold || s.opState = standby || !due then s
  else
    let s := (s.setPower { s.power with lastPoll := some s.tick }).showMv mv
    let s := (List.range 9).foldl (fun (s : State) r => s.pollRail r mv[r]? (regs.getD r none)) s
    match regs.getD 0 none with
    | some x => if s.obj (O.pwrRailPmbus 0) = 0xFF then s else s.vcoreStep x
    | none => s

def execPmbusPoll (t : Nat) (mv : List Nat) (regs : List (Option Pmbus)) (s : State) : Host.Outcome State Fault Refusal := .next ((s.at t).pmbusPoll mv regs)

/-! ### Standby entry (R481, Table 17-8) -/

/-- One output stops: gates dark, PARK at the next tick, no transfer, no measurement; its array is let go. -/
def State.standbyOutput (s : State) (n : Nat) : State :=
  let s := s.forceAll (s.outBanks n) causeDark
  let s := (s.park n (s.tick + 1)).setSlm n { s.slm n with stored := 0, raw := 0, ratios := [], outQ := [] }
  let s := s.setMout n { s.mout n with sigs := [], signed := [], chg := 0, skipCmp := true }
  let s := (s.setObj (O.slmCompRatio n) 65536).slalomSwap n
  let s := (s.camsOf n).foldl State.camStop s
  if s.objB (O.moutEnable n) then s.arrayOff n else s

/-- A timing generator stops: composition is abandoned, a commit still to begin is cancelled, one in its dark interval is replaced by the restart at READY. -/
def State.standbyTg (s : State) (n : Nat) : State :=
  let s := s.abandon n (tickInstant s.studio)
  let x := s.tg n
  let s := match x.commit with
    | none => s
    | some c =>
      if x.dark then (s.setSlm n { s.slm n with active := c.plan }).setObj (O.tgCommitState n) 0
      else if c.host then s.tgCancelled n c else s.setObj (O.tgCommitState n) 0
  let s := s.setTg n { s.tg n with running := false, dark := false, commit := none }
  s.setSlm n { s.slm n with composing := none, inactive := none, planning := none, frontPlan := [], swapReq := none, swapTable := none }

/-- Carve and codec jobs end ABORTED, and no tile is left. -/
def State.standbyJobs (s : State) : State :=
  let s := s.carve.jobs.foldl (fun (s : State) j => s.endJob j.1 4 0 j.2) s
  let s := s.codecJobs.foldl (fun (s : State) j => s.endCodec j.1 4 0 j.2) s
  s.dropTiles fun _ => true

/-- What waits at the memory ports and is to be written is written; reads have no one to go to. Then the owed refreshes, and self-refresh (R303, R325). -/
def State.standbyMem (s : State) : State :=
  let writes := s.memc.ports.flatMap fun p => p.2.waiting.filter (·.write)
  let s := writes.foldl (fun (s : State) r => s.memEnter r) s
  let s := if s.memc.freqReq.isSome then s.freqEnds 0 2 St.aborted else s
  let s := s.setMemc { s.memc with
    ports := s.memc.ports.map fun p => (p.1, { p.2 with waiting := [], oop := none })
    subs := s.memc.subs.map fun p => (p.1, { p.2 with queue := [] })
    rows := [], back := [] }
  s.setObjs (s.ranksOn.map fun x => (refOwed x.1 x.2, 0))

/-- Every raise is captured, and the FIFO goes to the log ring, as far as the ring takes it. -/
def State.flushEvents (s : State) : Nat → State
  | 0 => s
  | n + 1 =>
    match s.ev.raised with
    | _ :: _ => s.capture.flushEvents n
    | [] =>
      match s.ev.fifo with
      | [] => s
      | l =>
        let s := (s.setEv { s.ev with lastDrain := 0 }).drain
        if s.ev.fifo.length = l.length then s else s.flushEvents n

/-- The capture FIFO is drained within a millisecond of the decision. -/
def State.standbyEvents (s : State) : State :=
  let now := s.tick
  let s := ({ s with tick := now + msTicks 1 } : State).flushEvents 1024
  { s.setEv { s.ev with lastDrain := (now + msTicks 1) / periTicks } with tick := now }

/-- What stops at a standby decision (Table 17-8): calibration runs, composition, gates and transfers, lamp wires, jobs, the network but for HOST0. -/
def State.standbyStops (s : State) : State :=
  let s := s.raise 242 []
  let s := s.cal.runs.foldl (fun (s : State) x => s.endRun x 4 St.calInterrupted) s
  let s := (s.setCal { s.cal with runs := [], startQ := [] }).showRuns
  let s := s.setOp standby 6
  let s := outputs.foldl State.standbyTg s
  let s := outputs.foldl State.standbyOutput s
  let s := allBanks.foldl (fun (s : State) w => if s.objB (O.lwEnable w) then ((s.setWire w {}).setObj (O.lwLoadState w) 0).forceSet w causeLoad else s) s
  ([1, 2, 3].foldl State.linkDown s.standbyJobs).bump O.pwrStandbyCount

/-- STANDBY_ENTRY at the decision; it ends at tick `finish`, at most 10 ms later. -/
def State.standbyEntry (s : State) (finish : Nat) : State :=
  let st := s.opState
  if !s.power.standbyReq || st < normal || recovery < st then s
  else
    let s := s.standbyStops.standbyMem
    let s := (s.setObj O.ptlWarm 1).standbyEvents
    let s := s.groupsOff [2, 1, 0]
    { s with
      intlk := { s.intlk with inStandby := s.intlk.low }
      net := { s.net with wake := false }
      power := { s.power with
        held := st, entryEnd := min (max s.tick finish) (s.tick + msTicks 10), standbyReq := false
        wakeReq := none, wakeAt := none, awake := false, netwake := false } }

def execStandbyEntry (t finish : Nat) (s : State) : Host.Outcome State Fault Refusal := .next ((s.at t).standbyEntry finish)

/-- COLD_STANDBY (R484): from BOOT or STARTUP, every group goes off. -/
def State.coldStandby (s : State) : State :=
  let st := s.opState
  if !s.power.standbyReq || !(st = boot || st = startup) then s
  else
    let s := (s.standbyStops.setObj O.ptlWarm 0).groupsOff [3, 2, 1, 0]
    { s with
      intlk := { s.intlk with inStandby := s.intlk.low }
      net := { s.net with wake := false }
      power := { s.power with
        held := st, entryEnd := s.tick, standbyReq := false, wakeReq := none, wakeAt := none, awake := false, netwake := false, tries := 0, retryAt := none } }

def execColdStandby (t : Nat) (s : State) : Host.Outcome State Fault Refusal := .next (s.at t).coldStandby

/-! ### The warm wake (R482, R483, R486) -/

/-- The decision tick of a wake that is due. -/
def State.wakeDue (s : State) : Option Nat :=
  match s.power.wakeReq with
  | some d => if s.opState = standby && s.power.wakeAt.isNone && decide (d ≤ s.tick) then some d else none
  | none => none

/-- WARM_WAKE: VOUT_COMMAND of VDD_CORE and EN0 (Table 17-9). -/
def State.warmWake (s : State) : State :=
  match s.wakeDue with
  | some d =>
    if !s.objB O.ptlWarm then s
    else ((s.setPower { s.power with wakeAt := some d, wakeReq := none }).vcore (s.obj O.ageVcoreTarget)).groupOn 0
  | none => s

def execWarmWake (t : Nat) (s : State) : Host.Outcome State Fault Refusal := .next (s.at t).warmWake

/-- At READY, tick `r`, an enabled timing generator restarts under R55 with T_req = READY (R483). -/
def State.restartTg (s : State) (r n : Nat) : State :=
  if !s.objB (O.tgEnable n) || s.leadOf n ≠ n then s
  else
    let bOld := tickInstant (s.studioAt r)
    let g := s.timing n
    let k := g.enableFrom bOld
    let c : TgCommit := ⟨false, [], true, false, false, false, none, bOld, some (g.boundary k, k.toNat), false, [], [], []⟩
    (s.setTg n { s.tg n with commit := some c }).setObjs [(O.tgCommitState n, 1), (O.tgBOld n, bOld.stime), (O.tgBNew n, (g.boundary k).stime)]

/-- INTLK_N low at some time since the entry sets the latch (R486). -/
def State.standbyIntlk (s : State) : State :=
  let hit := s.intlk.inStandby || s.intlk.low
  let s := { s with intlk := { s.intlk with inStandby := false } }
  if hit then s.latchIntlk.intlkState else s

/-- WAKE_READY: the tick 247,500,000 after the decision. A step not finished by then makes it late. -/
def State.wakeReady (s : State) : State :=
  match s.power.wakeAt with
  | none => s
  | some d =>
    if s.opState ≠ standby || s.tick < d + wakeTicks then s
    else
      let late := !s.power.awake || s.resil.procDown
      let held := s.power.held
      let s := s.standbyIntlk
      let s := if late then s.setObj O.pwrRecoveryCause (setBit (s.obj O.pwrRecoveryCause) recWake) else s
      let s := if late then s.setOp recovery recWake
        else
          let c := s.obj O.pwrRecoveryCause
          let s := s.setOp held 7
          if c ≠ 0 && held ≠ recovery then s.setOp recovery ((bitsOf 3 c).headD 0) else s
      let s := (s.setObj O.ptlWakeResult (if late then 2 else 1)).raise (if late then 244 else 243) (if late then [2] else [])
      let s := if s.net.wake then (s.setNet { s.net with wake := false }).raise 192 [0] else s
      let s := s.setPower { s.power with wakeAt := if s.power.awake then none else some d, awake := false }
      outputs.foldl (fun (s : State) n => s.restartTg (d + wakeTicks) n) s

def execWakeReady (t : Nat) (s : State) : Host.Outcome State Fault Refusal := .next (s.at t).wakeReady

/-- WAKE_RAIL_FAIL: a group is not good in time in a wake; the device stays in warm STANDBY. -/
def State.wakeRailFail (s : State) (rail : Nat) : State :=
  match s.groupLate with
  | none => s
  | some _ =>
    if !s.waking then s
    else
      -- after a late READY the outputs stop again
      let s := if s.opState = standby then s else outputs.foldl State.standbyOutput (outputs.foldl State.standbyTg ((s.clearRecovery recWake).setOp standby 6))
      let s := (s.groupsOff [2, 1, 0]).raise 241 [rail]
      let s := s.setPower { s.power with wakeAt := none, wakeReq := none, awake := false }
      (s.setObj O.ptlWakeResult 3).raise 244 [3]

def execWakeRailFail (t : Nat) (rail : Fin 8) (s : State) : Host.Outcome State Fault Refusal := .next ((s.at t).wakeRailFail rail.val)

/-! ### The cold wake (R484) -/

/-- The objects that the island keeps through a cold standby: studio time's, Patrol's and power's. -/
def islandKeeps (ref : Nat) : Bool := refIndex ref == 0x2000 || (decide (0x3100 ≤ refIndex ref) && decide (refIndex ref < 0x3150))

/-- COLD_WAKE: what the main rails held is gone; the cold start runs. -/
def State.coldWake (s : State) : State :=
  match s.wakeDue with
  | none => s
  | some _ =>
    if s.objB O.ptlWarm then s
    else
      let z := s.powerLost
      let w : State := { z with
        objs := s.objs.filter fun e => islandKeeps e.1
        blobs := s.blobs.filter fun e => islandKeeps e.1
        time := s.time, power := { s.power with wakeReq := none, wakeAt := none, awake := false, tries := 0, retryAt := none }
        ev := { raised := s.ev.raised, fifo := s.ev.fifo }
        intlk := { low := s.intlk.low } }
      let hit := s.intlk.inStandby
      let w := w.pinsShow
      let w := if hit then w.latchIntlk.intlkState else w
      ((w.setObj O.ptlWakeResult 4).raise 244 [4]).setOp boot 7 |>.groupOn 0

def execColdWake (t : Nat) (s : State) : Host.Outcome State Fault Refusal := .next (s.at t).coldWake

end Sys2Proof.Machine
end

