-- ==== Sys2Proof/Machine/Writes.lean ====
section
/-! DEFINITION. Writing any object of the dictionary (R375, R381, R393, R396, R505): which effect each object has, the requests WRITE and WRITE_MULTI, the clear of a
counter, the restore of defaults and the change of the UDP port. -/

namespace Sys2Proof.Machine

/-- A mesh or blend map has the size that its output's array gives it, or is empty; a blend factor is at most 32,768 (R253, R254). -/
def effMap : Effect := fun _ _ r ref v s =>
  let m := (refSub ref - 0x24) % 4
  let mesh := decide (refSub ref < 0x28)
  let size := if mesh then meshBytes (s.arrayW m) (s.arrayH m) else blendBytes (s.arrayW m) (s.arrayH m)
  if v.length ≠ 0 && v.length ≠ size then refuse s St.badSize
  else if !mesh && (List.range (v.length / 2)).any fun i => decide (32768 < leAt v (2 * i) 2) then refuse s St.badValue
  else done (s.store r ref v)

/-- A kernel image, a calibration snapshot and a firmware image that fit in one message (R248, R457, R525). -/
def effKernelStage : Effect := fun _ _ _ _ v s => let (st, s) := s.installKernel v; ⟨st, [], s⟩
def effCalRestore : Effect := fun _ _ _ _ v s => let (st, s) := s.restore v; ⟨st, [], s⟩
def effSecStage : Effect := fun _ _ _ _ v s =>
  if s.activating then refuse s St.fwState
  else if s.staging then refuse s St.noSlot
  else let (st, s) := s.stage v; ⟨st, [], s⟩

/-- A write of `DICT_UDP_PORT` (R396): the port served so far is served for another second. -/
def effUdpPort : Effect := fun _ _ r ref v s =>
  let old := s.resil.oldPort.getD (s.obj O.dictUdpPort)
  let s := s.store r ref v
  done { s with resil := { s.resil with oldPort := some old, portAt := s.tick } }

/-- Objects and their effects: first index, number of indices, first and last sub-index, effect. An object not listed is stored. -/
def effectTable (e : WriteEnv) : List (Nat × Nat × Nat × Nat × Effect) := [
  (0x2000, 1, 0x15, 0x15, effTimeSet), (0x2000, 1, 0x04, 0x06, effTimeSetting), (0x2000, 1, 0x09, 0x0A, effTimeSetting),
  (0x2110, 4, 0x0D, 0x0D, effTgCancel),
  (0x2200, 1, 0x01, 0x01, effCredit), (0x2210, 4, 0x42, 0x42, effPlanSwap),
  (0x2300, 1, 0x01, 0x01, effLwTiming), (0x2300, 1, 0x03, 0x03, effIntlkRearm),
  (0x2310, 16, 0x01, 0x01, effGateEnable), (0x2310, 16, 0x02, 0x03, effGateOwner), (0x2310, 16, 0x05, 0x05, effDrvLatency), (0x2310, 16, 0x06, 0x06, effGateVernier),
  (0x2310, 16, 0x09, 0x09, effGateRearm), (0x2310, 16, 0x0B, 0x0B, effFadeLevel),
  (0x2320, 16, 0x01, 0x01, effLwEnable), (0x2320, 16, 0x02, 0x02, effLwTiming), (0x2320, 16, 0x05, 0x05, effLwRearm), (0x2320, 16, 0x07, 0x07, effLwLimits),
  (0x2410, 6, 0x01, 0x02, effPrimXY), (0x2410, 6, 0x04, 0x04, effTtable),
  (0x2520, 8, 0x01, 0x01, effCamMonitor), (0x2520, 8, 0x02, 0x05, effCamStaged), (0x2520, 8, 0x06, 0x07, effCamDivider), (0x2520, 8, 0x0A, 0x0A, effCamMonitor),
  (0x2120, 4, 0x01, 0x01, effMoutEnable e.cols e.rows), (0x2120, 4, 0x02, 0x03, effMoutGeometry), (0x2120, 4, 0x07, 0x07, effMoutGeometry), (0x2120, 4, 0x0A, 0x0A, effTlVernier),
  (0x2120, 4, 0x0C, 0x0C, effMoutGeometry), (0x2120, 4, 0x0D, 0x0D, effLaneRestore e.lock), (0x2120, 4, 0x10, 0x10, effFreezeClear),
  (0x2600, 1, 0x01, 0x01, effAlloc), (0x2600, 1, 0x07, 0x07, effLayCancel),
  (0x2610, 64, 0x49, 0x49, effFlip), (0x2610, 64, 0x4B, 0x4B, effPlaylist), (0x2610, 64, 0x4C, 0x4C, effPlay),
  (0x4001, 16383, 0x0C, 0x0C, effBufFree),
  (0x2700, 1, 0x07, 0x07, effKernelStage), (0x2700, 1, 0x09, 0x09, effKernelRemove), (0x2700, 1, 0x0D, 0x0D, effCrvJob), (0x2700, 1, 0x0E, 0x0E, effCrvJobCancel),
  (0x2700, 1, 0x24, 0x2B, effMap), (0x2710, 16, 0x01, 0x01, effClOnline),
  (0x2800, 1, 0x01, 0x01, effCodecJob), (0x2800, 1, 0x02, 0x02, effCodecCancel),
  (0x2900, 1, 0x02, 0x02, effFreqTarget), (0x2900, 1, 0x08, 0x08, effTsetSel), (0x2900, 1, 0x0A, 0x0C, effMapping), (0x2900, 1, 0x0F, 0x0F, effUrgent),
  (0x2920, 24, 0x02, 0x02, effPortRate), (0x2920, 24, 0x03, 0x03, effPortBurst),
  (0x2A00, 1, 0x09, 0x09, effSweep), (0x2A00, 1, 0x0A, 0x0A, effSweepCancel), (0x2A00, 1, 0x0D, 0x0D, effRetireList),
  (0x2B10, 4, 0x01, 0x01, effPortEnable),
  (0x1010, 1, 0x01, 0x01, effUdpPort),
  (0x2C00, 1, 0x04, 0x04, effNodeId), (0x2C00, 1, 0x0D, 0x0D, effSysWindow), (0x2C00, 1, 0x0F, 0x11, effSysWindow), (0x2C00, 1, 0x13, 0x13, effStbLeader), (0x2C00, 1, 0x16, 0x16, effStbProbe),
  (0x2C00, 1, 0x18, 0x18, effHierFence), (0x2C00, 1, 0x19, 0x19, effServiceMode),
  (0x2C10, 1, 0x01, 0x01, effNodeSel), (0x2C10, 1, 0x0C, 0x0C, effNodeCapture e.image), (0x2C10, 1, 0x0D, 0x0D, effNodeRelease), (0x2C10, 1, 0x0E, 0x0E, effNodeAdopt e.hs),
  (0x3000, 256, 0x01, 0x01, effLoopMode), (0x3000, 256, 0x08, 0x09, effLoopSetpoint), (0x3000, 256, 0x0B, 0x0B, effLoopCoef), (0x3000, 256, 0x0C, 0x0D, effLoopLimit),
  (0x3000, 256, 0x11, 0x11, effLoopCoef), (0x3000, 256, 0x12, 0x15, effLoopRegion), (0x3000, 256, 0x20, 0x3C, effLoopCoef), (0x3000, 256, 0x47, 0x47, effLoopFlags),
  (0x3010, 16, 0x80, 0x81, effLoopPeriod), (0x3010, 16, 0x85, 0x85, effLoopClear), (0x3020, 24, 0x81, 0x81, effAinTable),
  (0x2E00, 1, 0x01, 0x01, effCalRun), (0x2E00, 1, 0x02, 0x02, effCalCancel), (0x2E00, 1, 0x05, 0x05, effCalRestore),
  (0x2F00, 1, 0x07, 0x07, effVcoreTarget),
  (0x3100, 1, 0x02, 0x02, effStateReq), (0x3100, 1, 0x06, 0x06, effWakeAt), (0x3120, 32, 0x01, 0x01, effPtlRule), (0x3120, 32, 0x03, 0x03, effRuleClear),
  (0x3200, 1, 0x01, 0x01, effEvtMask), (0x3200, 1, 0x05, 0x05, effLogRead), (0x3200, 1, 0x07, 0x07, effLogReset), (0x3200, 1, 0x09, 0x09, effLostMap), (0x3200, 1, 0x0C, 0x0C, effCountClear),
  (0x3300, 1, 0x05, 0x05, effSecStage), (0x3300, 1, 0x07, 0x07, effActivate), (0x3300, 1, 0x0B, 0x0B, effRollbackAdvance), (0x3300, 1, 0x0E, 0x0E, effQuoteReq),
  (0x3300, 1, 0x14, 0x14, effExtend), (0x3300, 1, 0x1A, 0x1A, effKeyEnrol), (0x3300, 1, 0x1B, 0x1B, effKeyRevoke), (0x3300, 1, 0x1C, 0x1C, effConfigSave),
  (0x3300, 1, 0x1F, 0x1F, effJtagUnlock), (0x3300, 1, 0x20, 0x20, effJtagLock), (0x3300, 1, 0x22, 0x22, effFwClear)]

/-- The effect of a write of an object, but for `DICT_RESTORE`. -/
def effectOf (e : WriteEnv) (ref : Nat) : Effect :=
  let ix := refIndex ref
  let sub := refSub ref
  match (effectTable e).find? fun x => decide (x.1 ≤ ix) && decide (ix < x.1 + x.2.1) && decide (x.2.2.1 ≤ sub) && decide (sub ≤ x.2.2.2.1) with
  | some x => x.2.2.2.2
  | none => storeEffect

/-- Nothing found outside the message. -/
def noEnv : WriteEnv := ⟨0, 0, 0, [], none⟩

/-! ### Defaults (R393) -/

/-- Ranges that are never restored. -/
def neverRestored (ix : Nat) : Bool :=
  (0x1000 ≤ ix && ix ≤ 0x1FFF) || (0x2C00 ≤ ix && ix ≤ 0x2CFF) || (0x2E00 ≤ ix && ix ≤ 0x2EFF) || (0x3300 ≤ ix && ix ≤ 0x33FF) || (0x4000 ≤ ix && ix ≤ 0x7FFF)

/-- The default of an object: its table's, or what calibration and STARTUP set where the table says so (`NET_PORT_TX_LAT`, `NET_PORT_RX_LAT`, `MEM_TSET`). -/
def State.defaultOf (s : State) (r : ObjRow) (n ref : Nat) : List Byte :=
  if ref = O.memTset then s.memc.tsetDflt
  else if refIndex ref = 0x2B10 + n && (refSub ref == 0x08 || refSub ref == 0x09) then beBytes 4 (leAt (s.coef 0x12 n) (4 * (refSub ref - 7)) 4)
  else if r.ty.isBlob then dfltBytes r.dflt n
  else beBytes r.ty.size (dfltNum r.dflt n)

/-- The objects of an index range in index order: reference, row, instance. -/
def rangeRefs (lo hi : Nat) : List (Nat × ObjRow × Nat) :=
  (List.range (hi + 1 - lo)).flatMap fun k =>
    let ix := lo + k
    if neverRestored ix then []
    else (objFams.filter fun f => decide (f.base ≤ ix) && decide (ix < f.base + f.count)).flatMap fun f => f.rows.map fun r => (ix * 256 + r.sub, r, ix - f.base)

/-- One object returns to its default: whether it did, and the state. A default that the object's chapter would not take from a host is stored all the same. -/
def State.restoreOne (s : State) (num : Nat) (x : Session) (ref : Nat) (r : ObjRow) (n : Nat) : Bool × State :=
  let v := s.defaultOf r n ref
  if x.level < writeLevel ref then (false, s)
  else if r.acc = .rws then (true, s.store r ref v)
  else if r.acc = .rwi && !s.idle ref then (false, s)
  else
    let a := effectOf noEnv ref num x r ref v s
    (true, if a.status = St.ok then a.st else s.store r ref v)

/-- An owner whose objects lie in the range has a commit pending: a timing generator, or the compositor. -/
def State.commitIn (s : State) (lo hi : Nat) : Bool :=
  (outputs.any fun n => (s.tg n).commit.isSome && decide (lo ≤ 0x2110 + n) && decide (0x2110 + n ≤ hi))
    || (s.layCommit.isSome && decide (lo ≤ 0x26FF) && decide (0x2600 ≤ hi))

/-- A write of `DICT_RESTORE`. -/
def effRestore : Effect := fun num x _ _ v s =>
  let lo := beNat v / 65536
  let hi := beNat v % 65536
  if s.commitIn lo hi then refuse s St.commitPending
  else
    let rows := (rangeRefs lo hi).filter fun p => p.2.1.acc == .rw || p.2.1.acc == .rws || p.2.1.acc == .rwi
    let (a, b, s) := rows.foldl (fun (z : Nat × Nat × State) p =>
      let (ok, s) := z.2.2.restoreOne num x p.1 p.2.1 p.2.2
      (z.1 + boolNat ok, z.2.1 + boolNat (!ok), s)) ((0, 0, s) : Nat × Nat × State)
    doneWith (s.raiseSession 209 num x []) (beBytes 2 a ++ beBytes 2 b)

def execDictRestore (t : Nat) (q : Req) (v : List Byte) (s : State) : Host.Outcome State Fault Refusal := .next ((s.at t).hostWrite q O.dictRestore v effRestore)

/-! ### WRITE, WRITE_MULTI and the clear of a counter -/

/-- The effect of a write of any object. A buffer's bytes move only by block transfer. -/
def anyEffect (e : WriteEnv) (ref : Nat) : Effect := if ref = O.dictRestore then effRestore else effectOf e ref

/-- One write of any object after its level has passed. -/
def writeAny (e : WriteEnv) (num : Nat) (x : Session) (ref : Nat) (v : List Byte) (s : State) : Ans :=
  if isBufData ref && refSub ref == 0x0B then refuse s St.tooLong else writeOne (anyEffect e ref) num x ref v s

/-- WRITE of any object. -/
def State.writeObject (s : State) (q : Req) (ref : Nat) (v : List Byte) (e : WriteEnv) : State :=
  s.request q 0x02 (valueForm ref v) (fastWrite ref) (fun x _ => objectCheck x ref true) (fun num x s => (writeAny e num x ref v s).withRef ref)

def execWrite (t : Nat) (q : Req) (ref : Nat) (v : List Byte) (env : WriteEnv) (s : State) : Host.Outcome State Fault Refusal := .next ((s.at t).writeObject q ref v env)

/-- COUNTER_CLEAR: a write of 0 to a saturating counter (R505). -/
def execCounterClear (t : Nat) (q : Req) (ref : Nat) (v : List Byte) (s : State) : Host.Outcome State Fault Refusal := .next ((s.at t).writeObject q ref v noEnv)

/-- The entries of a WRITE_MULTI in order, each with its own checks from 7 on (R381): the answer's entries, and the state. -/
def writeEntries (num : Nat) (x : Session) : List (Nat × List Byte × WriteEnv) → State → List Byte × State
  | [], s => ([], s)
  | (ref, v, e) :: l, s =>
    let a := match objectCheck x ref true with
      | some st => refuse s st
      | none => writeAny e num ((s.session? num).getD x) ref v s
    let (r, s) := writeEntries num x l a.st
    (Config.multiEntry ref a.status a.result ++ r, s)

/-- A request with several entries: more than 64 make a malformed message; the path is the fast one when every entry is FAST (R382). -/
def State.multi (s : State) (q : Req) (op : Nat) (payload : List Byte) (count : Nat) (fast : Bool) (front : Session → Option Nat) (act : Nat → Session → State → Ans) : State :=
  s.request q op payload fast (fun x _ => if 64 < count then some St.badMessage else front x) act

def State.writeMulti (s : State) (q : Req) (entries : List (Nat × List Byte × WriteEnv)) : State :=
  let own := q.node == s.obj O.dictNodeId
  s.multi q 0x04 (entries.flatMap fun e => valueForm e.1 e.2.1) entries.length (entries.all fun e => fastWrite e.1)
    -- a manager makes these checks for a worker (R408); for itself every entry has its own status
    (fun x => if own then none else entries.findSome? fun e => objectCheck x e.1 true)
    (fun num x s => let (r, s) := writeEntries num x entries s; doneWith s r)

def execWriteMulti (t : Nat) (q : Req) (entries : List (Nat × List Byte × WriteEnv)) (s : State) : Host.Outcome State Fault Refusal := .next ((s.at t).writeMulti q entries)

/-! ### The UDP port (R396) -/

/-- UDP_PORT_SWITCH: one second after the response the old port is no longer served. -/
def State.portSwitch (s : State) : State :=
  if s.resil.oldPort.isSome && decide (s.resil.portAt + secTicks 1 ≤ s.tick) then { s with resil := { s.resil with oldPort := none } } else s

def execUdpPortSwitch (t : Nat) (s : State) : Host.Outcome State Fault Refusal := .next (s.at t).portSwitch

end Sys2Proof.Machine
end

