-- ==== Sys2Proof/Machine/Reads.lean ====
section
/-! DEFINITION. Reading any object of the dictionary (R375, R381), its description (R392), and FENCE (R384): READ, READ_MULTI, DESCRIBE, FENCE. What most objects read is
what the state holds of them; the others are computed when the response is formed. -/

namespace Sys2Proof.Machine

/-- `SLM_HIST`: 768 counts of 4 bytes. -/
def State.histImage (s : State) (n : Nat) : List Byte := (List.range 768).flatMap fun k => leBytes 4 (kvGet (fun _ => (0 : Nat)) (s.slm n).hist k)

/-- `MEM_BW_NOW` in MB/s: the bytes of the last 1 ms; the rounding is open. -/
def State.memBwNow (s : State) : Nat × State :=
  let n : Nat := (s.memc.moved.filter fun m => decide (s.tick < m.1 + msTicks 1)).foldl (fun (a : Nat) m => a + m.2.2) 0
  let (v, s) := s.openRound (n : Int) 1000
  (v.toNat, s)

/-- `MEM_BUSY` of a channel: the data beats of the last second over its two subchannels, in per mille; a burst takes 8 clocks; the rounding is open. -/
def State.memBusy (s : State) (c : Nat) : Nat × State :=
  let n := (s.memc.moved.filter fun m => m.2.1 == c && decide (s.tick < m.1 + ticksPerSec)).length
  let (v, s) := s.openRound ((1000 * n * 8 * dckTicks (s.obj O.memSetpoint) : Nat) : Int) (2 * ticksPerSec)
  (v.toNat, s)

/-- `MEM_PORT_THROTTLED` with the wait in progress. -/
def State.throttledNow (s : State) (p : Nat) : Nat :=
  let n := s.obj (O.memPortThrottled p)
  match (s.mport p).oop with
  | some a => min 0xFFFFFFFF (n + (s.tick - a) * 2 / 20625)
  | none => n

/-- What a numeric object reads, and the state after it was read. -/
def State.readNum (s : State) (x : Session) (ref : Nat) : Nat × State :=
  let ix := refIndex ref
  let sub := refSub ref
  if ref = O.timeNow then (stimeOf s.studio, s)
  else if ref = O.timeFreqCorr then (let (v, s) := s.freqCorr; (satI32 v, s))
  else if ref = O.timeHoldoverEst then s.holdoverEst
  else if ref = O.timeHoldoverElapsed then (s.holdoverElapsed, s)
  else if 0x2310 ≤ ix && ix < 0x2320 then
    if sub = 0x07 then (let s := s.hostDue (ix - 0x2310); (s.obj ref, s)) else (s.obj ref, s)
  else if 0x2440 ≤ ix && ix < 0x2450 then
    if sub = 0x09 then (s.settleWin (ix - 0x2440)).bankPower (ix - 0x2440)
    else if sub = 0x07 || sub = 0x08 || sub = 0x0A then (let s := s.settleWin (ix - 0x2440); (s.obj ref, s))
    else (s.obj ref, s)
  else if 0x2510 ≤ ix && ix < 0x2518 then
    let v := ix - 0x2510
    (if sub = 0x02 then s.viewOnOutputs v else if sub = 0x03 then s.viewCameras v else s.viewDuty v (sub - 4), s)
  else if 0x2120 ≤ ix && ix < 0x2124 && sub = 0x46 then (s.tolerance (ix - 0x2120), s)
  else if 0x2120 ≤ ix && ix < 0x2124 && sub = 0x48 then (s.fifoFill (ix - 0x2120), s)
  else if 0x4001 ≤ ix && sub = 0x0A then (s.bufRefs (ix - 0x4000), s)
  else if 0x2710 ≤ ix && ix < 0x2720 && sub = 0x05 then s.clBusy (ix - 0x2710)
  else if ref = O.crvCodeFree then (s.codeFree, s)
  else if ref = O.codecCompBusy then s.codecBusy true
  else if ref = O.codecDecompBusy then s.codecBusy false
  else if ref = O.memTolMin then (s.tolMin, s)
  else if ref = O.memBwNow then s.memBwNow
  else if 0x2910 ≤ ix && ix < 0x2918 && sub = 0x10 then s.memBusy (ix - 0x2910)
  else if 0x2920 ≤ ix && ix < 0x2940 && sub = 0x07 then (s.throttledNow (ix - 0x2920), s)
  else if ref = O.intgStalePages then (s.stalePages.length, s)
  else if 0x2B10 ≤ ix && ix < 0x2B14 && sub = 0x0C then (min (2 ^ 64 - 1) (s.obj ref + kvGet (fun _ => 0) s.sent (ix - 0x2B10)), s)
  else if ref = O.hierNodeSel then (x.nodeSel, s)
  else if ix = 0x2C10 then ((s.node x.nodeSel).window sub, s)
  else if 0x3140 ≤ ix && ix < 0x3149 && sub = 0x01 then (s.railNom (ix - 0x3140), s)
  else if ref = O.evtFifoFill then (s.ev.fill, s)
  else (s.obj ref, s)

/-- What a DOMAIN or STR reads, and the state after it was read. -/
def State.readBlob (s : State) (x : Session) (ref : Nat) : List Byte × State :=
  let ix := refIndex ref
  let sub := refSub ref
  if 0x2210 ≤ ix && ix < 0x2214 && sub = 0x40 then (planImage (s.slm (ix - 0x2210)).active, s)
  else if 0x2210 ≤ ix && ix < 0x2214 && sub = 0x45 then (s.histImage (ix - 0x2210), s)
  else if 0x2A10 ≤ ix && ix < 0x2A18 && sub = 0x08 then (s.trackImage (ix - 0x2A10), s)
  else if ref = O.crvKernelList then (s.kernelList, s)
  else if ref = O.calSnapshot then (s.snapshot, s)
  else if 0x2E11 ≤ ix && ix < 0x2E30 && sub = 0x03 then (s.coefImage (ix - 0x2E10), s)
  else if ref = O.hierNodeRings then ((s.node x.nodeSel).rings, s)
  else if ref = O.evtLog then (s.logImage, s)
  else if ref = O.evtLostMap then (mapImage s.ev.lostMap, s)
  else if ref = O.evtLost then (countImage s.ev.losts, s)
  else if ref = O.evtCount then (countImage s.ev.counts, s)
  else if ref = O.evtCountSat then (mapImage s.ev.satBits ++ mapImage (s.ev.satBits / 2 ^ 256), s)
  else if ref = O.evtSatList then (s.ev.satList.flatMap refBytes, s)
  else if ref = O.evtLayout then (layoutImage, s)
  else if ref = O.secBootRecord then (s.sec.record, s)
  else if ref = O.secIdCert then (Config.identityCert, s)
  else if ref = O.secIdKey then (Config.identityKey, s)
  else if ref = O.secJtagChallenge then s.newChallenge
  else (s.blob ref, s)

/-- The value of an object as its bytes (R375). -/
def State.readValue (s : State) (x : Session) (r : ObjRow) (ref : Nat) : List Byte × State :=
  if r.ty.isBlob then s.readBlob x ref
  else
    let (v, s) := s.readNum x ref
    (beBytes r.ty.size v, s)

/-- The bytes of value that one response can carry behind `used` others (R371, R373, R375). -/
def State.valueRoom (s : State) (used : Nat) : Nat := s.maxMessage - 40 - used

/-- Checks 9 to 11 of R381 on a read that has passed 7 and 8: the value, or a refusal; nothing is read for a value that does not fit. -/
def readOne (x : Session) (ref room : Nat) (s : State) : Ans :=
  match findRef ref with
  | none => refuse s St.noObject
  | some (r, _) =>
    if r.acc = .wo then refuse s St.writeOnly
    else if isBufData ref && refSub ref == 0x0B then refuse s St.tooLong
    else
      let (v, s') := s.readValue x r ref
      if room < v.length then refuse s St.tooLong else doneWith s' v

/-- The read of an object is FAST (R382). -/
def readFast (ref : Nat) : Bool := match findRef ref with | some (r, _) => fastRead r ref | none => false

/-- READ. -/
def State.readObject (s : State) (q : Req) (ref : Nat) : State :=
  s.request q 0x01 (refBytes ref) (readFast ref) (fun x _ => objectCheck x ref false)
    (fun _ x s =>
      let a := readOne x ref (s.valueRoom 0) s
      if a.status = St.ok then { a with result := valueForm ref a.result } else a)

def execRead (t : Nat) (q : Req) (ref : Nat) (s : State) : Host.Outcome State Fault Refusal := .next ((s.at t).readObject q ref)

/-- The entries of a READ_MULTI in order: the answer's entries, and the state. A value for which the response has no room is TOO_LONG. -/
def readEntries (x : Session) : List Nat → Nat → State → List Byte × State
  | [], _, s => ([], s)
  | ref :: l, used, s =>
    let a := match objectCheck x ref false with
      | some st => refuse s st
      | none => readOne x ref (s.valueRoom used) s
    let e := Config.multiEntry ref a.status a.result
    let (r, s) := readEntries x l (used + e.length) a.st
    (e ++ r, s)

def State.readMulti (s : State) (q : Req) (refs : List Nat) : State :=
  let own := q.node == s.obj O.dictNodeId
  s.multi q 0x03 (refs.flatMap refBytes) refs.length (refs.all readFast)
    (fun x => if own then none else refs.findSome? fun r => objectCheck x r false)
    (fun _ x s => let (r, s) := readEntries x refs 0 s; doneWith s r)

def execReadMulti (t : Nat) (q : Req) (refs : List Nat) (s : State) : Host.Outcome State Fault Refusal := .next ((s.at t).readMulti q refs)

/-! ### DESCRIBE (R392) -/

/-- A STR preceded by its length. -/
def shortText (t : String) : List Byte := let b := nameBytes t; beBytes 1 b.length ++ b

/-- The description of an object. -/
def describeBytes (r : ObjRow) (n ref : Nat) : List Byte :=
  let flags := boolNat (fastRead r ref && r.acc != .wo) + 2 * boolNat (fastWrite ref) + 4 * boolNat (!r.ty.isBlob && r.acc != .wo)
  let size := if r.ty.isBlob then r.lens.2.1 else 0
  let dflt := if r.ty.isBlob then dfltBytes r.dflt n else beBytes r.ty.size (dfltNum r.dflt n)
  beBytes 1 r.ty.code ++ [0, 0] ++ beBytes 1 r.acc.code ++ beBytes 1 levelObserver ++ beBytes 1 (writeLevel ref) ++ beBytes 1 flags ++ [0] ++ beBytes 4 size ++ padTo 16 dflt
    ++ shortText r.name ++ shortText r.units

def State.describe (s : State) (q : Req) (ref : Nat) : State :=
  s.request q 0x05 (refBytes ref) false (fun x _ => objectCheck x ref false)
    (fun _ _ s => match findRef ref with | some (r, n) => doneWith s (describeBytes r n ref) | none => refuse s St.noObject)

def execDescribe (t : Nat) (q : Req) (ref : Nat) (s : State) : Host.Outcome State Fault Refusal := .next ((s.at t).describe q ref)

/-! ### FENCE (R384) -/

/-- FENCE carries `TIME_NOW`. Every request of its session is answered when it comes, but for those on their way to a worker: while such are outstanding the fence is held
(`State.execute`) and answered with the last of them. -/
def State.fence (s : State) (q : Req) : State := s.request q 0x09 [] true (fun _ _ => none) (fun _ _ s => doneWith s (beBytes 12 (stimeOf s.studio)))

def execFence (t : Nat) (q : Req) (s : State) : Host.Outcome State Fault Refusal := .next ((s.at t).fence q)

end Sys2Proof.Machine
end

