-- ==== Sys2Proof/Machine/Blocks.lean ====
section
/-! DEFINITION. Block transfers (R385 to R387): BLOCK_OPEN, BLOCK_DATA, BLOCK_ACK and their timers, BLOCK_ABORT and the idle limit. -/

namespace Sys2Proof.Machine

/-! ### Messages that are no requests -/

/-- A message of a host that is not answered with a response (BLOCK_DATA, BLOCK_ACK, EVENT_ACK): the checks of R381 but for SEQ, then the worker or `act` (R379, R407). -/
def State.hostMessage (s : State) (q : Req) (op : Nat) (payload : List Byte) (act : Nat → Session → State → State) : State :=
  if !s.serves q then s
  else if q.ver ≠ 1 || q.length ≠ payload.length || s.maxMessage < payload.length + 32 then s.bump O.dictBadMessages
  else
    match s.session? q.session with
    | none => s.bump O.dictBadMessages
    | some x =>
      if q.tag ≠ tagOf x.key (reqMsg q op payload) then
        let s := s.bump O.dictBadTags
        if x.badTag then s else (s.setSession q.session { x with badTag := true }).raiseSession 203 q.session x []
      else if x.expired then s.respondOnce x q op St.sessionExpired
      else
        let x := { x with badTag := false, lastAuth := s.tick, requests := x.requests + 1 }
        let s := (s.setSession q.session x).resumeSubs q.session
        let s :=
          if q.node = s.obj O.dictNodeId then act q.session x s
          else if s.obj O.hierRoleNow = 1 && (s.node q.node).state == 3 && (s.node q.node).used 3 + ringEntries payload ≤ 64 then
            ((s.ringPut q.node 3 4 q.seq q.session ((reqMsg q op payload).bytes ++ q.tag)).sendWorker q.node op payload).ringTake q.node 3 (ringEntries payload)
          else s
        s.limitSession q.session

/-- The path of a transfer: the fast one for a buffer, else the processor's queue, which may answer BUSY. -/
def State.onPath (s : State) (q : Req) (op num : Nat) (x : Session) (ref : Nat) (act : State → State) : State :=
  if isBufData ref then act (s.bump O.dictFastRequests)
  else
    match s.enqueue num x q with
    | (some retry, s) => s.emit (.resil q.port q.src ((⟨op, 0x80, q.node, q.session, q.seq, St.busy, retry, []⟩ : Msg).tagged x.key))
    | (none, s) => act s

/-! ### Opening (R385) -/

/-- A buffer's handle index, for `LAY_BUF_DATA`. -/
def bufOf (ref : Nat) : Nat := refIndex ref - 0x4000

/-- A transfer to or from `LAY_BUF_DATA`: R199 checks 1 and 2 on the handle, which names the object's own index, and R200. -/
def State.bufOpenFault (s : State) (ref dir handle : Nat) : Option Nat :=
  let i := bufOf ref
  if handleIndex handle ≠ i then some St.staleHandle
  else
    match s.handleFault handle with
    | some st => some st
    | none =>
      if dir = 1 then none
      else if s.bufState i = bufRelease then some St.bufferRetiring
      else if s.bufRefs i ≠ 0 then some St.bufferInUse
      else none

/-- The first failing check of an open from the access code on. `have_` is the length of the value for a transfer to the host. -/
def State.openFault (s : State) (num ref dir block handle off len have_ : Nat) : Option Nat :=
  match findRef ref with
  | none => some St.noObject
  | some (r, _) =>
    let buf := isBufData ref
    let bound := if buf then s.bufSize (bufOf ref) else if dir = 1 then have_ else r.lens.2.1
    if dir = 0 && r.acc = .ro then some St.readOnly
    else if dir = 1 && r.acc = .wo then some St.writeOnly
    else if dir = 0 && r.acc = .rwi && !s.idle ref then some St.notIdle
    else if r.ty ≠ .domain then some St.badType
    else if 1 < dir then some St.badValue
    else if 16 ≤ s.resil.xfers.length || 4 ≤ (s.resil.xfers.filter fun x => x.2.session == num).length then some St.noSlot
    else if block % 64 ≠ 0 || block < 64 || (if s.objB O.netJumbo then 8192 else 1408) < block then some St.badValue
    else if len = 0 || bound < off + len then some St.badValue
    else if !buf && handle ≠ 0 then some St.badHandle
    else if buf then s.bufOpenFault ref dir handle
    else if ref = O.secStage && s.activating then some St.fwState
    else if ref = O.secStage && s.staging then some St.noSlot
    else none

/-- An open transfer under a free number. -/
def State.openXfer (s : State) (num : Nat) (x : Session) (ref dir block handle off len : Nat) : Ans :=
  let (v, s1) := if dir = 1 && !isBufData ref then s.readBlob x ref else ([], s)
  match s.openFault num ref dir block handle off len v.length with
  | some st => refuse s st
  | none =>
    match s1.pick (fun t => (s.xfer? t).isSome) 0 65536 with
    | (none, _) => refuse s St.noSlot
    | (some tid, s) =>
      let data := if isBufData ref then [] else if dir = 1 then slice v off len else fill len 0
      let y : Xfer := ⟨num, ref, dir == 1, block, handle, off, len, 0, 0, 0, s.tick, s.tick, data, [], false⟩
      let s := s.setXfer tid y
      let s := { s with resil := { s.resil with ended := kvErase s.resil.ended tid } }
      let s := if ref = O.secStage then s.setObj O.secStageState (2 ^ 24) else s
      doneWith s (beBytes 2 tid ++ beBytes 2 64 ++ beBytes 2 block)

/-! ### Device to host (R386) -/

/-- The bytes of block `n`, or the first poisoned address in them (R329). -/
def State.blockBytes (s : State) (x : Xfer) (n : Nat) : Except Nat (List Byte) :=
  if isBufData x.ref then
    let es := (s.buf (bufOf x.ref)).extents
    match s.extentPoison es (x.off + n * x.block) (x.size n) with
    | some a => .error a
    | none => .ok (s.extentBytes es (x.off + n * x.block) (x.size n))
  else .ok (slice x.data (n * x.block) (x.size n))

/-- Send block `n` of a transfer; poisoned data end it with POISONED and E169. -/
def State.sendBlock (s : State) (tid n : Nat) : State :=
  match s.xfer? tid with
  | none => s
  | some x =>
    match s.blockBytes x n with
    | .error a => (s.raise 169 (s.where_ a)).endXfer tid St.poisoned
    | .ok b =>
      (s.setXfer tid { x with sentAt := (n, s.tick) :: x.sentAt.filter fun p => p.1 != n }).deviceMsg x.session 0x11 St.ok (beBytes 2 tid ++ [0, 0] ++ beBytes 4 n ++ b)

/-- Send the blocks of the window that have not been sent. -/
def State.pump (s : State) (tid : Nat) : State :=
  match s.xfer? tid with
  | none => s
  | some x =>
    let new := (List.range 64).filterMap fun i =>
      let n := x.cum + i
      if n < x.blocks && !bit x.held n && !x.sentAt.any (fun p => p.1 == n) then some n else none
    if new.isEmpty then s else new.foldl (fun (s : State) n => s.sendBlock tid n) (s.setXfer tid { x with lastBlock := s.tick })

/-- BLOCK_OPEN; a transfer to the host starts behind the answer. -/
def State.blockOpen (s : State) (q : Req) (ref dir block handle off len : Nat) : State :=
  let payload := refBytes ref ++ beBytes 1 dir ++ [0] ++ beBytes 2 block ++ beBytes 4 handle ++ fill 4 0 ++ beBytes 8 off ++ beBytes 8 len
  let s := s.request q 0x10 payload (isBufData ref) (fun x _ => objectCheck x ref (dir == 0)) (fun num x s => s.openXfer num x ref dir block handle off len)
  (s.resil.xfers.filter fun p => p.2.toHost && p.2.held == 0 && p.2.sentAt.isEmpty).foldl (fun (s : State) p => s.pump p.1) s

def execBlockOpen (t : Nat) (q : Req) (ref dir block handle off len : Nat) (s : State) : Host.Outcome State Fault Refusal :=
  .next ((s.at t).blockOpen q ref dir block handle off len)

/-- A BLOCK_ACK of the host: what it holds is held, what its map shows missing is sent again, and the window moves on. -/
def State.hostAck (s : State) (num tid cum map : Nat) : State :=
  match s.xfer? tid with
  | none => s
  | some x =>
    if x.session ≠ num || !x.toHost then s
    else
      let acked (n : Nat) : Bool := decide (n < cum) || (decide (cum < n) && bit map (n - cum - 1))
      let got := (x.sentAt.map (·.1)).filter acked
      let held := got.foldl setBit x.held
      let x := { x with held := held, cum := cumFrom held x.cum (x.blocks - x.cum), sentAt := x.sentAt.filter fun p => !acked p.1 }
      let s := s.setXfer tid x
      if x.cum = x.blocks then s.endXfer tid St.ok
      else
        let top := got.foldl max 0
        let missing := (x.sentAt.map (·.1)).filter fun n => decide (n < top)
        (missing.reverse.foldl (fun (s : State) n => s.sendBlock tid n) s).pump tid

/-! ### Host to device (R386, R387) -/

/-- A byte range enters those written so far. -/
def coverAdd (l : List (Nat × Nat)) (a b : Nat) : List (Nat × Nat) :=
  let hit := l.filter fun p => decide (a ≤ p.2) && decide (p.1 ≤ b)
  (l.filter fun p => decide (p.2 < a)) ++ [(hit.foldl (fun m p => min m p.1) a, hit.foldl (fun m p => max m p.2) b)] ++ l.filter fun p => decide (b < p.1)

/-- The leading frames of a clip that have been completely written. -/
def State.loadedFrames (s : State) (i : Nat) : Nat :=
  let n := s.bufFrameBytes i
  let z := s.obj (O.layBufStride i) * s.obj (O.layBufHeight i)
  let full (f : Nat) : Bool := (s.buf i).cover.any fun p => decide (p.1 ≤ f * n) && decide (f * n + z ≤ p.2)
  ((List.range (s.obj (O.layBufFrames i))).takeWhile full).length

/-- A transfer to a buffer completes (R200): READY, the instant, and for a clip the leading frames completely written. -/
def State.bufLoaded (s : State) (tid : Nat) (x : Xfer) : State :=
  let i := bufOf x.ref
  let n := max 1 (s.bufFrameBytes i)
  let first := x.off / n
  let s := (List.range ((x.off + x.len - 1) / n + 1 - first)).foldl (fun (s : State) k => s.bufWritten i (first + k)) s
  let s := if handleType x.handle = tyClip then s.setObj (O.layBufLoaded i) (s.loadedFrames i) else s
  s.endXfer tid St.ok

/-- The objects whose final acknowledgement waits for checks on the whole image: `CRV_KERNEL_STAGE`, `COL_LUT_STAGE`, `CAL_RESTORE`, `SEC_STAGE`. -/
def wholeImage (ref : Nat) : Bool := ref == O.crvKernelStage || ref == O.calRestore || ref == O.secStage || (List.range 8).any fun v => ref == O.colLutStage v

/-- Every block of a transfer is held. -/
def State.xferComplete (s : State) (tid : Nat) (x : Xfer) : State :=
  if isBufData x.ref then s.bufLoaded tid x
  else if wholeImage x.ref then s.setXfer tid { x with whole := true }
  else
    match findRef x.ref, s.session? x.session with
    | some (r, _), some y =>
      let at_ := if r.acc = .rws then staged x.ref else x.ref
      let v := if x.off = 0 then x.data else overwrite (s.blob at_) x.off x.data
      let a := match valueFault r v with
        | some st => refuse s st
        | none => anyEffect noEnv x.ref x.session y r x.ref v s
      a.st.endXfer tid a.status
    | _, _ => s

/-- Bytes of a block reach their place; a buffer is WRITING from its first block on, and the slot of a bundle STAGING from its first bytes on. -/
def State.placeBlock (s : State) (x : Xfer) (n : Nat) (data : List Byte) : State :=
  if isBufData x.ref then
    let i := bufOf x.ref
    let a := x.off + n * x.block
    let s := if x.held = 0 then s.setObj (O.layBufState i) bufWriting else s
    let s := s.extentWrite (s.buf i).extents a data
    s.setBuf i { s.buf i with cover := coverAdd (s.buf i).cover a (a + data.length) }
  else if x.ref = O.secStage && n = 0 && !(imageMagic data && leAt data 4 1 == 5) then
    let k := s.stageSlot
    (s.setSlotState k slotStaging).setSec { s.sec with slots := s.sec.slots.set k [] }
  else s

/-- BLOCK_DATA at an open transfer: block `n` within the window, of its exact length and not yet held, is taken; 16 new blocks are acknowledged, and the last at once. -/
def State.takeBlock (s : State) (tid : Nat) (x : Xfer) (n : Nat) (data : List Byte) : State :=
  if x.toHost || x.whole || x.blocks ≤ n || x.cum + 64 ≤ n || bit x.held n || data.length ≠ x.size n then s
  else
    let s := s.placeBlock x n data
    let held := setBit x.held n
    let x := { x with
      held := held, cum := cumFrom held x.cum (x.blocks - x.cum), fresh := x.fresh + 1, lastNew := s.tick, lastBlock := s.tick
      data := if isBufData x.ref then [] else overwrite x.data (n * x.block) data }
    let s := s.setXfer tid x
    if x.cum = x.blocks then s.xferComplete tid x else if 16 ≤ x.fresh then s.blockAck tid x else s

/-- BLOCK_DATA. A block of a transfer that has ended is answered with its final BLOCK_ACK again; one of no transfer of the session with NOT_ACTIVE. -/
def State.blockData (s : State) (q : Req) (tid n : Nat) (data : List Byte) : State :=
  s.hostMessage q 0x11 (beBytes 2 tid ++ [0, 0] ++ beBytes 4 n ++ data) fun num y s =>
    match s.xfer? tid with
    | some x => if x.session = num then s.onPath q 0x11 num y x.ref (fun s => s.takeBlock tid x n data) else s.deviceMsg num 0x12 St.notActive (ackPayload tid 0 0)
    | none =>
      match kvFind s.resil.ended tid with
      | some (o, cum, st) => if o = num then s.deviceMsg num 0x12 st (ackPayload tid cum 0) else s.deviceMsg num 0x12 St.notActive (ackPayload tid 0 0)
      | none => s.deviceMsg num 0x12 St.notActive (ackPayload tid 0 0)

def execBlockData (t : Nat) (q : Req) (tid n : Nat) (data : List Byte) (s : State) : Host.Outcome State Fault Refusal := .next ((s.at t).blockData q tid n data)

/-- BLOCK_ACK of the host. -/
def State.ackArrives (s : State) (q : Req) (tid cum map : Nat) : State :=
  s.hostMessage q 0x12 (ackPayload tid cum map) fun num y s =>
    match s.xfer? tid with
    | some x => s.onPath q 0x12 num y x.ref fun s => s.hostAck num tid cum map
    | none => s

def execBlockAck (t : Nat) (q : Req) (tid cum map : Nat) (s : State) : Host.Outcome State Fault Refusal := .next ((s.at t).ackArrives q tid cum map)

/-! ### Timers and the end (R386, R387) -/

/-- BLOCK_ACK_TIMER: 1 ms after the last unacknowledged block. -/
def State.ackTimer (s : State) (tid : Nat) : State :=
  match s.xfer? tid with
  | none => s
  | some x => if !x.toHost && !x.whole && x.fresh != 0 && decide (x.lastNew + msTicks 1 ≤ s.tick) then s.blockAck tid x else s

def execBlockAckTimer (t tid : Nat) (s : State) : Host.Outcome State Fault Refusal := .next ((s.at t).ackTimer tid)

/-- BLOCK_RESEND: blocks still missing 10 ms after they were sent. -/
def State.resendBlocks (s : State) (tid : Nat) : State :=
  match s.xfer? tid with
  | none => s
  | some x => ((x.sentAt.filter fun p => decide (p.2 + msTicks 10 ≤ s.tick)).reverse.map (·.1)).foldl (fun (s : State) n => s.sendBlock tid n) s

def execBlockResend (t tid : Nat) (s : State) : Host.Outcome State Fault Refusal := .next ((s.at t).resendBlocks tid)

/-- BLOCK_ABORT. -/
def State.blockAbort (s : State) (q : Req) (tid : Nat) : State :=
  s.request q 0x13 (beBytes 2 tid ++ [0, 0]) true (fun _ _ => none) fun num _ s =>
    match s.xfer? tid with
    | some x => if x.session = num then done (s.abortXfer tid St.aborted) else refuse s St.notActive
    | none => refuse s St.notActive

def execBlockAbort (t : Nat) (q : Req) (tid : Nat) (s : State) : Host.Outcome State Fault Refusal := .next ((s.at t).blockAbort q tid)

/-- TRANSFER_IDLE: no new block for `DICT_XFER_IDLE`. -/
def State.xferIdle (s : State) (tid : Nat) : State :=
  match s.xfer? tid with
  | none => s
  | some x =>
    if !x.whole && decide (x.lastBlock + msTicks (s.obj O.dictXferIdle) ≤ s.tick) then
      let s := match s.session? x.session with | some y => s.raiseSession 206 x.session y [] | none => s
      s.abortXfer tid St.aborted
    else s

def execTransferIdle (t tid : Nat) (s : State) : Host.Outcome State Fault Refusal := .next ((s.at t).xferIdle tid)

end Sys2Proof.Machine
end

