-- ==== Sys2Proof/Machine/Sessions.lean ====
section
/-! DEFINITION. Sessions and subscriptions (R376 to R378, R388 to R391): the handshake, the end of a session, and EVENT messages, with the meanings of their commands. -/

namespace Sys2Proof.Machine

def State.setAttempts (s : State) (m : List (Nat × Attempt)) : State := { s with resil := { s.resil with attempts := m } }

/-! ### The handshake (R376, R377, R404, R518) -/

/-- A principal that may open a session now: its highest level and its public key. In RESCUE principal 0 and the enrolled customer keys, each at CUSTODIAN. -/
def State.principal? (s : State) (p : Nat) : Option (Nat × List Byte) :=
  if s.sec.rescue then
    if p ≤ 4 && s.keyEnrolled p then some (levelCustodian, s.keyOf p) else none
  else
    let b := s.blob (O.dictPrincipal p)
    if p ≤ 15 && bit (leAt b 1 1) 0 then some (leAt b 0 1, slice b 8 1793) else none

/-- A message of the handshake that carries no tag, in answer to the one with `q`'s SEQ. -/
def State.bare (s : State) (q : Req) (op session status : Nat) (payload : List Byte) : State :=
  s.emit (.resil q.port q.src ⟨op, 0x80, q.node, session, q.seq, status, payload, []⟩)

/-- The payload of HELLO, in the fields of Table 13-3. -/
def helloPayload (principal level : Nat) (nonce ekey : List Byte) : List Byte := beBytes 1 principal ++ beBytes 1 level ++ [0, 0] ++ nonce ++ ekey

/-- A host without a session, as the processor's queue sees it. -/
def guest (principal : Nat) : Session := ⟨principal, 0, 0, 0, false, [], 0, [], [], [], 0, false, 0, false, false, 0, [], 0, []⟩

/-- An accepted HELLO: a free session number, the device's nonce and ciphertext, and the digest and key they give. -/
def State.challenge (s : State) (q : Req) (principal level : Nat) (pub hello ekey : List Byte) : State :=
  match s.pick (fun n => (s.session? n).isSome || (kvFind s.resil.attempts n).isSome) 1 65535 with
  | (none, _) => s.bare q 0x20 0 St.noSlot []
  | (some num, s) =>
    let nonce := padTo 32 (Config.nonce s.fresh)
    let s := s.took
    let (ct, secret) := Config.mlkemEncaps s.fresh ekey
    let s := s.took
    let body := beBytes 2 num ++ [0, 0] ++ nonce ++ padTo 1088 ct
    let digest := shake256 (hello ++ body) 64
    let a : Attempt := ⟨principal, level, q.src, q.port.val, digest, shake256 (secret ++ digest) 32, pub, s.tick⟩
    (s.setAttempts (kvInsert s.resil.attempts num a)).bare q 0x21 0 St.ok body

/-- HELLO. -/
def State.hello (s : State) (q : Req) (principal level : Nat) (nonce ekey : List Byte) : State :=
  let p := helloPayload principal level nonce ekey
  if !s.serves q then s
  else if q.ver ≠ 1 || q.length ≠ p.length || p.length ≠ 1220 || q.session ≠ 0 then s.bump O.dictBadMessages
  else if q.node ≠ s.obj O.dictNodeId then s.bare q 0x20 0 St.noRoute []
  else
    match s.enqueue 0 (guest principal) q with
    | (some retry, s) => s.bare q 0x20 0 St.busy retry
    | (none, s) =>
      match s.principal? principal with
      | none => s.bare q 0x20 0 St.noKey []
      | some (top, pub) =>
        if top < level then s.bare q 0x20 0 St.accessLevel []
        else if 32 ≤ s.openSessions then s.bare q 0x20 0 St.noSlot []
        else s.challenge q principal level pub p ekey

def execHello (t : Nat) (q : Req) (principal level : Fin 256) (nonce ekey : List Byte) (s : State) : Host.Outcome State Fault Refusal :=
  .next ((s.at t).hello q principal.val level.val nonce ekey)

/-- A session of a worker with its manager (R404). -/
def State.isHier (s : State) (a : Attempt) : Bool := s.isWorker && a.principal == s.obj O.hierMgrPrincipal && a.level == levelCustodian

/-- The sessions that a new one replaces: one of the same principal, level and address, and on a worker the hierarchy session. -/
def State.replaced (s : State) (a : Attempt) : List Nat :=
  (s.resil.sessions.filter fun x => !x.2.expired &&
    ((x.2.principal == a.principal && x.2.level == a.level && x.2.src == a.src) || (s.isHier a && x.2.hier))).map (·.1)

/-- The session opens with ACCEPT; an ORPHAN is JOINED again. -/
def State.accept (s : State) (q : Req) (a : Attempt) : State :=
  let num := q.session
  let hier := s.isHier a
  let x : Session := ⟨a.principal, a.level, a.src, a.port, hier, a.key, 0, [], [], [], 0, false, s.tick, false, false, 0, [], 1, []⟩
  let m : Msg := ⟨0x23, 0x80, q.node, num, q.seq, St.ok, padTo 1280 (Config.falconSign s.fresh a.digest), []⟩
  let s := ((s.took.setSession num x).countSessions.emit (.resil q.port q.src (m.tagged a.key))).raiseSession 200 num x []
  if hier && s.obj O.hierState = 3 then s.setObj O.hierState 2 else s

/-- PROVE. -/
def State.prove (s : State) (q : Req) (sig : List Byte) : State :=
  if !s.serves q then s
  else if q.ver ≠ 1 || q.length ≠ sig.length || sig.length ≠ 1280 then s.bump O.dictBadMessages
  else
    match kvFind s.resil.attempts q.session with
    | none => s.bump O.dictBadMessages
    | some a =>
      if a.since + secTicks 5 ≤ s.tick then s.bump O.dictBadMessages
      else if q.node ≠ s.obj O.dictNodeId then s.bare q 0x22 q.session St.noRoute []
      else
        match s.enqueue q.session (guest a.principal) q with
        | (some retry, s) => s.bare q 0x22 q.session St.busy retry
        | (none, s) =>
          let s := s.setAttempts (kvErase s.resil.attempts q.session)
          if !Config.falconVerify a.pub a.digest sig then
            ((s.bump O.dictHandshakeFails).bare q 0x22 q.session St.signature []).raiseSession 202 q.session (guest a.principal) []
          else
            let old := s.replaced a
            let gone := (old.filter fun n => match s.session? n with | some x => !x.hier | none => false).length
            if !s.isHier a && 32 + gone ≤ s.openSessions then s.bare q 0x22 q.session St.noSlot []
            else (old.foldl (fun (s : State) n => s.endSession n 3) s).accept q a

def execProve (t : Nat) (q : Req) (sig : List Byte) (s : State) : Host.Outcome State Fault Refusal := .next ((s.at t).prove q sig)

/-- CHALLENGE_LAPSE: after 5 s without an answer. -/
def State.lapse (s : State) (num : Nat) : State :=
  match kvFind s.resil.attempts num with
  | some a => if a.since + secTicks 5 ≤ s.tick then s.setAttempts (kvErase s.resil.attempts num) else s
  | none => s

def execChallengeLapse (t num : Nat) (s : State) : Host.Outcome State Fault Refusal := .next ((s.at t).lapse num)

/-! ### The end of a session (R377) -/

/-- CLOSE. -/
def State.close (s : State) (q : Req) : State := s.request q 0x24 [] true (fun _ _ => none) fun num _ s => done (s.endSession num 0)

def execClose (t : Nat) (q : Req) (s : State) : Host.Outcome State Fault Refusal := .next ((s.at t).close q)

/-- SESSION_IDLE: no authenticated request for `DICT_SESSION_IDLE`. A session that the request limit has ended is forgotten. -/
def State.sessionIdle (s : State) (num : Nat) : State :=
  match s.session? num with
  | none => s
  | some x =>
    if s.tick < x.lastAuth + secTicks (s.obj O.dictSessionIdle) then s
    else if x.expired then { s with resil := { s.resil with sessions := kvErase s.resil.sessions num } }
    else s.endSession num 1

def execSessionIdle (t num : Nat) (s : State) : Host.Outcome State Fault Refusal := .next ((s.at t).sessionIdle num)

/-! ### Subscriptions (R388) -/

/-- The checks of SUBSCRIBE behind existence and level. -/
def State.subFault (s : State) (num kind mode interval : Nat) (target : List Byte) : Option Nat :=
  let row := findRef (refOf target)
  if 256 ≤ s.resil.subs.length || 64 ≤ (s.resil.subs.filter fun x => x.2.session == num).length then some St.noSlot
  else if kind = 1 && (match row with | some (r, _) => r.acc == .wo | none => false) then some St.writeOnly
  else if kind = 1 && (match row with | some (r, _) => r.ty.isBlob | none => false) then some St.badType
  else if interval = 0 || 1 < kind || 1 < mode || (kind = 0 && mode ≠ 0) then some St.badValue
  else none

/-- A new subscription under a free number. -/
def State.newSub (s : State) (num : Nat) (x : Session) (kind mode interval : Nat) (target : List Byte) : Ans :=
  match s.subFault num kind mode interval target with
  | some st => refuse s st
  | none =>
    match s.pick (fun n => (kvFind s.resil.subs n).isSome) 0 65536 with
    | (none, _) => refuse s St.noSlot
    | (some id, s) =>
      let ref := refOf target
      let (v, s) := match kind, findRef ref with
        | 1, some (r, _) => s.readValue x r ref
        | _, _ => ([], s)
      let y : Sub := ⟨num, kind == 1, mode == 1, interval, padTo 32 target, if kind = 1 && mode = 1 then some s.tick else none, v, [], false, false⟩
      doneWith (s.setSubs (kvInsert s.resil.subs id y)) (beBytes 2 id)

/-- SUBSCRIBE. -/
def State.subscribe (s : State) (q : Req) (kind mode interval : Nat) (target : List Byte) : State :=
  s.request q 0x18 (beBytes 1 kind ++ beBytes 1 mode ++ beBytes 2 interval ++ padTo 32 target) false
    (fun x _ => if kind = 1 then objectCheck x (refOf target) false else none) fun num x s => s.newSub num x kind mode interval target

def execSubscribe (t : Nat) (q : Req) (kind mode : Fin 256) (interval : Fin 65536) (target : List Byte) (s : State) : Host.Outcome State Fault Refusal :=
  .next ((s.at t).subscribe q kind.val mode.val interval.val target)

/-- UNSUBSCRIBE. -/
def State.unsubscribe (s : State) (q : Req) (id : Nat) : State :=
  s.request q 0x19 (beBytes 2 id ++ [0, 0]) false (fun _ _ => none) fun num _ s =>
    match kvFind s.resil.subs id with
    | some x => if x.session = num then done (s.setSubs (kvErase s.resil.subs id)) else refuse s St.notActive
    | none => refuse s St.notActive

def execUnsubscribe (t : Nat) (q : Req) (id : Nat) (s : State) : Host.Outcome State Fault Refusal := .next ((s.at t).unsubscribe q id)

/-! ### EVENT (R389 to R391) -/

/-- An EVENT goes out for subscription `id` under the session's next device SEQ, and waits for its EVENT_ACK. -/
def State.sendEvent (s : State) (id : Nat) (x : Sub) (kind count : Nat) (entries : List Byte) : State :=
  match s.session? x.session with
  | none => s
  | some y =>
    let n := (y.devSeq + 1) % 4294967296
    let m : Msg := (⟨0x1A, 0x40, s.obj O.dictNodeId, x.session, n, St.ok, beBytes 1 kind ++ beBytes 1 count ++ [0, 0] ++ entries, []⟩ : Msg).tagged y.key
    let s := s.setSession x.session { y with devSeq := n, sent := y.sent ++ [⟨n, s.tick, 1, id, m⟩] }
    s.emit (.resil y.port y.src m)

/-- Records per EVENT: up to 44, with jumbo frames up to 278, of which COUNT, a U8, can tell 255 (R391). -/
def State.eventRoom (s : State) : Nat := if s.objB O.netJumbo then min 278 255 else 44

/-- The records of one ms, once it is over. -/
def State.sendRecords (s : State) (id : Nat) (x : Sub) : State :=
  match x.records with
  | [] => s
  | r :: _ =>
    if s.tick < r.1 + msTicks 1 then s
    else
      let now := (x.records.takeWhile fun p => decide (p.1 < r.1 + msTicks 1)).take s.eventRoom
      let s := s.setSubs (kvInsert s.resil.subs id { x with records := x.records.drop now.length })
      s.sendEvent id x 0 now.length (now.flatMap (·.2))

/-- An object's value, when it is due: after a resume, each interval for PERIODIC, a change at most once an interval for ON_CHANGE. -/
def State.sendValue (s : State) (id : Nat) (x : Sub) (y : Session) : State :=
  let ref := refOf x.target
  match findRef ref with
  | none => s
  | some (r, _) =>
    let (v, s') := s.readValue y r ref
    let over_ := match x.lastAt with | some a => decide (a + msTicks x.interval ≤ s.tick) | none => true
    if x.owed || (over_ && (x.periodic || v != x.lastVal)) then
      let s := s'.setSubs (kvInsert s'.resil.subs id { x with lastAt := some s.tick, lastVal := v, owed := false })
      s.sendEvent id x 1 1 (refBytes ref ++ beBytes 2 v.length ++ [0, 0] ++ beBytes 12 (stimeOf s.studio) ++ v)
    else s

/-- EVENT_SEND. -/
def State.eventSend (s : State) (id : Nat) : State :=
  match kvFind s.resil.subs id with
  | none => s
  | some x =>
    match s.session? x.session with
    | none => s
    | some y => if x.suspended || !s.servesAt y.port then s else if x.object then s.sendValue id x y else s.sendRecords id x

def execEventSend (t id : Nat) (s : State) : Host.Outcome State Fault Refusal := .next ((s.at t).eventSend id)

/-- A subscription is suspended: its records stay in the log alone, and its EVENTs are given up. -/
def State.suspend (s : State) (num id : Nat) : State :=
  let s := match kvFind s.resil.subs id with
    | some x => s.setSubs (kvInsert s.resil.subs id { x with suspended := true, records := [] })
    | none => s
  match s.session? num with
  | none => s
  | some y => (s.setSession num { y with sent := y.sent.filter fun e => e.sub != id }).raiseSession 207 num y []

/-- EVENT_RESEND: unacknowledged for 100 ms, an EVENT is sent again up to three times; then the subscription is suspended. -/
def State.eventResend (s : State) (num seq : Nat) : State :=
  match s.session? num with
  | none => s
  | some y =>
    match y.sent.find? fun e => e.seq == seq with
    | none => s
    | some e =>
      if s.tick < e.at_ + msTicks 100 || !s.servesAt y.port then s
      else if 4 ≤ e.tries then s.suspend num e.sub
      else (s.setSession num { y with sent := y.sent.map fun f => if f.seq = seq then { f with at_ := s.tick, tries := f.tries + 1 } else f }).emit (.resil y.port y.src e.msg)

def execEventResend (t num seq : Nat) (s : State) : Host.Outcome State Fault Refusal := .next ((s.at t).eventResend num seq)

/-- EVENT_ACK. -/
def State.eventAck (s : State) (q : Req) (seq : Nat) : State :=
  s.hostMessage q 0x1B (beBytes 4 seq) fun num _ s =>
    let s := s.bump O.dictFastRequests
    match s.session? num with
    | some y => s.setSession num { y with sent := y.sent.filter fun e => e.seq != seq }
    | none => s

def execEventAck (t : Nat) (q : Req) (seq : Nat) (s : State) : Host.Outcome State Fault Refusal := .next ((s.at t).eventAck q seq)

end Sys2Proof.Machine
end

