-- ==== Sys2Proof/Machine/Dispatch.lean ====
section
/-! DEFINITION. The dispatch of the commands: one arm per constructor of `Instr`, each a direct call of its meaning. -/

namespace Sys2Proof.Machine

def exec (i : Instr) (s : State) : Host.Outcome State Fault Refusal :=
  match i with
  | .rootPllLockLoss t => Sys2Proof.Machine.execRootPllLockLoss t s
  | .rootPllRelock t => Sys2Proof.Machine.execRootPllRelock t s
  | .servoMeasurement t src err => Sys2Proof.Machine.execServoMeasurement t src err s
  | .sourceQualified t src nearAbs => Sys2Proof.Machine.execSourceQualified t src nearAbs s
  | .sourceDisqualified t src tenOnly measured => Sys2Proof.Machine.execSourceDisqualified t src tenOnly measured s
  | .holdoverExpired t => Sys2Proof.Machine.execHoldoverExpired t s
  | .timeSet t q v => Sys2Proof.Machine.execTimeSet t q v s
  | .ptpAnnounceRx t port a => Sys2Proof.Machine.execPtpAnnounceRx t port a s
  | .ptpSyncTx t port => Sys2Proof.Machine.execPtpSyncTx t port s
  | .ptpAnnounceTx t port => Sys2Proof.Machine.execPtpAnnounceTx t port s
  | .ptpDelayReqTx t port => Sys2Proof.Machine.execPtpDelayReqTx t port s
  | .ptpDelayReqRx t port domain seq sender senderPort correction => Sys2Proof.Machine.execPtpDelayReqRx t port domain seq sender senderPort correction s
  | .ppsEdge t rising => Sys2Proof.Machine.execPpsEdge t rising s
  | .frameBoundary t n => Sys2Proof.Machine.execFrameBoundary t n s
  | .compositionStart t n => Sys2Proof.Machine.execCompositionStart t n s
  | .compositionComplete t n => Sys2Proof.Machine.execCompositionComplete t n s
  | .tgCommit t q n treq => Sys2Proof.Machine.execTgCommit t q n treq s
  | .tgCommitPoint t n => Sys2Proof.Machine.execTgCommitPoint t n s
  | .tgDarkBegin t n => Sys2Proof.Machine.execTgDarkBegin t n s
  | .tgDarkEnd t n => Sys2Proof.Machine.execTgDarkEnd t n s
  | .tgCancel t q n v => Sys2Proof.Machine.execTgCancel t q n v s
  | .plannerStart t n => Sys2Proof.Machine.execPlannerStart t n s
  | .plannerDone t n => Sys2Proof.Machine.execPlannerDone t n s
  | .plannerDeadline t n => Sys2Proof.Machine.execPlannerDeadline t n s
  | .slmPlanStage t q n v => Sys2Proof.Machine.execSlmPlanStage t q n v s
  | .slmPlanSwap t q n v => Sys2Proof.Machine.execSlmPlanSwap t q n v s
  | .manualSwapVerify t n => Sys2Proof.Machine.execManualSwapVerify t n s
  | .slmCompressionCredit t q v => Sys2Proof.Machine.execSlmCompressionCredit t q v s
  | .entryFlip t n => Sys2Proof.Machine.execEntryFlip t n s
  | .gateWindow t n b light dark => Sys2Proof.Machine.execGateWindow t n b light dark s
  | .planeFifoRead t n ok => Sys2Proof.Machine.execPlaneFifoRead t n ok s
  | .parkRepeat t n => Sys2Proof.Machine.execParkRepeat t n s
  | .intlkAssert t width => Sys2Proof.Machine.execIntlkAssert t width s
  | .gateIntlkRearm t q v => Sys2Proof.Machine.execGateIntlkRearm t q v s
  | .gateEnable t q b v => Sys2Proof.Machine.execGateEnable t q b v s
  | .gateRearm t q b v => Sys2Proof.Machine.execGateRearm t q b v s
  | .gateVernierApply t b => Sys2Proof.Machine.execGateVernierApply t b s
  | .tlVernierApply t n => Sys2Proof.Machine.execTlVernierApply t n s
  | .gateFadeLevel t q b v => Sys2Proof.Machine.execGateFadeLevel t q b v s
  | .lwSlotStart t ain die => Sys2Proof.Machine.execLwSlotStart t ain die s
  | .lwEnable t q w v => Sys2Proof.Machine.execLwEnable t q w v s
  | .lwRearm t q w v => Sys2Proof.Machine.execLwRearm t q w v s
  | .lwLimits t q w v => Sys2Proof.Machine.execLwLimits t q w v s
  | .lwPeriod t q w v => Sys2Proof.Machine.execLwPeriod t q w v s
  | .lwReady t w => Sys2Proof.Machine.execLwReady t w s
  | .lwInitFailed t w => Sys2Proof.Machine.execLwInitFailed t w s
  | .faultNAssert t w => Sys2Proof.Machine.execFaultNAssert t w s
  | .faultNRelease t w => Sys2Proof.Machine.execFaultNRelease t w s
  | .lutAccept t v => Sys2Proof.Machine.execLutAccept t v s
  | .matrixCompute t n => Sys2Proof.Machine.execMatrixCompute t n s
  | .shutterEdge t c rising => Sys2Proof.Machine.execShutterEdge t c rising s
  | .exposureFrameEval t c => Sys2Proof.Machine.execExposureFrameEval t c s
  | .moutEnable t q n v cols rows => Sys2Proof.Machine.execMoutEnable t q n v cols rows s
  | .arrStatRise t n lock => Sys2Proof.Machine.execArrStatRise t n lock s
  | .bringupTimeout t n => Sys2Proof.Machine.execBringupTimeout t n s
  | .arrStatFall t n => Sys2Proof.Machine.execArrStatFall t n s
  | .arrayPoll t n lock err planeErr => Sys2Proof.Machine.execArrayPoll t n lock err planeErr s
  | .moutLaneRestore t q n v lock => Sys2Proof.Machine.execMoutLaneRestore t q n v lock s
  | .moutFreezeClear t q n v => Sys2Proof.Machine.execMoutFreezeClear t q n v s
  | .layAlloc t q v => Sys2Proof.Machine.execLayAlloc t q v s
  | .layBufFree t q ix v => Sys2Proof.Machine.execLayBufFree t q ix v s
  | .layFlip t q l v => Sys2Proof.Machine.execLayFlip t q l v s
  | .layFenceDone t q l v => Sys2Proof.Machine.execLayFenceDone t q l v s
  | .layPlaylist t q l v => Sys2Proof.Machine.execLayPlaylist t q l v s
  | .layPlay t q l v => Sys2Proof.Machine.execLayPlay t q l v s
  | .compositorCommit t q treq => Sys2Proof.Machine.execCompositorCommit t q treq s
  | .layCancel t q v => Sys2Proof.Machine.execLayCancel t q v s
  | .tileIssue t cls n v layer prev x y bad => Sys2Proof.Machine.execTileIssue t cls n v layer prev x y bad s
  | .engineDispatch t e => Sys2Proof.Machine.execEngineDispatch t e s
  | .tileResult t e corrected => Sys2Proof.Machine.execTileResult t e corrected s
  | .tileFault t e cause shared => Sys2Proof.Machine.execTileFault t e cause shared s
  | .clusterOfflineReq t q c => Sys2Proof.Machine.execClusterOfflineReq t q c s
  | .clusterDrained t c => Sys2Proof.Machine.execClusterDrained t c s
  | .clusterOnlineReq t q c => Sys2Proof.Machine.execClusterOnlineReq t q c s
  | .clusterTestDone t c ok => Sys2Proof.Machine.execClusterTestDone t c ok s
  | .kernelInstall t => Sys2Proof.Machine.execKernelInstall t s
  | .crvKernelRemove t q v => Sys2Proof.Machine.execCrvKernelRemove t q v s
  | .crvJob t q v => Sys2Proof.Machine.execCrvJob t q v s
  | .crvJobCancel t q v => Sys2Proof.Machine.execCrvJobCancel t q v s
  | .crvJobEnd t j => Sys2Proof.Machine.execCrvJobEnd t j s
  | .engNop t e => Sys2Proof.Machine.execEngNop t e s
  | .engEnd t e clips => Sys2Proof.Machine.execEngEnd t e clips s
  | .br t e => Sys2Proof.Machine.execBr t e s
  | .brs t e => Sys2Proof.Machine.execBrs t e s
  | .engFault t e => Sys2Proof.Machine.execEngFault t e s
  | .shdr t e => Sys2Proof.Machine.execShdr t e s
  | .sadd t e => Sys2Proof.Machine.execSadd t e s
  | .ssub t e => Sys2Proof.Machine.execSsub t e s
  | .smul t e => Sys2Proof.Machine.execSmul t e s
  | .sand t e => Sys2Proof.Machine.execSand t e s
  | .sor t e => Sys2Proof.Machine.execSor t e s
  | .sxor t e => Sys2Proof.Machine.execSxor t e s
  | .sshl t e => Sys2Proof.Machine.execSshl t e s
  | .sshr t e => Sys2Proof.Machine.execSshr t e s
  | .smovi t e => Sys2Proof.Machine.execSmovi t e s
  | .saddi t e => Sys2Proof.Machine.execSaddi t e s
  | .sld t e => Sys2Proof.Machine.execSld t e s
  | .sst t e => Sys2Proof.Machine.execSst t e s
  | .vadd t e => Sys2Proof.Machine.execVadd t e s
  | .vsub t e => Sys2Proof.Machine.execVsub t e s
  | .vadds t e => Sys2Proof.Machine.execVadds t e s
  | .vsubs t e => Sys2Proof.Machine.execVsubs t e s
  | .vmul t e => Sys2Proof.Machine.execVmul t e s
  | .vmulq t e => Sys2Proof.Machine.execVmulq t e s
  | .vmac t e => Sys2Proof.Machine.execVmac t e s
  | .vmin t e => Sys2Proof.Machine.execVmin t e s
  | .vmax t e => Sys2Proof.Machine.execVmax t e s
  | .vand t e => Sys2Proof.Machine.execVand t e s
  | .vor t e => Sys2Proof.Machine.execVor t e s
  | .vxor t e => Sys2Proof.Machine.execVxor t e s
  | .vshl t e => Sys2Proof.Machine.execVshl t e s
  | .vshr t e => Sys2Proof.Machine.execVshr t e s
  | .vlerp t e => Sys2Proof.Machine.execVlerp t e s
  | .vcmp t e => Sys2Proof.Machine.execVcmp t e s
  | .vsel t e => Sys2Proof.Machine.execVsel t e s
  | .vbcast t e => Sys2Proof.Machine.execVbcast t e s
  | .vmovi t e => Sys2Proof.Machine.execVmovi t e s
  | .vlane t e => Sys2Proof.Machine.execVlane t e s
  | .vext t e => Sys2Proof.Machine.execVext t e s
  | .vpack t e => Sys2Proof.Machine.execVpack t e s
  | .vunpk t e => Sys2Proof.Machine.execVunpk t e s
  | .vld t e => Sys2Proof.Machine.execVld t e s
  | .vst t e => Sys2Proof.Machine.execVst t e s
  | .gather t e => Sys2Proof.Machine.execGather t e s
  | .tetra t e => Sys2Proof.Machine.execTetra t e s
  | .bpx t e => Sys2Proof.Machine.execBpx t e s
  | .dito t e => Sys2Proof.Machine.execDito t e s
  | .dife t e => Sys2Proof.Machine.execDife t e s
  | .inlineCompress t n stream => Sys2Proof.Machine.execInlineCompress t n stream s
  | .codecBypass t n => Sys2Proof.Machine.execCodecBypass t n s
  | .inlineDecompress t n => Sys2Proof.Machine.execInlineDecompress t n s
  | .codecCompress t q mode rest => Sys2Proof.Machine.execCodecCompress t q mode rest s
  | .codecDecompress t q mode rest => Sys2Proof.Machine.execCodecDecompress t q mode rest s
  | .codecJobCancel t q v => Sys2Proof.Machine.execCodecJobCancel t q v s
  | .codecJobEnd t u streams => Sys2Proof.Machine.execCodecJobEnd t u streams s
  | .memRequest t port write addr len data => Sys2Proof.Machine.execMemRequest t port write addr len data s
  | .refreshTick t c r => Sys2Proof.Machine.execRefreshTick t c r s
  | .mr4Poll t c r zone => Sys2Proof.Machine.execMr4Poll t c r zone s
  | .rowIdleClose t c sub r bg bank => Sys2Proof.Machine.execRowIdleClose t c sub r bg bank s
  | .powerDownEntry t c r => Sys2Proof.Machine.execPowerDownEntry t c r s
  | .memFreqTarget t q v => Sys2Proof.Machine.execMemFreqTarget t q v s
  | .memTsetSel t q v => Sys2Proof.Machine.execMemTsetSel t q v s
  | .freqChangeStart t => Sys2Proof.Machine.execFreqChangeStart t s
  | .freqChangeDone t => Sys2Proof.Machine.execFreqChangeDone t s
  | .freqChangeAbandon t => Sys2Proof.Machine.execFreqChangeAbandon t s
  | .memInterleave t q which v => Sys2Proof.Machine.execMemInterleave t q which v s
  | .rdimmAlert t c => Sys2Proof.Machine.execRdimmAlert t c s
  | .bitmapClearDone t => Sys2Proof.Machine.execBitmapClearDone t s
  | .burstRead t port verdict metaBad => Sys2Proof.Machine.execBurstRead t port verdict metaBad s
  | .pageRepair t corr unc => Sys2Proof.Machine.execPageRepair t corr unc s
  | .pageSettled t c page began corr unc => Sys2Proof.Machine.execPageSettled t c page began corr unc s
  | .staleTrackerScan t c => Sys2Proof.Machine.execStaleTrackerScan t c s
  | .roundVisit t corr unc fixed parity => Sys2Proof.Machine.execRoundVisit t corr unc fixed parity s
  | .roundEnd t => Sys2Proof.Machine.execRoundEnd t s
  | .writeBack t => Sys2Proof.Machine.execWriteBack t s
  | .pageRetire t hit => Sys2Proof.Machine.execPageRetire t hit s
  | .retireRetry t hit => Sys2Proof.Machine.execRetireRetry t hit s
  | .intgSweep t q v => Sys2Proof.Machine.execIntgSweep t q v s
  | .intgSweepCancel t q v => Sys2Proof.Machine.execIntgSweepCancel t q v s
  | .sweepEnd t visits => Sys2Proof.Machine.execSweepEnd t visits s
  | .intgRetireList t q v => Sys2Proof.Machine.execIntgRetireList t q v s
  | .linkUp t p since => Sys2Proof.Machine.execLinkUp t p since s
  | .linkDown t p => Sys2Proof.Machine.execLinkDown t p s
  | .frameRx t p fcsOk fecCorrected fecBad bytes => Sys2Proof.Machine.execFrameRx t p fcsOk fecCorrected fecBad bytes s
  | .macAgeOut t => Sys2Proof.Machine.execMacAgeOut t s
  | .membershipExpiry t => Sys2Proof.Machine.execMembershipExpiry t s
  | .arpRx t p vlan target sender mac => Sys2Proof.Machine.execArpRx t p vlan target sender mac s
  | .neighbourSolicitationRx t p vlan target src mac => Sys2Proof.Machine.execNeighbourSolicitationRx t p vlan target src mac s
  | .echoRx t p vlan v6 dst src data => Sys2Proof.Machine.execEchoRx t p vlan v6 dst src data s
  | .membershipQueryRx t p vlan v6 group => Sys2Proof.Machine.execMembershipQueryRx t p vlan v6 group s
  | .membershipReportRepeat t => Sys2Proof.Machine.execMembershipReportRepeat t s
  | .mediaPacketRx t p => Sys2Proof.Machine.execMediaPacketRx t p s
  | .flowFrameComplete t f => Sys2Proof.Machine.execFlowFrameComplete t f s
  | .flowFrameIncomplete t f => Sys2Proof.Machine.execFlowFrameIncomplete t f s
  | .packetLost t f => Sys2Proof.Machine.execPacketLost t f s
  | .legDown t f leg => Sys2Proof.Machine.execLegDown t f leg s
  | .flowStopped t f => Sys2Proof.Machine.execFlowStopped t f s
  | .wakeFrameRx t p vlan dst udp payload => Sys2Proof.Machine.execWakeFrameRx t p vlan dst udp payload s
  | .read t q ref => Sys2Proof.Machine.execRead t q ref s
  | .write t q ref v env => Sys2Proof.Machine.execWrite t q ref v env s
  | .readMulti t q refs => Sys2Proof.Machine.execReadMulti t q refs s
  | .writeMulti t q entries => Sys2Proof.Machine.execWriteMulti t q entries s
  | .describe t q ref => Sys2Proof.Machine.execDescribe t q ref s
  | .fence t q => Sys2Proof.Machine.execFence t q s
  | .blockOpen t q ref dir block handle off len => Sys2Proof.Machine.execBlockOpen t q ref dir block handle off len s
  | .blockData t q tid n data => Sys2Proof.Machine.execBlockData t q tid n data s
  | .blockAck t q tid cum map => Sys2Proof.Machine.execBlockAck t q tid cum map s
  | .blockAckTimer t tid => Sys2Proof.Machine.execBlockAckTimer t tid s
  | .blockResend t tid => Sys2Proof.Machine.execBlockResend t tid s
  | .blockAbort t q tid => Sys2Proof.Machine.execBlockAbort t q tid s
  | .transferIdle t tid => Sys2Proof.Machine.execTransferIdle t tid s
  | .subscribe t q kind mode interval target => Sys2Proof.Machine.execSubscribe t q kind mode interval target s
  | .unsubscribe t q id => Sys2Proof.Machine.execUnsubscribe t q id s
  | .eventSend t id => Sys2Proof.Machine.execEventSend t id s
  | .eventResend t num seq => Sys2Proof.Machine.execEventResend t num seq s
  | .eventAck t q seq => Sys2Proof.Machine.execEventAck t q seq s
  | .hello t q principal level nonce ekey => Sys2Proof.Machine.execHello t q principal level nonce ekey s
  | .prove t q sig => Sys2Proof.Machine.execProve t q sig s
  | .challengeLapse t num => Sys2Proof.Machine.execChallengeLapse t num s
  | .close t q => Sys2Proof.Machine.execClose t q s
  | .sessionIdle t num => Sys2Proof.Machine.execSessionIdle t num s
  | .dictRestore t q v => Sys2Proof.Machine.execDictRestore t q v s
  | .udpPortSwitch t => Sys2Proof.Machine.execUdpPortSwitch t s
  | .counterClear t q ref v => Sys2Proof.Machine.execCounterClear t q ref v s
  | .discoverSend t => Sys2Proof.Machine.execDiscoverSend t s
  | .discover t p d => Sys2Proof.Machine.execDiscover t p d s
  | .announce t d hs => Sys2Proof.Machine.execAnnounce t d hs s
  | .hierNodeId t q v => Sys2Proof.Machine.execHierNodeId t q v s
  | .custodyRestoreDone t n status snapshot probes => Sys2Proof.Machine.execCustodyRestoreDone t n status snapshot probes s
  | .heartbeat t => Sys2Proof.Machine.execHeartbeat t s
  | .orphan t => Sys2Proof.Machine.execOrphan t s
  | .workerResponse t n m => Sys2Proof.Machine.execWorkerResponse t n m s
  | .proxyTimeout t n => Sys2Proof.Machine.execProxyTimeout t n s
  | .hierFence t q v => Sys2Proof.Machine.execHierFence t q v s
  | .fenceDatagram t d => Sys2Proof.Machine.execFenceDatagram t d s
  | .hierStbProbe t q v => Sys2Proof.Machine.execHierStbProbe t q v s
  | .segmentConsensus t => Sys2Proof.Machine.execSegmentConsensus t s
  | .segmentFlipDecided t => Sys2Proof.Machine.execSegmentFlipDecided t s
  | .segReady t d => Sys2Proof.Machine.execSegReady t d s
  | .flipRx t d => Sys2Proof.Machine.execFlipRx t d s
  | .leaderAppoint t seg => Sys2Proof.Machine.execLeaderAppoint t seg s
  | .stbNoClock t => Sys2Proof.Machine.execStbNoClock t s
  | .stbStuck t => Sys2Proof.Machine.execStbStuck t s
  | .hierNodeCapture t q v image => Sys2Proof.Machine.execHierNodeCapture t q v image s
  | .hierNodeRelease t q v => Sys2Proof.Machine.execHierNodeRelease t q v s
  | .hierNodeAdopt t q v hs => Sys2Proof.Machine.execHierNodeAdopt t q v hs s
  | .loopSetComputeDone t k load => Sys2Proof.Machine.execLoopSetComputeDone t k load s
  | .loopMode t q l v => Sys2Proof.Machine.execLoopMode t q l v s
  | .loopSetpoint t q l src v => Sys2Proof.Machine.execLoopSetpoint t q l src v s
  | .loopCoefficient t q l c v => Sys2Proof.Machine.execLoopCoefficient t q l c v s
  | .loopFlags t q l v => Sys2Proof.Machine.execLoopFlags t q l v s
  | .loopSetClear t q k v => Sys2Proof.Machine.execLoopSetClear t q k v s
  | .bandgap t q inst rest => Sys2Proof.Machine.execBandgap t q inst rest s
  | .adc t q inst rest => Sys2Proof.Machine.execAdc t q inst rest s
  | .temp t q inst rest => Sys2Proof.Machine.execTemp t q inst rest s
  | .supply t q inst rest => Sys2Proof.Machine.execSupply t q inst rest s
  | .pd t q inst rest => Sys2Proof.Machine.execPd t q inst rest s
  | .bankEff t q inst rest => Sys2Proof.Machine.execBankEff t q inst rest s
  | .rootpll t q inst rest => Sys2Proof.Machine.execRootpll t q inst rest s
  | .ddr t q inst rest => Sys2Proof.Machine.execDdr t q inst rest s
  | .eth t q inst rest => Sys2Proof.Machine.execEth t q inst rest s
  | .mlane t q inst rest => Sys2Proof.Machine.execMlane t q inst rest s
  | .vernier t q inst rest => Sys2Proof.Machine.execVernier t q inst rest s
  | .bankEffPoint t b => Sys2Proof.Machine.execBankEffPoint t b s
  | .calRunEnd t id inst a b => Sys2Proof.Machine.execCalRunEnd t id inst a b s
  | .calCancel t q v => Sys2Proof.Machine.execCalCancel t q v s
  | .calAuto t => Sys2Proof.Machine.execCalAuto t s
  | .calRestore t => Sys2Proof.Machine.execCalRestore t s
  | .agePeriodTick t ro ddrEye ethEye => Sys2Proof.Machine.execAgePeriodTick t ro ddrEye ethEye s
  | .ageVcoreTarget t q v => Sys2Proof.Machine.execAgeVcoreTarget t q v s
  | .vauxRelease t => Sys2Proof.Machine.execVauxRelease t s
  | .vauxWarning t below => Sys2Proof.Machine.execVauxWarning t below s
  | .brownOut t => Sys2Proof.Machine.execBrownOut t s
  | .islandPowerOnReset t => Sys2Proof.Machine.execIslandPowerOnReset t s
  | .railGroupGood t g mv straps geo => Sys2Proof.Machine.execRailGroupGood t g mv straps geo s
  | .railGroupTimeout t rail => Sys2Proof.Machine.execRailGroupTimeout t rail s
  | .coldStartRetry t => Sys2Proof.Machine.execColdStartRetry t s
  | .bootRomStart t spd nominal => Sys2Proof.Machine.execBootRomStart t spd nominal s
  | .startupComplete t => Sys2Proof.Machine.execStartupComplete t s
  | .pmbusPoll t mv regs => Sys2Proof.Machine.execPmbusPoll t mv regs s
  | .channelSample t c x => Sys2Proof.Machine.execChannelSample t c x s
  | .ruleEval t => Sys2Proof.Machine.execRuleEval t s
  | .scheduledEval t => Sys2Proof.Machine.execScheduledEval t s
  | .ptlWakeAt t q v => Sys2Proof.Machine.execPtlWakeAt t q v s
  | .ptlRule t q r v => Sys2Proof.Machine.execPtlRule t q r v s
  | .ptlRuleClear t q r v => Sys2Proof.Machine.execPtlRuleClear t q r v s
  | .stateReqNormal t q => Sys2Proof.Machine.execStateReqNormal t q s
  | .stateReqTest t q => Sys2Proof.Machine.execStateReqTest t q s
  | .stateReqStandby t q => Sys2Proof.Machine.execStateReqStandby t q s
  | .standbyEntry t finish => Sys2Proof.Machine.execStandbyEntry t finish s
  | .coldStandby t => Sys2Proof.Machine.execColdStandby t s
  | .warmWake t => Sys2Proof.Machine.execWarmWake t s
  | .wakeReady t => Sys2Proof.Machine.execWakeReady t s
  | .wakeRailFail t rail => Sys2Proof.Machine.execWakeRailFail t rail s
  | .coldWake t => Sys2Proof.Machine.execColdWake t s
  | .eventCapture t => Sys2Proof.Machine.execEventCapture t s
  | .logDrain t => Sys2Proof.Machine.execLogDrain t s
  | .evtLogRead t q v => Sys2Proof.Machine.execEvtLogRead t q v s
  | .evtLogReset t q v => Sys2Proof.Machine.execEvtLogReset t q v s
  | .evtLostMap t q v => Sys2Proof.Machine.execEvtLostMap t q v s
  | .evtCountClear t q v => Sys2Proof.Machine.execEvtCountClear t q v s
  | .secStage t => Sys2Proof.Machine.execSecStage t s
  | .secActivate t q v => Sys2Proof.Machine.execSecActivate t q v s
  | .activationConfirm t => Sys2Proof.Machine.execActivationConfirm t s
  | .activationRevert t silent => Sys2Proof.Machine.execActivationRevert t silent s
  | .mgmtWatchdog t => Sys2Proof.Machine.execMgmtWatchdog t s
  | .mgmtRestartDone t same => Sys2Proof.Machine.execMgmtRestartDone t same s
  | .secQuoteReq t q v => Sys2Proof.Machine.execSecQuoteReq t q v s
  | .quoteReady t => Sys2Proof.Machine.execQuoteReady t s
  | .secExtend t q v => Sys2Proof.Machine.execSecExtend t q v s
  | .secKeyEnrol t q v => Sys2Proof.Machine.execSecKeyEnrol t q v s
  | .secKeyRevoke t q v => Sys2Proof.Machine.execSecKeyRevoke t q v s
  | .secRollbackAdvance t q v => Sys2Proof.Machine.execSecRollbackAdvance t q v s
  | .secJtagUnlock t q v => Sys2Proof.Machine.execSecJtagUnlock t q v s
  | .secJtagLock t q v => Sys2Proof.Machine.execSecJtagLock t q v s
  | .secConfigSave t q v => Sys2Proof.Machine.execSecConfigSave t q v s
  | .secFwClear t q v => Sys2Proof.Machine.execSecFwClear t q v s
  | .intlkRelease t => Sys2Proof.Machine.execIntlkRelease t s
  | .stbClkEdge t others => Sys2Proof.Machine.execStbClkEdge t others s
  | .subchannelSchedule t c sub elig ref => Sys2Proof.Machine.execSubchannelSchedule t c sub elig ref s
  | .rootpllRetry t => Sys2Proof.Machine.execRootpllRetry t s
  | .railFault t r mv => Sys2Proof.Machine.execRailFault t r mv s
  | .tapInstruction t code data => Sys2Proof.Machine.execTapInstruction t code data s
  | .freeBitmapClearDone t a => Sys2Proof.Machine.execFreeBitmapClearDone t a s

end Sys2Proof.Machine
end

