-- ==== Sys2Proof/WellFormed.lean ====
section
/-! DEFINITION. Which requests a datagram of Table 13-1 can spell: every header field within its width. -/

namespace Sys2Proof

/-- The header fields of a request within the widths of Table 13-1. -/
def Req.wf (q : Req) : Bool :=
  decide (q.ver < 256) && decide (q.node < 65536) && decide (q.session < 65536) && decide (q.seq < 4294967296)
    && decide (q.length < 65536) && q.tag.length == 16

end Sys2Proof
end

