-- ==== Sys2Proof/Safety.lean ====
section
/-! DEFINITION. The terms in which statements speak of a run: the canonical form of the stores, what a request that the device executes meets, and how an answer and an event show. -/

namespace Sys2Proof.Machine

/-- Memory is in canonical form: addresses rising, no entry equal to what an unlisted byte reads as (R322). -/
def Memory.wf (m : List Host.Cell) : Bool := kvWf (fun _ => 0) m

/-- The invariant of the stores. -/
def State.storesOk (s : State) : Bool :=
  Memory.wf s.mem && kvWf numDefault s.objs && kvWf blobDefault s.blobs

/-- Checks 1 to 6 of R381 pass for a request to the device itself that finds room on its path: the session record and the state with which the row's own checks and
action run; none where the request goes no further, or where it is its session's last (R377). -/
def State.takes (s : State) (q : Req) (op : Nat) (payload : List Byte) (fast : Bool) : Option (Session × State) :=
  if !s.serves q || q.ver ≠ 1 || q.length ≠ payload.length || s.maxMessage < payload.length + 32 then none
  else
    match s.session? q.session with
    | none => none
    | some x =>
      if q.tag ≠ tagOf x.key (reqMsg q op payload) || x.expired || 2147483647 ≤ x.requests then none
      else if x.inflight.contains q.seq || x.fences.any (fun f => f.1.seq == q.seq) then none
      else
        let new := serialAbove q.seq x.high
        if !(new || x.busied.contains q.seq) then none
        else
          let y := { x with badTag := false, lastAuth := s.tick, requests := x.requests + 1 }
          let z := { y with high := if new then q.seq else x.high, stale := false }
          let s := ((s.setSession q.session y).resumeSubs q.session).setSession q.session z
          if s.rescueBars op payload || q.node ≠ s.obj O.dictNodeId then none
          else
            match (if fast then (none, s.bump O.dictFastRequests) else s.enqueue q.session z q) with
            | (some _, _) => none
            | (none, s) => some (z, s)

/-- A write of `v` to object `ref` that is executed. -/
def State.takesWrite (s : State) (q : Req) (ref : Nat) (v : List Byte) : Option (Session × State) :=
  s.takes q 0x02 (valueForm ref v) (fastWrite ref)

/-- Checks 7 to 10 of R381 pass for a write of `v` to `ref` by session record `x`: the object exists, the level is enough, the access code allows the write, and the value keeps the type's
rule and the range of its table. -/
def State.writable (s : State) (x : Session) (ref : Nat) (v : List Byte) : Bool :=
  match findRef ref with
  | none => false
  | some (r, _) =>
    decide (writeLevel ref ≤ x.level) && !(r.ctr && v.length == r.ty.size && beNat v == 0) && r.acc != .ro
      && (r.acc != .rwi || s.idle ref) && (valueFault r v).isNone

/-- A COMMIT for `owner` at `treq` that is executed, by a session of the owner's level with a well-formed WHEN. -/
def State.takesCommit (s : State) (q : Req) (owner : Nat) (treq : Option Nat) : Option (Session × State) :=
  match s.takes q 0x08 (beBytes 2 owner ++ [0, 0] ++ beBytes 12 (whenCode treq)) false with
  | some (x, s1) => if writeLevel (owner * 256) ≤ x.level && treq.all stimeOk then some (x, s1) else none
  | none => none

/-- A request reaches its session: it is served, of the right form, tagged by the session's key, and the session is not at an end (checks 1 to 3 of R381). -/
def State.reaches (s : State) (q : Req) (op : Nat) (payload : List Byte) (x : Session) : Prop :=
  s.serves q = true ∧ q.ver = 1 ∧ q.length = payload.length ∧ payload.length + 32 ≤ s.maxMessage ∧ s.session? q.session = some x ∧
    q.tag = tagOf x.key (reqMsg q op payload) ∧ x.expired = false ∧ x.requests < 2147483647

/-- A message without a response (BLOCK_DATA, BLOCK_ACK, EVENT_ACK) reaches its session on the device itself: the record and the state with which its action runs. -/
def State.hears (s : State) (q : Req) (op : Nat) (payload : List Byte) (x : Session) (s1 : State) : Prop :=
  ∃ y, s.reaches q op payload y ∧ x = { y with badTag := false, lastAuth := s.tick, requests := y.requests + 1 } ∧ s1 = (s.setSession q.session x).resumeSubs q.session ∧
    q.node = s.obj O.dictNodeId

/-- An object with no behaviour of its own: a write stores its value. -/
def plainObject (ref : Nat) : Bool :=
  !isBufData ref && ref != O.dictRestore &&
    ((effectTable noEnv).find? fun x => decide (x.1 ≤ refIndex ref) && decide (refIndex ref < x.1 + x.2.1) && decide (x.2.2.1 ≤ refSub ref) && decide (refSub ref ≤ x.2.2.2.1)).isNone

/-- The last thing emitted is a message of the device on the session of `x`. -/
def State.toldHost (s : State) (num : Nat) (x : Session) (op status : Nat) (payload : List Byte) : Bool :=
  match s.tx.getLast? with
  | some (.resil port dst m) => port == x.port && dst == x.src && m.op == op && m.flags == 0x40 && m.session == num && m.status == status && m.payload == payload
  | _ => false

/-- The last thing emitted is the answer to `q`: its status and the bytes behind. -/
def State.answered (s : State) (q : Req) (op status : Nat) (payload : List Byte) : Bool :=
  match s.tx.getLast? with
  | some (.resil port dst m) =>
    port == q.port.val && dst == q.src && m.op == op && m.flags == 0x80 && m.session == q.session && m.seq == q.seq && m.status == status && m.payload == payload
  | _ => false

/-- A write was answered OK: the reference and no result behind it (R375). -/
def State.wrote (s : State) (q : Req) (ref : Nat) : Bool := s.answered q 0x02 St.ok (refBytes ref)

/-- `EVT_COUNT` of an event source (R503). -/
def State.evCount (s : State) (e : Nat) : Nat := kvGet (fun _ => 0) s.ev.counts e

/-- Event `e` was raised once between two states (R494, R503). -/
def State.raisedOnce (s s' : State) (e : Nat) : Prop := s'.evCount e = min (s.evCount e + 1) 0xFFFFFFFF

/-- What a saturating counter shows after one more occurrence (R503). -/
def State.counted (s : State) (ref : Nat) : Nat := min (s.obj ref + 1) (topOf ref)

/-- A run of one calibration and instance ended without coefficients: the result word, E231, and what is in force unchanged (R451, R455). -/
def State.calRejected (s s' : State) (x : CalRunSt) (status : Nat) : Prop :=
  s'.cal.coefs = s.cal.coefs ∧ s'.cal.waiting = s.cal.waiting ∧ s'.cal.ends = s.cal.ends ∧ s'.obj (O.calResult x.id) = 4 * 2 ^ 24 + x.inst * 65536 + status ∧
    s.raisedOnce s' 231 ∧ s'.evCount 230 = s.evCount 230 ∧ s'.obj O.calRejects = s.counted O.calRejects

/-- It completed with the coefficients `c`, which take effect at the next slot start (R451, R455). -/
def State.calAccepted (s s' : State) (x : CalRunSt) (c : List Byte) : Prop :=
  kvFind s'.cal.waiting (x.id * 256 + x.inst) = some c ∧ s'.cal.coefs = s.cal.coefs ∧ s'.obj (O.calResult x.id) = 2 * 2 ^ 24 + x.inst * 65536 ∧
    s'.obj (O.calLast x.id) = stimeOf s.studio ∧ s.raisedOnce s' 230 ∧ s'.evCount 231 = s.evCount 231 ∧ s'.obj O.calRuns = s.counted O.calRuns

/-- The fields of a plan entry are within their widths (Table 02-1). -/
def Entry.ok (e : Entry) : Bool :=
  decide (e.start < 2 ^ 30) && decide (e.winLen < 2 ^ 30) && decide (e.winOff < 2 ^ 20) && decide (e.banks < 2 ^ 16) && decide (e.plane < 2 ^ 9) && decide (e.view < 8) && decide (e.prim < 8)
    && decide (e.bit < 16) && decide (e.sub < 16) && decide (e.level < 16) && decide (e.settle < 4)

/-! ### What a command leaves alone -/

/-- The parts of State beside its clock, the objects and what the last command emitted. -/
inductive Part where
  | pending | free | mem | ev | time | tgs | slms | banks | wires | intlk | cols | lutAcc | cams | mouts | bufs | lays | comps | layCommit | carve | codecJobs | codecRecent | memc | intg | net | sent
  | resil | hier | loops | loopSets | cal | power | sec
deriving DecidableEq, Repr

/-- A part holds the same in two states. -/
def Part.same : Part → State → State → Prop
  | .pending, s, t => t.pending = s.pending
  | .free, s, t => t.free = s.free
  | .mem, s, t => t.mem = s.mem
  | .ev, s, t => t.ev = s.ev
  | .time, s, t => t.time = s.time
  | .tgs, s, t => t.tgs = s.tgs
  | .slms, s, t => t.slms = s.slms
  | .banks, s, t => t.banks = s.banks
  | .wires, s, t => t.wires = s.wires
  | .intlk, s, t => t.intlk = s.intlk
  | .cols, s, t => t.cols = s.cols
  | .lutAcc, s, t => t.lutAcc = s.lutAcc
  | .cams, s, t => t.cams = s.cams
  | .mouts, s, t => t.mouts = s.mouts
  | .bufs, s, t => t.bufs = s.bufs
  | .lays, s, t => t.lays = s.lays
  | .comps, s, t => t.comps = s.comps
  | .layCommit, s, t => t.layCommit = s.layCommit
  | .carve, s, t => t.carve = s.carve
  | .codecJobs, s, t => t.codecJobs = s.codecJobs
  | .codecRecent, s, t => t.codecRecent = s.codecRecent
  | .memc, s, t => t.memc = s.memc
  | .intg, s, t => t.intg = s.intg
  | .net, s, t => t.net = s.net
  | .sent, s, t => t.sent = s.sent
  | .resil, s, t => t.resil = s.resil
  | .hier, s, t => t.hier = s.hier
  | .loops, s, t => t.loops = s.loops
  | .loopSets, s, t => t.loopSets = s.loopSets
  | .cal, s, t => t.cal = s.cal
  | .power, s, t => t.power = s.power
  | .sec, s, t => t.sec = s.sec

/-- A family of objects: one, one for each number, or one for each pair of numbers. -/
inductive Family where
  | one (ref : Nat)
  | fam (f : Nat → Nat)
  | fam2 (f : Nat → Nat → Nat)

/-- A reference is of a family. -/
def Family.has : Family → Nat → Prop
  | .one o, r => r = o
  | .fam f, r => ∃ n, r = f n
  | .fam2 f, r => ∃ n m, r = f n m

/-- Every object outside some families reads as before, as a number and as bytes. -/
def sameObjects (own : List Family) (s t : State) : Prop := ∀ r, (∀ f ∈ own, ¬f.has r) → t.obj r = s.obj r ∧ t.blob r = s.blob r

/-- The parts that a command may change; every other part is as before. -/
def reach : Instr → List Part
  | .rootPllLockLoss .. =>
    [.ev, .time, .banks, .intg, .sent, .loops, .loopSets, .cal]
  | .rootPllRelock .. =>
    [.time, .banks, .sent, .power]
  | .servoMeasurement .. | .ppsEdge .. =>
    [.free, .ev, .time, .tgs]
  | .sourceQualified .. | .sourceDisqualified .. =>
    [.free, .ev, .time]
  | .holdoverExpired .. | .faultNRelease .. | .clusterDrained .. | .rdimmAlert .. | .linkUp .. | .flowStopped .. | .fenceDatagram .. | .stbNoClock .. | .stbStuck .. | .eventCapture .. =>
    [.ev]
  | .timeSet .. =>
    [.mem, .ev, .time, .tgs, .intg, .sent, .resil, .hier, .sec]
  | .ptpAnnounceRx .. =>
    [.ev, .time]
  | .ptpSyncTx .. | .ptpAnnounceTx .. | .ptpDelayReqTx .. =>
    [.time, .sent]
  | .ptpDelayReqRx .. | .arpRx .. | .neighbourSolicitationRx .. | .echoRx .. | .membershipQueryRx .. =>
    [.sent]
  | .frameBoundary .. | .tgCommitPoint .. | .tgDarkBegin .. | .tgDarkEnd .. =>
    [.free, .mem, .ev, .time, .tgs, .slms, .banks, .cams, .mouts, .bufs, .lays, .comps, .carve, .memc, .intg, .sent, .resil, .loops, .loopSets, .cal, .sec]
  | .compositionStart .. =>
    [.free, .mem, .ev, .time, .tgs, .slms, .banks, .cols, .cams, .mouts, .bufs, .lays, .comps, .layCommit, .carve, .memc, .intg, .net, .sent, .resil, .hier, .loops, .loopSets, .cal, .sec]
  | .compositionComplete .. =>
    [.mem, .ev, .slms, .bufs, .lays, .comps, .memc, .intg]
  | .tgCommit .. | .tgCancel .. =>
    [.mem, .ev, .tgs, .slms, .banks, .wires, .carve, .memc, .intg, .sent, .resil, .hier, .sec]
  | .plannerStart .. =>
    [.slms]
  | .plannerDone .. | .plannerDeadline .. | .manualSwapVerify .. =>
    [.ev, .slms]
  | .slmPlanStage .. | .slmCompressionCredit .. | .lwPeriod .. | .layFenceDone .. | .layPlaylist .. | .intgSweep .. | .intgSweepCancel .. | .intgRetireList .. | .describe .. | .fence ..
  | .unsubscribe .. | .eventAck .. | .close .. | .hierNodeId .. | .hierFence .. | .hierStbProbe .. | .hierNodeAdopt .. | .loopFlags .. | .ageVcoreTarget .. | .ptlWakeAt .. | .evtLogRead ..
  | .evtLogReset .. | .evtLostMap .. | .evtCountClear .. | .secQuoteReq .. | .secExtend .. | .secKeyEnrol .. | .secKeyRevoke .. | .secRollbackAdvance .. | .secJtagUnlock .. | .secFwClear .. =>
    [.mem, .ev, .intg, .sent, .resil, .hier, .sec]
  | .slmPlanSwap .. =>
    [.mem, .ev, .slms, .intg, .sent, .resil, .hier, .sec]
  | .entryFlip .. =>
    [.free, .ev, .banks, .mouts, .sent, .cal]
  | .gateWindow .. =>
    [.free, .ev, .banks, .sent, .cal]
  | .planeFifoRead .. =>
    [.ev, .slms, .mouts]
  | .parkRepeat .. =>
    [.ev, .mouts, .sent]
  | .intlkAssert .. =>
    [.free, .ev, .banks, .intlk, .sent, .cal]
  | .gateIntlkRearm .. =>
    [.mem, .ev, .banks, .intlk, .intg, .sent, .resil, .hier, .sec]
  | .gateEnable .. | .moutFreezeClear .. =>
    [.mem, .ev, .banks, .intg, .sent, .resil, .hier, .cal, .sec]
  | .gateRearm .. | .gateFadeLevel .. | .secJtagLock .. =>
    [.mem, .ev, .banks, .intg, .sent, .resil, .hier, .sec]
  | .gateVernierApply .. =>
    [.banks]
  | .tlVernierApply .. =>
    [.mouts]
  | .lwSlotStart .. =>
    [.free, .ev, .banks, .wires, .cols, .sent, .loops, .loopSets, .cal]
  | .lwEnable .. | .lwRearm .. =>
    [.mem, .ev, .banks, .wires, .intg, .sent, .resil, .hier, .cal, .sec]
  | .lwLimits .. =>
    [.mem, .ev, .wires, .intg, .sent, .resil, .hier, .sec]
  | .lwReady .. =>
    [.ev, .banks, .wires]
  | .lwInitFailed .. =>
    [.ev, .wires]
  | .faultNAssert .. =>
    [.ev, .banks, .sent, .cal]
  | .lutAccept .. =>
    [.free, .cols, .lutAcc, .carve, .sent, .resil]
  | .matrixCompute .. =>
    [.free, .ev, .cols]
  | .shutterEdge .. | .exposureFrameEval .. =>
    [.ev, .cams]
  | .moutEnable .. =>
    [.mem, .ev, .banks, .mouts, .intg, .sent, .resil, .hier, .cal, .sec]
  | .arrStatRise .. | .arrStatFall .. | .arrayPoll .. =>
    [.ev, .banks, .mouts, .sent, .cal]
  | .bringupTimeout .. =>
    [.ev, .mouts]
  | .moutLaneRestore .. =>
    [.mem, .ev, .mouts, .intg, .sent, .resil, .hier, .sec]
  | .layAlloc .. | .hierNodeCapture .. =>
    [.free, .mem, .ev, .bufs, .memc, .intg, .sent, .resil, .hier, .sec]
  | .layBufFree .. | .hierNodeRelease .. =>
    [.mem, .ev, .bufs, .memc, .intg, .sent, .resil, .hier, .sec]
  | .layFlip .. =>
    [.mem, .ev, .lays, .intg, .sent, .resil, .hier, .sec]
  | .layPlay .. =>
    [.mem, .ev, .bufs, .lays, .memc, .intg, .sent, .resil, .hier, .sec]
  | .compositorCommit .. =>
    [.mem, .ev, .bufs, .lays, .comps, .layCommit, .carve, .memc, .intg, .net, .sent, .resil, .hier, .sec]
  | .layCancel .. =>
    [.mem, .ev, .layCommit, .carve, .memc, .intg, .sent, .resil, .hier, .sec]
  | .tileIssue .. | .tileResult .. | .tileFault .. | .clusterTestDone .. | .engNop .. | .engEnd .. | .br .. | .brs .. | .engFault .. | .shdr .. | .sadd .. | .ssub .. | .smul .. | .sand .. | .sor ..
  | .sxor .. | .sshl .. | .sshr .. | .smovi .. | .saddi .. | .sld .. | .sst .. | .vadd .. | .vsub .. | .vadds .. | .vsubs .. | .vmul .. | .vmulq .. | .vmac .. | .vmin .. | .vmax .. | .vand ..
  | .vor .. | .vxor .. | .vshl .. | .vshr .. | .vlerp .. | .vcmp .. | .vsel .. | .vbcast .. | .vmovi .. | .vlane .. | .vext .. | .vpack .. | .vunpk .. | .vld .. | .vst .. | .gather .. | .tetra ..
  | .bpx .. | .dito .. | .dife .. =>
    [.mem, .ev, .slms, .comps, .carve, .intg]
  | .engineDispatch .. =>
    [.carve]
  | .clusterOfflineReq .. | .clusterOnlineReq .. =>
    [.mem, .ev, .slms, .comps, .carve, .intg, .sent, .resil, .hier, .sec]
  | .kernelInstall .. =>
    [.free, .ev, .carve, .sent, .resil, .sec]
  | .crvKernelRemove .. | .crvJob .. =>
    [.mem, .ev, .carve, .intg, .sent, .resil, .hier, .sec]
  | .crvJobCancel .. =>
    [.mem, .ev, .bufs, .carve, .memc, .intg, .sent, .resil, .hier, .sec]
  | .crvJobEnd .. =>
    [.ev, .bufs, .carve, .memc]
  | .inlineCompress .. =>
    [.mem, .ev, .slms, .codecRecent, .intg]
  | .codecBypass .. =>
    [.mem, .ev, .slms, .intg]
  | .inlineDecompress .. =>
    [.ev, .slms, .mouts, .codecRecent]
  | .codecCompress .. | .codecDecompress .. =>
    [.mem, .ev, .codecJobs, .intg, .sent, .resil, .hier, .sec]
  | .codecJobCancel .. =>
    [.mem, .ev, .bufs, .codecJobs, .memc, .intg, .sent, .resil, .hier, .sec]
  | .codecJobEnd .. =>
    [.mem, .ev, .bufs, .codecJobs, .memc, .intg]
  | .memRequest .. | .freqChangeDone .. | .subchannelSchedule .. =>
    [.mem, .ev, .memc, .intg, .sent]
  | .refreshTick .. | .freqChangeStart .. =>
    [.memc]
  | .mr4Poll .. | .freqChangeAbandon .. =>
    [.ev, .memc]
  | .rowIdleClose .. | .powerDownEntry .. =>
    [.memc, .sent]
  | .memFreqTarget .. | .memTsetSel .. | .memInterleave .. =>
    [.mem, .ev, .memc, .intg, .sent, .resil, .hier, .sec]
  | .bitmapClearDone .. =>
    [.mem, .ev, .memc, .intg, .hier]
  | .burstRead .. | .pageRepair .. =>
    [.ev, .memc, .intg, .sent]
  | .pageSettled .. | .roundVisit .. | .roundEnd .. | .writeBack .. | .pageRetire .. | .retireRetry .. | .sweepEnd .. =>
    [.ev, .intg]
  | .staleTrackerScan .. =>
    [.intg]
  | .linkDown .. | .frameRx .. =>
    [.ev, .net, .sent]
  | .macAgeOut .. | .membershipExpiry .. =>
    [.net]
  | .membershipReportRepeat .. =>
    [.net, .sent]
  | .mediaPacketRx .. =>
    [.free, .mem, .ev, .bufs, .memc, .intg, .net]
  | .flowFrameComplete .. =>
    [.ev, .bufs, .lays, .net]
  | .flowFrameIncomplete .. | .packetLost .. | .legDown .. =>
    [.ev, .net]
  | .wakeFrameRx .. =>
    [.net, .power]
  | .read .. | .readMulti .. | .subscribe .. =>
    [.free, .mem, .ev, .banks, .intg, .sent, .resil, .hier, .cal, .sec]
  | .write .. | .writeMulti .. | .blockData .. | .dictRestore .. | .counterClear .. =>
    [.free, .mem, .ev, .time, .tgs, .slms, .banks, .wires, .intlk, .cams, .mouts, .bufs, .lays, .comps, .layCommit, .carve, .codecJobs, .memc, .intg, .net, .sent, .resil, .hier, .loops, .loopSets, .cal, .power, .sec]
  | .blockOpen .. | .blockAck .. | .blockAbort .. | .secConfigSave .. =>
    [.free, .mem, .ev, .intg, .sent, .resil, .hier, .sec]
  | .blockAckTimer .. =>
    [.free, .sent, .resil]
  | .blockResend .. | .hello .. =>
    [.free, .ev, .sent, .resil]
  | .transferIdle .. | .prove .. | .secStage .. =>
    [.free, .ev, .sent, .resil, .sec]
  | .eventSend .. =>
    [.free, .ev, .banks, .sent, .resil, .cal, .sec]
  | .eventResend .. =>
    [.ev, .sent, .resil]
  | .challengeLapse .. | .udpPortSwitch .. =>
    [.resil]
  | .sessionIdle .. =>
    [.ev, .resil, .sec]
  | .discoverSend .. | .segmentConsensus .. | .leaderAppoint .. | .stbClkEdge .. =>
    [.sent, .hier]
  | .discover .. | .announce .. | .heartbeat .. | .orphan .. | .segReady .. =>
    [.ev, .sent, .hier]
  | .custodyRestoreDone .. =>
    [.free, .mem, .ev, .bufs, .memc, .intg, .sent, .hier]
  | .workerResponse .. =>
    [.free, .mem, .ev, .bufs, .memc, .intg, .sent, .resil, .hier]
  | .proxyTimeout .. =>
    [.sent, .resil, .hier]
  | .segmentFlipDecided .. =>
    [.hier]
  | .flipRx .. =>
    [.ev, .hier]
  | .loopSetComputeDone .. =>
    [.free, .loopSets]
  | .loopMode .. | .loopSetClear .. =>
    [.mem, .ev, .intg, .sent, .resil, .hier, .loops, .loopSets, .sec]
  | .loopSetpoint .. | .loopCoefficient .. =>
    [.mem, .ev, .intg, .sent, .resil, .hier, .loops, .sec]
  | .bandgap .. | .adc .. | .temp .. | .supply .. | .pd .. | .bankEff .. | .rootpll .. | .ddr .. | .eth .. | .mlane .. | .vernier .. =>
    [.mem, .ev, .intg, .sent, .resil, .hier, .cal, .sec]
  | .bankEffPoint .. =>
    [.banks, .cal]
  | .calRunEnd .. =>
    [.free, .ev, .time, .banks, .mouts, .memc, .intg, .sent, .loops, .loopSets, .cal, .power]
  | .calCancel .. =>
    [.mem, .ev, .time, .banks, .memc, .intg, .sent, .resil, .hier, .loops, .loopSets, .cal, .sec]
  | .calAuto .. | .rootpllRetry .. =>
    [.cal]
  | .calRestore .. =>
    [.free, .ev, .sent, .resil, .cal]
  | .agePeriodTick .. =>
    [.free, .mem, .ev, .memc, .intg, .sent, .cal]
  | .vauxRelease .. =>
    [.ev, .banks, .intg, .sent, .loops, .loopSets, .cal, .power]
  | .vauxWarning .. | .railFault .. =>
    [.ev, .power]
  | .brownOut .. | .islandPowerOnReset .. | .coldWake .. =>
    [.mem, .ev, .time, .tgs, .slms, .banks, .wires, .intlk, .cols, .lutAcc, .cams, .mouts, .bufs, .lays, .comps, .layCommit, .carve, .codecJobs, .codecRecent, .memc, .intg, .net, .sent, .resil, .hier, .loops, .loopSets, .cal, .power, .sec]
  | .railGroupGood .. =>
    [.free, .ev, .time, .banks, .wires, .mouts, .memc, .intg, .sent, .resil, .hier, .loops, .loopSets, .cal, .power, .sec]
  | .railGroupTimeout .. =>
    [.ev, .time, .banks, .intg, .sent, .loops, .loopSets, .cal, .power]
  | .coldStartRetry .. | .warmWake .. =>
    [.sent, .power]
  | .bootRomStart .. =>
    [.ev, .banks, .carve, .memc, .intg, .sent, .loops, .loopSets, .cal, .sec]
  | .startupComplete .. =>
    [.ev, .banks, .intg, .sent, .loops, .loopSets, .cal]
  | .pmbusPoll .. =>
    [.ev, .sent, .power]
  | .channelSample .. =>
    [.free, .power]
  | .ruleEval .. | .scheduledEval .. =>
    [.free, .ev, .banks, .sent, .cal, .power]
  | .ptlRule .. =>
    [.mem, .ev, .intg, .sent, .resil, .hier, .power, .sec]
  | .ptlRuleClear .. =>
    [.mem, .ev, .banks, .intg, .sent, .resil, .hier, .cal, .power, .sec]
  | .stateReqNormal .. | .stateReqTest .. | .stateReqStandby .. =>
    [.mem, .ev, .banks, .intg, .sent, .resil, .hier, .loops, .loopSets, .cal, .power, .sec]
  | .standbyEntry .. =>
    [.free, .mem, .ev, .time, .tgs, .slms, .banks, .wires, .intlk, .cams, .mouts, .bufs, .lays, .comps, .carve, .codecJobs, .memc, .intg, .net, .sent, .resil, .loops, .loopSets, .cal, .power, .sec]
  | .coldStandby .. =>
    [.free, .ev, .time, .tgs, .slms, .banks, .wires, .intlk, .cams, .mouts, .bufs, .lays, .comps, .carve, .codecJobs, .memc, .intg, .net, .sent, .resil, .loops, .loopSets, .cal, .power, .sec]
  | .wakeReady .. =>
    [.ev, .tgs, .banks, .intlk, .intg, .net, .sent, .loops, .loopSets, .cal, .power]
  | .wakeRailFail .. =>
    [.free, .ev, .time, .tgs, .slms, .banks, .wires, .cams, .mouts, .bufs, .lays, .comps, .carve, .memc, .intg, .sent, .resil, .loops, .loopSets, .cal, .power, .sec]
  | .logDrain .. =>
    [.mem, .ev, .intg, .resil]
  | .secActivate .. =>
    [.free, .mem, .ev, .time, .banks, .intg, .sent, .resil, .hier, .loops, .loopSets, .cal, .power, .sec]
  | .activationConfirm .. =>
    [.ev, .sec]
  | .activationRevert .. =>
    [.free, .ev, .time, .banks, .intg, .sent, .resil, .loops, .loopSets, .cal, .power, .sec]
  | .mgmtWatchdog .. =>
    [.free, .ev, .time, .banks, .intg, .sent, .resil, .loops, .loopSets, .cal, .sec]
  | .mgmtRestartDone .. =>
    [.ev, .banks, .carve, .intg, .sent, .resil, .loops, .loopSets, .cal, .sec]
  | .quoteReady .. =>
    [.free, .sec]
  | .intlkRelease .. =>
    [.banks, .intlk]
  | .tapInstruction .. =>
    [.ev, .banks, .sent, .sec]
  | .freeBitmapClearDone .. =>
    [.mem, .memc, .intg]

/-- A host's write of `v` to `ref` that the device executes: the answer changes the session, and beside it only the objects of the families `own`, `ref` itself and some parts change. -/
def framed (i : Nat → Req → Instr) (ref : Nat) (v : List Byte) (own : List Family) (parts : List Part) : Prop :=
  ∀ (t : Nat) (q : Req) (s s1 : State) (x : Session), (s.at t).takesWrite q ref v = some (x, s1) →
    ∃ s', exec (i t q) s = .next s' ∧ s'.tick = s1.tick ∧ sameObjects (.one ref :: own) s1 s' ∧ ∀ p, p ∉ Part.resil :: Part.sent :: parts → p.same s1 s'

/-! ### Carve instructions (R242 to R246) -/

/-- Engine `e` comes to an instruction word `w` with opcode `op` of its stage, and `n` cycles more stay within the kernel's WCET (R250). -/
def State.issues (s : State) (e op n w : Nat) (r : Run) : Prop :=
  (s.engine e).run = some r ∧ r.out = none ∧ pcOk (s.engine e).pc = true ∧ s.codeWord (s.engine e).pc = w ∧ opcodeOf w = op ∧ r.cycles + n ≤ s.stageLimit r

/-- Only engine `e` has changed, `n` cycles have passed in its stage, and its pc is `pc`. -/
def State.ran (s s' : State) (e n pc : Nat) (r : Run) : Prop :=
  s' = s.setEngine e (s'.engine e) ∧ (s'.engine e).pc = pc ∧ (s'.engine e).run = some { r with cycles := r.cycles + n }

/-- Of two engines the second differs in scalar `d` alone, which holds `x`; a write to s0 is ignored (R242). -/
def Eng.wroteS (g g' : Eng) (d : Nat) (x : Word) : Prop :=
  g'.v = g.v ∧ g'.p = g.p ∧ g'.loc = g.loc ∧ g'.sat = g.sat ∧ ∀ r, g'.sreg r = if r = d ∧ d ≠ 0 then x else g.sreg r

/-- The second differs in the guarded lanes of v register `d`, lane `l` of which holds `f l`, and in SAT, which is set where `clip` says so of a guarded lane. -/
def Eng.wroteV (g g' : Eng) (pg : Nat) (pn : Bool) (d : Nat) (f : Nat → Word) (clip : Nat → Bool) : Prop :=
  g'.s = g.s ∧ g'.p = g.p ∧ g'.loc = g.loc ∧ (g'.sat = true ↔ g.sat = true ∨ ∃ l < 16, g.guard pg pn l = true ∧ clip l = true) ∧
    ∀ r, ∀ l < 16, g'.lane r l = if r = d ∧ g.guard pg pn l = true then f l else g.lane r l

/-- The value of an element, unsigned under U. -/
def elemVal {n : Nat} (u : Bool) (x : BitVec n) : Int := if u then x.toNat else x.toInt
/-- The element range (R244), and an exact value clamped to it. -/
def elemIn (n : Nat) (u : Bool) (v : Int) : Bool := if u then decide (0 ≤ v) && decide (v < 2 ^ n) else decide (-(2 ^ (n - 1)) ≤ v) && decide (v < 2 ^ (n - 1))
def elemClamp (n : Nat) (u : Bool) (v : Int) : BitVec n :=
  BitVec.ofInt n (if u then max 0 (min (2 ^ n - 1) v) else max (-(2 ^ (n - 1))) (min (2 ^ (n - 1) - 1) v))

/-- The halves of a lane; a lane from its halves (R242). -/
def loHalf (x : Word) : Half := x.setWidth 16
def hiHalf (x : Word) : Half := (x >>> 16).setWidth 16
def joinHalves (hi lo : Half) : Word := hi ++ lo

/-- An operation on the elements of three lanes: on whole lanes, or with W16 on both halves. -/
def onElems (w16 : Bool) (f : (n : Nat) → BitVec n → BitVec n → BitVec n → BitVec n) (a b c : Word) : Word :=
  if w16 then joinHalves (f 16 (hiHalf a) (hiHalf b) (hiHalf c)) (f 16 (loHalf a) (loHalf b) (loHalf c)) else f 32 a b c
def anyElem (w16 : Bool) (f : (n : Nat) → BitVec n → BitVec n → BitVec n → Bool) (a b c : Word) : Bool :=
  if w16 then f 16 (hiHalf a) (hiHalf b) (hiHalf c) || f 16 (loHalf a) (loHalf b) (loHalf c) else f 32 a b c

/-- Instruction `c` with opcode `op`, where `ok` holds of its word: it completes in `n` cycles, and only scalar `d` changes. -/
def completesScalar (c : Nat → Fin 1024 → Instr) (op n : Nat) (ok : Nat → Bool) (d : Nat → Nat) (f : Eng → Nat → Word) : Prop :=
  ∀ (t : Nat) (e : Fin 1024) (w : Nat) (r : Run) (s : State), (s.at t).issues e op n w r → ok w = true →
    ∃ s', exec (c t e) s = .next s' ∧ (s.at t).ran s' e n ((s.engine e).pc + 8) r ∧ (s.engine e).wroteS (s'.engine e) (d w) (f (s.engine e) w)

/-- The same of an instruction that changes the guarded lanes of one v register: lane `l` becomes `f g w l`, and a guarded lane with `clip g w l` sets SAT. -/
def completesVector (c : Nat → Fin 1024 → Instr) (op n : Nat) (ok : Nat → Bool) (f : Eng → Nat → Nat → Word) (clip : Eng → Nat → Nat → Bool) : Prop :=
  ∀ (t : Nat) (e : Fin 1024) (w : Nat) (r : Run) (s : State), (s.at t).issues e op n w r → ok w = true →
    ∃ s', exec (c t e) s = .next s' ∧ (s.at t).ran s' e n ((s.engine e).pc + 8) r ∧
      (s.engine e).wroteV (s'.engine e) (bits w 55 53) (bit w 52) (bits w 51 47) (f (s.engine e) w) (clip (s.engine e) w)

/-- Format V with scalars where `mask` has bit 0 (D), 1 (A), 2 (B): no guard, and top bits clear. -/
def scalarV (mask w : Nat) : Bool :=
  vOk w && noGuard w && (!bit mask 0 || decide (bits w 51 47 < 16)) && (!bit mask 1 || decide (bits w 46 42 < 16)) && (!bit mask 2 || decide (bits w 41 37 < 16))

end Sys2Proof.Machine
end

