-- ==== Sys2Proof/Certificates/Slice0/Obligations.lean ====
section
/-! DEFINITION. The statements for the provers. Every command carries the root tick at which it comes about (log entry 1). -/

open Sys2Proof Sys2Proof.Machine

/-- A step runs the command at the front of the queue on the state with the rest of it; with none waiting the device idles for one root tick, which is the model's choice (log entry 2). -/
def Obligations.StepRunsFrontCommand : Prop :=
  (∀ (c : Instr) (cs : List Instr) (s : State), s.pending = c :: cs → step s = exec c { s with pending := cs }) ∧
  (∀ s : State, s.pending = [] → step s = .next { s with tick := s.tick + 1, tx := [] })

/-- What power-on leaves (R92, R322, R465, R494): state COLD, every bank forced by its enable and by its lamp wire, nothing in memory, no event, no session, and the stores in their canonical form.
Where the spec leaves a point open or it is read by inference, the choice is the model's: log entries 5, 8. -/
def Obligations.ResetState : Prop :=
  State.reset.pending = [] ∧ State.reset.opState = cold ∧ State.reset.mem = [] ∧ State.reset.storesOk = true ∧ State.reset.resil.sessions = [] ∧
    State.reset.ev.fifo = [] ∧ State.reset.net.flows = [] ∧ (∀ a, State.reset.byte a = 0) ∧ ∀ b < 16, State.reset.obj (O.gateForceCause b) = 0x0180

/-- The root PLL and the servo's sources: loss of lock and relock (R22), qualification, disqualification and the choice of the source (R31, R32), expiry of the holdover (R42). Where the spec leaves a
point open or it is read by inference, the choice is the model's: log entries 3, 22, 26, 27. -/
def Obligations.RootClockAndSources : Prop :=
  (∀ (t : Nat) (s : State), s.time.pllLocked = true →
    ∃ s', exec (.rootPllLockLoss t) s = .next s' ∧ s'.time.pllLocked = false ∧ s'.obj O.timeState = 0 ∧ s.raisedOnce s' 8 ∧
      bit (s'.obj O.pwrRecoveryCause) 0 = true ∧ (s.opState = 3 ∨ s.opState = 4 → s'.opState = 5) ∧ ∀ b < 16, bit (s'.causes b) 1 = true) ∧
  (∀ (t : Nat) (s : State), s.time.pllLocked = false → s.opState ∉ [0, 1, 6] →
    ∃ s', exec (.rootPllRelock t) s = .next s' ∧ s'.time.pllLocked = true ∧ s'.obj O.timeState = 0 ∧ s'.opState = s.opState ∧
      bit (s'.obj O.pwrRecoveryCause) 0 = false ∧ ∀ b < 16, bit (s'.causes b) 1 = false) ∧
  (∀ (t : Nat) (c : Fin 16) (near : Bool) (s : State), 1 ≤ c.val → c.val ≤ 6 → s.time.pllLocked = true →
    (c.val = 5 → near = true ∨ s.time.ptpTime = true ∨ s.time.timeSet = true) → (c.val = 6 → s.time.ptpTime = true ∨ s.time.timeSet = true) →
    ∃ s', exec (.sourceQualified t c near) s = .next s' ∧ c.val ∈ s'.time.qualified ∧ s'.obj O.timeSrcActive = s'.selectSource) ∧
  (∀ (t : Nat) (c : Fin 16) (m : Fin 256) (s : State), c.val ∈ s.time.qualified →
    ∃ s', exec (.sourceDisqualified t c false m) s = .next s' ∧ c.val ∉ s'.time.qualified ∧ s'.obj O.timeSrcActive = s'.selectSource ∧
      s.raisedOnce s' (if c.val = 5 then 11 else if c.val = 6 then 12 else 10) ∧ (s.obj O.timeSrcActive = c.val → s.raisedOnce s' 0)) ∧
  (∀ (t : Nat) (m : Fin 256) (s : State), s.time.tenOk = true →
    ∃ s', exec (.sourceDisqualified t 6 true m) s = .next s' ∧ s'.time.tenOk = false ∧ s'.time.qualified = s.time.qualified ∧ s.raisedOnce s' 13) ∧
  (∀ (t : Nat) (s : State), s.obj O.timeState = 3 → (s.at t).holdoverOver = true →
    ∃ s', exec (.holdoverExpired t) s = .next s' ∧ s'.obj O.timeState = 4 ∧ s'.obj O.timeFreqCorr = s.obj O.timeFreqCorr ∧ s.raisedOnce s' 5)

/-- Measurements and set times: the phase error that a measurement leaves, the policy SLEW that never steps (R25, R26), a PPS edge (R40), and `TIME_SET` (R27). Where the spec leaves a point open or it
is read by inference, the choice is the model's: log entries 3, 20, 21, 23. -/
def Obligations.MeasurementsAndTimeSet : Prop :=
  (∀ (t : Nat) (c : Fin 16) (err : Int) (s : State), c.val ≠ 0 → s.obj O.timeSrcActive = c.val → s.obj O.timeState = 1 ∨ s.obj O.timeState = 2 →
    s.time.pllLocked = true → s.obj O.timeStepPolicy = 0 →
    ∃ s', exec (.servoMeasurement t c err) s = .next s' ∧ s'.obj O.timePhaseErr = satI32 (s.offsetErr c.val err) ∧ s'.time.offset = s.time.offset) ∧
  (∀ (t : Nat) (c : Fin 16) (err : Int) (s : State), c.val ≠ 0 → s.obj O.timeSrcActive = c.val → s.obj O.timeState = 1 ∨ s.obj O.timeState = 2 →
    s.time.pllLocked = true → s.obj O.timeStepPolicy = 1 → s.obj O.timeStepThresh * 1000 < (s.offsetErr c.val err).natAbs →
    ∃ s', exec (.servoMeasurement t c err) s = .next s' ∧ s'.time.offset = s.time.offset + psTicks (s.offsetErr c.val err) ∧ s.raisedOnce s' 7) ∧
  (∀ (t : Nat) (rising : Bool) (s : State), rising = (s.obj O.timePpsEdge == 0) → s.time.lastPps = none →
    ∃ s', exec (.ppsEdge t rising) s = .next s' ∧ s'.time.lastPps = some s'.tick ∧ s'.time.ppsMiss = 0) ∧
  (∀ (t : Nat) (q : Req) (v : List Byte) (s s1 : State) (x : Session), (s.at t).takesWrite q O.timeSet v = some (x, s1) → s1.writable x O.timeSet v = true →
    s1.obj O.timeState = 0 ∨ (s1.obj O.timeState = 1 ∧ s1.obj O.timeSrcActive = 5) →
    ∃ s', exec (.timeSet t q v) s = .next s' ∧ s'.wrote q O.timeSet = true ∧ s'.time.offset = s1.time.offset + s1.setDelta (beNat v) ∧
      s1.raisedOnce s' 14 ∧ s'.evCount 7 = s1.evCount 7) ∧
  (∀ (t : Nat) (q : Req) (v : List Byte) (s s1 : State) (x : Session), (s.at t).takesWrite q O.timeSet v = some (x, s1) → s1.writable x O.timeSet v = true →
    s1.obj O.timeState ≠ 0 → ¬(s1.obj O.timeState = 1 ∧ s1.obj O.timeSrcActive = 5) →
    ∃ s', exec (.timeSet t q v) s = .next s' ∧ s'.answered q 0x02 St.notReady (refBytes O.timeSet) = true ∧ s'.time = s1.time)

/-- The PTP messages of a port that takes part: the dataset an Announce leaves (R35, R37), and what a port sends (R34 to R36). Where the spec leaves a point open or it is read by inference, the choice
is the model's: log entries 24, 25. -/
def Obligations.PtpMessages : Prop :=
  (∀ (t : Nat) (p : Fin 4) (a : PtpAnnounce) (s : State), (s.at t).ptpOn p = true → a.domain = s.obj O.timePtpDomain → a.unsupported = false →
    (s.ptpPort p).foreign = none →
    ∃ s', exec (.ptpAnnounceRx t p a) s = .next s' ∧ (s'.ptpPort p).foreign = some (foreignOf a s'.tick) ∧ (a.tlv ≠ [] → s'.blob O.timeSmTlv = a.tlv)) ∧
  (∀ (t : Nat) (p : Fin 4) (s : State), (s.at t).ptpMaster p = true →
    ∃ s', exec (.ptpSyncTx t p) s = .next s' ∧ (s'.ptpPort p).syncSeq = ((s.ptpPort p).syncSeq + 1) % 65536 ∧
      s'.tx = (if s.objB O.timePtpTwoStep then [.ptp p ptpSync (s.ptpPort p).syncSeq [], .ptp p ptpFollowUp (s.ptpPort p).syncSeq [(s.at t).txStamp p]]
        else [.ptp p ptpSync (s.ptpPort p).syncSeq [(s.at t).txStamp p]])) ∧
  (∀ (t : Nat) (p : Fin 4) (s : State), (s.at t).ptpMaster p = true → (s.at t).bmca = none →
    ∃ s' rest, exec (.ptpAnnounceTx t p) s = .next s' ∧
      s'.tx = [.ptp p ptpAnnounce (s.ptpPort p).annSeq (Config.ptpIdentity :: s.obj O.timePtpPriority1 :: s.clockClass :: rest)]) ∧
  (∀ (t : Nat) (p : Fin 4) (s : State), (s.at t).ptpOn p = true → s.obj O.timePtpSlavePort = p →
    ∃ s', exec (.ptpDelayReqTx t p) s = .next s' ∧ s'.tx = [.ptp p ptpDelayReq (s.ptpPort p).delaySeq [(s.at t).txStamp p]]) ∧
  (∀ (t : Nat) (p : Fin 4) (domain n sender port : Nat) (corr : Int) (s : State), (s.at t).ptpMaster p = true → domain = s.obj O.timePtpDomain →
    ∃ s', exec (.ptpDelayReqRx t p domain n sender port corr) s = .next s' ∧ s'.tx = [.ptp p ptpDelayResp n [(s.at t).rxStamp p, corr, (sender : Int), (port : Int)]])

/-- A timing commit of a generator, from its acceptance or refusal to its cancellation (R51, R53, R54). Where the spec leaves a point open or it is read by inference, the choice is the model's: log
entries 28, 29, 31, 32. -/
def Obligations.TimingCommitRequests : Prop :=
  (∀ (t : Nat) (q : Req) (n : Fin 4) (treq : Option Nat) (s s1 : State) (x : Session), (s.at t).takesCommit q (0x2110 + n) treq = some (x, s1) →
    (s1.tgCommit n treq).status = St.ok →
    ∃ s' c, exec (.tgCommit t q n treq) s = .next s' ∧ (s'.tg n).commit = some c ∧ c.passed = false ∧ c.treq = treq ∧ s'.obj (O.tgCommitState n) = 1 ∧
      s'.obj (O.tgCommitResult n) = 0 ∧ s'.obj (O.tgBOld n) = c.bOld.stime ∧ s'.answered q 0x08 St.ok (beBytes 12 c.bOld.stime) = true ∧ s'.obj (O.tgEnable n) = s1.obj (O.tgEnable n)) ∧
  (∀ (t : Nat) (q : Req) (n : Fin 4) (treq : Option Nat) (s s1 : State) (x : Session), (s.at t).takesCommit q (0x2110 + n) treq = some (x, s1) →
    (s1.tg n).commit = none → (s1.tgCommit n treq).status ≠ St.ok →
    ∃ s', exec (.tgCommit t q n treq) s = .next s' ∧ s'.tgs = s1.tgs ∧ s'.obj (O.tgCommitState n) = 3 ∧ s'.obj (O.tgCommitResult n) = (s1.tgCommit n treq).status ∧
      s'.obj (O.tgRefusals n) = s1.counted (O.tgRefusals n) ∧ s'.answered q 0x08 (s1.tgCommit n treq).status [] = true) ∧
  (∀ (t : Nat) (q : Req) (n : Fin 4) (treq : Option Nat) (s s1 : State) (x : Session), (s.at t).takesCommit q (0x2110 + n) treq = some (x, s1) →
    (s1.tg n).commit ≠ none → ∃ s', exec (.tgCommit t q n treq) s = .next s' ∧ s'.tgs = s1.tgs ∧ s'.objs = s1.objs ∧ s'.answered q 0x08 St.commitPending [] = true) ∧
  (∀ (t : Nat) (q : Req) (n : Fin 4) (v : List Byte) (s s1 : State) (x : Session) (c : TgCommit), (s.at t).takesWrite q (O.tgCancel n) v = some (x, s1) →
    s1.writable x (O.tgCancel n) v = true → (s1.tg n).commit = some c → c.host = true → c.passed = false → s1.reached (s1.commitPoint n c) = false → c.stepped = false →
    ∃ s', exec (.tgCancel t q n v) s = .next s' ∧ (s'.tg n).commit = none ∧ (s'.tg n).running = (s1.tg n).running ∧ s'.obj (O.tgCommitState n) = 4 ∧
      s'.obj (O.tgCommitResult n) = St.aborted ∧ s'.wrote q (O.tgCancel n) = true) ∧
  (∀ (t : Nat) (q : Req) (n : Fin 4) (v : List Byte) (s s1 : State) (x : Session), (s.at t).takesWrite q (O.tgCancel n) v = some (x, s1) →
    s1.writable x (O.tgCancel n) v = true → (∀ c, (s1.tg n).commit = some c → c.host = false ∨ c.passed = true ∨ s1.reached (s1.commitPoint n c) = true) →
    ∃ s', exec (.tgCancel t q n v) s = .next s' ∧ s'.tgs = s1.tgs ∧ s'.obj (O.tgCommitResult n) = s1.obj (O.tgCommitResult n) ∧
      s'.answered q 0x02 St.notActive (refBytes (O.tgCancel n)) = true)

/-- Frame boundaries and composition (R45, R47, R65, R77, R80, R204), and a timing commit on its way: the commit point, the dark interval and the first new frame (R52, R54, R55). Where the spec leaves
a point open or it is read by inference, the choice is the model's: log entries 3, 18, 30, 34. -/
def Obligations.FramesAndTimingCommits : Prop :=
  (∀ (t : Nat) (n : Fin 4) (k : Nat) (b : Instant) (s : State), (s.at t).boundaryDue n = some (k, b) →
    ∃ s', exec (.frameBoundary t n) s = .next s' ∧ (s'.tg n).frame = k ∧ s'.obj (O.tgFrame n) = k % 2 ^ 64 ∧ s'.obj (O.tgFrameStart n) = b.stime ∧
      (((s'.slm n).front = !(s.slm n).front ∧ s'.obj (O.slmRepeats n) = s.obj (O.slmRepeats n)) ∨
       ((s'.slm n).front = (s.slm n).front ∧ (s'.slm n).active = (s.slm n).frontPlan ∧ s'.obj (O.slmRepeats n) = s.counted (O.slmRepeats n)))) ∧
  (∀ (t : Nat) (n : Fin 4) (k : Nat) (st bk : Instant) (s : State), ((s.at t).tgCommitPoint n).composeDue n = some (k, st, bk) →
    ∃ s', exec (.compositionStart t n) s = .next s' ∧ (s'.slm n).composing = some k ∧ (s'.slm n).composed = false ∧ (s'.slm n).occ = []) ∧
  (∀ (t : Nat) (n : Fin 4) (k : Nat) (s : State), s.producing n = some k → (∀ m ∈ s.group n, s.imagesDone m (!s.frontHalf m) = true) →
    ∃ s', exec (.compositionComplete t n) s = .next s' ∧ ∀ m ∈ s.group n, (s'.slm m).composed = true ∧ (s'.slm m).hist = (s.slm m).occ) ∧
  (∀ (t : Nat) (n : Fin 4) (c : TgCommit) (s : State), (s.tg n).commit = some c → c.passed = false → (s.at t).reached (s.commitPoint n c) = true →
    ∃ s' c', exec (.tgCommitPoint t n) s = .next s' ∧ (s'.tg n).commit = some c' ∧ c'.passed = true ∧ c'.bOld = c.bOld ∧ c'.bNew = c.bNew ∧ (s'.slm n).swapReq = none) ∧
  (∀ (t : Nat) (n : Fin 4) (c : TgCommit) (s : State), (s.tg n).commit = some c → (s.tg n).dark = false → (s.at t).reached c.bOld = true →
    ∃ s', exec (.tgDarkBegin t n) s = .next s' ∧ (s'.tg n).running = false ∧
      (c.bNew = none → (s'.tg n).commit = none ∧ (s'.tg n).dark = false ∧ s'.obj (O.tgCommitState n) = 0) ∧
      (c.bNew ≠ none → (s'.tg n).commit ≠ none ∧ (s'.tg n).dark = true ∧ s'.obj (O.tgCommitState n) = 2)) ∧
  (∀ (t : Nat) (n : Fin 4) (c : TgCommit) (b : Instant) (k : Nat) (s : State), (s.tg n).commit = some c → c.bNew = some (b, k) → (s.tg n).dark = true → (s.at t).reached b = true →
    ∃ s', exec (.tgDarkEnd t n) s = .next s' ∧ (s'.tg n).running = true ∧ (s'.tg n).dark = false ∧ (s'.tg n).commit = none ∧ (s'.tg n).frame = k ∧
      s'.obj (O.tgFrame n) = k % 2 ^ 64 ∧ s'.obj (O.tgCommitState n) = 0 ∧ s'.obj (O.tgCommits n) = s.counted (O.tgCommits n))

/-- The planner of a frame: its start, the plan it writes or the base plan, and its deadline (R75); manual plans and the compression credit (R76, R85). Where the spec leaves a point open or it is read
by inference, the choice is the model's: log entries 3, 38, 39, 42. -/
def Obligations.PlansAndCredit : Prop :=
  (∀ (t : Nat) (n : Fin 4) (s : State), (s.tg n).running = true → s.leadOf n = n → s.obj (O.slmPlanMode n) = 0 → (s.slm n).planning ≠ some ((s.tg n).frame + 1) →
    ∃ s', exec (.plannerStart t n) s = .next s' ∧ s'.plannerAt n = some ((s.tg n).frame + 1)) ∧
  (∀ (t : Nat) (n : Fin 4) (k : Nat) (s : State), s.plannerAt n = some k → (tickInstant (s.at t).studio).le (s.halfAfter n ((k : Int) - 1)) = true →
    ∃ s', exec (.plannerDone t n) s = .next s' ∧ s'.plannerAt n = none ∧
      (let p := (s.cfg n).adaptive (s.slm n).hist (s.obj (O.moutWidth n) * s.obj (O.moutHeight n))
       ((s.cfg n).verify p = none → (s'.slm n).inactive = some p) ∧
       ((s.cfg n).verify p ≠ none → (s'.slm n).inactive = some (s.basePlan n) ∧ s'.obj (O.slmFallbacks n) = s.counted (O.slmFallbacks n) ∧
         (40 ∉ (s.slm n).raised → s.raisedOnce s' 40)))) ∧
  (∀ (t : Nat) (n : Fin 4) (k : Nat) (s : State), s.plannerAt n = some k → (s.at t).reached (s.halfAfter n ((k : Int) - 1)) = true →
    ∃ s', exec (.plannerDeadline t n) s = .next s' ∧ s'.plannerAt n = none ∧ (s'.slm n).inactive = some (s.basePlan n) ∧
      s'.obj (O.slmLatePlans n) = s.counted (O.slmLatePlans n) ∧ (41 ∉ (s.slm n).raised → s.raisedOnce s' 41)) ∧
  -- manual plans and the credit
  (∀ (t : Nat) (q : Req) (n : Fin 4) (v : List Byte) (s s1 : State) (x : Session), (s.at t).takesWrite q (O.slmPlanStage n) v = some (x, s1) →
    s1.writable x (O.slmPlanStage n) v = true →
    ∃ s', exec (.slmPlanStage t q n v) s = .next s' ∧ s'.blob (O.slmPlanStage n) = v ∧ s'.slms = s1.slms ∧ s'.wrote q (O.slmPlanStage n) = true) ∧
  (∀ (t : Nat) (q : Req) (n : Fin 4) (v : List Byte) (s s1 : State) (x : Session), (s.at t).takesWrite q (O.slmPlanSwap n) v = some (x, s1) →
    s1.writable x (O.slmPlanSwap n) v = true →
    ∃ s', exec (.slmPlanSwap t q n v) s = .next s' ∧ s'.wrote q (O.slmPlanSwap n) = true ∧
      ((s1.halfBefore n (beNat v)).lt (tickInstant s1.studio) = false → (s'.slm n).swapReq = some (beNat v)) ∧
      ((s1.halfBefore n (beNat v)).lt (tickInstant s1.studio) = true → (s'.slm n).swapReq = none ∧ s'.obj (O.slmManualResult n) = 0x0002FFFF ∧
        s'.obj (O.slmManualRefused n) = s1.counted (O.slmManualRefused n))) ∧
  (∀ (t : Nat) (n : Fin 4) (k : Nat) (s : State), (s.slm n).swapReq = some k → s.obj (O.slmPlanMode n) = 2 → (s.at t).reached (s.halfBefore n k) = true →
    ∃ s', exec (.manualSwapVerify t n) s = .next s' ∧ (s'.slm n).swapReq = none ∧
      ((s.cfg n).verify (s.stagedPlan n) = none → (s'.slm n).swapTable = some (k, s.stagedPlan n)) ∧
      (∀ st i, (s.cfg n).verify (s.stagedPlan n) = some (st, i) → (s'.slm n).swapTable = (s.slm n).swapTable ∧ s'.obj (O.slmManualResult n) = st * 65536 + i ∧
        s'.obj (O.slmManualRefused n) = s.counted (O.slmManualRefused n))) ∧
  (∀ (t : Nat) (q : Req) (v : List Byte) (s s1 : State) (x : Session), (s.at t).takesWrite q O.slmCompressionCredit v = some (x, s1) →
    s1.writable x O.slmCompressionCredit v = true → beNat v = 1 ∨ s1.obj O.slmBwAdmittedRaw ≤ s1.obj O.slmBwCeiling →
    ∃ s', exec (.slmCompressionCredit t q v) s = .next s' ∧ s'.obj O.slmCompressionCredit = beNat v ∧ s'.wrote q O.slmCompressionCredit = true) ∧
  (∀ (t : Nat) (q : Req) (v : List Byte) (s s1 : State) (x : Session), (s.at t).takesWrite q O.slmCompressionCredit v = some (x, s1) →
    s1.writable x O.slmCompressionCredit v = true → beNat v = 0 → s1.obj O.slmBwCeiling < s1.obj O.slmBwAdmittedRaw →
    ∃ s', exec (.slmCompressionCredit t q v) s = .next s' ∧ s'.objs = s1.objs ∧ s'.answered q 0x02 St.creditInUse (refBytes O.slmCompressionCredit) = true)

/-- The interlock (R99): the pin forces every lane low, a pulse of 2 ns latches, and the re-arm answers by pin and latch. Where the spec leaves a point open or it is read by inference, the choice is
the model's: log entries 3, 43. -/
def Obligations.Interlock : Prop :=
  (∀ (t width : Nat) (s : State), s.intlk.low = false → s.opState ≠ 6 → 2000 ≤ width →
    ∃ s', exec (.intlkAssert t width) s = .next s' ∧ s'.intlk.low = true ∧ s'.intlk.latched = true ∧ s'.obj O.gateIntlkState = 1 ∧
      s'.obj O.gateIntlkCount = s.counted O.gateIntlkCount ∧ s.raisedOnce s' 50 ∧
      ∀ b < 16, bit (s'.causes b) 0 = true ∧ bit (s'.obj (O.gateForceLatch b)) 0 = true) ∧
  (∀ (t width : Nat) (s : State), s.intlk.low = false →
    ∃ s', exec (.intlkAssert t width) s = .next s' ∧ s'.intlk.low = true ∧ ∀ b < 16, bit (s'.causes b) 0 = true) ∧
  (∀ (t : Nat) (s : State), s.intlk.low = true →
    ∃ s', exec (.intlkRelease t) s = .next s' ∧ s'.intlk.low = false ∧ s'.intlk.latched = s.intlk.latched ∧
      s'.obj O.gateIntlkState = (if s.intlk.latched then 2 else 0) ∧ ∀ b < 16, bit (s'.causes b) 0 = (s.intlk.latched && bit (s.causes b) 0)) ∧
  (∀ (t : Nat) (q : Req) (v : List Byte) (s s1 : State) (x : Session), (s.at t).takesWrite q O.gateIntlkRearm v = some (x, s1) → s1.writable x O.gateIntlkRearm v = true →
    ∃ s', exec (.gateIntlkRearm t q v) s = .next s' ∧
      (s1.intlk.low = true → s'.objs = s1.objs ∧ s'.intlk = s1.intlk ∧ s'.answered q 0x02 St.interlocked (refBytes O.gateIntlkRearm) = true) ∧
      (s1.intlk.low = false → s1.intlk.latched = false → s'.objs = s1.objs ∧ s'.ev = s1.ev ∧ s'.answered q 0x02 St.notActive (refBytes O.gateIntlkRearm) = true) ∧
      (s1.intlk.low = false → s1.intlk.latched = true → s'.intlk.latched = false ∧ s'.obj O.gateIntlkState = 0 ∧ s1.raisedOnce s' 51 ∧
        s'.wrote q O.gateIntlkRearm = true ∧ ∀ b < 16, bit (s'.causes b) 0 = false))

/-- Banks and their lanes (R92, R96, R98, R101, R114): enable, re-arm, fade, vernier, and the header and window of an entry. Where the spec leaves a point open or it is read by inference, the choice
is the model's: log entries 3, 16, 44, 45, 46. -/
def Obligations.BanksAndLanes : Prop :=
  (∀ (t : Nat) (q : Req) (b : Fin 16) (v : List Byte) (s s1 : State) (x : Session), (s.at t).takesWrite q (O.gateEnable b) v = some (x, s1) →
    s1.writable x (O.gateEnable b) v = true →
    ∃ s', exec (.gateEnable t q b v) s = .next s' ∧ s'.obj (O.gateEnable b) = beNat v ∧ s'.wrote q (O.gateEnable b) = true ∧
      (beNat v = 1 → bit (s'.causes b) 5 = false) ∧ (beNat v = 0 → s1.bankTg b = none → bit (s'.causes b) 5 = true)) ∧
  (∀ (t : Nat) (q : Req) (b : Fin 16) (v : List Byte) (s s1 : State) (x : Session), (s.at t).takesWrite q (O.gateRearm b) v = some (x, s1) →
    s1.writable x (O.gateRearm b) v = true →
    ∃ s', exec (.gateRearm t q b v) s = .next s' ∧
      (s1.obj (O.lwLoadState b) ≠ 2 → s'.objs = s1.objs ∧ s'.answered q 0x02 St.notReady (refBytes (O.gateRearm b)) = true) ∧
      (s1.obj (O.lwLoadState b) = 2 → bit (s1.obj (O.gateForceLatch b)) 3 = false → s'.objs = s1.objs ∧ s'.ev = s1.ev ∧
        s'.answered q 0x02 St.notActive (refBytes (O.gateRearm b)) = true) ∧
      (s1.obj (O.lwLoadState b) = 2 → bit (s1.obj (O.gateForceLatch b)) 3 = true → bit (s'.causes b) 3 = false ∧ bit (s'.obj (O.gateForceLatch b)) 3 = false ∧
        s1.raisedOnce s' 52 ∧ s'.wrote q (O.gateRearm b) = true)) ∧
  (∀ (t : Nat) (q : Req) (b : Fin 16) (v : List Byte) (s s1 : State) (x : Session), (s.at t).takesWrite q (O.gateFadeLevel b) v = some (x, s1) →
    s1.writable x (O.gateFadeLevel b) v = true →
    ∃ s', exec (.gateFadeLevel t q b v) s = .next s' ∧ s'.obj (O.gateFadeLevel b) = beNat v ∧ s'.obj (O.gateFadeNow b) = s1.obj (O.gateFadeNow b) ∧
      (s'.bank b).fade = some ⟨s1.obj (O.gateFadeNow b), beNat v, s1.obj (O.gateFadeTime b), s1.obj (O.gateFadeCurve b), none⟩ ∧ s'.wrote q (O.gateFadeLevel b) = true) ∧
  (∀ (t : Nat) (b : Fin 16) (f : Nat) (l : Int) (s : State), (s.bank b).vernierFrom = some f → f ≤ (s.at t).tick → (s.at t).laneLowSince b = some l → l + 8 ≤ (s.at t).tick →
    ∃ s', exec (.gateVernierApply t b) s = .next s' ∧ (s'.bank b).vernier = s.obj (O.gateVernier b) ∧ (s'.bank b).vernierFrom = none) ∧
  (∀ (t : Nat) (n : Fin 4) (b : Fin 16) (light dark : List Int) (k : Int) (i : Nat) (e : Entry) (s s0 : State), s0 = ((s.at t).settleWin b).hostDue b →
    s0.headerNow n b = some (k, i, e) → s0.laneEmits n b k = true → (s0.tg n).dark = false →
    ∃ s', exec (.gateWindow t n b light dark) s = .next s' ∧ s'.obj (O.gateHeaders b) = s.counted (O.gateHeaders b) ∧
      s'.tx = [.gateHeader b s'.tick (headerBits e.level (s.obj (O.gateTable b)) i), .gate b (s'.tick + 239) e.winLen (s.bank b).vernier])

/-- FAULT_N chains and the start of a lamp wire (R109 to R113). Where the spec leaves a point open or it is read by inference, the choice is the model's: log entries 3, 15, 47. -/
def Obligations.LampWires : Prop :=
  (∀ (t : Nat) (q : Req) (w : Fin 16) (v : List Byte) (s s1 : State) (x : Session), (s.at t).takesWrite q (O.lwEnable w) v = some (x, s1) →
    s1.writable x (O.lwEnable w) v = true → s1.obj (O.lwEnable w) = 0 →
    ∃ s', exec (.lwEnable t q w v) s = .next s' ∧ s'.obj (O.lwEnable w) = beNat v ∧ s'.obj (O.lwLoadState w) = beNat v ∧ bit (s'.causes w) 8 = true ∧
      (s'.wire w).initLeft = (if beNat v = 1 then 3 else 0) ∧ s'.wrote q (O.lwEnable w) = true) ∧
  (∀ (t : Nat) (q : Req) (w : Fin 16) (v : List Byte) (s s1 : State) (x : Session), (s.at t).takesWrite q (O.lwRearm w) v = some (x, s1) →
    s1.writable x (O.lwRearm w) v = true → s1.obj (O.lwEnable w) = 1 →
    ∃ s', exec (.lwRearm t q w v) s = .next s' ∧ s'.obj (O.lwLoadState w) = 1 ∧ bit (s'.causes w) 8 = true ∧ (s'.wire w).initLeft = 3 ∧ s'.wrote q (O.lwRearm w) = true) ∧
  (∀ (t : Nat) (q : Req) (w : Fin 16) (v : List Byte) (s s1 : State) (x : Session), (s.at t).takesWrite q (O.lwLimits w) v = some (x, s1) →
    s1.writable x (O.lwLimits w) v = true →
    ∃ s', exec (.lwLimits t q w v) s = .next s' ∧ s'.blob (O.lwLimits w) = v ∧ (s1.obj (O.lwEnable w) = 1 → (s'.wire w).limitQ = true) ∧ s'.wrote q (O.lwLimits w) = true) ∧
  (∀ (t : Nat) (q : Req) (v : List Byte) (s s1 : State) (x : Session), (s.at t).takesWrite q O.lwPeriod v = some (x, s1) → s1.writable x O.lwPeriod v = true →
    ∃ s', exec (.lwPeriod t q none v) s = .next s' ∧
      ((∀ w < 16, slotFits (beNat v) (s1.obj (O.lwDrivers w)) = true) → s'.obj O.lwPeriod = beNat v ∧ s'.wrote q O.lwPeriod = true) ∧
      (∀ w < 16, slotFits (beNat v) (s1.obj (O.lwDrivers w)) = false → s'.objs = s1.objs ∧ s'.answered q 0x02 St.lwTiming (refBytes O.lwPeriod) = true)) ∧
  (∀ (t : Nat) (q : Req) (w : Fin 16) (v : List Byte) (s s1 : State) (x : Session), (s.at t).takesWrite q (O.lwDrivers w) v = some (x, s1) →
    s1.writable x (O.lwDrivers w) v = true →
    ∃ s', exec (.lwPeriod t q (some w) v) s = .next s' ∧
      (slotFits (s1.obj O.lwPeriod) (beNat v) = true → s'.obj (O.lwDrivers w) = beNat v ∧ s'.wrote q (O.lwDrivers w) = true) ∧
      (slotFits (s1.obj O.lwPeriod) (beNat v) = false → s'.objs = s1.objs ∧ s'.answered q 0x02 St.lwTiming (refBytes (O.lwDrivers w)) = true)) ∧
  (∀ (t : Nat) (w : Fin 16) (m3 m : Nat) (s : State), (s.at t).initWait w = some (m3, m) → m3 < m → s.obj (O.lwFaultState w) = 0 →
    ∃ s', exec (.lwReady t w) s = .next s' ∧ s'.obj (O.lwLoadState w) = 2 ∧ bit (s'.causes w) 8 = false ∧ s.raisedOnce s' 62) ∧
  (∀ (t : Nat) (w : Fin 16) (m3 m : Nat) (s : State), (s.at t).initWait w = some (m3, m) → m3 + 3 ≤ m → s.obj (O.lwFaultState w) ≠ 0 →
    ∃ s', exec (.lwInitFailed t w) s = .next s' ∧ s'.obj (O.lwLoadState w) = 3 ∧ s'.causes w = s.causes w ∧ s.raisedOnce s' 63) ∧
  (∀ (t : Nat) (w : Fin 16) (s : State), s.obj (O.lwFaultState w) = 0 →
    ∃ s', exec (.faultNAssert t w) s = .next s' ∧ s'.obj (O.lwFaultState w) = 1 ∧ s'.obj (O.lwFaults w) = s.counted (O.lwFaults w) ∧ s.raisedOnce s' 60 ∧
      (s.obj (O.lwFaultAction w) = 0 → ∀ b < 16, s'.causes b = s.causes b) ∧
      (s.obj (O.lwFaultAction w) = 1 → bit (s'.causes w) 3 = true ∧ bit (s'.obj (O.gateForceLatch w)) 3 = true ∧ ∀ b < 16, b ≠ w.val → s'.causes b = s.causes b)) ∧
  (∀ (t : Nat) (w : Fin 16) (s : State), s.obj (O.lwFaultState w) = 1 →
    ∃ s', exec (.faultNRelease t w) s = .next s' ∧ s'.obj (O.lwFaultState w) = 0 ∧ s.raisedOnce s' 61 ∧ ∀ b < 16, s'.causes b = s.causes b) ∧
  (∀ (t : Nat) (ain die : List (Option Int)) (s : State), (s.at t).slotsRun = true → (s.at t).slotStart (s.at t).nextSlot ≤ (s.at t).tick →
    ∃ s', exec (.lwSlotStart t ain die) s = .next s' ∧ s'.obj O.lwSlot = (s.at t).nextSlot ∧
      (s.jtagDrives = false → ∀ w < 16, s.obj (O.lwEnable w) = 1 → s'.obj (O.lwFrames w) = s.counted (O.lwFrames w)))

/-- The readout of a mirror output, its timing lane and a corrected frame (R66, R81, R172, R173, R182; R125, R131). Where the spec leaves a point open or it is read by inference, the choice is the
model's: log entries 3, 53, 54. -/
def Obligations.OutputReadout : Prop :=
  (∀ (t : Nat) (n : Fin 4) (tr : Transfer) (e : Entry) (s : State), (s.mout n).transfer = some tr →
    e = (if tr.index = 0 ∧ (s.tg (s.leadOf n)).running = true ∧ (s.tg (s.leadOf n)).frame = tr.frame then ((s.slm (s.leadOf n)).active.head?).getD tr.entry else tr.entry) →
    s.emittedFlip n tr.frame e ≤ (s.at t).tick → s.laneOn n = true →
    ∃ s', exec (.entryFlip t n) s = .next s' ∧ .timing n (s.emittedFlip n tr.frame e) (if e.start = 0 then 24 else 8) (s.mout n).vernier ∈ s'.tx ∧
      s'.obj (O.moutPlanesSent n) = (s.obj (O.moutPlanesSent n) + 1) % 2 ^ 64 ∧
      s'.obj (O.moutFramesShown n) = (if tr.index = 0 then (s.obj (O.moutFramesShown n) + 1) % 2 ^ 64 else s.obj (O.moutFramesShown n))) ∧
  (∀ (t : Nat) (n : Fin 4) (ok : Bool) (fs : List Fetch) (f : Fetch) (s : State), (s.mout n).fetches = fs ++ [f] →
    (s.at t).fifoFill n + (fs ++ [f]).foldl (fun a f => a + f.coded.length * 4096) 0 + 4096 ≤ 524288 → f.next < s.imageBlocks n →
    ∃ s' f', exec (.planeFifoRead t n ok) s = .next s' ∧ (s'.mout n).fetches = fs ++ [f'] ∧ f'.next = f.next + 1 ∧
      (kvGet (fun _ => 0) (s.half n f.half).index (blockKey f.entry.plane f.next) = 0xFF → f'.coded = f.coded ∧ f'.got = f.got ++ [(f.next, (s.at t).tick, fill 4096 0)]) ∧
      (kvGet (fun _ => 0) (s.half n f.half).index (blockKey f.entry.plane f.next) = 0 → ok = true → f'.coded = f.coded ∧
        f'.got = f.got ++ [(f.next, (s.at t).tick, s.bytes (s.blockAddr n f.half f.entry.plane f.next) 4096)]) ∧
      (kvGet (fun _ => 0) (s.half n f.half).index (blockKey f.entry.plane f.next) ≠ 0xFF → ok = false → f'.coded = f.coded ∧
        f'.got = f.got ++ [(f.next, (s.at t).tick, fill 4096 0)] ∧ s'.obj (O.slmZeroBlocks n) = s.counted (O.slmZeroBlocks n))) ∧
  (∀ (t : Nat) (n : Fin 4) (p : Int) (s : State), (s.at t).showing n = false → s.laneOn n = true → (s.mout n).lastPark = some p → p + 10312500 ≤ (s.at t).tick →
    (s.mout n).transfer = none →
    ∃ s', exec (.parkRepeat t n) s = .next s' ∧ s'.tx = [.timing n (p + 10312500) 48 (s.mout n).vernier] ∧ (s'.mout n).lastPark = some (p + 10312500) ∧
      s'.obj (O.moutParks n) = s.counted (O.moutParks n)) ∧
  (∀ (t : Nat) (n : Fin 4) (f : Nat) (s : State), (s.mout n).vernierFrom = some f → f ≤ (s.at t).tick → (s.mout n).lowSince + 8 ≤ (s.at t).tick →
    ∃ s', exec (.tlVernierApply t n) s = .next s' ∧ (s'.mout n).vernier = s.obj (O.moutTlVernier n) ∧ (s'.mout n).vernierFrom = none) ∧
  (∀ (t : Nat) (v : Fin 8) (tid : Nat) (x : Xfer) (s : State), s.wholeOf (O.colLutStage v) = some (tid, x) → kvFind s.resil.xfers tid = some x →
    (s.xferValue x).length = lutBytes →
    ((s.at t).showingView v).any (fun m => (s.col m).lutPend.contains v.val) = false →
    ∃ s', exec (.lutAccept t v) s = .next s' ∧ s'.obj (O.colLutLoaded v) = 1 ∧ s'.blob (O.colLutStage v) = s.xferValue x ∧ (s'.lutSlotOf v).1 = 1 - (s.lutSlotOf v).1 ∧
      kvFind s'.resil.ended tid = some (x.session, x.cum, St.ok)) ∧
  (∀ (t : Nat) (v : Fin 8) (tid : Nat) (x : Xfer) (s : State), s.wholeOf (O.colLutStage v) = some (tid, x) → kvFind s.resil.xfers tid = some x →
    (s.xferValue x).length ≠ lutBytes →
    ∃ s', exec (.lutAccept t v) s = .next s' ∧ s'.objs = s.objs ∧ s'.blobs = s.blobs ∧ s'.lutAcc = s.lutAcc ∧ kvFind s'.resil.ended tid = some (x.session, x.cum, St.badSize)) ∧
  (∀ (t : Nat) (n : Fin 4) (k : Nat) (s : State), (s.at t).nextComposed (s.leadOf n) = some k → s.obj (O.colCompMode n) = 1 → s.resil.procDown = false →
    ∃ s' m, exec (.matrixCompute t n) s = .next s' ∧ (s'.col n).matrixNext = some (k, m) ∧ s'.blob (O.colMatrix n) = s.blob (O.colMatrix n))

/-- Shutters (R150 to R152): an edge is matched once per exposure frame, and a frame without its open edge counts towards MISSING. Where the spec leaves a point open or it is read by inference, the
choice is the model's: log entries 3, 56, 57. -/
def Obligations.Shutters : Prop :=
  (∀ (t : Nat) (c : Fin 8) (rising : Bool) (n : Nat) (e : Int) (k : Nat) (s : State), (s.cam c).measuring = true → n = s.leadOf (s.obj (O.camOutput c)) →
    e = ((s.at t).tick : Int) - s.objI (O.camShutDelay c) → (rising = true ↔ s.obj (O.camShutPolarity c) = 0) →
    s.frameAround n e (s.obj (O.camOpen c)) = k → s.exposure c k = true →
    ∃ s', exec (.shutterEdge t c rising) s = .next s' ∧
      (((s.cam c).at k).open_ = none → ((s'.cam c).at k).open_ = some (e - s.boundaryTick n k) ∧ s'.obj (O.camLastOpen c) = stimeOf (e + s.time.offset) ∧
        s'.obj (O.camExtraEdges c) = s.obj (O.camExtraEdges c)) ∧
      (((s.cam c).at k).open_ ≠ none → s'.cams = s.cams ∧ s'.obj (O.camExtraEdges c) = s.counted (O.camExtraEdges c))) ∧
  (∀ (t : Nat) (c : Fin 8) (rising : Bool) (n : Nat) (e : Int) (k : Nat) (s : State), (s.cam c).measuring = true → n = s.leadOf (s.obj (O.camOutput c)) →
    e = ((s.at t).tick : Int) - s.objI (O.camShutDelay c) → ¬ (rising = true ↔ s.obj (O.camShutPolarity c) = 0) →
    s.frameAround n e (s.obj (O.camOpen c) + s.obj (O.camLength c) : Nat) = k → s.exposure c k = true →
    ∃ s', exec (.shutterEdge t c rising) s = .next s' ∧
      (∀ a, ((s.cam c).at k).open_ = some a → ((s.cam c).at k).close = none → a < e - s.boundaryTick n k →
        ((s'.cam c).at k).close = some (e - s.boundaryTick n k) ∧ s'.objs = s.objs) ∧
      (((s.cam c).at k).open_ = none → s'.cams = s.cams ∧ s'.obj (O.camExtraEdges c) = s.counted (O.camExtraEdges c))) ∧
  (∀ (t : Nat) (c : Fin 8) (n k : Nat) (s : State), (s.cam c).measuring = true → n = s.leadOf (s.obj (O.camOutput c)) → k = s.nextExposure c 8 (s.cam c).next →
    (s.at t).reached ((((s.timing n).boundary k).plus (s.obj (O.camOpen c) + s.obj (O.camLength c) : Nat)).plusFrac (s.timing n).pNum (2 * (s.timing n).den)) = true →
    ∃ s', exec (.exposureFrameEval t c) s = .next s' ∧ (s'.cam c).next = k + 1 ∧
      (((s.cam c).at k).open_ = none → s'.obj (O.camMissed c) = s.counted (O.camMissed c) ∧ (s'.cam c).missRun = (s.cam c).missRun + 1 ∧
        (s.obj (O.camShutState c) ≠ 3 → (s'.obj (O.camShutState c) = 3 ↔ s.obj (O.camMissFrames) ≤ (s.cam c).missRun + 1)) ∧
        (s.obj (O.camShutState c) = 3 → s'.obj (O.camShutState c) = 3)) ∧
      (∀ a b, ((s.cam c).at k).open_ = some a → ((s.cam c).at k).close = some b →
        let g : Nat := s.obj (O.camGuard c)
        let dO := a - s.obj (O.camOpen c)
        let dC := b - s.obj (O.camOpen c) - s.obj (O.camLength c)
        (s'.cam c).missRun = 0 ∧
        (dO.natAbs ≤ g → dC.natAbs ≤ g → s.obj (O.camShutState c) = 1 → s'.obj (O.camShutState c) = 1 ∧ s'.ev = s.ev) ∧
        ((g < dO.natAbs ∨ g < dC.natAbs) → s'.obj (O.camShutState c) = 2 ∧ s'.obj (O.camDriftFrames c) = s.counted (O.camDriftFrames c)) ∧
        ((g < dO.natAbs ∨ g < dC.natAbs) → s.obj (O.camShutState c) = 1 → s.raisedOnce s' 85)))

/-- Bring-up of an array, its loss, and what its polls and the host do (R175 to R180, R185). Where the spec leaves a point open or it is read by inference, the choice is the model's: log entries 3,
49, 51, 52, 55. -/
def Obligations.ArrayLinks : Prop :=
  (∀ (t cols rows : Nat) (q : Req) (n : Fin 4) (v : List Byte) (s s1 : State) (x : Session), (s.at t).takesWrite q (O.moutEnable n) v = some (x, s1) →
    s1.writable x (O.moutEnable n) v = true →
    ∃ s', exec (.moutEnable t q n v cols rows) s = .next s' ∧ s'.obj (O.moutEnable n) = beNat v ∧ s'.wrote q (O.moutEnable n) = true ∧
      (beNat v = 0 → s'.obj (O.moutState n) = 0) ∧
      (beNat v = 1 → s1.obj (O.moutEnable n) = 0 → cols = s1.obj (O.moutWidth n) → rows = s1.obj (O.moutHeight n) →
        s'.obj (O.moutState n) = 1 ∧ bit (s'.obj (O.moutBlankReason n)) 1 = true ∧ s'.evCount 27 = s1.evCount 27) ∧
      (beNat v = 1 → s1.obj (O.moutEnable n) = 0 → (cols ≠ s1.obj (O.moutWidth n) ∨ rows ≠ s1.obj (O.moutHeight n)) → s'.obj (O.moutState n) = 4 ∧ s1.raisedOnce s' 27)) ∧
  (∀ (t lock : Nat) (n : Fin 4) (s : State), s.obj (O.moutState n) = 1 → s.opState ≠ startup → (s.mout n).rejoin = false →
    ∃ s', exec (.arrStatRise t n lock) s = .next s' ∧
      ((∃ l < 23, bit (s.obj (O.moutLanesActive n)) l = true ∧ bit lock l = true) → s'.obj (O.moutState n) = 2 ∧ s.raisedOnce s' 20 ∧
        bit (s'.obj (O.moutBlankReason n)) 1 = false ∧
        ∀ l < 23, bit (s'.obj (O.moutLanesActive n)) l = (bit (s.obj (O.moutLanesActive n)) l && bit lock l)) ∧
      (s.obj (O.moutLanesActive n) < 2 ^ 23 → (∀ l < 23, bit (s.obj (O.moutLanesActive n)) l = true → bit lock l = false) →
        s'.obj (O.moutState n) = 4 ∧ s.raisedOnce s' 21)) ∧
  (∀ (t : Nat) (n : Fin 4) (s : State), s.obj (O.moutState n) = 1 → (s.mout n).bringupAt + msTicks (s.obj (O.moutBringupTimeout n)) ≤ (s.at t).tick →
    ∃ s', exec (.bringupTimeout t n) s = .next s' ∧ s'.obj (O.moutState n) = 4 ∧ s.raisedOnce s' 21) ∧
  (∀ (t : Nat) (n : Fin 4) (s : State), (s.obj (O.moutState n) = 2 ∨ s.obj (O.moutState n) = 3) →
    ∃ s', exec (.arrStatFall t n) s = .next s' ∧ s'.obj (O.moutState n) = 1 ∧ bit (s'.obj (O.moutBlankReason n)) 1 = true ∧
      s'.obj (O.moutArrayDrops n) = s.counted (O.moutArrayDrops n) ∧ s.raisedOnce s' 22 ∧ (s'.mout n).transfer = (s.mout n).transfer) ∧
  (∀ (t lock err pe : Nat) (n : Fin 4) (s : State), (s.obj (O.moutState n) = 2 ∨ s.obj (O.moutState n) = 3) →
    ((s.mout n).pollAsked = true ∨ (s.mout n).lastPoll + usTicks (s.obj O.moutPollPeriod) ≤ (s.at t).tick) →
    ∃ s', exec (.arrayPoll t n lock err pe) s = .next s' ∧ (s'.mout n).lastPoll = (s.at t).tick ∧
      ∀ l < 23, bit (s'.obj (O.moutLanesActive n)) l = (bit (s.obj (O.moutLanesActive n)) l && bit lock l &&
        !(decide (s.obj (O.moutLaneErrPolls n) ≤ if bit err l then kvGet (fun _ => 0) (s.mout n).errRuns l + 1 else 0)))) ∧
  (∀ (t lock : Nat) (q : Req) (n : Fin 4) (v : List Byte) (s s1 : State) (x : Session), (s.at t).takesWrite q (O.moutLaneRestore n) v = some (x, s1) →
    s1.writable x (O.moutLaneRestore n) v = true →
    ∃ s', exec (.moutLaneRestore t q n v lock) s = .next s' ∧ s'.objs = s1.objs ∧
      (∀ l < 23, bit (s'.mout n).restore l = (bit (s1.mout n).restore l || (bit (beNat v) l && bit (s1.obj (O.moutLanesDown n)) l && bit lock l))) ∧
      ((∀ l < 23, bit (beNat v) l = true → bit (s1.obj (O.moutLanesDown n)) l = true → bit lock l = true) → s'.wrote q (O.moutLaneRestore n) = true) ∧
      ((∃ l < 23, bit (beNat v) l = true ∧ bit (s1.obj (O.moutLanesDown n)) l = true ∧ bit lock l = false) →
        s'.answered q 0x02 St.notReady (refBytes (O.moutLaneRestore n)) = true)) ∧
  (∀ (t : Nat) (q : Req) (n : Fin 4) (v : List Byte) (s s1 : State) (x : Session), (s.at t).takesWrite q (O.moutFreezeClear n) v = some (x, s1) →
    s1.writable x (O.moutFreezeClear n) v = true →
    ∃ s', exec (.moutFreezeClear t q n v) s = .next s' ∧ s'.obj (O.moutFreeze n) = 0 ∧ bit (s'.obj (O.moutBlankReason n)) 0 = false ∧ s'.wrote q (O.moutFreezeClear n) = true)

/-- Allocation and freeing of buffers and clips (R197, R199). Where the spec leaves a point open or it is read by inference, the choice is the model's: log entries 11, 69. -/
def Obligations.BufferAllocation : Prop :=
  (∀ (t : Nat) (q : Req) (v : List Byte) (s s1 : State) (x : Session), (s.at t).takesWrite q O.layAlloc v = some (x, s1) → s1.writable x O.layAlloc v = true →
    (leAt v 0 1 = tyBuffer ∧ leAt v 8 4 = 1 ∨ leAt v 0 1 = tyClip ∧ 1 ≤ leAt v 8 4 ∧ leAt v 8 4 ≤ 1048576 ∧ clipPeriodOk (leAt v 16 4 * 4294967296 + leAt v 20 4) = true) →
    leAt v 3 1 = 0 → leAt v 12 4 = 0 → leAt v 2 1 ≤ 1 → 64 ≤ leAt v 4 2 → leAt v 4 2 ≤ 16384 → 1 ≤ leAt v 6 2 → leAt v 6 2 ≤ 16384 →
    fmtOk (leAt v 1 1) = true →
    ∃ s', exec (.layAlloc t q v) s = .next s' ∧
      (∀ i s2 es s3, s1.pick (fun i => s1.bufState i != bufFree) 1 16383 = (some i, s2) → s2.alloc (leAt v 8 4 * frameSize (leAt v 1 1) (leAt v 4 2) (leAt v 6 2)) (leAt v 2 1 == 1) = some (es, s3) →
        s'.obj (O.layBufState i) = bufReady ∧ s'.obj (O.layBufFormat i) = leAt v 1 1 ∧ s'.obj (O.layBufWidth i) = leAt v 4 2 ∧ s'.obj (O.layBufHeight i) = leAt v 6 2 ∧
        s'.obj (O.layBufHandle i) = handleOf i (s3.buf i).gen (leAt v 0 1) (leAt v 2 1 == 1) ∧ s'.obj (O.layBufFrames i) = leAt v 8 4 ∧ s'.obj (O.layBufLoaded i) = leAt v 8 4 ∧
        s'.answered q 0x02 St.ok (refBytes O.layAlloc ++ beBytes 4 (s'.obj (O.layBufHandle i))) = true) ∧
      ((s1.pick (fun i => s1.bufState i != bufFree) 1 16383).1 = none → s'.objs = s1.objs ∧ s'.bufs = s1.bufs ∧ s'.answered q 0x02 St.noHandle (refBytes O.layAlloc) = true) ∧
      (∀ i s2, s1.pick (fun i => s1.bufState i != bufFree) 1 16383 = (some i, s2) → s2.alloc (leAt v 8 4 * frameSize (leAt v 1 1) (leAt v 4 2) (leAt v 6 2)) (leAt v 2 1 == 1) = none →
        s'.objs = s1.objs ∧ s'.bufs = s1.bufs ∧ s'.answered q 0x02 St.noMemory (refBytes O.layAlloc) = true)) ∧
  (∀ (t : Nat) (q : Req) (i : Fin 16384) (v : List Byte) (s s1 : State) (x : Session), (s.at t).takesWrite q (O.layBufFree i) v = some (x, s1) →
    s1.writable x (O.layBufFree i) v = true → handleIndex (beNat v) = i.val →
    ∃ s', exec (.layBufFree t q i v) s = .next s' ∧
      (∀ st, s1.handleFault (beNat v) = some st → s'.objs = s1.objs ∧ s'.bufs = s1.bufs ∧ s'.answered q 0x02 st (refBytes (O.layBufFree i)) = true) ∧
      (s1.handleFault (beNat v) = none → s1.bufState i = bufWriting → s'.objs = s1.objs ∧ s'.answered q 0x02 St.bufferWriting (refBytes (O.layBufFree i)) = true) ∧
      (s1.handleFault (beNat v) = none → s1.bufState i ≠ bufWriting → s1.bufRefs i = 0 → s'.obj (O.layBufState i) = bufFree ∧
        (s'.buf i).gen = (if (s1.buf i).gen = 255 then 1 else (s1.buf i).gen + 1) ∧ s'.obj O.layHandlesFree = s1.obj O.layHandlesFree + 1 ∧ s'.wrote q (O.layBufFree i) = true) ∧
      (s1.handleFault (beNat v) = none → s1.bufState i ≠ bufWriting → s1.bufRefs i ≠ 0 → s'.obj (O.layBufState i) = bufRelease ∧ s'.bufs = s1.bufs ∧
        s'.answered q 0x02 St.freeDeferred (refBytes (O.layBufFree i)) = true))

/-- Flips, fences and playlists of a layer (R202, R203, R209). Where the spec leaves a point open or it is read by inference, the choice is the model's: log entries 67, 68, 72. -/
def Obligations.LayerRequests : Prop :=
  (∀ (t : Nat) (q : Req) (l : Fin 64) (v : List Byte) (s s1 : State) (x : Session), (s.at t).takesWrite q (O.layFlip l) v = some (x, s1) → s1.writable x (O.layFlip l) v = true →
    ∃ s', exec (.layFlip t q l v) s = .next s' ∧
      (s1.flipFault l (flipOf v) = none → (s'.lay l).queue = (s1.lay l).queue ++ [flipOf v] ∧ s'.obj (O.layQueue l) = (s1.lay l).queue.length + 1 ∧ s'.wrote q (O.layFlip l) = true) ∧
      (∀ st, s1.flipFault l (flipOf v) = some st → s'.lays = s1.lays ∧ s'.objs = s1.objs ∧ s'.answered q 0x02 st (refBytes (O.layFlip l)) = true)) ∧
  (∀ (l : Fin 64) (f : Flip) (s : State), f.flags < 4 →
    ((s.obj (O.layEnable l) = 0 ∨ s.obj (O.layKind l) ≠ 0) → s.flipFault l f = some St.layerOff) ∧
    (s.obj (O.layEnable l) ≠ 0 → s.obj (O.layKind l) = 0 → 4 ≤ (s.lay l).queue.length → s.flipFault l f = some St.queueFull) ∧
    (∀ st, s.obj (O.layEnable l) ≠ 0 → s.obj (O.layKind l) = 0 → (s.lay l).queue.length < 4 → s.handleFault f.handle = some st → s.flipFault l f = some st) ∧
    (s.obj (O.layEnable l) ≠ 0 → s.obj (O.layKind l) = 0 → (s.lay l).queue.length < 4 → s.handleFault f.handle = none → s.bufState (handleIndex f.handle) = bufRelease →
      s.flipFault l f = some St.bufferRetiring)) ∧
  (∀ (t : Nat) (q : Req) (l : Fin 64) (v : List Byte) (s s1 : State) (x : Session), (s.at t).takesWrite q (O.layFenceDone l) v = some (x, s1) →
    s1.writable x (O.layFenceDone l) v = true →
    ∃ s', exec (.layFenceDone t q l v) s = .next s' ∧ s'.obj (O.layFenceDone l) = beNat v ∧ s'.lays = s1.lays ∧ s'.wrote q (O.layFenceDone l) = true) ∧
  (∀ (t : Nat) (q : Req) (l : Fin 64) (v : List Byte) (s s1 : State) (x : Session), (s.at t).takesWrite q (O.layPlaylist l) v = some (x, s1) →
    s1.writable x (O.layPlaylist l) v = true →
    ∃ s', exec (.layPlaylist t q l v) s = .next s' ∧ s'.lays = s1.lays ∧
      (v.length % 16 = 0 → 16 ≤ v.length → v.length ≤ 512 → (∀ e ∈ playEntries v, s1.playOk l e = true) → s'.blob (O.layPlaylist l) = v ∧ s'.wrote q (O.layPlaylist l) = true) ∧
      ((v.length % 16 ≠ 0 ∨ v.length < 16 ∨ 512 < v.length ∨ ∃ e ∈ playEntries v, s1.playOk l e = false) → s'.blobs = s1.blobs ∧
        s'.answered q 0x02 St.playlistBad (refBytes (O.layPlaylist l)) = true)) ∧
  (∀ (t : Nat) (q : Req) (l : Fin 64) (v : List Byte) (s s1 : State) (x : Session) (es : List PlayEnt), (s.at t).takesWrite q (O.layPlay l) v = some (x, s1) →
    s1.writable x (O.layPlay l) v = true → es = playEntries (s1.blob (O.layPlaylist l)) → es ≠ [] → (∀ e ∈ es, s1.playOk l e = true ∧ s1.bufState (handleIndex e.handle) ≠ bufRelease) →
    ∃ s', exec (.layPlay t q l v) s = .next s' ∧ (s'.lay l).play = es ∧ (s'.lay l).start = (if beNat v = 0 then none else some (stimeInstant (beNat v))) ∧ (s'.lay l).ended = false ∧
      s'.wrote q (O.layPlay l) = true)

/-- A compositor commit (R218). Where the spec leaves a point open or it is read by inference, the choice is the model's: log entries 28, 60, 61, 62, 63. -/
def Obligations.CompositorCommits : Prop :=
  (∀ (t : Nat) (q : Req) (treq : Option Nat) (s s1 : State) (x : Session), (s.at t).takesCommit q 0x2600 treq = some (x, s1) → s1.layCommit = none →
    (s1.compositorCommit treq).status = St.ok →
    ∃ s', exec (.compositorCommit t q treq) s = .next s' ∧ s'.obj O.layCommitResult = 0 ∧
      ((s'.obj O.layCommitState = 1 ∧ ∃ c, s'.layCommit = some c ∧ c.treq = treq ∧ c.taken = false) ∨ (s'.obj O.layCommitState = 0 ∧ s'.layCommit = none))) ∧
  (∀ (t : Nat) (q : Req) (treq : Option Nat) (s s1 : State) (x : Session), (s.at t).takesCommit q 0x2600 treq = some (x, s1) → s1.layCommit = none →
    (s1.compositorCommit treq).status ≠ St.ok →
    ∃ s', exec (.compositorCommit t q treq) s = .next s' ∧ s'.layCommit = none ∧ s'.lays = s1.lays ∧ s'.obj O.layCommitState = 3 ∧
      s'.obj O.layCommitResult = (s1.compositorCommit treq).status ∧ s'.answered q 0x08 (s1.compositorCommit treq).status [] = true) ∧
  (∀ (t : Nat) (q : Req) (treq : Option Nat) (s s1 : State) (x : Session), (s.at t).takesCommit q 0x2600 treq = some (x, s1) → s1.layCommit ≠ none →
    ∃ s', exec (.compositorCommit t q treq) s = .next s' ∧ s'.layCommit = s1.layCommit ∧ s'.objs = s1.objs ∧ s'.answered q 0x08 St.commitPending [] = true) ∧
  (∀ (t : Nat) (q : Req) (v : List Byte) (s s1 : State) (x : Session), (s.at t).takesWrite q O.layCancel v = some (x, s1) → s1.writable x O.layCancel v = true →
    ∃ s', exec (.layCancel t q v) s = .next s' ∧
      (∀ c i, s1.layCommit = some c → c.taken = false → s1.layPoint c = some i → s1.reached i = false → s'.layCommit = none ∧ s'.obj O.layCommitState = 4 ∧
        s'.obj O.layCommitResult = St.aborted ∧ s'.lays = s1.lays ∧ s'.wrote q O.layCancel = true) ∧
      (∀ c i, s1.layCommit = some c → (c.taken = true ∨ s1.layPoint c = some i ∧ s1.reached i = true) → s'.layCommit = s1.layCommit ∧ s'.obj O.layCommitState = s1.obj O.layCommitState ∧
        s'.answered q 0x02 St.notActive (refBytes O.layCancel) = true) ∧
      (s1.layCommit = none → s'.layCommit = none ∧ s'.answered q 0x02 St.notActive (refBytes O.layCancel) = true))

/-- Carve scalars (R244): each instruction writes one scalar register, writes to s0 are ignored, and nothing else changes. Where the spec leaves a point open or it is read by inference, the choice is
the model's: log entries 3, 81, 89. -/
def Obligations.CarveScalars : Prop :=
  completesScalar .sadd 0x10 1 (scalarV 7) (fun w => bits w 51 47) (fun g w => g.sreg (bits w 46 42) + g.sreg (bits w 41 37)) ∧
  completesScalar .ssub 0x11 1 (scalarV 7) (fun w => bits w 51 47) (fun g w => g.sreg (bits w 46 42) - g.sreg (bits w 41 37)) ∧
  completesScalar .smul 0x12 1 (scalarV 7) (fun w => bits w 51 47) (fun g w => g.sreg (bits w 46 42) * g.sreg (bits w 41 37)) ∧
  completesScalar .sand 0x13 1 (scalarV 7) (fun w => bits w 51 47) (fun g w => g.sreg (bits w 46 42) &&& g.sreg (bits w 41 37)) ∧
  completesScalar .sor 0x14 1 (scalarV 7) (fun w => bits w 51 47) (fun g w => g.sreg (bits w 46 42) ||| g.sreg (bits w 41 37)) ∧
  completesScalar .sxor 0x15 1 (scalarV 7) (fun w => bits w 51 47) (fun g w => g.sreg (bits w 46 42) ^^^ g.sreg (bits w 41 37)) ∧
  completesScalar .sshl 0x16 1 (scalarV 3) (fun w => bits w 51 47) (fun g w => g.sreg (bits w 46 42) <<< bits w 29 25) ∧
  completesScalar .sshr 0x17 1 (scalarV 3) (fun w => bits w 51 47)
    (fun g w => if bit w 30 then g.sreg (bits w 46 42) >>> bits w 29 25 else (g.sreg (bits w 46 42)).sshiftRight (bits w 29 25)) ∧
  completesScalar .smovi 0x18 1 (fun w => iOk w && noGuard w && decide (bits w 51 47 < 16)) (fun w => bits w 51 47) (fun _ w => BitVec.ofNat 32 (bits w 31 0)) ∧
  completesScalar .saddi 0x19 1 (fun w => iOk w && noGuard w && decide (bits w 51 47 < 16) && decide (bits w 46 42 < 16)) (fun w => bits w 51 47)
    (fun g w => g.sreg (bits w 46 42) + BitVec.ofNat 32 (bits w 31 0)) ∧
  completesScalar .shdr 0x05 1 (fun w => iOk w && noGuard w && decide (bits w 51 47 < 16) && decide (bits w 31 0 ≤ 7)) (fun w => bits w 51 47)
    (fun g w => match g.run with | some r => BitVec.ofNat 32 (r.tile.header / 2 ^ (224 - 32 * bits w 31 0)) | none => 0) ∧
  completesScalar .vext 0x34 1 (fun w => vOk w && decide (bits w 51 47 < 16) && decide (bits w 41 37 < 16)) (fun w => bits w 51 47)
    (fun g w => g.lane (bits w 46 42) ((g.sreg (bits w 41 37)).toNat % 16))

/-- Carve control flow (R234, R244, R250): NOP, branches, FAULT, and END at the last stage and between stages. Where the spec leaves a point open or it is read by inference, the choice is the model's:
log entries 3, 80, 89. -/
def Obligations.CarveControl : Prop :=
  (∀ (t : Nat) (e : Fin 1024) (w : Nat) (r : Run) (s : State), (s.at t).issues e 0x00 1 w r → bOk w = true →
    ∃ s', exec (.engNop t e) s = .next s' ∧ (s.at t).ran s' e 1 ((s.engine e).pc + 8) r ∧ (s.engine e).wroteS (s'.engine e) 0 0) ∧
  (∀ (t : Nat) (e : Fin 1024) (w : Nat) (r : Run) (s : State), (s.at t).issues e 0x02 2 w r → bOk w = true →
    ∃ s', exec (.br t e) s = .next s' ∧ (s.at t).ran s' e 2 ((((s.engine e).pc : Int) + 8 * (BitVec.ofNat 32 w).toInt) % 2 ^ 32).toNat r ∧
      (s.engine e).wroteS (s'.engine e) 0 0) ∧
  (∀ (t : Nat) (e : Fin 1024) (w : Nat) (r : Run) (s : State), (s.at t).issues e 0x03 2 w r → bOk w = true →
    ∃ s', exec (.brs t e) s = .next s' ∧ (s.engine e).wroteS (s'.engine e) 0 0 ∧
      (condHolds (bits w 43 40) ((s.engine e).sreg (bits w 51 48)) ((s.engine e).sreg (bits w 47 44)) = true →
        (s.at t).ran s' e 2 ((((s.engine e).pc : Int) + 8 * (BitVec.ofNat 32 w).toInt) % 2 ^ 32).toNat r) ∧
      (condHolds (bits w 43 40) ((s.engine e).sreg (bits w 51 48)) ((s.engine e).sreg (bits w 47 44)) = false → (s.at t).ran s' e 1 ((s.engine e).pc + 8) r)) ∧
  (∀ (t : Nat) (e : Fin 1024) (w : Nat) (r : Run) (s : State), (s.at t).issues e 0x04 1 w r → bOk w = true →
    ∃ s', exec (.engFault t e) s = .next s' ∧ (s'.engine e).run = none ∧ s'.obj O.crvFaults = s.counted O.crvFaults ∧
      s'.obj (O.crvClLastFault (engineCluster e)) = 5 * 2 ^ 24 + e % 64 * 2 ^ 16 + r.kernel) ∧
  (∀ (t : Nat) (e : Fin 1024) (clips w n : Nat) (r : Run) (k : Kernel) (s : State), (s.at t).issues e 0x01 1 w r → bOk w = true → s.kernel? r.kernel = some k →
    n = s.outBytes r.tile k.outFmt → ((s.engine e).sreg 2).toNat + n ≤ 0x10000 → r.chain.length ≤ r.tile.stage + 1 →
    ∃ s' r', exec (.engEnd t e clips) s = .next s' ∧ (s'.engine e).run = some r' ∧ r'.out = some ((List.range n).map fun i => s.engByte e (((s.engine e).sreg 2).toNat + i)) ∧
      r'.tile.id = r.tile.id ∧ (k.outFmt ≠ fmtLayer → r'.tile.format = k.outFmt) ∧ ((s.engine e).sat = true → s'.obj O.crvSatTiles = s.counted O.crvSatTiles)) ∧
  (∀ (t : Nat) (e : Fin 1024) (clips w id : Nat) (r : Run) (k k' : Kernel) (s : State), (s.at t).issues e 0x01 1 w r → bOk w = true → s.kernel? r.kernel = some k →
    ((s.engine e).sreg 2).toNat + s.outBytes r.tile k.outFmt ≤ 0x10000 → r.chain[r.tile.stage + 1]? = some id → s.kernel? id = some k' →
    ∃ s' r', exec (.engEnd t e clips) s = .next s' ∧ (s'.engine e).run = some r' ∧ r'.out = none ∧ r'.tile.stage = r.tile.stage + 1 ∧ r'.cycles = 0 ∧
      (s'.engine e).pc = 0x01000000 + k'.codeAt ∧ (s'.engine e).sreg 1 = (s.engine e).sreg 2 ∧
      (s'.engine e).sreg 2 = (if (r.tile.stage + 1) % 2 = 0 then 0 else 0x6000) ∧ (s'.engine e).v = (s.engine e).v ∧ (s'.engine e).loc = (s.engine e).loc) ∧
  -- what is not legal faults with cause ILLEGAL (R243, R246)
  (∀ (t : Nat) (e : Fin 1024) (w : Nat) (r : Run) (s : State), (s.at t).issues e 0x10 0 w r → (bits w 17 0 ≠ 0 ∨ 6 < bits w 21 18 ∨ bits w 55 52 ≠ 0 ∨ 16 ≤ bits w 51 47) →
      ∃ s', exec (.sadd t e) s = .next s' ∧ (s'.engine e).run = none ∧ s'.obj O.crvFaults = s.counted O.crvFaults ∧ (s'.engine e).s = (s.engine e).s ∧
        s'.obj (O.crvClLastFault (engineCluster e)) = 1 * 2 ^ 24 + e % 64 * 2 ^ 16 + r.kernel)

/-- Carve loads and stores (R223, R244): sizes, alignment and regions, and the bytes they change. Where the spec leaves a point open or it is read by inference, the choice is the model's: log entries
3, 79, 89. -/
def Obligations.CarveMemory : Prop :=
  (∀ (t : Nat) (e : Fin 1024) (w a n : Nat) (r : Run) (s : State), (s.at t).issues e 0x1A n w r → mOk w = true → noGuard w = true → bits w 51 47 < 16 →
    a = ((s.engine e).sreg (bits w 46 43) + BitVec.ofNat 32 w).toNat → a % 4 = 0 → (a + 4 ≤ 0x10000 ∧ n = 1 ∨ 0x01040000 ≤ a ∧ a + 4 ≤ 0x01400000 ∧ n = 2) →
    ∃ s', exec (.sld t e) s = .next s' ∧ (s.at t).ran s' e n ((s.engine e).pc + 8) r ∧
      (s.engine e).wroteS (s'.engine e) (bits w 51 47) (BitVec.ofNat 32 ((s.at t).engLoad e a 4))) ∧
  (∀ (t : Nat) (e : Fin 1024) (w a : Nat) (r : Run) (s : State), (s.at t).issues e 0x1B 1 w r → mOk w = true → noGuard w = true → bits w 51 47 < 16 →
    a = ((s.engine e).sreg (bits w 46 43) + BitVec.ofNat 32 w).toNat → a % 4 = 0 → a + 4 ≤ 0x10000 →
    ∃ s', exec (.sst t e) s = .next s' ∧ (s.at t).ran s' e 1 ((s.engine e).pc + 8) r ∧ (s'.engine e).v = (s.engine e).v ∧ (s'.engine e).s = (s.engine e).s ∧
      (s'.engine e).p = (s.engine e).p ∧ (s'.engine e).sat = (s.engine e).sat ∧ s'.engLoad e a 4 = ((s.engine e).sreg (bits w 51 47)).toNat ∧
      ∀ x, (x < a ∨ a + 4 ≤ x) → kvGet (fun _ => 0) (s'.engine e).loc x = kvGet (fun _ => 0) (s.engine e).loc x) ∧
  (∀ (t : Nat) (e : Fin 1024) (w a n : Nat) (r : Run) (s : State), (s.at t).issues e 0x40 n w r → mOk w = true →
    a = ((s.engine e).sreg (bits w 46 43) + BitVec.ofNat 32 w).toNat → a % 64 = 0 → (a + 64 ≤ 0x10000 ∧ n = 1 ∨ 0x01040000 ≤ a ∧ a + 64 ≤ 0x01400000 ∧ n = 2) →
    ∃ s', exec (.vld t e) s = .next s' ∧ (s.at t).ran s' e n ((s.engine e).pc + 8) r ∧
      (s.engine e).wroteV (s'.engine e) (bits w 55 53) (bit w 52) (bits w 51 47) (fun l => BitVec.ofNat 32 ((s.at t).engLoad e (a + 4 * l) 4)) (fun _ => false)) ∧
  (∀ (t : Nat) (e : Fin 1024) (w a : Nat) (r : Run) (s : State), (s.at t).issues e 0x41 1 w r → mOk w = true →
    a = ((s.engine e).sreg (bits w 46 43) + BitVec.ofNat 32 w).toNat → a % 64 = 0 → a + 64 ≤ 0x10000 →
    ∃ s', exec (.vst t e) s = .next s' ∧ (s.at t).ran s' e 1 ((s.engine e).pc + 8) r ∧ (s'.engine e).v = (s.engine e).v ∧ (s'.engine e).s = (s.engine e).s ∧
      (s'.engine e).p = (s.engine e).p ∧ (s'.engine e).sat = (s.engine e).sat ∧
      (∀ l < 16, s'.engLoad e (a + 4 * l) 4 = if (s.engine e).guard (bits w 55 53) (bit w 52) l then ((s.engine e).lane (bits w 51 47) l).toNat else s.engLoad e (a + 4 * l) 4) ∧
      ∀ x, (x < a ∨ a + 64 ≤ x) → kvGet (fun _ => 0) (s'.engine e).loc x = kvGet (fun _ => 0) (s.engine e).loc x) ∧
  (∀ (t : Nat) (e : Fin 1024) (w : Nat) (at_ : Nat → Nat) (r : Run) (s : State), (s.at t).issues e 0x42 2 w r → mOk w = true → bits w 37 36 < 3 →
    (∀ l, at_ l = ((s.engine e).sreg (bits w 46 43) + (s.engine e).lane (bits w 42 38) l <<< bits w 35 33 + BitVec.ofNat 32 w).toNat) →
    (∀ l < 16, (s.engine e).guard (bits w 55 53) (bit w 52) l = true → at_ l % 2 ^ bits w 37 36 = 0 ∧
      (at_ l + 2 ^ bits w 37 36 ≤ 0x10000 ∨ 0x01040000 ≤ at_ l ∧ at_ l + 2 ^ bits w 37 36 ≤ 0x01400000)) →
    ∃ s' n, exec (.gather t e) s = .next s' ∧ n ≤ 2 ∧ (s.at t).ran s' e n ((s.engine e).pc + 8) r ∧
      (s.engine e).wroteV (s'.engine e) (bits w 55 53) (bit w 52) (bits w 51 47) (fun l => BitVec.ofNat 32 ((s.at t).engLoad e (at_ l) (2 ^ bits w 37 36))) (fun _ => false)) ∧
  (∀ (t : Nat) (e : Fin 1024) (w : Nat) (at_ : Nat → Nat) (r : Run) (s : State), (s.at t).issues e 0x42 4 w r → mOk w = true → bits w 37 36 = 3 → bits w 51 47 ≠ 31 →
    (∀ l, at_ l = ((s.engine e).sreg (bits w 46 43) + (s.engine e).lane (bits w 42 38) l <<< bits w 35 33 + BitVec.ofNat 32 w).toNat) →
    (∀ l < 16, (s.engine e).guard (bits w 55 53) (bit w 52) l = true → at_ l % 8 = 0 ∧ (at_ l + 8 ≤ 0x10000 ∨ 0x01040000 ≤ at_ l ∧ at_ l + 8 ≤ 0x01400000)) →
    ∃ s' n, exec (.gather t e) s = .next s' ∧ n ≤ 4 ∧ (s.at t).ran s' e n ((s.engine e).pc + 8) r ∧
      ∀ l < 16, (s.engine e).guard (bits w 55 53) (bit w 52) l = true →
        ((s'.engine e).lane (bits w 51 47) l).toNat = (s.at t).engLoad e (at_ l) 4 ∧ ((s'.engine e).lane (bits w 51 47 + 1) l).toNat = (s.at t).engLoad e (at_ l + 4) 4)

/-- Elementwise vector instructions (R242, R244): guarded lanes, whole or in halves, and SAT where a saturating one clamps. Where the spec leaves a point open or it is read by inference, the choice is
the model's: log entries 3, 89. -/
def Obligations.CarveVectors : Prop :=
  let a (g : Eng) (w l : Nat) : Word := g.lane (bits w 46 42) l
  let b (g : Eng) (w l : Nat) : Word := g.lane (bits w 41 37) l
  let c (g : Eng) (w l : Nat) : Word := g.lane (bits w 36 32) l
  let d (g : Eng) (w l : Nat) : Word := g.lane (bits w 51 47) l
  let no (_ : Eng) (_ _ : Nat) : Bool := false
  let scaled (w : Nat) (v : Int) : Int := (v + (if bits w 29 25 = 0 then 0 else 2 ^ (bits w 29 25 - 1))) / 2 ^ bits w 29 25
  completesVector .vadd 0x20 1 vOk (fun g w l => onElems (bit w 31) (fun _ x y _ => x + y) (a g w l) (b g w l) 0) no ∧
  completesVector .vsub 0x21 1 vOk (fun g w l => onElems (bit w 31) (fun _ x y _ => x - y) (a g w l) (b g w l) 0) no ∧
  completesVector .vadds 0x22 1 vOk (fun g w l => onElems (bit w 31) (fun n x y _ => elemClamp n (bit w 30) (elemVal (bit w 30) x + elemVal (bit w 30) y)) (a g w l) (b g w l) 0)
    (fun g w l => anyElem (bit w 31) (fun n x y _ => !elemIn n (bit w 30) (elemVal (bit w 30) x + elemVal (bit w 30) y)) (a g w l) (b g w l) 0) ∧
  completesVector .vsubs 0x23 1 vOk (fun g w l => onElems (bit w 31) (fun n x y _ => elemClamp n (bit w 30) (elemVal (bit w 30) x - elemVal (bit w 30) y)) (a g w l) (b g w l) 0)
    (fun g w l => anyElem (bit w 31) (fun n x y _ => !elemIn n (bit w 30) (elemVal (bit w 30) x - elemVal (bit w 30) y)) (a g w l) (b g w l) 0) ∧
  completesVector .vmul 0x24 1 vOk (fun g w l => onElems (bit w 31) (fun _ x y _ => x * y) (a g w l) (b g w l) 0) no ∧
  completesVector .vmulq 0x25 1 vOk
    (fun g w l => onElems (bit w 31) (fun n x y _ => elemClamp n (bit w 30) (scaled w (elemVal (bit w 30) x * elemVal (bit w 30) y))) (a g w l) (b g w l) 0)
    (fun g w l => anyElem (bit w 31) (fun n x y _ => !elemIn n (bit w 30) (scaled w (elemVal (bit w 30) x * elemVal (bit w 30) y))) (a g w l) (b g w l) 0) ∧
  completesVector .vmac 0x26 1 vOk
    (fun g w l => onElems (bit w 31) (fun n x y z => elemClamp n (bit w 30) (elemVal (bit w 30) z + scaled w (elemVal (bit w 30) x * elemVal (bit w 30) y))) (a g w l) (b g w l) (d g w l))
    (fun g w l => anyElem (bit w 31) (fun n x y z => !elemIn n (bit w 30) (elemVal (bit w 30) z + scaled w (elemVal (bit w 30) x * elemVal (bit w 30) y))) (a g w l) (b g w l) (d g w l)) ∧
  completesVector .vmin 0x27 1 vOk (fun g w l => onElems (bit w 31) (fun _ x y _ => if elemVal (bit w 30) x ≤ elemVal (bit w 30) y then x else y) (a g w l) (b g w l) 0) no ∧
  completesVector .vmax 0x28 1 vOk (fun g w l => onElems (bit w 31) (fun _ x y _ => if elemVal (bit w 30) x ≤ elemVal (bit w 30) y then y else x) (a g w l) (b g w l) 0) no ∧
  completesVector .vand 0x29 1 vOk (fun g w l => a g w l &&& b g w l) no ∧
  completesVector .vor 0x2A 1 vOk (fun g w l => a g w l ||| b g w l) no ∧
  completesVector .vxor 0x2B 1 vOk (fun g w l => a g w l ^^^ b g w l) no ∧
  completesVector .vshl 0x2C 1 vOk (fun g w l => onElems (bit w 31) (fun _ x _ _ => x <<< bits w 29 25) (a g w l) 0 0) no ∧
  completesVector .vshr 0x2D 1 vOk (fun g w l => onElems (bit w 31) (fun _ x _ _ => if bit w 30 then x >>> bits w 29 25 else x.sshiftRight (bits w 29 25)) (a g w l) 0 0) no ∧
  completesVector .vlerp 0x2E 1 (fun w => vOk w && bit w 31)
    (fun g w l => onElems true (fun n x y z => BitVec.ofInt n (x.toNat + (((y.toNat : Int) - x.toNat) * z.toNat + 2 ^ 15) / 2 ^ 16)) (a g w l) (b g w l) (c g w l)) no ∧
  (∀ (t : Nat) (e : Fin 1024) (w : Nat) (r : Run) (s : State), (s.at t).issues e 0x2F 1 w r → vOk w = true → bit w 31 = false →
    ∃ s', exec (.vcmp t e) s = .next s' ∧ (s.at t).ran s' e 1 ((s.engine e).pc + 8) r ∧ (s'.engine e).v = (s.engine e).v ∧ (s'.engine e).s = (s.engine e).s ∧
      (s'.engine e).loc = (s.engine e).loc ∧ (s'.engine e).sat = (s.engine e).sat ∧ (∀ i, i ≠ bits w 24 22 → (s'.engine e).preg i = (s.engine e).preg i) ∧
      (bits w 24 22 ≠ 0 → ∀ l < 16, ((s'.engine e).preg (bits w 24 22)).getLsbD l =
        ((s.engine e).guard (bits w 55 53) (bit w 52) l && condHolds (bits w 21 18) (a (s.engine e) w l) (b (s.engine e) w l))))

/-- Vector moves (R244). Where the spec leaves a point open or it is read by inference, the choice is the model's: log entries 3, 89, 91. -/
def Obligations.CarveMoves : Prop :=
  let a (g : Eng) (w l : Nat) : Word := g.lane (bits w 46 42) l
  let b (g : Eng) (w l : Nat) : Word := g.lane (bits w 41 37) l
  let no (_ : Eng) (_ _ : Nat) : Bool := false
  completesVector .vsel 0x30 1 vOk (fun g w l => if (g.preg (bits w 24 22)).getLsbD l then a g w l else b g w l) no ∧
  completesVector .vbcast 0x31 1 (fun w => vOk w && decide (bits w 46 42 < 16)) (fun g w _ => g.sreg (bits w 46 42)) no ∧
  completesVector .vmovi 0x32 1 iOk (fun _ w _ => if bit w 41 then joinHalves (BitVec.ofNat 16 w) (BitVec.ofNat 16 w) else BitVec.ofNat 32 w) no ∧
  completesVector .vlane 0x33 1 (fun w => vOk w && decide (bits w 46 42 < 16) && decide (bits w 41 37 < 16))
    (fun g w l => g.sreg (bits w 46 42) + BitVec.ofNat 32 l * g.sreg (bits w 41 37)) no ∧
  completesVector .vpack 0x35 1 vOk
    (fun g w l => joinHalves (elemClamp 16 (bit w 30) (elemVal (bit w 30) (b g w l))) (elemClamp 16 (bit w 30) (elemVal (bit w 30) (a g w l))))
    (fun g w l => !elemIn 16 (bit w 30) (elemVal (bit w 30) (a g w l)) || !elemIn 16 (bit w 30) (elemVal (bit w 30) (b g w l))) ∧
  completesVector .vunpk 0x36 1 vOk
    (fun g w l => let h := if bit w 25 then hiHalf (a g w l) else loHalf (a g w l); if bit w 30 then h.setWidth 32 else h.signExtend 32) no

/-- Pixel instructions (R124, R244, R245). Where the spec leaves a point open or it is read by inference, the choice is the model's: log entries 3, 89, 92, 93. -/
def Obligations.CarvePixels : Prop :=
  (∀ (t : Nat) (e : Fin 1024) (w : Nat) (r : Run) (s : State), (s.at t).issues e 0x50 8 w r → vOk w = true → bits w 29 25 ≤ 2 → bits w 36 32 < 16 →
    (∀ l < 16, (s.engine e).guard (bits w 55 53) (bit w 52) l = true →
      (s.engine e).lane (bits w 46 42) l = 0 ∧ loHalf ((s.engine e).lane (bits w 41 37) l) = 0) →
    ((s.engine e).sreg (bits w 36 32)).toNat % 4 = 0 → 0x01040000 ≤ ((s.engine e).sreg (bits w 36 32)).toNat → ((s.engine e).sreg (bits w 36 32)).toNat + 431244 ≤ 0x01400000 →
    ∃ s', exec (.tetra t e) s = .next s' ∧ (s.at t).ran s' e 8 ((s.engine e).pc + 8) r ∧
      (s.engine e).wroteV (s'.engine e) (bits w 55 53) (bit w 52) (bits w 51 47)
        (fun _ => BitVec.ofNat 32 ((s.at t).engLoad e (((s.engine e).sreg (bits w 36 32)).toNat + 4 * bits w 29 25) 4)) (fun _ => false)) ∧
  (∀ (t : Nat) (e : Fin 1024) (w : Nat) (r : Run) (s : State), (s.at t).issues e 0x51 2 w r → vOk w = true → bit w 31 = true →
    ∃ s' f, exec (.bpx t e) s = .next s' ∧ (s.at t).ran s' e 2 ((s.engine e).pc + 8) r ∧
      (s.engine e).wroteV (s'.engine e) (bits w 55 53) (bit w 52) (bits w 51 47) f (fun _ => false) ∧
      ∀ h < 2, ∀ j < 16, ∀ k < 16, (s.engine e).guard (bits w 55 53) (bit w 52) ((16 * h + j) / 2) = true →
        bit ((s'.engine e).elem16 (bits w 51 47) (16 * h + j)) k = bit ((s.engine e).elem16 (bits w 46 42) (16 * h + k)) j) ∧
  (∀ (t : Nat) (e : Fin 1024) (w : Nat) (addr : Nat → Nat) (r : Run) (s : State), (s.at t).issues e 0x52 1 w r → vOk w = true → bit w 31 = true → 1 ≤ bits w 29 25 →
    bits w 29 25 ≤ 16 → bits w 36 32 < 16 →
    (∀ k, addr k = ((s.engine e).sreg 3).toNat + 16 * (((s.engine e).sreg (bits w 36 32)).toNat % 16) + (s.engine e).elem16 (bits w 41 37) k % 16) →
    (∀ k < 32, addr k < 0x10000 ∨ 0x01040000 ≤ addr k ∧ addr k < 0x01400000) →
    ∃ s' f, exec (.dito t e) s = .next s' ∧ (s.at t).ran s' e 1 ((s.engine e).pc + 8) r ∧
      (s.engine e).wroteV (s'.engine e) (bits w 55 53) (bit w 52) (bits w 51 47) f (fun _ => false) ∧
      ∀ k < 32, (s.engine e).guard (bits w 55 53) (bit w 52) (k / 2) = true → (s'.engine e).elem16 (bits w 51 47) k =
        min (2 ^ bits w 29 25 - 1) (((s.engine e).elem16 (bits w 46 42) k + ((s.at t).engByte e (addr k)).toNat * 2 ^ (16 - bits w 29 25) / 2 ^ 8) / 2 ^ (16 - bits w 29 25))) ∧
  (∀ (t : Nat) (e : Fin 1024) (w : Nat) (x : List Nat × List Int × Int) (r : Run) (s : State), (s.at t).issues e 0x53 32 w r → vOk w = true → bit w 31 = true → 1 ≤ bits w 29 25 →
    bits w 29 25 ≤ 16 → bits w 36 32 < 16 → bits w 51 47 ≠ 31 →
    x = diffuse (bits w 29 25) ((List.range 32).map fun k => (s.engine e).elem16 (bits w 46 42) k)
      ((List.range 32).map fun k => (BitVec.ofNat 16 ((s.engine e).elem16 (bits w 36 32) k)).toInt) ((s.engine e).sreg (bits w 36 32)).toInt →
    ∃ s', exec (.dife t e) s = .next s' ∧ (s.at t).ran s' e 32 ((s.engine e).pc + 8) r ∧ (bits w 36 32 ≠ 0 → (s'.engine e).sreg (bits w 36 32) = BitVec.ofInt 32 x.2.2) ∧
      ∀ k < 32, (s.engine e).guard (bits w 55 53) (bit w 52) (k / 2) = true → (s'.engine e).elem16 (bits w 51 47) k = nth x.1 k 0 % 65536 ∧
        BitVec.ofNat 16 ((s'.engine e).elem16 (bits w 51 47 + 1) k) = elemClamp 16 false (nth x.2.1 k 0))

/-- Tiles from their issue to their result or fault (R233 to R236), and clusters taken offline and back (R240, R241). Where the spec leaves a point open or it is read by inference, the choice is the
model's: log entries 3, 85, 86, 90. -/
def Obligations.TilesAndClusters : Prop :=
  (∀ (t : Nat) (n : Fin 4) (v : Fin 8) (layer : Fin 64) (prev : Bool) (x y : Nat) (bad : List (Fin 64)) (k : Nat) (st : StreamSt) (tile : Tile) (l : List (Shot × Origin)) (s s0 : State),
    s0 = s.at t → s.producing n = some k → st = (kvFind (s.comp n).streams v).getD {} → (s.cfg (s.leadOf n)).views.contains v.val = true → st.issued < s.tilesX n * s.tilesY n →
    st.issued / s.tilesX n * s.tilesX n ≤ st.done → s0.frameTile n v k (st.issued % s.tilesX n) (st.issued / s.tilesX n) (bad.map (·.val)) = some (tile, l) →
    s.unservedView v = false → (s0.placeTile tile).isSome = true →
    ∃ s' c p, exec (.tileIssue t 0 n v layer prev x y bad) s = .next s' ∧ ((kvFind (s'.comp n).streams v).getD {}).issued = st.issued + 1 ∧
      (s'.cluster c).queue = (s.cluster c).queue ++ [{ tile with cluster := c, page := p }] ∧ s'.carve.nextTile = s.carve.nextTile + 1) ∧
  (∀ (t : Nat) (e : Fin 1024) (tile : Tile) (k : Kernel) (s : State), (s.engine e).run = none → s.clState (engineCluster e) = clOnline →
    firstTile (s.cluster (engineCluster e)).queue = some tile → s.kernel? ((s.tileChain { tile with engine := e.val % 64 }).headD 0) = some k →
    ∃ s' r, exec (.engineDispatch t e) s = .next s' ∧ (s'.engine e).run = some r ∧ r.tile = { tile with engine := e.val % 64 } ∧ r.cycles = 0 ∧ r.out = none ∧
      (s'.engine e).pc = 0x01000000 + k.codeAt ∧ (s'.engine e).sat = false ∧ (s'.engine e).v = [] ∧ (s'.engine e).p = [] ∧ (s'.engine e).loc = (s.engine e).loc ∧
      ∀ y ∈ (s'.cluster (engineCluster e)).queue, y.id ≠ tile.id) ∧
  (∀ (t : Nat) (e : Fin 1024) (corrected : Nat) (r : Run) (out : List Byte) (s : State), (s.engine e).run = some r → r.out = some out →
    ∃ s', exec (.tileResult t e corrected) s = .next s' ∧ (s'.engine e).run = none ∧ s'.obj O.crvTiles = s.counted O.crvTiles) ∧
  (∀ (t : Nat) (e : Fin 1024) (shared : Bool) (r : Run) (s : State), (s.engine e).run = some r →
    ∃ s', exec (.tileFault t e 4 shared) s = .next s' ∧ (s'.engine e).run = none ∧ s'.obj O.crvFaults = s.counted O.crvFaults ∧
      s'.obj (O.crvClLastFault (engineCluster e)) = 4 * 2 ^ 24 + e.val % 64 * 2 ^ 16 + r.kernel ∧
      (shared = true → s'.obj (O.crvClState (engineCluster e)) = clFaulted)) ∧
  (∀ (t : Nat) (e : Fin 1024) (shared : Bool) (r : Run) (s : State), (s.engine e).run = some r → r.out = none → s.stageLimit r ≤ r.cycles →
    ∃ s', exec (.tileFault t e 3 shared) s = .next s' ∧ (s'.engine e).run = none ∧ s'.obj O.crvFaults = s.counted O.crvFaults ∧
      s'.obj (O.crvClLastFault (engineCluster e)) = 3 * 2 ^ 24 + e.val % 64 * 2 ^ 16 + r.kernel) ∧
  (∀ (t : Nat) (q : Req) (c : Fin 16) (s s1 : State) (x : Session), (s.at t).takesWrite q (O.crvClOnline c) [0] = some (x, s1) → s1.writable x (O.crvClOnline c) [0] = true →
    s1.clState c = clOnline →
    ∃ s', exec (.clusterOfflineReq t q c) s = .next s' ∧
      (s1.computeFits s1.carve.demand (64 * (s1.onlineClusters.length - 1)) = true → s1.viewWeights.length ≤ s1.onlineClusters.length - 1 →
        s'.clState c = clDraining ∧ s'.obj O.crvEnginesOnline = 64 * (s1.onlineClusters.length - 1) ∧ (s'.cluster c).queue = [] ∧ s'.wrote q (O.crvClOnline c) = true) ∧
      ((s1.computeFits s1.carve.demand (64 * (s1.onlineClusters.length - 1)) = false ∨ s1.onlineClusters.length - 1 < s1.viewWeights.length) →
        s'.objs = s1.objs ∧ s'.carve = s1.carve ∧ s'.answered q 0x02 St.capacity (refBytes (O.crvClOnline c)) = true)) ∧
  (∀ (t : Nat) (c : Fin 16) (s : State), s.clState c = clDraining → s.held c = [] →
    ∃ s', exec (.clusterDrained t c) s = .next s' ∧ s'.clState c = clOffline ∧ s.raisedOnce s' 113) ∧
  (∀ (t : Nat) (q : Req) (c : Fin 16) (s s1 : State) (x : Session), (s.at t).takesWrite q (O.crvClOnline c) [1] = some (x, s1) → s1.writable x (O.crvClOnline c) [1] = true →
    ∃ s', exec (.clusterOnlineReq t q c) s = .next s' ∧ s'.wrote q (O.crvClOnline c) = true ∧ s'.carve = s1.carve ∧
      (s1.clState c = clOffline ∨ s1.clState c = clFaulted → s'.clState c = clTesting) ∧
      (s1.clState c = clOnline ∨ s1.clState c = clTesting → s'.clState c = s1.clState c)) ∧
  (∀ (t : Nat) (c : Fin 16) (ok : Bool) (s : State), s.clState c = clTesting →
    ∃ s', exec (.clusterTestDone t c ok) s = .next s' ∧ (ok = true → s'.clState c = clOnline ∧ s.raisedOnce s' 114) ∧
      (ok = false → s'.clState c = clFaulted ∧ s.raisedOnce s' 115 ∧ s'.carve = s.carve))

/-- A kernel is removed, or the write is refused while a chain or a job names it (R249). -/
def Obligations.KernelRemoval : Prop :=
  (∀ (t : Nat) (q : Req) (v : List Byte) (s s1 : State) (x : Session), (s.at t).takesWrite q O.crvKernelRemove v = some (x, s1) → s1.writable x O.crvKernelRemove v = true →
    (s1.kernel? (beNat v)).isSome = true →
    ∃ s', exec (.crvKernelRemove t q v) s = .next s' ∧
      (beNat v ∉ s1.chainsNamed → (∀ j ∈ s1.carve.jobs, j.2.kernel ≠ beNat v) → s'.kernel? (beNat v) = none ∧ (∀ i, i ≠ beNat v → s'.kernel? i = s1.kernel? i) ∧
        s'.wrote q O.crvKernelRemove = true) ∧
      ((beNat v ∈ s1.chainsNamed ∨ ∃ j ∈ s1.carve.jobs, j.2.kernel = beNat v) → s'.carve = s1.carve ∧ s'.answered q 0x02 St.kernelInUse (refBytes O.crvKernelRemove) = true))

/-- Jobs requested, cancelled and ended (R256, R257). That a removal of a kernel that is not installed is refused with BAD_VALUE is the model's choice (log entry 87). Where the spec leaves a point
open or it is read by inference, the choice is the model's: log entries 3, 87, 88. -/
def Obligations.Jobs : Prop :=
  (∀ (t : Nat) (q : Req) (v : List Byte) (s s1 : State) (x : Session), (s.at t).takesWrite q O.crvKernelRemove v = some (x, s1) → s1.writable x O.crvKernelRemove v = true →
    s1.kernel? (beNat v) = none → ∃ s', exec (.crvKernelRemove t q v) s = .next s' ∧ s'.carve = s1.carve ∧ s'.answered q 0x02 St.badValue (refBytes O.crvKernelRemove) = true) ∧
  (∀ (t : Nat) (q : Req) (v : List Byte) (n i d : Nat) (k : Kernel) (s s1 : State) (x : Session), (s.at t).takesWrite q O.crvJob v = some (x, s1) → s1.writable x O.crvJob v = true →
    n < 4 → kvFind s1.carve.jobs n = none → (∀ m < n, kvFind s1.carve.jobs m ≠ none) → i = handleIndex (leAt v 4 4) → d = handleIndex (leAt v 8 4) →
    s1.handleFault (leAt v 4 4) = none → s1.handleFault (leAt v 8 4) = none → s1.bufState i ≠ bufWriting → s1.bufState d ≠ bufRelease → s1.bufRefs d = 0 →
    s1.kernel? (leAt v 0 2) = some k → k.id = leAt v 0 2 → bit k.cls 2 = true → leAt v 2 1 ≤ 1 → leAt v 3 1 = 0 → (∀ b ∈ slice v 20 12, b = 0) →
    s1.obj (O.layBufFormat d) = s1.obj (O.layBufFormat i) → s1.obj (O.layBufWidth d) = ceilDiv (leAt v 16 2) (max 1 k.jobScale) →
    s1.obj (O.layBufHeight d) = ceilDiv (leAt v 18 2) (max 1 k.jobScale) → leAt v 12 2 + leAt v 16 2 ≤ s1.obj (O.layBufWidth i) → leAt v 14 2 + leAt v 18 2 ≤ s1.obj (O.layBufHeight i) →
    ∃ s' j, exec (.crvJob t q v) s = .next s' ∧ kvFind s'.carve.jobs n = some j ∧ j.kernel = leAt v 0 2 ∧ j.src = leAt v 4 4 ∧ j.dst = leAt v 8 4 ∧ j.written = [] ∧
      s'.obj (O.crvJobState n) = 2 ^ 24 ∧ s'.answered q 0x02 St.ok (refBytes O.crvJob ++ leBytes 1 n) = true) ∧
  (∀ (t : Nat) (q : Req) (v : List Byte) (s s1 : State) (x : Session), (s.at t).takesWrite q O.crvJob v = some (x, s1) → s1.writable x O.crvJob v = true →
    (∀ m < 4, kvFind s1.carve.jobs m ≠ none) →
    ∃ s', exec (.crvJob t q v) s = .next s' ∧ s'.carve = s1.carve ∧ s'.objs = s1.objs ∧ s'.answered q 0x02 St.noSlot (refBytes O.crvJob) = true) ∧
  (∀ (t : Nat) (q : Req) (v : List Byte) (s s1 : State) (x : Session), (s.at t).takesWrite q O.crvJobCancel v = some (x, s1) → s1.writable x O.crvJobCancel v = true →
    ∃ s', exec (.crvJobCancel t q v) s = .next s' ∧
      (∀ j, kvFind s1.carve.jobs (beNat v) = some j → s1.jobWritten j = false → j.failed = none → kvFind s'.carve.jobs (beNat v) = none ∧
        s'.obj (O.crvJobState (beNat v)) = 4 * 2 ^ 24 ∧ s1.raisedOnce s' 118 ∧ s'.wrote q O.crvJobCancel = true) ∧
      ((∀ j, kvFind s1.carve.jobs (beNat v) = some j → s1.jobWritten j = true) → s'.carve = s1.carve ∧ s'.answered q 0x02 St.notActive (refBytes O.crvJobCancel) = true)) ∧
  (∀ (t : Nat) (n : Fin 4) (j : Job) (s : State), kvFind s.carve.jobs n = some j →
    ∃ s', exec (.crvJobEnd t n) s = .next s' ∧
      (j.failed = none → s.jobWritten j = true → kvFind s'.carve.jobs n = none ∧ s'.obj (O.crvJobState n) = 3 * 2 ^ 24 ∧ s.raisedOnce s' 118) ∧
      (∀ st, j.failed = some st → kvFind s'.carve.jobs n = none ∧ s'.obj (O.crvJobState n) = 5 * 2 ^ 24 + st ∧ s.raisedOnce s' 118))

/-- The inline codec units (R263, R272, R273): the index byte a block gets, a bypass, and a block decoded or found unreadable; random access to a block (R262, R274): an index byte gives zeros, the
slot, or an unreadable block, and a stream only what decodes to exactly 4,096 bytes; and codec jobs (R275 to R277). Where the spec leaves a point open or it is read by inference, the choice is the
model's: log entries 3, 17, 96. -/
def Obligations.Codec : Prop :=
  (∀ (t : Nat) (n : Fin 4) (stream : List Byte) (p b : Nat) (l : List Byte) (rest : List (Nat × Nat × List Byte)) (s : State), (s.slm n).outQ = (p, b, l) :: rest →
    ∃ s', exec (.inlineCompress t n stream) s = .next s' ∧
      (allZero l = true → (s'.slm n).outQ = rest ∧ kvGet (fun _ => 0) (s'.half n (!s.frontHalf n)).index (blockKey p b) = 0xFF ∧
        s'.obj O.codecBlocksComp = s.counted O.codecBlocksComp ∧ s'.obj O.codecZero = s.counted O.codecZero) ∧
      (allZero l = false → encodes 1 l stream = true → (s'.slm n).outQ = rest ∧ s'.obj O.codecBlocksComp = s.counted O.codecBlocksComp ∧
        kvGet (fun _ => 0) (s'.half n (!s.frontHalf n)).index (blockKey p b) = (if 4032 ≤ stream.length then 0 else ceilDiv stream.length 64) ∧
        s'.obj O.codecNoGain = (if 4032 ≤ stream.length then s.counted O.codecNoGain else s.obj O.codecNoGain))) ∧
  (∀ (t : Nat) (n : Fin 4) (p b : Nat) (l : List Byte) (rest : List (Nat × Nat × List Byte)) (s : State), (s.slm n).outQ = (p, b, l) :: rest →
    ∃ s', exec (.codecBypass t n) s = .next s' ∧ (s'.slm n).outQ = rest ∧ kvGet (fun _ => 0) (s'.half n (!s.frontHalf n)).index (blockKey p b) = 0 ∧
      s'.obj O.codecBypass = s.counted O.codecBypass ∧ ((s.slm n).bypassed = false → s.raisedOnce s' 132)) ∧
  (∀ (t : Nat) (n : Fin 4) (f : Fetch) (fs : List Fetch) (b idx : Nat) (l : List Byte) (rest : List (Nat × Nat × List Byte)) (s : State), (s.mout n).fetches = f :: fs →
    f.coded = (b, idx, l) :: rest →
    ∃ s' f', exec (.inlineDecompress t n) s = .next s' ∧ (s'.mout n).fetches = f' :: fs ∧ f'.coded = rest ∧ s'.obj O.codecBlocksDecomp = s.counted O.codecBlocksDecomp ∧
      (∀ d, decodeBlock idx l = some d → f'.got = f.got ++ [(b, (s.at t).tick, d)] ∧ s'.obj O.codecDecodeErr = s.obj O.codecDecodeErr) ∧
      (decodeBlock idx l = none → f'.got = f.got ++ [(b, (s.at t).tick, fill 4096 0)] ∧ s'.obj O.codecDecodeErr = s.counted O.codecDecodeErr ∧ s.raisedOnce s' 130)) ∧
  (∀ (idx : Nat) (slot : List Byte),
      (idx = 0xFF → decodeBlock idx slot = some (fill 4096 0)) ∧
      (idx = 0 → slot.length = 4096 → decodeBlock idx slot = some slot) ∧
      (0x3F < idx → idx < 0xFF → decodeBlock idx slot = none) ∧
      (∀ b, 1 ≤ idx → idx ≤ 0x3F → decodeBlock idx slot = some b → b.length = 4096)) ∧
  (∀ (t : Nat) (q : Req) (mode : Fin 256) (rest v : List Byte) (op u i d : Nat) (j : CodecJob) (c : Instr) (s s1 : State) (x : Session),
    (op = 1 ∧ c = .codecCompress t q mode rest ∨ op = 2 ∧ c = .codecDecompress t q mode rest) → v = leBytes 1 op ++ leBytes 1 mode ++ rest →
    (s.at t).takesWrite q O.codecJob v = some (x, s1) → s1.writable x O.codecJob v = true → j = codecJobOf v → i = handleIndex j.src → d = handleIndex j.dst →
    ∃ s', exec c s = .next s' ∧
      (kvFind s1.codecJobs 0 ≠ none → kvFind s1.codecJobs 1 ≠ none → s'.codecJobs = s1.codecJobs ∧ s'.objs = s1.objs ∧
        s'.answered q 0x02 St.noSlot (refBytes O.codecJob) = true) ∧
      (u < 2 → kvFind s1.codecJobs u = none → (∀ m < u, kvFind s1.codecJobs m ≠ none) → s1.handleFault j.src = none → s1.handleFault j.dst = none → s1.bufState i ≠ bufWriting →
        s1.bufState d ≠ bufRelease → s1.bufRefs d = 0 → s1.codecOk j v = true →
        kvFind s'.codecJobs u = some j ∧ s'.obj (O.codecJobState u) = 2 ^ 24 ∧ s'.obj (O.codecJobDone u) = 0 ∧
        s'.answered q 0x02 St.ok (refBytes O.codecJob ++ leBytes 1 u) = true) ∧
      (u < 2 → kvFind s1.codecJobs u = none → s1.handleFault j.src = none → s1.handleFault j.dst = none → s1.bufState i ≠ bufWriting → s1.bufState d ≠ bufRelease →
        s1.bufRefs d = 0 → s1.codecOk j v = false → s'.codecJobs = s1.codecJobs ∧ s'.objs = s1.objs ∧ s'.answered q 0x02 St.badValue (refBytes O.codecJob) = true)) ∧
  (∀ (t : Nat) (q : Req) (v : List Byte) (s s1 : State) (x : Session), (s.at t).takesWrite q O.codecJobCancel v = some (x, s1) → s1.writable x O.codecJobCancel v = true →
    beNat v < 2 →
    ∃ s', exec (.codecJobCancel t q v) s = .next s' ∧ kvFind s'.codecJobs (beNat v) = none ∧
      (kvFind s1.codecJobs (beNat v) ≠ none → s'.obj (O.codecJobState (beNat v)) = 4 * 2 ^ 24 ∧ s1.raisedOnce s' 131 ∧ s'.wrote q O.codecJobCancel = true) ∧
      (kvFind s1.codecJobs (beNat v) = none → s'.objs = s1.objs ∧ s'.answered q 0x02 St.notActive (refBytes O.codecJobCancel) = true)) ∧
  (∀ (t : Nat) (u : Fin 2) (streams : List (List Byte)) (j : CodecJob) (s : State), kvFind s.codecJobs u = some j → (s.at t).codecBad j = none →
    ∃ s', exec (.codecJobEnd t u streams) s = .next s' ∧
      (j.op = 1 → ((s.at t).compressFrom u j j.count 0 streams).isSome = true → kvFind s'.codecJobs u = none ∧ s'.obj (O.codecJobState u) = 3 * 2 ^ 24 ∧ s.raisedOnce s' 131) ∧
      (j.op ≠ 1 → ((s.at t).decompressFrom u j j.count 0).1 = true → kvFind s'.codecJobs u = none ∧ s'.obj (O.codecJobState u) = 3 * 2 ^ 24 ∧ s.raisedOnce s' 131) ∧
      (j.op ≠ 1 → ((s.at t).decompressFrom u j j.count 0).1 = false → kvFind s'.codecJobs u = none ∧ s'.obj (O.codecJobState u) = 5 * 2 ^ 24 + St.decode ∧ s.raisedOnce s' 131))

/-- Requests of a memory port (R288, R295, R296): a write is visible as it enters its queue, a read covered by a queued write is forwarded, and addresses beyond the memory fault. Where the spec leaves
a point open or it is read by inference, the choice is the model's: log entries 19, 100, 103, 105. -/
def Obligations.MemoryRequests : Prop :=
  (∀ (t : Nat) (port : Fin 24) (write : Bool) (addr len : Nat) (data : List Byte) (s : State), s.dpaSize < addr + len →
    exec (.memRequest t port write addr len data) s = .fault .noSuchAddress) ∧
  (∀ (t : Nat) (port : Fin 24) (write : Bool) (addr len : Nat) (data : List Byte) (s : State), addr + len ≤ s.dpaSize → ∃ s', exec (.memRequest t port write addr len data) s = .next s') ∧
  (∀ (t : Nat) (port : Fin 24) (addr len : Nat) (data : List Byte) (r : MemReq) (s : State), addr + len ≤ s.dpaSize → 0 < len → addr % 64 + len ≤ 64 → data.length = len →
    r = { id := s.memc.nextId, port := port, write := true, addr := addr, len := len, data := data, since := (s.at t).tick } → s.queueRoom r = true →
    s.obj (O.memPortInorder port) = 0 →
    ∃ s', exec (.memRequest t port true addr len data) s = .next s' ∧ (∀ i < len, s'.bytes (addr + i) 1 = [nth data i 0]) ∧
      (∀ a, (a < addr ∨ addr + len ≤ a) → s'.bytes a 1 = s.bytes a 1) ∧ s'.blockValid addr = true ∧
      (∀ w, addr ≤ 8 * w → 8 * w + 8 ≤ addr + len → s'.wordPoisoned (8 * w) = false)) ∧
  (∀ (t : Nat) (port : Fin 24) (addr len : Nat) (data : List Byte) (r w : MemReq) (s : State), addr + len ≤ s.dpaSize → 0 < len → addr % 64 + len ≤ 64 →
    r = { id := s.memc.nextId, port := port, write := false, addr := addr, len := len, data := [], since := (s.at t).tick } → s.queueRoom r = true →
    s.obj (O.memPortInorder port) = 0 → (s.mport port).waiting = [] →
    (((s.subch (s.reqPos r).1 (s.reqPos r).2.sub).queue.filter fun w => w.write && w.addr / 64 == addr / 64).getLast?) = some w → w.addr ≤ addr → addr + len ≤ w.addr + w.len →
    ∃ s', exec (.memRequest t port false addr len data) s = .next s' ∧ s'.tx = [.readData port addr (s.bytes addr len) (s.poisonIn addr len)] ∧
      s'.obj (O.memRdForwarded (s.reqPos r).1) = s.counted (O.memRdForwarded (s.reqPos r).1) ∧ s'.mem = s.mem)

/-- Refresh (R299 to R302): a tick owes one more, MR4 moves a rank between the zones, and a forced refresh goes first; the scheduler and the open rows (R292, R294): a request whose row is closed opens
it, idle rows close, idle ranks power down. Where the spec leaves a point open or it is read by inference, the choice is the model's: log entries 3, 98. -/
def Obligations.RefreshAndScheduler : Prop :=
  (∀ (t : Nat) (c : Fin 8) (r : Fin 2) (s : State), s.rankOn c r = true → (s.rank c r).conv = false → (s.rank c r).nextRef ≤ (s.at t).tick →
    ∃ s', exec (.refreshTick t c r) s = .next s' ∧ s'.obj (refOwed c r) = s.obj (refOwed c r) + 1 ∧ (s'.rank c r).nextRef = (s.rank c r).nextRef + s.refi c r ∧
      (s.refCap c r ≤ s.obj (refOwed c r) + 1 → (s'.rank c r).forced = true)) ∧
  (∀ (t : Nat) (c : Fin 8) (r : Fin 2) (zone : Option Bool) (s : State), s.rankOn c r = true → (s.rank c r).lastMr4 + usTicks 32 ≤ (s.at t).tick →
    ∃ s', exec (.mr4Poll t c r zone) s = .next s' ∧ (s'.rank c r).lastMr4 = (s.at t).tick ∧
      ((zone = none ∨ zone = some true) → s'.obj (refZone c r) = 1 ∨ s.obj (refZone c r) = 1) ∧
      ((zone = none ∨ zone = some true) → s.obj (refZone c r) ≠ 1 → 0 < s.obj (refOwed c r) → s'.obj (refOwed c r) = 2 * s.obj (refOwed c r) ∧ (s'.rank c r).conv = true ∧
        s'.obj (O.memRefConversions c) = s.counted (O.memRefConversions c) ∧ s.raisedOnce s' 144 ∧ s.raisedOnce s' 151) ∧
      ((zone = none ∨ zone = some true) → s.obj (refZone c r) ≠ 1 → s.obj (refOwed c r) = 0 → s'.obj (refOwed c r) = 0 ∧ s.raisedOnce s' 144 ∧ s'.evCount 151 = s.evCount 151) ∧
      (zone = some false → s.obj (refZone c r) = 1 → s'.obj (refZone c r) = 0 ∧ s'.obj (refOwed c r) = ceilDiv (s.obj (refOwed c r)) 2 ∧ s.raisedOnce s' 145) ∧
      (zone = none → s.raisedOnce s' 152)) ∧
  (∀ (t : Nat) (c : Fin 8) (sub r : Fin 2) (elig : List Nat) (s : State), s.memc.freqRun = none → (s.rank c r).forced = true → (s.rank c r).conv = false →
    ∃ s', exec (.subchannelSchedule t c sub elig [r]) s = .next s' ∧ s'.tx = [.dram c 0 r cmdRef 0] ∧ s'.obj (refOwed c r) = s.obj (refOwed c r) - 1 ∧
      s'.obj (O.memRefForced c) = s.counted (O.memRefForced c) ∧ (s'.rank c r).forced = false) ∧
  (∀ (t : Nat) (c : Fin 8) (sub : Fin 2) (x : MemReq) (s : State), s.memc.freqRun = none → (s.subch c sub).queue = [x] → x.write = false → x.waits = none →
    (s.rank c (s.reqPos x).2.rank).forced = false → (s.rank c (s.reqPos x).2.rank).conv = false → (s.reqPos x).1 = c.val → (s.reqPos x).2.sub = sub.val →
    ∃ s', exec (.subchannelSchedule t c sub [x.id] []) s = .next s' ∧
      (kvFind s.memc.rows (bankKey c (s.reqPos x).2) = none → s'.tx = [.dram c sub (s.reqPos x).2.rank cmdAct (s.reqPos x).2.row] ∧
        (kvFind s'.memc.rows (bankKey c (s.reqPos x).2)).map (·.1) = some (s.reqPos x).2.row) ∧
      (∀ row last, kvFind s.memc.rows (bankKey c (s.reqPos x).2) = some (row, last) → row ≠ (s.reqPos x).2.row → s'.tx = [.dram c sub (s.reqPos x).2.rank cmdPre row] ∧
        kvFind s'.memc.rows (bankKey c (s.reqPos x).2) = none)) ∧
  (∀ (t : Nat) (c : Fin 8) (sub r : Fin 2) (bg : Fin 8) (bank : Fin 4) (row last : Nat) (s : State),
    kvFind s.memc.rows (bankKey c ⟨sub, r, bg, bank, 0, 0⟩) = some (row, last) → last + 64 * dctlTicks (s.obj O.memSetpoint) ≤ (s.at t).tick →
    ∃ s', exec (.rowIdleClose t c sub r bg bank) s = .next s' ∧ kvFind s'.memc.rows (bankKey c ⟨sub, r, bg, bank, 0, 0⟩) = none ∧ s'.tx = [.dram c sub r cmdPre row] ∧
      ∀ k, k ≠ bankKey c ⟨sub, r, bg, bank, 0, 0⟩ → kvFind s'.memc.rows k = kvFind s.memc.rows k) ∧
  (∀ (t : Nat) (c : Fin 8) (r : Fin 2) (s : State), (s.rank c r).pd = false → (∀ b < 2, ∀ y ∈ (s.subch c b).queue, (s.reqPos y).2.rank ≠ r.val) →
    (s.rank c r).lastReq + 64 * dctlTicks (s.obj O.memSetpoint) ≤ (s.at t).tick → s.obj O.memPdEnable ≠ 0 →
    ceilDiv (s.tsetNow 34 * dckTicks (s.obj O.memSetpoint) * 16) 165 + 2000 < (s.at t).tolMin →
    ∃ s', exec (.powerDownEntry t c r) s = .next s' ∧ (s'.rank c r).pd = true ∧ s'.tx = [.dram c 0 r cmdPdEntry 0])

/-- Frequency and timing-set changes (R306, R307): requested, started, completed, abandoned. Where the spec leaves a point open or it is read by inference, the choice is the model's: log entries 3,
101, 102. -/
def Obligations.FrequencyChanges : Prop :=
  (∀ (t : Nat) (q : Req) (v : List Byte) (s s1 : State) (x : Session), (s.at t).takesWrite q O.memFreqTarget v = some (x, s1) → s1.writable x O.memFreqTarget v = true →
    s1.memc.freqRun = none → s1.memc.freqReq = none →
    ∃ s', exec (.memFreqTarget t q v) s = .next s' ∧
      (((∃ c < s1.memc.n, beNat v < bits (s1.obj (O.memChOrg c)) 7 0) ∨ s1.tsetField (beNat v) (s1.setChosen (beNat v)) 2 % 2 ≠ 1) →
        s'.obj O.memFreqState = 3 ∧ s'.memc.freqReq = none ∧ s'.answered q 0x02 St.badValue (refBytes O.memFreqTarget) = true) ∧
      ((∀ c < s1.memc.n, bits (s1.obj (O.memChOrg c)) 7 0 ≤ beNat v) → s1.tsetField (beNat v) (s1.setChosen (beNat v)) 2 % 2 = 1 →
        ceilingOf (beNat v) s1.memc.n < s1.obj O.slmBwAdmitted → s'.obj O.memFreqState = 3 ∧ s'.memc.freqReq = none ∧
        s'.answered q 0x02 St.bandwidth (refBytes O.memFreqTarget) = true) ∧
      ((∀ c < s1.memc.n, bits (s1.obj (O.memChOrg c)) 7 0 ≤ beNat v) → s1.tsetField (beNat v) (s1.setChosen (beNat v)) 2 % 2 = 1 →
        s1.obj O.slmBwAdmitted ≤ ceilingOf (beNat v) s1.memc.n → s'.obj O.memFreqState = 1 ∧ s'.obj O.memFreqTarget = beNat v ∧ s'.memc.freqReq = some s1.tick ∧
        s'.obj O.memSetpoint = s1.obj O.memSetpoint ∧ s'.wrote q O.memFreqTarget = true)) ∧
  (∀ (t : Nat) (q : Req) (v : List Byte) (s s1 : State) (x : Session), (s.at t).takesWrite q O.memTsetSel v = some (x, s1) → s1.writable x O.memTsetSel v = true →
    ∃ s', exec (.memTsetSel t q v) s = .next s' ∧
      (s1.memc.freqRun = none → s1.memc.freqReq = none → s'.obj O.memTsetSel = beNat v ∧ s'.memc = s1.memc ∧ s'.wrote q O.memTsetSel = true) ∧
      (s1.memc.freqRun = none → s1.memc.freqReq ≠ none → s'.obj O.memTsetSel = beNat v ∧ s'.memc.freqReq = none ∧ s'.obj O.memFreqState = 0 ∧ s'.wrote q O.memTsetSel = true) ∧
      (∀ a p c, s1.memc.freqRun = some (a, p, c) → c ≤ s1.tick → s1.memc.freqReq = none → s'.memc = s1.memc ∧ s'.objs = s1.objs ∧
        s'.answered q 0x02 St.notActive (refBytes O.memTsetSel) = true)) ∧
  (∀ (t : Nat) (s : State), s.memc.freqReq ≠ none →
    (∀ n < 4, (s.at t).tolerance n = 0xFFFFFFFF ∨ s.blackout (s.obj O.memFreqTarget) + s.obj O.memFreqMargin < (s.at t).tolerance n) →
    (∀ x ∈ s.ranksOn, (s.rank x.1 x.2).forced = false ∧ (s.rank x.1 x.2).conv = false) →
    ∃ s', exec (.freqChangeStart t) s = .next s' ∧ s'.obj O.memFreqState = 2 ∧ s'.memc.freqReq = none ∧
      s'.memc.freqRun = some ((s.at t).tick, s.obj O.memFreqTarget, (s.at t).tick + nsTicks (100 + s.owedTime)) ∧ s'.obj O.memFreqBlackout = s.blackout (s.obj O.memFreqTarget)) ∧
  (∀ (t a p c : Nat) (s : State), s.memc.freqRun = some (a, p, c) → a + nsTicks (s.obj O.memFreqBlackout) ≤ (s.at t).tick →
    ∃ s', exec (.freqChangeDone t) s = .next s' ∧ s'.obj O.memSetpoint = p ∧ s'.obj O.memFreqState = 0 ∧ s'.memc.freqRun = none ∧ s'.obj O.memPeak = peakOf p s.memc.n ∧
      s'.obj O.memCeiling = ceilingOf p s.memc.n ∧ s'.obj O.memFreqChanges = s.counted O.memFreqChanges ∧ s.raisedOnce s' 142) ∧
  (∀ (t a : Nat) (s : State), s.memc.freqReq = some a → a + msTicks (s.obj O.memFreqWait) ≤ (s.at t).tick →
    ∃ s', exec (.freqChangeAbandon t) s = .next s' ∧ s'.memc.freqReq = none ∧ s'.memc.freqRun = none ∧ s'.obj O.memFreqState = 0 ∧ s'.obj O.memSetpoint = s.obj O.memSetpoint ∧ s.raisedOnce s' 143)

/-- The address mapping, the valid bitmap and freed memory (R286, R322, R324), and RDIMM alerts (R313). Where the spec leaves a point open or it is read by inference, the choice is the model's: log
entries 3, 8, 98. -/
def Obligations.MemoryMaintenance : Prop :=
  (∀ (t : Nat) (q : Req) (which : Fin 3) (ref : Nat) (v : List Byte) (s s1 : State) (x : Session), ref = (match which with | 0 => O.memInterleave | 1 => O.memHash | 2 => O.memBankHash) →
    (s.at t).takesWrite q ref v = some (x, s1) → s1.writable x ref v = true →
    ∃ s', exec (.memInterleave t q which v) s = .next s' ∧ s'.obj ref = beNat v ∧ s'.memc.clearing = some s1.tick ∧ s'.mem = s1.mem ∧ s'.wrote q ref = true) ∧
  (∀ (t a : Nat) (s : State), s.memc.clearing = some a →
    ∃ s', exec (.bitmapClearDone t) s = .next s' ∧ s'.memc.clearing = none ∧ s'.mem = [] ∧ s'.intg.valid = [] ∧ s'.intg.poison = [] ∧ s.raisedOnce s' 160) ∧
  (∀ (t a : Nat) (x : Alloc) (s : State), s.memc.allocs.find? (fun x => x.addr == a && x.clearing) = some x →
    ∃ s', exec (.freeBitmapClearDone t a) s = .next s' ∧ (∀ y ∈ s'.memc.allocs, y.addr ≠ a ∨ y.clearing = false) ∧
      (∀ k, x.addr ≤ k → k < x.addr + x.len → s'.bytes k 1 = [0]) ∧ (∀ k, (k < x.addr ∨ x.addr + x.len ≤ k) → s'.bytes k 1 = s.bytes k 1)) ∧
  (∀ (t : Nat) (c : Fin 8) (s : State), ∃ s', exec (.rdimmAlert t c) s = .next s' ∧ s'.obj (O.memAlerts c) = s.counted (O.memAlerts c) ∧ s.raisedOnce s' 150)

/-- Reading under the light code, and repairs on the read path (R322, R326 to R328, R330). Where the spec leaves a point open or it is read by inference, the choice is the model's: log entries 3, 107,
108. -/
def Obligations.StoredDataReads : Prop :=
  (∀ (t : Nat) (port : Fin 24) (verdict : List Nat) (r : MemReq) (s : State), s.memc.back.find? (fun r => r.port == port.val) = some r →
    (s.blockValid r.addr = false ∨ ∀ v ∈ verdict, v = 0) →
    ∃ s', exec (.burstRead t port verdict false) s = .next s' ∧ s'.tx = [.readData r.port r.addr (s.bytes r.addr r.len) (s.poisonIn r.addr r.len)] ∧ s'.intg = s.intg ∧ s'.mem = s.mem ∧
      s'.memc.back = s.memc.back.filter fun x => x.id != r.id) ∧
  (∀ (t : Nat) (port : Fin 24) (r : MemReq) (s : State), s.memc.back.find? (fun r => r.port == port.val) = some r → r.len = 8 → r.addr % 8 = 0 →
    s.blockValid r.addr = true → s.wordPoisoned r.addr = false →
    ∃ s', exec (.burstRead t port [2] false) s = .next s' ∧ s'.mem = s.mem ∧
      (s.pageGroomed (s.pageOf r.addr) = true → s.pageCurrent (s.pageOf r.addr) = true →
        s'.intg.repairs = s.intg.repairs ++ [(s.pageOf r.addr, r, [], [r.addr])] ∧ s'.tx = [] ∧ s'.wordPoisoned r.addr = false) ∧
      ((s.pageGroomed (s.pageOf r.addr) = false ∨ s.pageCurrent (s.pageOf r.addr) = false) → s.writtenSince r r.addr = false →
        s'.wordPoisoned r.addr = true ∧ s'.pageCurrent (s.pageOf r.addr) = false ∧ s.raisedOnce s' 162 ∧
        s'.obj (O.intgPoisoned (s.chan r.addr).1) = s.counted (O.intgPoisoned (s.chan r.addr).1) ∧
        s'.obj (O.intgPoisonReads (s.reqPos r).1) = s.counted (O.intgPoisonReads (s.reqPos r).1) ∧ s'.tx = [.readData r.port r.addr (s.bytes r.addr 8) [0]]) ∧
      ((s.pageGroomed (s.pageOf r.addr) = false ∨ s.pageCurrent (s.pageOf r.addr) = false) → s.writtenSince r r.addr = true →
        s'.wordPoisoned r.addr = false ∧ s'.evCount 162 = s.evCount 162 ∧ s'.tx = [.readData r.port r.addr (s.bytes r.addr 8) []])) ∧
  (∀ (t : Nat) (port : Fin 24) (verdict : List Nat) (r : MemReq) (s : State), s.memc.back.find? (fun r => r.port == port.val) = some r →
    ∃ s', exec (.burstRead t port verdict true) s = .next s' ∧ s.raisedOnce s' 165 ∧ s'.obj (O.intgMetaErrors (s.chan r.addr).1) = s.counted (O.intgMetaErrors (s.chan r.addr).1) ∧
      s'.pageCurrent (s.pageOf r.addr) = false ∧ ∀ k < 64, s'.blockValid (s.pageAddr (s.pageOf r.addr) (64 * k)) = true) ∧
  (∀ (t : Nat) (corr unc : List (Fin 512)) (p : Nat) (r : MemReq) (lc lu : List Nat) (rest : List (Nat × MemReq × List Nat × List Nat)) (s : State), s.intg.repairs = (p, r, lc, lu) :: rest →
    ∃ s', exec (.pageRepair t corr unc) s = .next s' ∧ s'.intg.repairs = rest ∧ s'.mem = s.mem ∧
      (s.pageCurrent p = false → s'.memc.back = r :: s.memc.back ∧ s'.tx = [] ∧ s'.evCount 161 = s.evCount 161) ∧
      (s.pageCurrent p = true → unc = [] → s'.obj (O.intgPageRepairs (pageChan p)) = s.counted (O.intgPageRepairs (pageChan p)) ∧ s.raisedOnce s' 161 ∧
        s'.tx = [.readData r.port r.addr (s.bytes r.addr r.len) (s.poisonIn r.addr r.len)] ∧ ∀ w ∈ corr, ∃ b ∈ s'.intg.wbQ, b / 64 = s.wordAddr p w / 64) ∧
      (s.pageCurrent p = true → unc ≠ [] → s'.evCount 161 = s.evCount 161 ∧ ∀ w ∈ unc, s.writtenSince r (s.wordAddr p w) = false → s'.wordPoisoned (s.wordAddr p w) = true))

/-- Coding settled pages, the stale trackers and the background round (R332 to R335). Where the spec leaves a point open or it is read by inference, the choice is the model's: log entries 3, 107, 112. -/
def Obligations.GroomerCoding : Prop :=
  (∀ (t : Nat) (c : Fin 8) (page began w : Nat) (corr unc : List (Fin 512)) (s : State), s.obj O.intgGroomEnable ≠ 0 → pageChan page = c.val → began ≤ (s.at t).tick →
    s.intg.stale = [(page, w)] →
    ∃ s', exec (.pageSettled t c page began corr unc) s = .next s' ∧ s'.mem = s.mem ∧
      (began < w → s'.obj (O.intgConflicts c) = s.counted (O.intgConflicts c) ∧ s'.intg = s.intg) ∧
      (w + msTicks (s.obj O.intgSettle) ≤ began → s'.pageCurrent page = true ∧ s'.intg.stale = [] ∧ s'.obj (O.intgGroomedPages c) = s.counted (O.intgGroomedPages c) ∧
        (∀ k < 64, s'.blockValid (s.pageAddr page (64 * k)) = true) ∧ (∀ k ∈ unc, s'.wordPoisoned (s.wordAddr page k) = true) ∧
        (let l := pageShares (s.pageBytes page); kvGet (fun _ => []) s'.intg.pshare page = if l.all (· == 0) then [] else l))) ∧
  (∀ (t : Nat) (c : Fin 8) (s : State), kvGet (fun _ => false) s.intg.scan c = true → (s.intg.stale.filter fun e => pageChan e.1 == c.val) = [] →
    (s.stalePages.filter fun p => pageChan p == c.val).length ≤ 4096 →
    ∃ s', exec (.staleTrackerScan t c) s = .next s' ∧ kvGet (fun _ => false) s'.intg.scan c = false ∧
      s'.intg.stale = s.intg.stale ++ (s.stalePages.filter fun p => pageChan p == c.val).map fun p => (p, (s.at t).tick)) ∧
  (∀ (t p : Nat) (corr unc : List (Fin 512)) (fixed parity : Bool) (s : State), s.obj O.intgGroomEnable ≠ 0 → s.intg.roundDone = false →
    s.groomPages.find? (fun p => match s.intg.roundPos with | none => true | some q => decide (q < p)) = some p →
    ∃ s', exec (.roundVisit t corr unc fixed parity) s = .next s' ∧ s'.intg.roundPos = some p ∧ s'.mem = s.mem ∧
      (s.pageCurrent p = true → corr = [] → unc = [] → parity = false → s'.obj (O.intgGroomedPages (pageChan p)) = s.counted (O.intgGroomedPages (pageChan p)) ∧ s'.pageCurrent p = true) ∧
      (s.pageCurrent p = true → corr = [] → unc = [] → parity = true → s'.obj (O.intgRecoded (pageChan p)) = s.counted (O.intgRecoded (pageChan p)) ∧ s'.pageCurrent p = false ∧
        ((s.intg.stale.filter fun e => pageChan e.1 == pageChan p).length < 4096 → (p, (s.at t).tick) ∈ s'.intg.stale)) ∧
      (s.pageCurrent p = true → ¬ (corr = [] ∧ unc = []) → (unc = [] ∨ fixed = true) → s.raisedOnce s' 161 ∧ s'.evCount 163 = s.evCount 163 ∧
        ∀ w ∈ corr ++ unc, ∃ b ∈ s'.intg.wbQ, b / 64 = s.wordAddr p w / 64) ∧
      (s.pageCurrent p = true → unc ≠ [] → fixed = false → s'.evCount 161 = s.evCount 161 ∧ (∀ w ∈ unc, s'.wordPoisoned (s.wordAddr p w) = true) ∧
        (∀ w, unc = [w] → s.wordPoisoned (s.wordAddr p w) = false → s.raisedOnce s' 163 ∧ s'.pageCurrent (s.pageOf (s.wordAddr p w)) = false)) ∧
      (s.pageCurrent p = false → (s.intg.stale.any fun e => e.1 == p) = true → s'.pageCurrent p = false ∧ s'.intg.stale = s.intg.stale) ∧
      (s.pageCurrent p = false → (s.intg.stale.any fun e => e.1 == p) = false → s'.pageCurrent p = true ∧
        s'.obj (O.intgGroomedPages (pageChan p)) = s.counted (O.intgGroomedPages (pageChan p)))) ∧
  (∀ (t : Nat) (corr unc : List (Fin 512)) (fixed parity : Bool) (s : State), s.obj O.intgGroomEnable ≠ 0 → s.intg.roundDone = false → s.intg.roundOver = false →
    s.groomPages.find? (fun p => match s.intg.roundPos with | none => true | some q => decide (q < p)) = none →
    ∃ s', exec (.roundVisit t corr unc fixed parity) s = .next s' ∧ s'.intg.roundDone = true ∧ s'.obj O.intgRoundProgress = 1000 ∧ s'.obj O.intgRoundLast = stimeOf (s.at t).studio) ∧
  (∀ (t : Nat) (s : State), s.intg.roundAt + secTicks (s.obj O.intgRound) ≤ (s.at t).tick → s.intg.roundOver = false →
    ∃ s', exec (.roundEnd t) s = .next s' ∧
      (s.intg.roundDone = true → s'.intg.roundAt = s.intg.roundAt + secTicks (s.obj O.intgRound) ∧ s'.intg.roundDone = false ∧ s'.intg.roundPos = none ∧ s'.obj O.intgRoundProgress = 0 ∧
        (∀ e ∈ s'.intg.track, s.intg.roundAt ≤ e.2.at_) ∧ s'.evCount 168 = s.evCount 168) ∧
      (s.intg.roundDone = false → s'.intg.roundOver = true ∧ s.raisedOnce s' 168 ∧ s'.intg.track = s.intg.track))

/-- The correction trackers, write-back and retirement (R336, R337). Where the spec leaves a point open or it is read by inference, the choice is the model's: log entries 3, 107, 116. -/
def Obligations.WriteBackAndRetirement : Prop :=
  (∀ (t : Nat) (port : Fin 24) (r : MemReq) (s : State), s.memc.back.find? (fun r => r.port == port.val) = some r → r.len = 8 → r.addr % 8 = 0 →
    s.blockValid r.addr = true → s.wordPoisoned r.addr = false →
    ∃ s', exec (.burstRead t port [1] false) s = .next s' ∧ s'.mem = s.mem ∧ s'.tx = [.readData r.port r.addr (s.bytes r.addr 8) []] ∧
      s'.obj (O.intgCorrected (s.chan r.addr).1) = s.counted (O.intgCorrected (s.chan r.addr).1) ∧
      (s.intg.track = [] → 2 ≤ s.obj O.intgWbThresh →
        ∃ y, s'.intg.track = [((s.chan r.addr).1 * 256, y)] ∧ y.addr = (s.chan r.addr).2 / 8 * 8 ∧ y.count = 1 ∧ y.post = 0 ∧ y.state = 1 ∧ s'.intg.wbQ = s.intg.wbQ) ∧
      (∀ k x, s.intg.track = [(k, x)] → k / 256 = (s.chan r.addr).1 → x.addr = (s.chan r.addr).2 / 8 * 8 → x.state = 1 → x.count < 255 → x.count + 1 = s.obj O.intgWbThresh →
        (∃ y, s'.intg.track = [(k, y)] ∧ y.count = x.count + 1 ∧ y.state = 2) ∧ s'.intg.wbQ = s.intg.wbQ ++ [r.addr]) ∧
      (∀ k x, s.intg.track = [(k, x)] → k / 256 = (s.chan r.addr).1 → x.addr = (s.chan r.addr).2 / 8 * 8 → x.state = 3 → x.post < 255 →
        (x.post + 1 < s.obj O.intgRetireAfter → ∃ y, s'.intg.track = [(k, y)] ∧ y.count = x.count ∧ y.post = x.post + 1 ∧ y.state = 3) ∧
        (s.obj O.intgRetireAfter ≤ x.post + 1 → (∃ y, s'.intg.track = [(k, y)] ∧ y.post = x.post + 1 ∧ y.state = 4) ∧ ∃ e ∈ s'.intg.retireQ, e.1 = s.pageOf r.addr))) ∧
  (∀ (t a : Nat) (rest : List Nat) (s : State), s.intg.wbQ = a :: rest →
    ∃ s', exec (.writeBack t) s = .next s' ∧ s'.mem = s.mem ∧ s.raisedOnce s' 164 ∧ s'.obj (O.intgWritebacks (s.chan a).1) = s.counted (O.intgWritebacks (s.chan a).1) ∧
      s'.intg.current = s.intg.current ∧ s'.intg.poison = s.intg.poison ∧ s'.intg.pshare = s.intg.pshare ∧ (∀ b ∈ s'.intg.wbQ, b / 64 ≠ a / 64) ∧
      (∀ k x, s.intg.track = [(k, x)] → k / 256 = (s.chan a).1 → x.addr / 64 = (s.chan a).2 / 64 → x.state = 2 → s'.intg.track = [(k, { x with state := 3, post := 0 })])) ∧
  (∀ (t p since : Nat) (hit : Bool) (s : State), s.intg.retireQ = [(p, since, false)] →
    ∃ s', exec (.pageRetire t hit) s = .next s' ∧
      (hit = false → kvGet (fun _ => 0) s.intg.sparesUsed (pageChan p) < 1024 → s'.intg.retireQ = [] ∧ s.raisedOnce s' 166 ∧
        kvFind s'.intg.remap p = some (kvGet (fun _ => 0) s.intg.sparesUsed (pageChan p)) ∧ s'.obj (O.intgRetired (pageChan p)) = s.counted (O.intgRetired (pageChan p)) ∧
        s'.obj (O.intgSparesFree (pageChan p)) = 1023 - kvGet (fun _ => 0) s.intg.sparesUsed (pageChan p) ∧ s'.pageCurrent p = s.pageGroomed p) ∧
      (hit = false → 1024 ≤ kvGet (fun _ => 0) s.intg.sparesUsed (pageChan p) → s'.intg.retireQ = [] ∧ s'.intg.remap = s.intg.remap ∧ p ∈ s'.intg.noSpare ∧
        (p ∉ s.intg.noSpare → s.raisedOnce s' 167) ∧ (p ∈ s.intg.noSpare → s'.evCount 167 = s.evCount 167)) ∧
      (hit = true → s'.intg.retireQ = [(p, (s.at t).tick + msTicks (s.obj O.intgSettle), true)] ∧ s'.intg.remap = s.intg.remap ∧ s'.evCount 166 = s.evCount 166)) ∧
  (∀ (t p u : Nat) (hit : Bool) (s : State), s.intg.retireQ = [(p, u, true)] → u ≤ (s.at t).tick →
    ∃ s', exec (.retireRetry t hit) s = .next s' ∧ s'.obj (O.intgRetireRetries (pageChan p)) = s.counted (O.intgRetireRetries (pageChan p)) ∧
      (hit = false → kvGet (fun _ => 0) s.intg.sparesUsed (pageChan p) < 1024 → s'.intg.retireQ = [] ∧ s.raisedOnce s' 166 ∧
        kvFind s'.intg.remap p = some (kvGet (fun _ => 0) s.intg.sparesUsed (pageChan p))) ∧
      (hit = true → s'.intg.retireQ = [(p, (s.at t).tick + msTicks (s.obj O.intgSettle), true)] ∧ s'.intg.remap = s.intg.remap))

/-- Host sweeps and the list of retired pages (R338, R339). That a list beyond the free spares is refused with NO_MEMORY is the model's choice (log entry 111). Where the spec leaves a point open or it
is read by inference, the choice is the model's: log entries 3, 111, 113, 115. -/
def Obligations.SweepsAndRetireList : Prop :=
  (∀ (t : Nat) (q : Req) (v : List Byte) (s s1 : State) (x : Session), (s.at t).takesWrite q O.intgSweep v = some (x, s1) → s1.writable x O.intgSweep v = true →
    ∃ s', exec (.intgSweep t q v) s = .next s' ∧
      (leAt v 0 1 ≠ 1 → s'.intg = s1.intg ∧ s'.answered q 0x02 St.badValue (refBytes O.intgSweep) = true) ∧
      (leAt v 0 1 = 1 → s1.intg.sweep ≠ none → s'.intg = s1.intg ∧ s'.answered q 0x02 St.noSlot (refBytes O.intgSweep) = true) ∧
      (∀ st, leAt v 0 1 = 1 → s1.intg.sweep = none → leAt v 4 4 ≠ 0 → s1.handleFault (leAt v 4 4) = some st → s'.intg = s1.intg ∧ s'.answered q 0x02 st (refBytes O.intgSweep) = true) ∧
      (leAt v 0 1 = 1 → s1.intg.sweep = none → (leAt v 4 4 = 0 ∨ s1.handleFault (leAt v 4 4) = none) →
        s'.intg.sweep = some { pages := s1.sweepPages (leAt v 4 4) (leAt v 8 4) (leAt v 12 4), since := s1.tick } ∧ s'.obj O.intgSweepState = 1 * 2 ^ 24 ∧ s'.wrote q O.intgSweep = true)) ∧
  (∀ (t : Nat) (q : Req) (v : List Byte) (s s1 : State) (x : Session), (s.at t).takesWrite q O.intgSweepCancel v = some (x, s1) → s1.writable x O.intgSweepCancel v = true →
    ∃ s', exec (.intgSweepCancel t q v) s = .next s' ∧
      (s1.intg.sweep = none → s'.intg = s1.intg ∧ s'.objs = s1.objs ∧ s'.answered q 0x02 St.notActive (refBytes O.intgSweepCancel) = true) ∧
      (s1.intg.sweep ≠ none → s'.intg.sweep = none ∧ s'.obj O.intgSweepState = 4 * 2 ^ 24 + St.aborted ∧ s1.raisedOnce s' 170 ∧ s'.blob O.intgSweepResult = s1.blob O.intgSweepResult ∧
        s'.wrote q O.intgSweepCancel = true)) ∧
  (∀ (t : Nat) (visits : List (List (Fin 512) × List (Fin 512) × Bool × Bool)) (x : SweepSt) (s : State), s.obj O.intgGroomEnable ≠ 0 → s.intg.sweep = some x →
    ∃ s', exec (.sweepEnd t visits) s = .next s' ∧ s'.intg.sweep = none ∧ s'.obj O.intgSweepState = 3 * 2 ^ 24 ∧ s.raisedOnce s' 170 ∧ s'.mem = s.mem ∧
      (s'.blob O.intgSweepResult).length = 32 ∧
      (∀ p, x.pages = [p] → x.visited = 0 → x.skipped = 0 → (s.pageGroomed p = false ∨ s.pageUsed p = false) →
        leAt (s'.blob O.intgSweepResult) 0 4 = 0 ∧ leAt (s'.blob O.intgSweepResult) 20 4 = 1)) ∧
  (∀ (t : Nat) (q : Req) (v : List Byte) (s s1 : State) (x : Session), (s.at t).takesWrite q O.intgRetireList v = some (x, s1) → s1.writable x O.intgRetireList v = true →
    ∃ s', exec (.intgRetireList t q v) s = .next s' ∧
      (s1.retireEntries v (v.length / 8) = none → s'.intg = s1.intg ∧ s'.answered q 0x02 St.badValue (refBytes O.intgRetireList) = true) ∧
      (∀ ps, s1.retireEntries v (v.length / 8) = some ps → (∃ c < 8, 1024 < kvGet (fun _ => 0) s1.intg.sparesUsed c + (ps.filter fun p => pageChan p == c).length) →
        s'.intg = s1.intg ∧ s'.answered q 0x02 St.noMemory (refBytes O.intgRetireList) = true) ∧
      (∀ ps, s1.retireEntries v (v.length / 8) = some ps → (∀ c < 8, kvGet (fun _ => 0) s1.intg.sparesUsed c + (ps.filter fun p => pageChan p == c).length ≤ 1024) →
        (∀ p, (p ∈ ps ∧ pageChan p < 8) → (kvFind s'.intg.remap p).isSome = true) ∧ s'.wrote q O.intgRetireList = true))

/-- Ports, links and the switch (R343 to R349): a port is UP after 100 ms of lock; a bad frame is counted and goes no further; a good one is learned and forwarded within its VLAN. Where the spec
leaves a point open or it is read by inference, the choice is the model's: log entries 3, 117, 121. -/
def Obligations.PortsAndSwitch : Prop :=
  (∀ (t since : Nat) (p : Fin 4) (s : State), s.portUp p = false → s.obj (O.netPortEnable p) ≠ 0 → s.portAwake p = true →
    ∃ s', exec (.linkUp t p since) s = .next s' ∧
      (since + msTicks 100 ≤ (s.at t).tick → s'.obj (O.netPortState p) = 1 ∧ s.raisedOnce s' 180) ∧
      ((s.at t).tick < since + msTicks 100 → s'.objs = s.objs ∧ s'.ev = s.ev)) ∧
  (∀ (t : Nat) (p : Fin 4) (s : State), s.portUp p = true →
    ∃ s', exec (.linkDown t p) s = .next s' ∧ s'.obj (O.netPortState p) = 0 ∧ s.raisedOnce s' 181 ∧ (s'.netPort p).queue = []) ∧
  (∀ (t corrected bad : Nat) (p : Fin 4) (fcsOk : Bool) (bytes : List Byte) (s : State), s.obj (O.netPortEnable p) ≠ 0 → s.portUp p = true → s.portAwake p = true → s.opState ≠ standby →
    (∀ k < 4, (s.netPort k).queue = []) →
    ∃ s', exec (.frameRx t p fcsOk corrected bad bytes) s = .next s' ∧ s'.obj (O.netPortRxFrames p) = s.counted (O.netPortRxFrames p) ∧ s'.tx = [] ∧
      ((fcsOk = false ∨ (s.obj (O.netPortFec p) ≠ 0 ∧ bad ≠ 0)) → s'.obj (O.netPortFcsErrors p) = s.counted (O.netPortFcsErrors p) ∧ s'.net = s.net) ∧
      (fcsOk = true → (s.obj (O.netPortFec p) = 0 ∨ bad = 0) → (if s.obj O.netJumbo ≠ 0 then 9216 else 1522) < bytes.length + 4 →
        s'.obj (O.netPortOversize p) = s.counted (O.netPortOversize p) ∧ s'.net = s.net) ∧
      (fcsOk = true → (s.obj (O.netPortFec p) = 0 ∨ bad = 0) → bytes.length + 4 ≤ (if s.obj O.netJumbo ≠ 0 then 9216 else 1522) → ethType bytes = 0x8808 →
        s'.obj (O.netPortPauseRx p) = s.counted (O.netPortPauseRx p) ∧ s'.net = s.net) ∧
      (fcsOk = true → (s.obj (O.netPortFec p) = 0 ∨ bad = 0) → bytes.length + 4 ≤ (if s.obj O.netJumbo ≠ 0 then 9216 else 1522) → ethType bytes ≠ 0x8808 → ethType bytes ≠ 0x8100 →
        (s.vlan (s.obj (O.netPortPvid p)) = none ∨ ∃ m u, s.vlan (s.obj (O.netPortPvid p)) = some (m, u) ∧ bit m p = false) → s'.net = s.net)) ∧
  (∀ (t m u : Nat) (p : Fin 4) (bytes : List Byte) (s : State), s.obj (O.netPortEnable p) ≠ 0 → s.portUp p = true → s.portAwake p = true → s.opState ≠ standby →
    (∀ k < 4, (s.netPort k).queue = []) → bytes.length + 4 ≤ 1522 → ethType bytes ∉ [0x8808, 0x8100, 0x0800, 0x86DD, 0x0806] →
    s.vlan (s.obj (O.netPortPvid p)) = some (m, u) → bit m p = true → ethDst bytes / 2 ^ 40 % 2 = 0 → ethDst bytes ≠ s.obj O.netMac → ethSrc bytes ≠ ethDst bytes →
    ∃ s', exec (.frameRx t p true 0 0 bytes) s = .next s' ∧
      (ethSrc bytes / 2 ^ 40 % 2 = 0 → s.net.macs.length < 4096 → kvFind s'.net.macs (s.obj (O.netPortPvid p) * 2 ^ 48 + ethSrc bytes) = some (p.val, (s.at t).tick)) ∧
      (4096 ≤ s.net.macs.length → kvFind s.net.macs (s.obj (O.netPortPvid p) * 2 ^ 48 + ethSrc bytes) = none → s'.net.macs = s.net.macs) ∧
      ∀ k < 4, (s'.netPort k).queue =
        (let goes := match kvFind s.net.macs (s.obj (O.netPortPvid p) * 2 ^ 48 + ethDst bytes) with | some (e, _) => e == k && e != p.val | none => k != p.val
         if goes && bit m k && s.portUp k then [⟨s.obj (O.netPortPrio p), s.obj (O.netPortPvid p), bit u k, s.obj (O.netPortPrio p), bytes, (s.at t).tick, none⟩] else [])) ∧
  (∀ (t : Nat) (s : State), ∃ s', exec (.macAgeOut t) s = .next s' ∧ s'.net.macs = (s.net.macs.filter fun e => decide ((s.at t).tick < e.2.2 + secTicks (s.obj O.netMacAge))) ∧
    s'.obj O.netMacEntries = s'.net.macs.length) ∧
  (∀ (t : Nat) (s : State), ∃ s', exec (.membershipExpiry t) s = .next s' ∧ s'.net.groups = s.net.groups.filter fun g => decide ((s.at t).tick < g.2.2 + secTicks 260))

/-- What the internal endpoint answers, the reports of flow legs and wake frames (R350, R351, R367). Where the spec leaves a point open or it is read by inference, the choice is the model's: log
entries 3, 118, 126, 127, 128. -/
def Obligations.EndpointAnswers : Prop :=
  (∀ (t vlan target sender mac : Nat) (p : Fin 4) (s : State), ∃ s', exec (.arpRx t p vlan target sender mac) s = .next s' ∧ s'.objs = s.objs ∧ s'.net = s.net ∧
    (s.heard p vlan = true → s.ownAddress (beBytes 4 target) = true → s'.tx = [.arp p vlan target mac]) ∧
    ((s.heard p vlan = false ∨ s.ownAddress (beBytes 4 target) = false) → s'.tx = [])) ∧
  (∀ (t vlan mac : Nat) (target src : List Byte) (p : Fin 4) (s : State), target.length = 16 → ∃ s', exec (.neighbourSolicitationRx t p vlan target src mac) s = .next s' ∧ s'.objs = s.objs ∧
    (s.heard p vlan = true → s.ownAddress target = true → s'.tx = [.neighbour p vlan target mac]) ∧
    ((s.heard p vlan = false ∨ s.ownAddress target = false) → s'.tx = [])) ∧
  (∀ (t vlan : Nat) (v6 : Bool) (dst src data : List Byte) (p : Fin 4) (s : State), dst.length = (if v6 then 16 else 4) → ∃ s', exec (.echoRx t p vlan v6 dst src data) s = .next s' ∧ s'.objs = s.objs ∧
    (s.opState ≠ standby → s.heard p vlan = true → s.ownAddress dst = true → s'.tx = [.echo p vlan v6 src data]) ∧
    ((s.opState = standby ∨ s.heard p vlan = false ∨ s.ownAddress dst = false) → s'.tx = [])) ∧
  (∀ (t vlan f g : Nat) (v6 : Bool) (p : Fin 4) (s : State), s.opState ≠ standby → s.heard p vlan = true → s.legsOn = [(f, g)] → leAt (s.leg f g) 1 1 = p.val →
    leAt (s.leg f g) 0 1 = (if v6 then 6 else 4) → s.legVid f g = vlan → ipMulticast (groupOf (s.leg f g)) = true →
    ∃ s', exec (.membershipQueryRx t p vlan v6 []) s = .next s' ∧ s'.objs = s.objs ∧
      s'.tx = (let src := slice (s.leg f g) 20 (if v6 then 16 else 4)
               [.report p vlan (if v6 then 6 else 4) (groupOf (s.leg f g)) (if src.all (· == 0) then 1 else 0) src])) ∧
  (∀ (t g : Nat) (f : Fin 8) (s : State), (s.flow f).repeats = [g] → (∀ k, k ≠ f.val → (s.flow k).repeats = []) → s.legOn f g = true → ipMulticast (groupOf (s.leg f g)) = true →
    ∃ s', exec (.membershipReportRepeat t) s = .next s' ∧
      ((s.flow f).since + ticksPerSec ≤ (s.at t).tick → (s'.flow f).repeats = [] ∧
        ∃ kind src, s'.tx = [.report (leAt (s.leg f g) 1 1) (s.legVid f g) (leAt (s.leg f g) 0 1) (groupOf (s.leg f g)) kind src]) ∧
      ((s.at t).tick < (s.flow f).since + ticksPerSec → s'.tx = [] ∧ (s'.flow f).repeats = [g])) ∧
  (∀ (t vlan udp : Nat) (dst payload : List Byte) (p : Fin 4) (s : State), ∃ s', exec (.wakeFrameRx t p vlan dst udp payload) s = .next s' ∧ s'.objs = s.objs ∧ s'.tx = [] ∧
    (s.opState = standby → p = 0 → s.portUp 0 = true → vlan = s.obj O.netMgmtVlan → s.ownAddress dst = true → udp = s.obj O.netWakePort → 8 ≤ payload.length → s.obj O.netWakeToken ≠ 0 →
      beAt payload 0 8 = s.obj O.netWakeToken → s'.power.netwake = true ∧ s'.net.wake = true) ∧
    ((s.opState ≠ standby ∨ s.obj O.netWakeToken = 0 ∨ beAt payload 0 8 ≠ s.obj O.netWakeToken) → s'.power = s.power ∧ s'.net = s.net))

/-- Media packets, frames and redundant legs (R355, R359 to R361, R363, R370). Where the spec leaves a point open or it is read by inference, the choice is the model's: log entries 3, 129, 131, 133,
134. -/
def Obligations.MediaReception : Prop :=
  (∀ (t f g : Nat) (p : MediaPkt) (s : State), s.opState ≠ standby → s.heard p.port p.vlan = true → s.legsOn.find? (fun x => s.legMatches p x.1 x.2) = some (f, g) → f < 8 →
    bit (s.flow f).down g = false →
    ∃ s', exec (.mediaPacketRx t p) s = .next s' ∧
      (s.packetOk f p = false → s'.obj (O.netFlowDiscarded f) = s.counted (O.netFlowDiscarded f) ∧ s'.mem = s.mem ∧ (s'.flow f).frames = (s.flow f).frames ∧
        (bit (s.flow f).episodes 0 = false → s.raisedOnce s' 190) ∧ (bit (s.flow f).episodes 0 = true → s'.evCount 190 = s.evCount 190)) ∧
      (∀ h, s.packetOk f p = true → s.flowVals.lead f = f → (s.flow f).floor = none → (s.flow f).frames = [] → (s.flow f).newest = none → (s.flow f).seen = [] → p.seq < 2 ^ 32 →
        (s.flow f).holds = [h] → s.bufState (handleIndex h) = bufReady → s.bufRefs (handleIndex h) = 1 →
        s'.obj (O.layBufState (handleIndex h)) = bufWriting ∧ s'.obj (O.netFlowState f) = 2 ∧ s'.obj (O.netFlowLastT f) = ((s.at t).rtpInstant p.ts).stime ∧
        ∃ y, (s'.flow f).frames = [y] ∧ y.ts = p.ts ∧ y.index = some (handleIndex h)) ∧
      (s.packetOk f p = true → s.flowVals.lead f = f → (s.flow f).floor = none → (s.flow f).frames = [] → (s.flow f).newest = none → (s.flow f).seen = [] → p.seq < 2 ^ 32 →
        (s.flow f).holds = [] → s'.obj (O.netFlowNoBuffer f) = s.counted (O.netFlowNoBuffer f) ∧ s'.mem = s.mem ∧ (bit (s.flow f).episodes 1 = false → s.raisedOnce s' 185)) ∧
      (∀ b, s.packetOk f p = true → (s.flow f).floor = some b → (s.flow f).seen = [] → serialAbove p.seq b = false → s'.mem = s.mem ∧ (s'.flow f).frames = (s.flow f).frames)) ∧
  (∀ (t i : Nat) (f : Fin 8) (y : FlowFrame) (s : State), (s.flow f).frames = [y] → s.frameWhole f y = true → y.index = some i → i < 16384 → s.flowVals.parts f = [f.val] →
    ∃ s', exec (.flowFrameComplete t f) s = .next s' ∧ (s'.flow f).frames = [] ∧ s'.obj (O.layBufState i) = bufReady ∧ s'.obj (O.layBufWritten i) = stimeOf (s.at t).studio ∧
      s'.obj (O.netFlowFrames f) = s.counted (O.netFlowFrames f) ∧ s'.mem = s.mem ∧ ((s.flow f).fresh = true → s.raisedOnce s' 182)) ∧
  (∀ (t i n : Nat) (f : Fin 8) (y : FlowFrame) (s : State), (s.flow f).frames = [y] → s.frameWhole f y = false → y.index = some i → i < 16384 → y.newer = some n →
    ∃ s', exec (.flowFrameIncomplete t f) s = .next s' ∧ s'.mem = s.mem ∧ s'.obj (O.layBufWritten i) = s.obj (O.layBufWritten i) ∧
      (n + max (msTicks 1) (usTicks (s.obj (O.netFlowSkew f))) ≤ (s.at t).tick → (s'.flow f).frames = [] ∧ s'.obj (O.layBufState i) = bufReady ∧
        s'.obj (O.netFlowIncomplete f) = s.counted (O.netFlowIncomplete f) ∧ (bit (s.flow f).episodes 2 = false → s.raisedOnce s' 184)) ∧
      ((s.at t).tick < n + max (msTicks 1) (usTicks (s.obj (O.netFlowSkew f))) → (s'.flow f).frames = [y] ∧ s'.objs = s.objs)) ∧
  (∀ (t b : Nat) (f : Fin 8) (e : SeqSeen) (s : State), (s.flow f).floor = some b → b + 2 < 2 ^ 32 → (s.flow f).seen = [e] → e.seq = b + 2 → e.leg ≠ 2 →
    ∃ s', exec (.packetLost t f) s = .next s' ∧
      (e.first + usTicks (s.obj (O.netFlowSkew f)) ≤ (s.at t).tick → s'.obj (O.netFlowLostPkts f) = s.counted (O.netFlowLostPkts f)) ∧
      ((s.at t).tick < e.first + usTicks (s.obj (O.netFlowSkew f)) → s'.objs = s.objs ∧ (s'.flow f).seen = [e])) ∧
  (∀ (t : Nat) (f : Fin 8) (leg : Fin 2) (s : State), s.legOn f 0 = true → s.legOn f 1 = true → bit (s.flow f).down leg = false →
    ∃ s', exec (.legDown t f leg) s = .next s' ∧
      ((s.at t).legSilent f leg = true → bit (s'.flow f).down leg = true ∧ s.raisedOnce s' 186) ∧
      ((s.at t).legSilent f leg = false → s'.ev = s.ev ∧ s'.net = s.net)) ∧
  (∀ (t : Nat) (f : Fin 8) (s : State), s.obj (O.netFlowState f) = 2 →
    ∃ s', exec (.flowStopped t f) s = .next s' ∧
      ((∀ g < 2, s.legOn f g = true → (s.at t).legSilent f g = true) → s'.obj (O.netFlowState f) = 1 ∧ s.raisedOnce s' 183) ∧
      (∀ g < 2, s.legOn f g = true → (s.at t).legSilent f g = false → s'.objs = s.objs ∧ s'.ev = s.ev))

/-- The repeat window and the checks before execution (R374, R377 to R379, R381), shown on READ and WRITE: a cached answer is sent again and nothing is executed again; a SEQ out of the window is
STALE_SEQ; a bad tag is discarded without an answer; another node is NO_ROUTE on a device that is no manager. Where the spec leaves a point open or it is read by inference, the choice is the
model's: log entries 138, 150, 151. -/
def Obligations.RequestWindow : Prop :=
  ∀ (t op : Nat) (q : Req) (ref : Nat) (v payload : List Byte) (env : WriteEnv) (c : Instr) (s : State) (x : Session),
    (op = 1 ∧ payload = refBytes ref ∧ c = .read t q ref ∨ op = 2 ∧ payload = valueForm ref v ∧ c = .write t q ref v env) →
    ((s.at t).reaches q op payload x →
      (∀ m, q.seq ∉ x.inflight → (∀ f ∈ x.fences, f.1.seq ≠ q.seq) → q.seq ∉ x.busied → serialAbove q.seq x.high = false → inWindow q.seq x.high = true → kvFind x.cache q.seq = some m →
        ∃ s', exec c s = .next s' ∧ s'.tx = [.resil q.port q.src m] ∧ s'.objs = s.objs ∧ s'.blobs = s.blobs ∧ s'.mem = s.mem ∧ s'.ev = s.ev) ∧
      (q.seq ∉ x.inflight → (∀ f ∈ x.fences, f.1.seq ≠ q.seq) → q.seq ∉ x.busied → serialAbove q.seq x.high = false →
        (inWindow q.seq x.high = false ∨ kvFind x.cache q.seq = none) →
        ∃ s', exec c s = .next s' ∧ s'.answered q op St.staleSeq [] = true ∧ s'.objs = s.objs ∧ s'.blobs = s.blobs ∧ s'.mem = s.mem ∧ (x.stale = false → s.raisedOnce s' 208) ∧
          (x.stale = true → s'.ev = s.ev)) ∧
      (q.seq ∉ x.inflight → (∀ f ∈ x.fences, f.1.seq ≠ q.seq) → serialAbove q.seq x.high = true → s.sec.rescue = false → q.node ≠ s.obj O.dictNodeId → s.obj O.hierRoleNow ≠ 1 →
        ∃ s', exec c s = .next s' ∧ s'.answered q op St.noRoute [] = true ∧ s'.objs = s.objs ∧ s'.blobs = s.blobs ∧ s'.mem = s.mem)) ∧
    ((s.at t).serves q = true → q.ver = 1 → q.length = payload.length → payload.length + 32 ≤ s.maxMessage → s.session? q.session = some x → q.tag ≠ tagOf x.key (reqMsg q op payload) →
      ∃ s', exec c s = .next s' ∧ s'.tx = [] ∧ s'.obj O.dictBadTags = s.counted O.dictBadTags ∧ s'.blobs = s.blobs ∧ s'.mem = s.mem ∧ (x.badTag = false → s.raisedOnce s' 203)) ∧
    ((s.at t).serves q = true → (q.ver ≠ 1 ∨ q.length ≠ payload.length ∨ s.session? q.session = none) →
      ∃ s', exec c s = .next s' ∧ s'.tx = [] ∧ s'.obj O.dictBadMessages = s.counted O.dictBadMessages ∧ s'.blobs = s.blobs ∧ s'.mem = s.mem)

/-- Reads, descriptions and fences (R375, R380, R384, R392). Where the spec leaves a point open or it is read by inference, the choice is the model's: log entries 142, 154. -/
def Obligations.Reads : Prop :=
  (∀ (t : Nat) (q : Req) (ref : Nat) (s s1 : State) (x : Session), (s.at t).takes q 1 (refBytes ref) (readFast ref) = some (x, s1) →
    ∃ s', exec (.read t q ref) s = .next s' ∧
      (findRef ref = none → s'.objs = s1.objs ∧ s'.answered q 1 St.noObject [] = true) ∧
      (∀ r n, findRef ref = some (r, n) → r.acc = .wo → s'.objs = s1.objs ∧ s'.answered q 1 St.writeOnly [] = true) ∧
      (∀ r n, findRef ref = some (r, n) → r.acc ≠ .wo → ¬ (isBufData ref = true ∧ refSub ref = 0x0B) → (s1.readValue x r ref).1.length ≤ s1.valueRoom 0 →
        s'.answered q 1 St.ok (valueForm ref (s1.readValue x r ref).1) = true) ∧
      (∀ r n, findRef ref = some (r, n) → r.acc ≠ .wo → ¬ (isBufData ref = true ∧ refSub ref = 0x0B) → s1.valueRoom 0 < (s1.readValue x r ref).1.length →
        s'.answered q 1 St.tooLong [] = true) ∧
      (ref = O.timeNow → s'.answered q 1 St.ok (valueForm ref (beBytes 12 (stimeOf s1.studio))) = true) ∧
      (ref = O.dictUdpPort → s'.answered q 1 St.ok (valueForm ref (beBytes 2 (s1.obj O.dictUdpPort))) = true)) ∧
  (∀ (t : Nat) (q : Req) (a : Nat) (s s1 : State) (x : Session), findRef a = none → q.node = s.obj O.dictNodeId →
    (s.at t).takes q 3 (refBytes O.dictUdpPort ++ refBytes a) false = some (x, s1) →
    ∃ s', exec (.readMulti t q [O.dictUdpPort, a]) s = .next s' ∧ s'.objs = s1.objs ∧
      s'.answered q 3 St.ok (Config.multiEntry O.dictUdpPort St.ok (beBytes 2 (s1.obj O.dictUdpPort)) ++ Config.multiEntry a St.noObject []) = true) ∧
  (∀ (t : Nat) (q : Req) (refs : List Nat) (s s1 : State) (x : Session), q.node = s.obj O.dictNodeId → (s.at t).takes q 3 (refs.flatMap refBytes) (refs.all readFast) = some (x, s1) →
    ∃ s', exec (.readMulti t q refs) s = .next s' ∧ (64 < refs.length → s'.objs = s1.objs ∧ s'.answered q 3 St.badMessage [] = true)) ∧
  (∀ (t : Nat) (q : Req) (ref : Nat) (s s1 : State) (x : Session), (s.at t).takes q 5 (refBytes ref) false = some (x, s1) →
    ∃ s', exec (.describe t q ref) s = .next s' ∧ s'.objs = s1.objs ∧
      (findRef ref = none → s'.answered q 5 St.noObject [] = true) ∧
      (∀ r n, findRef ref = some (r, n) → ∃ p, s'.answered q 5 St.ok p = true ∧ beAt p 0 1 = r.ty.code ∧ beAt p 3 1 = r.acc.code ∧ beAt p 4 1 = levelObserver ∧ beAt p 5 1 = writeLevel ref)) ∧
  (∀ (t : Nat) (q : Req) (s s1 : State) (x : Session), (s.at t).takes q 9 [] true = some (x, s1) →
    ∃ s', exec (.fence t q) s = .next s' ∧ s'.objs = s1.objs ∧
      (x.inflight = [] → s'.answered q 9 St.ok (beBytes 12 (stimeOf s1.studio)) = true) ∧
      (x.inflight ≠ [] → s'.tx = s1.tx ∧ ∃ y, s'.session? q.session = some y ∧ (q, x.inflight) ∈ y.fences))

/-- Writes of any object, the clear of a counter, defaults and the UDP port (R375, R380, R381, R393, R396, R505). Where the spec leaves a point open or it is read by inference, the choice is the
model's: log entries 158, 159, 160. -/
def Obligations.Writes : Prop :=
  (∀ (t : Nat) (q : Req) (ref : Nat) (v : List Byte) (env : WriteEnv) (s s1 : State) (x : Session), (s.at t).takesWrite q ref v = some (x, s1) →
    ∃ s', exec (.write t q ref v env) s = .next s' ∧
      (findRef ref = none → s'.objs = s1.objs ∧ s'.answered q 2 St.noObject [] = true) ∧
      (∀ r n, findRef ref = some (r, n) → x.level < writeLevel ref → s'.objs = s1.objs ∧ s'.blobs = s1.blobs ∧ s'.answered q 2 St.accessLevel [] = true) ∧
      (∀ r n, findRef ref = some (r, n) → writeLevel ref ≤ x.level → isBufData ref = false → r.ctr = false → r.acc = .ro →
        s'.objs = s1.objs ∧ s'.blobs = s1.blobs ∧ s'.answered q 2 St.readOnly (refBytes ref) = true) ∧
      (∀ r n, findRef ref = some (r, n) → writeLevel ref ≤ x.level → isBufData ref = false → r.ctr = false → r.acc = .rwi → s1.idle ref = false →
        s'.objs = s1.objs ∧ s'.blobs = s1.blobs ∧ s'.answered q 2 St.notIdle (refBytes ref) = true) ∧
      (∀ r n, findRef ref = some (r, n) → writeLevel ref ≤ x.level → isBufData ref = false → r.ctr = false → r.acc = .rw → r.ty.isBlob = false → v.length ≠ r.ty.size →
        s'.objs = s1.objs ∧ s'.blobs = s1.blobs ∧ s'.answered q 2 St.badType (refBytes ref) = true) ∧
      (∀ r n, findRef ref = some (r, n) → s1.writable x ref v = true → plainObject ref = true → r.ty.isBlob = false →
        s'.obj (if r.acc = .rws then staged ref else ref) = beNat v ∧ s'.mem = s1.mem ∧ s'.blobs = s1.blobs ∧ s'.wrote q ref = true)) ∧
  (∀ (t : Nat) (q : Req) (a b na nb : Nat) (u v : List Byte) (ea eb : WriteEnv) (ra rb : ObjRow) (s s1 : State) (x : Session), q.node = s.obj O.dictNodeId →
    (s.at t).takes q 4 (valueForm a u ++ valueForm b v) (fastWrite a && fastWrite b) = some (x, s1) →
    findRef a = some (ra, na) → ra.acc = .ro → ra.ctr = false → isBufData a = false → writeLevel a ≤ x.level →
    findRef b = some (rb, nb) → s1.writable x b v = true → plainObject b = true → rb.ty.isBlob = false →
    ∃ s', exec (.writeMulti t q [(a, u, ea), (b, v, eb)]) s = .next s' ∧ s'.obj (if rb.acc = .rws then staged b else b) = beNat v ∧ s'.mem = s1.mem ∧
      s'.answered q 4 St.ok (Config.multiEntry a St.readOnly [] ++ Config.multiEntry b St.ok []) = true) ∧
  (∀ (t : Nat) (q : Req) (ref n : Nat) (v : List Byte) (r : ObjRow) (s s1 : State) (x : Session), (s.at t).takesWrite q ref v = some (x, s1) → findRef ref = some (r, n) →
    r.ctr = true → writeLevel ref ≤ x.level → v.length = r.ty.size → beNat v = 0 →
    ∃ s', exec (.counterClear t q ref v) s = .next s' ∧ s'.obj ref = 0 ∧ ref ∉ s'.ev.satList ∧ s'.wrote q ref = true) ∧
  (∀ (t : Nat) (q : Req) (v : List Byte) (s s1 : State) (x : Session), (s.at t).takesWrite q O.dictRestore v = some (x, s1) → s1.writable x O.dictRestore v = true →
    ∃ s', exec (.dictRestore t q v) s = .next s' ∧
      (s1.commitIn (beNat v / 65536) (beNat v % 65536) = true → s'.objs = s1.objs ∧ s'.blobs = s1.blobs ∧ s'.answered q 2 St.commitPending (refBytes O.dictRestore) = true) ∧
      (s1.commitIn (beNat v / 65536) (beNat v % 65536) = false → (∀ ix, beNat v / 65536 ≤ ix → ix ≤ beNat v % 65536 → neverRestored ix = true) →
        s'.objs = s1.objs ∧ s'.blobs = s1.blobs ∧ s1.raisedOnce s' 209 ∧ s'.answered q 2 St.ok (refBytes O.dictRestore ++ beBytes 2 0 ++ beBytes 2 0) = true) ∧
      (∀ n < 4, beNat v = (0x2110 + n) * 65536 + (0x2110 + n) → s1.commitIn (0x2110 + n) (0x2110 + n) = false → levelEngineer ≤ x.level →
        s'.obj (staged (O.tgPeriod n)) = numDefault (O.tgPeriod n) ∧ s'.obj (O.tgPeriod n) = s1.obj (O.tgPeriod n) ∧ s1.raisedOnce s' 209)) ∧
  (∀ (t p : Nat) (s : State), s.resil.oldPort = some p →
    ∃ s', exec (.udpPortSwitch t) s = .next s' ∧
      (s.resil.portAt + secTicks 1 ≤ (s.at t).tick → s'.resil.oldPort = none) ∧
      ((s.at t).tick < s.resil.portAt + secTicks 1 → s'.resil = s.resil))

/-- Opening, carrying and ending block transfers, and the installation of a kernel (R248, R385 to R387). Where the spec leaves a point open or it is read by inference, the choice is the model's: log
entries 139, 140, 143, 164, 165. -/
def Obligations.BlockTransfers : Prop :=
  (∀ (t : Nat) (q : Req) (ref dir block handle off len : Nat) (s s1 : State) (x : Session),
    (s.at t).takes q 0x10 (refBytes ref ++ beBytes 1 dir ++ [0] ++ beBytes 2 block ++ beBytes 4 handle ++ fill 4 0 ++ beBytes 8 off ++ beBytes 8 len) (isBufData ref) = some (x, s1) →
    objectCheck x ref (dir == 0) = none → (∀ p ∈ s1.resil.xfers, p.2.toHost = false) →
    ∃ s', exec (.blockOpen t q ref dir block handle off len) s = .next s' ∧
      (∀ st, dir = 0 → s1.openFault q.session ref dir block handle off len 0 = some st → s'.resil.xfers = s1.resil.xfers ∧ s'.answered q 0x10 st [] = true) ∧
      (∀ tid, dir = 0 → ref ≠ O.secStage → s1.openFault q.session ref dir block handle off len 0 = none → (s1.pick (fun n => (s1.xfer? n).isSome) 0 65536).1 = some tid →
        (∃ y, s'.xfer? tid = some y ∧ y.session = q.session ∧ y.ref = ref ∧ y.toHost = false ∧ y.block = block ∧ y.off = off ∧ y.len = len ∧ y.held = 0 ∧ y.cum = 0) ∧
        s'.answered q 0x10 St.ok (beBytes 2 tid ++ beBytes 2 64 ++ beBytes 2 block) = true)) ∧
  (∀ (t : Nat) (q : Req) (tid n : Nat) (data : List Byte) (x : Session) (y : Xfer) (s s1 : State), (s.at t).hears q 0x11 (beBytes 2 tid ++ [0, 0] ++ beBytes 4 n ++ data) x s1 →
    s.xfer? tid = some y → y.session = q.session → isBufData y.ref = true →
    ∃ s', exec (.blockData t q tid n data) s = .next s' ∧
      ((y.toHost = true ∨ y.blocks ≤ n ∨ y.cum + 64 ≤ n ∨ bit y.held n = true ∨ data.length ≠ y.size n) → s'.xfer? tid = some y ∧ s'.mem = s.mem) ∧
      (y.toHost = false → y.whole = false → n < y.blocks → n < y.cum + 64 → bit y.held n = false → data.length = y.size n →
        s'.mem = (s.extentWrite (s.buf (bufOf y.ref)).extents (y.off + n * y.block) data).mem ∧
        (cumFrom (setBit y.held n) y.cum (y.blocks - y.cum) ≠ y.blocks → (∃ z, s'.xfer? tid = some z ∧ bit z.held n = true ∧ z.cum = cumFrom (setBit y.held n) y.cum (y.blocks - y.cum)) ∧
          (y.held = 0 → s'.obj (O.layBufState (bufOf y.ref)) = bufWriting) ∧ (16 ≤ y.fresh + 1 → s'.tx.length = 1) ∧ (y.fresh + 1 < 16 → s'.tx = [])) ∧
        (cumFrom (setBit y.held n) y.cum (y.blocks - y.cum) = y.blocks → s'.xfer? tid = none ∧ kvFind s'.resil.ended tid = some (q.session, y.blocks, St.ok) ∧
          (0 < y.len → s'.obj (O.layBufState (bufOf y.ref)) = bufReady)))) ∧
  (∀ (t : Nat) (q : Req) (tid cum map : Nat) (x : Session) (y : Xfer) (s s1 : State), (s.at t).hears q 0x12 (ackPayload tid cum map) x s1 →
    s.xfer? tid = some y → y.session = q.session → isBufData y.ref = true → y.toHost = true →
    ∃ s', exec (.blockAck t q tid cum map) s = .next s' ∧ s'.mem = s.mem ∧
      (y.cum < y.blocks → y.blocks ≤ cum → (∀ n < y.blocks, bit y.held n = true ∨ n ∈ y.sentAt.map (·.1)) →
        s'.xfer? tid = none ∧ kvFind s'.resil.ended tid = some (q.session, y.blocks, St.ok))) ∧
  (∀ (t tid : Nat) (y : Xfer) (x : Session) (s : State), s.xfer? tid = some y → y.toHost = false → y.whole = false → y.fresh ≠ 0 → s.session? y.session = some x →
    ∃ s', exec (.blockAckTimer t tid) s = .next s' ∧
      (y.lastNew + msTicks 1 ≤ (s.at t).tick → s'.toldHost y.session x 0x12 St.ok (ackPayload tid y.cum y.map) = true ∧ s'.xfer? tid = some { y with fresh := 0 }) ∧
      ((s.at t).tick < y.lastNew + msTicks 1 → s'.tx = [] ∧ s'.resil = s.resil)) ∧
  (∀ (t tid n a : Nat) (y : Xfer) (x : Session) (s : State), s.xfer? tid = some y → y.sentAt = [(n, a)] → isBufData y.ref = false → s.session? y.session = some x →
    ∃ s', exec (.blockResend t tid) s = .next s' ∧
      (a + msTicks 10 ≤ (s.at t).tick → s'.toldHost y.session x 0x11 St.ok (beBytes 2 tid ++ [0, 0] ++ beBytes 4 n ++ slice y.data (n * y.block) (y.size n)) = true ∧
        s'.xfer? tid = some { y with sentAt := [(n, (s.at t).tick)] }) ∧
      ((s.at t).tick < a + msTicks 10 → s'.tx = [] ∧ s'.resil = s.resil)) ∧
  (∀ (t : Nat) (q : Req) (tid : Nat) (s s1 : State) (x : Session), (s.at t).takes q 0x13 (beBytes 2 tid ++ [0, 0]) true = some (x, s1) →
    ∃ s', exec (.blockAbort t q tid) s = .next s' ∧
      ((s1.xfer? tid = none ∨ ∃ y, s1.xfer? tid = some y ∧ y.session ≠ q.session) → s'.resil.xfers = s1.resil.xfers ∧ s'.answered q 0x13 St.notActive [] = true) ∧
      (∀ y, s1.xfer? tid = some y → y.session = q.session → s'.xfer? tid = none ∧ kvFind s'.resil.ended tid = some (q.session, y.cum, St.aborted) ∧ s'.answered q 0x13 St.ok [] = true)) ∧
  (∀ (t tid : Nat) (y : Xfer) (x : Session) (s : State), s.xfer? tid = some y → y.whole = false → s.session? y.session = some x →
    ∃ s', exec (.transferIdle t tid) s = .next s' ∧
      (y.lastBlock + msTicks (s.obj O.dictXferIdle) ≤ (s.at t).tick → s'.xfer? tid = none ∧ kvFind s'.resil.ended tid = some (y.session, y.cum, St.aborted) ∧ s.raisedOnce s' 206) ∧
      ((s.at t).tick < y.lastBlock + msTicks (s.obj O.dictXferIdle) → s'.resil = s.resil ∧ s'.ev = s.ev)) ∧
  (∀ (t tid : Nat) (y : Xfer) (img : List Byte) (s : State), s.wholeOf O.crvKernelStage = some (tid, y) → s.xfer? tid = some y → s.xferValue y = img →
    ∃ s', exec (.kernelInstall t) s = .next s' ∧ s'.xfer? tid = none ∧
      (kernelHeaderOk img = false → kvFind s'.resil.ended tid = some (y.session, y.cum, St.badImage) ∧ s.raisedOnce s' 117 ∧ s'.carve = s.carve ∧
        s'.obj O.crvKernelResult = St.badImage * 65536 + (kernelOf img).id) ∧
      (kernelHeaderOk img = true → s.keyEnrolled (kernelOf img).keySlot = false → kvFind s'.resil.ended tid = some (y.session, y.cum, St.noKey) ∧ s.raisedOnce s' 117 ∧ s'.carve = s.carve) ∧
      (kernelHeaderOk img = true → s.keyEnrolled (kernelOf img).keySlot = true → ((kernelOf img).keySlot = 0 ↔ (kernelOf img).id ≤ 0x7FFF) → s.kernelSigned img (kernelOf img) = true →
        s.kernel? (kernelOf img).id = none → (s.placeKernel (kernelOf img)).isSome = true →
        kvFind s'.resil.ended tid = some (y.session, y.cum, St.ok) ∧ (s'.kernel? (kernelOf img).id).isSome = true ∧ s.raisedOnce s' 116 ∧ s'.obj O.crvKernelResult = (kernelOf img).id))

/-- The handshake and the end of sessions (R376, R377). Where the spec leaves a point open or it is read by inference, the choice is the model's: log entries 9, 155, 156, 157. -/
def Obligations.SessionLife : Prop :=
  (∀ (t : Nat) (q : Req) (principal level : Fin 256) (nonce ekey : List Byte) (s : State), (s.at t).serves q = true → q.ver = 1 → q.length = 1220 → nonce.length = 32 → ekey.length = 1184 →
    q.session = 0 → q.node = s.obj O.dictNodeId → s.resil.procDown = false → q.depth < 480 →
    ∃ s', exec (.hello t q principal level nonce ekey) s = .next s' ∧
      (s.principal? principal = none → s'.tx = [.resil q.port q.src ⟨0x20, 0x80, q.node, 0, q.seq, St.noKey, [], []⟩] ∧ s'.resil.attempts = s.resil.attempts) ∧
      (∀ top pub, s.principal? principal = some (top, pub) → top < level.val →
        s'.tx = [.resil q.port q.src ⟨0x20, 0x80, q.node, 0, q.seq, St.accessLevel, [], []⟩] ∧ s'.resil.attempts = s.resil.attempts) ∧
      (∀ top pub, s.principal? principal = some (top, pub) → level.val ≤ top → 32 ≤ s.openSessions →
        s'.tx = [.resil q.port q.src ⟨0x20, 0x80, q.node, 0, q.seq, St.noSlot, [], []⟩] ∧ s'.resil.attempts = s.resil.attempts) ∧
      (∀ top pub num, s.principal? principal = some (top, pub) → level.val ≤ top → s.openSessions < 32 →
        (s.pick (fun n => (s.session? n).isSome || (kvFind s.resil.attempts n).isSome) 1 65535).1 = some num →
        (∃ a, kvFind s'.resil.attempts num = some a ∧ a.principal = principal ∧ a.level = level ∧ a.src = q.src ∧ a.since = (s.at t).tick ∧ a.pub = pub) ∧
        ∃ body, s'.tx = [.resil q.port q.src ⟨0x21, 0x80, q.node, 0, q.seq, St.ok, body, []⟩] ∧ beAt body 0 2 = num)) ∧
  (∀ (t : Nat) (q : Req) (sig : List Byte) (a : Attempt) (s : State), (s.at t).serves q = true → q.ver = 1 → q.length = 1280 → sig.length = 1280 → kvFind s.resil.attempts q.session = some a →
    (s.at t).tick < a.since + secTicks 5 → q.node = s.obj O.dictNodeId → s.resil.procDown = false → q.depth < 480 →
    ∃ s', exec (.prove t q sig) s = .next s' ∧ kvFind s'.resil.attempts q.session = none ∧
      (Config.falconVerify a.pub a.digest sig = false → s'.obj O.dictHandshakeFails = s.counted O.dictHandshakeFails ∧ s.raisedOnce s' 202 ∧ s'.resil.sessions = s.resil.sessions ∧
        s'.tx = [.resil q.port q.src ⟨0x22, 0x80, q.node, q.session, q.seq, St.signature, [], []⟩]) ∧
      (Config.falconVerify a.pub a.digest sig = true → s.replaced a = [] → s.openSessions < 32 → s.raisedOnce s' 200 ∧
        ∃ y m, s'.session? q.session = some y ∧ y.principal = a.principal ∧ y.level = a.level ∧ y.key = a.key ∧ y.high = 0 ∧ s'.tx = [.resil q.port q.src m] ∧ m.op = 0x23 ∧ m.tag = tagOf a.key m)) ∧
  (∀ (t num : Nat) (a : Attempt) (s : State), kvFind s.resil.attempts num = some a →
    ∃ s', exec (.challengeLapse t num) s = .next s' ∧ (a.since + secTicks 5 ≤ (s.at t).tick → kvFind s'.resil.attempts num = none) ∧
      ((s.at t).tick < a.since + secTicks 5 → s'.resil = s.resil)) ∧
  (∀ (t : Nat) (q : Req) (s s1 : State) (x : Session), (s.at t).takes q 0x24 [] true = some (x, s1) →
    ∃ s', exec (.close t q) s = .next s' ∧ s'.session? q.session = none ∧ s1.raisedOnce s' 201 ∧ s'.answered q 0x24 St.ok [] = true ∧
      (∀ p ∈ s'.resil.xfers, p.2.session ≠ q.session) ∧ (∀ p ∈ s'.resil.subs, p.2.session ≠ q.session)) ∧
  (∀ (t num : Nat) (x : Session) (s : State), s.session? num = some x → x.expired = false →
    ∃ s', exec (.sessionIdle t num) s = .next s' ∧
      (x.lastAuth + secTicks (s.obj O.dictSessionIdle) ≤ (s.at t).tick → s'.session? num = none ∧ s.raisedOnce s' 201 ∧
        (∀ p ∈ s'.resil.xfers, p.2.session ≠ num) ∧ (∀ p ∈ s'.resil.subs, p.2.session ≠ num)) ∧
      ((s.at t).tick < x.lastAuth + secTicks (s.obj O.dictSessionIdle) → s'.resil = s.resil ∧ s'.ev = s.ev))

/-- Subscriptions and EVENT messages (R388 to R391). Where the spec leaves a point open or it is read by inference, the choice is the model's: log entries 3, 141, 145, 146. -/
def Obligations.Subscriptions : Prop :=
  (∀ (t : Nat) (q : Req) (mode : Fin 256) (interval : Fin 65536) (target : List Byte) (s s1 : State) (x : Session), target.length = 32 →
    (s.at t).takes q 0x18 ([0] ++ beBytes 1 mode.val ++ beBytes 2 interval.val ++ target) false = some (x, s1) →
    ∃ s', exec (.subscribe t q 0 mode interval target) s = .next s' ∧
      ((256 ≤ s1.resil.subs.length ∨ 64 ≤ (s1.resil.subs.filter fun p => p.2.session == q.session).length) → s'.resil.subs = s1.resil.subs ∧ s'.answered q 0x18 St.noSlot [] = true) ∧
      (s1.resil.subs.length < 256 → (s1.resil.subs.filter fun p => p.2.session == q.session).length < 64 → (interval.val = 0 ∨ mode ≠ 0) →
        s'.resil.subs = s1.resil.subs ∧ s'.answered q 0x18 St.badValue [] = true) ∧
      (∀ id, s1.resil.subs.length < 256 → (s1.resil.subs.filter fun p => p.2.session == q.session).length < 64 → interval.val ≠ 0 → mode = 0 →
        (s1.pick (fun n => (kvFind s1.resil.subs n).isSome) 0 65536).1 = some id →
        (∃ y, kvFind s'.resil.subs id = some y ∧ y.session = q.session ∧ y.object = false ∧ y.target = target ∧ y.interval = interval.val ∧ y.suspended = false) ∧
        s'.answered q 0x18 St.ok (beBytes 2 id) = true)) ∧
  (∀ (t : Nat) (q : Req) (id : Nat) (s s1 : State) (x : Session), (s.at t).takes q 0x19 (beBytes 2 id ++ [0, 0]) false = some (x, s1) →
    ∃ s', exec (.unsubscribe t q id) s = .next s' ∧
      (∀ y, kvFind s1.resil.subs id = some y → y.session = q.session → kvFind s'.resil.subs id = none ∧ s'.answered q 0x19 St.ok [] = true) ∧
      (kvFind s1.resil.subs id = none → s'.resil.subs = s1.resil.subs ∧ s'.answered q 0x19 St.notActive [] = true)) ∧
  (∀ (t id a : Nat) (b : List Byte) (y : Sub) (x : Session) (s : State), kvFind s.resil.subs id = some y → s.session? y.session = some x → y.suspended = false → s.servesAt x.port = true →
    y.object = false → y.records = [(a, b)] →
    ∃ s', exec (.eventSend t id) s = .next s' ∧
      (a + msTicks 1 ≤ (s.at t).tick → s'.toldHost y.session x 0x1A St.ok ([0, 1, 0, 0] ++ b) = true ∧ kvFind s'.resil.subs id = some { y with records := [] } ∧
        ∃ z, s'.session? y.session = some z ∧ z.devSeq = (x.devSeq + 1) % 4294967296 ∧ ∃ e ∈ z.sent, e.seq = z.devSeq ∧ e.sub = id ∧ e.tries = 1) ∧
      ((s.at t).tick < a + msTicks 1 → s'.tx = [] ∧ s'.resil = s.resil)) ∧
  (∀ (t id a n : Nat) (r : ObjRow) (y : Sub) (x : Session) (s : State), kvFind s.resil.subs id = some y → s.session? y.session = some x → y.suspended = false → s.servesAt x.port = true →
    y.object = true → y.periodic = false → y.owed = false → y.lastAt = some a → findRef (refOf y.target) = some (r, n) →
    ∃ s', exec (.eventSend t id) s = .next s' ∧
      (((s.at t).tick < a + msTicks y.interval ∨ ((s.at t).readValue x r (refOf y.target)).1 = y.lastVal) → s'.tx = [] ∧ s'.resil = s.resil) ∧
      (a + msTicks y.interval ≤ (s.at t).tick → ((s.at t).readValue x r (refOf y.target)).1 ≠ y.lastVal →
        ∃ z, kvFind s'.resil.subs id = some z ∧ z.lastAt = some (s.at t).tick ∧ z.lastVal = ((s.at t).readValue x r (refOf y.target)).1 ∧ s'.tx.length = 1)) ∧
  (∀ (t num seq : Nat) (y : Session) (e : SentEvent) (s : State), s.session? num = some y → y.sent = [e] → e.seq = seq → s.servesAt y.port = true →
    ∃ s', exec (.eventResend t num seq) s = .next s' ∧
      ((s.at t).tick < e.at_ + msTicks 100 → s'.tx = [] ∧ s'.resil = s.resil) ∧
      (e.at_ + msTicks 100 ≤ (s.at t).tick → e.tries < 4 → s'.tx = [.resil y.port y.src e.msg] ∧
        s'.session? num = some { y with sent := [{ e with at_ := (s.at t).tick, tries := e.tries + 1 }] }) ∧
      (∀ z, e.at_ + msTicks 100 ≤ (s.at t).tick → 4 ≤ e.tries → kvFind s.resil.subs e.sub = some z → s'.tx = [] ∧ s.raisedOnce s' 207 ∧
        (∃ w, kvFind s'.resil.subs e.sub = some w ∧ w.suspended = true) ∧ s'.session? num = some { y with sent := [] })) ∧
  (∀ (t : Nat) (q : Req) (seq : Nat) (x : Session) (s s1 : State), (s.at t).hears q 0x1B (beBytes 4 seq) x s1 →
    ∃ s', exec (.eventAck t q seq) s = .next s' ∧ s'.tx = [] ∧ s'.session? q.session = some { x with sent := x.sent.filter fun e => e.seq != seq } ∧
      s'.obj O.dictFastRequests = s.counted O.dictFastRequests)

/-- Discovery, enumeration, custody and loss (R399, R401 to R404, R417, R420 to R423). Where the spec leaves a point open or it is read by inference, the choice is the model's: log entries 3, 166,
168, 169, 170, 171. -/
def Obligations.Hierarchy : Prop :=
  (∀ (t : Nat) (s : State), s.isManager = true → s.hierServes = true →
    ∃ s', exec (.discoverSend t) s = .next s' ∧
      ((∀ e, s.hier.lastDiscover = some e → e + msTicks (s.obj O.hierDiscoverPeriod) ≤ (s.at t).tick) →
        s'.hier.round = s.hier.round + 1 ∧ s'.hier.answers = [] ∧ s'.hier.lastDiscover = some (s.at t).tick ∧
        ∀ p < 4, s.obj (O.netPortEnable p) ≠ 0 → ∃ b, .hier p (s.at t).tick b ∈ s'.tx ∧ beAt b 1 1 = 1 ∧ beAt b 2 1 = 1 ∧ beAt b 12 8 = (s.hier.round + 1) % 2 ^ 64 ∧
          beAt b 20 8 = (1 + p) * 2 ^ 60) ∧
      (∀ e, s.hier.lastDiscover = some e → (s.at t).tick < e + msTicks (s.obj O.hierDiscoverPeriod) → s'.tx = [] ∧ s'.hier = s.hier)) ∧
  (∀ (t : Nat) (p : Fin 4) (l : List Byte) (d : Dgram) (s : State), (s.at t).takeDgram 1 l = (some d, s.at t) → d.mgr ≠ s.obj O.dictSerial →
    ∃ s', exec (.discover t p l) s = .next s' ∧
      (¬ (s.obj O.hierState = 2 ∧ s.hier.manager ≠ some d.mgr) → ∃ b, s'.tx.getLast? = some (.hier p (s.at t).tick b) ∧ beAt b 1 1 = 2 ∧ beAt b 2 1 = d.hops ∧ beAt b 20 8 = d.path ∧
        beAt b 3 1 = s.obj O.hierState % 256) ∧
      (kvFind s.hier.relayed d.mgr = some d.value → s'.tx.length ≤ 1) ∧
      (kvFind s.hier.relayed d.mgr ≠ some d.value → kvFind s'.hier.relayed d.mgr = some d.value ∧
        (d.hops < 16 → ∀ e < 4, e ≠ p.val → s.obj (O.netPortEnable e) ≠ 0 → ∃ b, .hier e (s.at t).tick b ∈ s'.tx ∧ beAt b 1 1 = 1 ∧ beAt b 2 1 = d.hops + 1)) ∧
      (s.obj O.hierState = 2 → s.hier.manager ≠ some d.mgr → kvFind s.hier.relayed d.mgr = some d.value → s'.tx = [])) ∧
  (∀ (t n : Nat) (l : List Byte) (d : Dgram) (hs : Option (Nat × List Byte)) (s : State), (s.at t).takeDgram 2 l = (some d, s.at t) → s.isManager = true → d.mgr = s.obj O.dictSerial →
    s.hier.answers = [] → s.serialNode d.serial = none →
    ∃ s', exec (.announce t l hs) s = .next s' ∧
      (s.keyNode d.path d.slot = none → d.state = 1 → s.freeNode 1 (s.obj O.hierNodeLimit) = some n →
        (s'.node n).serial = d.serial ∧ (s'.node n).path = d.path ∧ (s'.node n).slot = d.slot ∧ (s'.node n).segment = s.segmentOf d.path d.slot ∧
        (hs = none → (s'.node n).state = 1) ∧ (∀ num key, hs = some (num, key) → (s'.node n).state = 2 ∧ (s'.node n).sess = num ∧ (s'.node n).key = key ∧
          ∃ m, .toWorker n m ∈ s'.tx ∧ m.op = 2 ∧ m.node = 0 ∧ m.payload = valueForm O.hierNodeId (beBytes 2 n))) ∧
      (s.keyNode d.path d.slot = some n → (s.node n).serial ≠ d.serial → ((s.node n).state = 3 ∨ (s.node n).state = 2) → (s'.node n).state = 5 ∧ s.raisedOnce s' 215) ∧
      (s.keyNode d.path d.slot = some n → (s.node n).serial ≠ d.serial → ((s.node n).state = 1 ∨ (s.node n).state = 4) → s.obj O.hierAutoAdopt = 0 → (s.node n).adopt ≠ d.serial →
        (s.node n).repl ≠ d.serial → s.raisedOnce s' 216 ∧ (s'.node n).state = (s.node n).state ∧ (s'.node n).repl = d.serial)) ∧
  (∀ (t : Nat) (q : Req) (v : List Byte) (s s1 : State) (x : Session), (s.at t).takesWrite q O.hierNodeId v = some (x, s1) → s1.writable x O.hierNodeId v = true →
    ∃ s', exec (.hierNodeId t q v) s = .next s' ∧
      ((s1.isWorker = false ∨ s1.obj O.hierState ≠ 1 ∨ x.hier = false) → s'.objs = s1.objs ∧ s'.answered q 2 St.role (refBytes O.hierNodeId) = true) ∧
      (s1.isWorker = true → s1.obj O.hierState = 1 → x.hier = true → beNat v ≠ 0 → s'.obj O.hierNodeId = beNat v ∧ s'.obj O.dictNodeId = beNat v ∧ s'.obj O.hierState = 2 ∧
        s1.raisedOnce s' 210 ∧ s'.wrote q O.hierNodeId = true)) ∧
  (∀ (t n status : Nat) (snapshot : List Byte) (probes : List Nat) (s : State), s.isManager = true → (s.node n).state = 2 →
    ∃ s', exec (.custodyRestoreDone t n status snapshot probes) s = .next s' ∧
      (status ≠ 0 → (s'.node n).state = 2 ∧ (s'.node n).status = status ∧ s'.ev = s.ev) ∧
      (status = 0 → (s'.node n).state = 3 ∧ s.raisedOnce s' 210 ∧ (∀ y, s.hier.nodes = [(n, y)] → s'.obj O.hierNodesJoined = 1) ∧
        ((∃ c ∈ probes, c < 1000) → (s'.node n).stbOut = true ∧ s.raisedOnce s' 217) ∧ ((∀ c ∈ probes, 1000 ≤ c) → s'.evCount 217 = s.evCount 217))) ∧
  (∀ (t n : Nat) (s : State), s.isManager = true → s.hierServes = true → s.liveNodes = [n] →
    (∀ e, s.hier.lastBeat = some e → e + msTicks (s.obj O.hierHeartbeat) ≤ (s.at t).tick) →
    ∃ s', exec (.heartbeat t) s = .next s' ∧
      ((s.node n).beats.length < 4 → (s'.node n).beats.length = (s.node n).beats.length + 1 ∧ (s'.node n).state = (s.node n).state ∧
        ∃ m, s'.tx = [.toWorker n m] ∧ m.op = 1 ∧ m.payload = refBytes O.timeNow) ∧
      (4 ≤ (s.node n).beats.length → (s'.node n).state = 4 ∧ s.raisedOnce s' 211)) ∧
  (∀ (t : Nat) (s : State), s.isWorker = true → s.obj O.hierState = 2 →
    ∃ s', exec (.orphan t) s = .next s' ∧
      ((∀ p, s.hierSession = some p → p.2.lastAuth + 4 * msTicks (s.obj O.hierHeartbeat) ≤ (s.at t).tick) → s'.obj O.hierState = 3 ∧ s'.hier.stbFrom = none ∧ s.raisedOnce s' 218) ∧
      (∀ p, s.hierSession = some p → (s.at t).tick < p.2.lastAuth + 4 * msTicks (s.obj O.hierHeartbeat) → s'.objs = s.objs ∧ s'.hier = s.hier ∧ s'.ev = s.ev)) ∧
  (∀ (t seg o n : Nat) (x y : HierNode) (s : State), s.isManager = true → s.hier.nodes = [(o, x), (n, y)] → o < n → x.leader = true → x.segment = seg → x.state = 4 → y.state = 3 → y.segment = seg →
    y.leader = false →
    ∃ s', exec (.leaderAppoint t seg) s = .next s' ∧
      (x.lostAt + 4 * msTicks (s.obj O.hierHeartbeat) ≤ (s.at t).tick → (s'.node n).leader = true ∧ (s'.node o).leader = false ∧
        ∃ m, s'.tx = [.toWorker n m] ∧ m.op = 2 ∧ m.node = n ∧ m.payload = valueForm O.hierStbLeader [1]) ∧
      ((s.at t).tick < x.lostAt + 4 * msTicks (s.obj O.hierHeartbeat) → s'.tx = [] ∧ s'.hier = s.hier)) ∧
  (∀ (t : Nat) (q : Req) (v image : List Byte) (s s1 : State) (x : Session), (s.at t).takesWrite q O.hierNodeCapture v = some (x, s1) → s1.writable x O.hierNodeCapture v = true →
    ∃ s', exec (.hierNodeCapture t q v image) s = .next s' ∧
      (s1.isManager = false → s'.hier = s1.hier ∧ s'.answered q 2 St.role (refBytes O.hierNodeCapture) = true) ∧
      (∀ st, s1.isManager = true → (s1.node x.nodeSel).absent = some st → s'.hier = s1.hier ∧ s'.answered q 2 st (refBytes O.hierNodeCapture) = true) ∧
      (s1.isManager = true → (s1.node x.nodeSel).state = 3 → (s1.captureConfig x.nodeSel image).isSome = true →
        (s'.node x.nodeSel).configLen = image.length ∧ s'.wrote q O.hierNodeCapture = true)) ∧
  (∀ (t : Nat) (q : Req) (v : List Byte) (s s1 : State) (x : Session), (s.at t).takesWrite q O.hierNodeRelease v = some (x, s1) → s1.writable x O.hierNodeRelease v = true →
    ∃ s', exec (.hierNodeRelease t q v) s = .next s' ∧
      (s1.isManager = true → ((s1.node x.nodeSel).state = 1 ∨ (s1.node x.nodeSel).state = 4) → (s'.node x.nodeSel).state = 0 ∧ (s'.node x.nodeSel).config = 0 ∧ (s'.node x.nodeSel).cal = 0 ∧
        s'.wrote q O.hierNodeRelease = true) ∧
      (s1.isManager = false → s'.hier = s1.hier ∧ s'.answered q 2 St.role (refBytes O.hierNodeRelease) = true)) ∧
  (∀ (t : Nat) (q : Req) (v : List Byte) (hs : Option (Nat × List Byte)) (s s1 : State) (x : Session), (s.at t).takesWrite q O.hierNodeAdopt v = some (x, s1) → s1.writable x O.hierNodeAdopt v = true →
    ∃ s', exec (.hierNodeAdopt t q v hs) s = .next s' ∧
      (s1.isManager = true → (s1.node x.nodeSel).state ≠ 5 → s1.hier.answers = [] → (s'.node x.nodeSel).adopt = beNat v ∧ (s'.node x.nodeSel).state = (s1.node x.nodeSel).state ∧
        s'.wrote q O.hierNodeAdopt = true) ∧
      (∀ a num key, s1.isManager = true → hs = some (num, key) → s1.hier.answers = [a] → a.serial = beNat v → a.path = (s1.node x.nodeSel).path → a.slot = (s1.node x.nodeSel).slot → a.state = 1 →
        (s1.node x.nodeSel).repl = beNat v → ((s1.node x.nodeSel).state = 1 ∨ (s1.node x.nodeSel).state = 4) →
        (s'.node x.nodeSel).state = 2 ∧ (s'.node x.nodeSel).serial = beNat v ∧ (s'.node x.nodeSel).sess = num ∧ s'.wrote q O.hierNodeAdopt = true))

/-- Requests carried to a worker and their answers, and fences for every worker (R405 to R411), shown on READ. Where the spec leaves a point open or it is read by inference, the choice is the model's:
log entries 3, 153, 154, 183. -/
def Obligations.ProxiedAccess : Prop :=
  (∀ (t : Nat) (q : Req) (ref : Nat) (s : State) (x : Session), (s.at t).reaches q 1 (refBytes ref) x → q.seq ∉ x.inflight → (∀ f ∈ x.fences, f.1.seq ≠ q.seq) → serialAbove q.seq x.high = true →
    s.sec.rescue = false → q.node ≠ s.obj O.dictNodeId → s.obj O.hierRoleNow = 1 → (findRef ref).isSome = true →
    ∃ s', exec (.read t q ref) s = .next s' ∧
      ((s.node q.node).state = 0 → s'.answered q 1 St.noRoute [] = true ∧ s'.hier = s.hier) ∧
      (((s.node q.node).state = 1 ∨ (s.node q.node).state = 4) → s'.answered q 1 St.nodeLost [] = true ∧ s'.hier = s.hier) ∧
      (((s.node q.node).state = 2 ∨ (s.node q.node).state = 5) → s'.answered q 1 St.busy (beBytes 4 100000) = true ∧ s'.hier = s.hier) ∧
      ((s.node q.node).state = 3 → 64 < (s.node q.node).used 0 + 1 → s'.answered q 1 St.busy (beBytes 4 ((s.node q.node).retryAfter (s.at t).tick)) = true ∧ s'.hier = s.hier) ∧
      ((s.node q.node).state = 3 → (s.node q.node).used 0 + 1 ≤ 64 → (∃ m, s'.tx = [.toWorker q.node m] ∧ m.op = 1 ∧ m.node = q.node ∧ m.payload = refBytes ref ∧ m.tag = tagOf (s.node q.node).key m) ∧
        (s'.node q.node).cmds.length = (s.node q.node).cmds.length + 1 ∧ ∃ y, s'.session? q.session = some y ∧ q.seq ∈ y.inflight)) ∧
  (∀ (t n : Nat) (w : WorkerMsg) (s : State), s.isManager = true → s.hierServes = true → ((s.node n).state = 2 ∨ (s.node n).state = 3) → w.kind = 2 →
    ∃ s', exec (.workerResponse t n w) s = .next s' ∧
      (w.tag ≠ tagOf (s.node n).key ⟨w.op, w.flags, n, (s.node n).sess, w.seq, w.status, w.payload, w.tag⟩ → s'.tx = [] ∧ s'.hier = s.hier ∧
        s'.obj O.dictBadTags = s.counted O.dictBadTags) ∧
      (w.tag = tagOf (s.node n).key ⟨w.op, w.flags, n, (s.node n).sess, w.seq, w.status, w.payload, w.tag⟩ → w.seq ∈ (s.node n).beats → s'.tx = [] ∧ w.seq ∉ (s'.node n).beats ∧
        (s'.node n).lastSeen = stimeOf (s.at t).studio) ∧
      (∀ c y, w.tag = tagOf (s.node n).key ⟨w.op, w.flags, n, (s.node n).sess, w.seq, w.status, w.payload, w.tag⟩ → w.seq ∉ (s.node n).beats →
        (s.node n).cmds.find? (fun c => c.seq == w.seq) = some c → s.session? c.hostSession = some y → y.fences = [] →
        (∃ m, s'.tx = [.resil c.port c.src m] ∧ m.op = c.op ∧ m.flags = 0x80 ∧ m.node = n ∧ m.session = c.hostSession ∧ m.seq = c.hostSeq ∧ m.status = w.status ∧ m.payload = w.payload ∧
          m.tag = tagOf y.key m) ∧ (∀ d ∈ (s'.node n).cmds, d.seq ≠ w.seq) ∧ ∃ z, s'.session? c.hostSession = some z ∧ c.hostSeq ∉ z.inflight)) ∧
  (∀ (t n : Nat) (c : ProxyCmd) (y : Session) (s : State), (s.node n).cmds = [c] → s.session? c.hostSession = some y → y.fences = [] →
    ∃ s', exec (.proxyTimeout t n) s = .next s' ∧
      (c.sentAt + 4 * msTicks (s.obj O.hierHeartbeat) ≤ (s.at t).tick → (s'.node n).cmds = [] ∧
        ∃ m, s'.tx = [.resil c.port c.src m] ∧ m.status = St.nodeLost ∧ m.node = n ∧ m.session = c.hostSession ∧ m.seq = c.hostSeq) ∧
      ((s.at t).tick < c.sentAt + 4 * msTicks (s.obj O.hierHeartbeat) → s'.tx = [] ∧ s'.hier = s.hier)) ∧
  (∀ (t : Nat) (q : Req) (v : List Byte) (s s1 : State) (x : Session), (s.at t).takesWrite q O.hierFence v = some (x, s1) → s1.writable x O.hierFence v = true →
    ∃ s', exec (.hierFence t q v) s = .next s' ∧ s'.objs = s1.objs ∧
      (s1.isManager = false → s'.answered q 2 St.role (refBytes O.hierFence) = true) ∧
      (s1.isManager = true → s'.wrote q O.hierFence = true ∧ ∃ b m, s'.tx = [.hier 4 s1.tick b, .hier 4 (s1.tick + usTicks 20) b, .hier 4 (s1.tick + usTicks 40) b, m] ∧ beAt b 1 1 = 5 ∧
        beAt b 12 8 = beNat v % 2 ^ 38)) ∧
  (∀ (t : Nat) (l : List Byte) (d : Dgram) (s : State), (s.at t).takeDgram 5 l = (some d, s.at t) →
    ∃ s', exec (.fenceDatagram t l) s = .next s' ∧
      (s.isWorker = true → s.obj O.hierState = 2 → serialAbove (bits d.value 31 0) (s.obj (O.layFenceDone (bits d.value 37 32))) = true →
        s'.obj (O.layFenceDone (bits d.value 37 32)) = bits d.value 31 0) ∧
      ((s.isWorker = false ∨ s.obj O.hierState ≠ 2 ∨ serialAbove (bits d.value 31 0) (s.obj (O.layFenceDone (bits d.value 37 32))) = false) → s'.objs = s.objs))

/-- The strobe bus and system flips (R412 to R419). Where the spec leaves a point open or it is read by inference, the choice is the model's: log entries 3, 176, 177, 181, 182. -/
def Obligations.StrobeBus : Prop :=
  (∀ (t : Nat) (q : Req) (v : List Byte) (s s1 : State) (x : Session), (s.at t).takesWrite q O.hierStbProbe v = some (x, s1) → s1.writable x O.hierStbProbe v = true →
    ∃ s', exec (.hierStbProbe t q v) s = .next s' ∧ s'.hier.probe = 1024 ∧ s'.wrote q O.hierStbProbe = true) ∧
  (∀ (t k w : Nat) (cyc : Int) (st : Instant) (others : Bool) (s : State), cyc = roundDiv (s.at t).studio 200 → s.sysWindow (cyc * 200) = (w, k, st) →
    ∃ s', exec (.stbClkEdge t others) s = .next s' ∧ s'.hier.cycle = cyc ∧ s'.hier.lastEdge = some (s.at t).tick ∧ s'.hier.bus = (s'.hier.nrdy || others) ∧
      ((s.obj O.hierStbState = 0 ∨ s.obj O.hierStbState = 2) → s'.obj O.hierStbState = 1) ∧
      (w = 0 → s'.hier.nrdy = decide (0 < s.hier.probe) ∧ s'.hier.probe = s.hier.probe - 1 ∧ s'.hier.stuckRun = (if s'.hier.bus then s.hier.stuckRun + 1 else 0) ∧
        (s.obj O.hierStbState = 3 → s'.hier.bus = false → 1023 ≤ s.hier.freeRun → s'.obj O.hierStbState = 1)) ∧
      (w = 1 → s'.hier.nrdy = !(s.hier.pinned == some k || s.sysReady k st) ∧ (s'.hier.nrdy = false → s'.hier.pinned = some k) ∧ s'.hier.stuckRun = s.hier.stuckRun) ∧
      (w = 2 → s'.hier.nrdy = !(s.hier.consensus == some k && (!s.isLeader || s.obj O.hierSysScope == 0 || s.hier.flipFor == some k)) ∧ s'.hier.stuckRun = s.hier.stuckRun)) ∧
  (∀ (t k : Nat) (s : State), s.sampledIn 1 = some k → s.onNetwork = false → s.obj O.hierStbState = 1 →
    ∃ s', exec (.segmentConsensus t) s = .next s' ∧
      (s.hier.bus = false → s'.hier.consensus = some k) ∧
      (s.hier.bus = false → s.hier.consensus ≠ some k → s.speaks = true → ∃ b, s'.tx = [.hier 4 (s.at t).tick b] ∧ beAt b 1 1 = 3 ∧ beAt b 3 1 = 1 ∧ beAt b 12 8 = k % 2 ^ 64) ∧
      (s.speaks = false → s'.tx = []) ∧ (s.hier.bus = true → s'.hier = s.hier ∧ s'.tx = [])) ∧
  (∀ (t k : Nat) (s : State), s.sampledIn 2 = some k → s.onNetwork = false → s.obj O.hierStbState = 1 →
    ∃ s', exec (.segmentFlipDecided t) s = .next s' ∧ (s.hier.bus = false → s'.hier.decided = some k) ∧ (s.hier.bus = true → s'.hier = s.hier)) ∧
  (∀ (t : Nat) (l : List Byte) (d : Dgram) (x : HierNode) (s : State), (s.at t).takeDgram 3 l = (some d, s.at t) → s.isManager = true → s.hier.nodes = [(d.node, x)] → d.node ≠ 0 → x.state = 3 →
    x.leader = true → x.segment = d.segment → x.alone = none →
    ∃ s', exec (.segReady t l) s = .next s' ∧ (d.value, d.segment, d.state) ∈ s'.hier.reports ∧
      (d.state = 1 → s.segmentList = [d.segment] → s.hier.flipSent ≠ some d.value →
        (tickInstant (s.at t).studio).lt (usInstant (s.sysTiming.boundary ((d.value : Int) - 1)) (s.obj O.hierWinEnd)) = true →
        s'.hier.flipSent = some d.value ∧ ∃ b, s'.tx = [.hier 4 (s.at t).tick b, .hier 4 ((s.at t).tick + usTicks 20) b, .hier 4 ((s.at t).tick + usTicks 40) b] ∧ beAt b 1 1 = 4 ∧
          beAt b 12 8 = d.value) ∧
      (d.state = 3 → (∃ w, (d.value, w, 2) ∈ s.hier.reports) → d.value ∉ s.hier.splits → s.raisedOnce s' 214 ∧ s'.obj O.hierSplits = s.counted O.hierSplits ∧ s'.tx = [])) ∧
  (∀ (t : Nat) (l : List Byte) (d : Dgram) (s : State), (s.at t).takeDgram 4 l = (some d, s.at t) →
    ∃ s', exec (.flipRx t l) s = .next s' ∧ (s.isLeader = true → s.obj O.hierState ≠ 3 → s'.hier.flipFor = some d.value) ∧ (s.obj O.hierState = 3 → s'.hier = s.hier)) ∧
  (∀ (t e : Nat) (s : State), s.hier.lastEdge = some e → s.obj O.hierStbState ≠ 0 → s.obj O.hierStbState ≠ 2 →
    ∃ s', exec (.stbNoClock t) s = .next s' ∧ (e + 3200 ≤ (s.at t).tick → s'.obj O.hierStbState = 2 ∧ s.raisedOnce s' 219) ∧
      ((s.at t).tick < e + 3200 → s'.objs = s.objs ∧ s'.ev = s.ev)) ∧
  (∀ (t : Nat) (s : State), s.obj O.hierStbState ≠ 3 →
    ∃ s', exec (.stbStuck t) s = .next s' ∧ (1024 ≤ s.hier.stuckRun → s'.obj O.hierStbState = 3 ∧ s.raisedOnce s' 213) ∧
      (s.hier.stuckRun < 1024 → s'.objs = s.objs ∧ s'.ev = s.ev))

/-- The control law, its set-points, hand-over, lowest wins, overruns and the loop commands (R432, R434, R435, R437, R439 to R442, R444, R445). The order in which a hand-over clears the derivative is
the model's reading (log entry 188). Where the spec leaves a point open or it is read by inference, the choice is the model's: log entries 3, 185, 186, 188, 189, 190, 191, 195, 196, 197. -/
def Obligations.ControlLoops : Prop :=
  -- a set's computation: every sampled loop into the shadow, nothing in force changes
  (∀ (t b : Nat) (k : Fin 16) (load : Fin 1001) (s : State), (s.loopSet k).boundary = some b → (s.loopSet k).shadow = none →
    ∃ s' l, exec (.loopSetComputeDone t k load) s = .next s' ∧ (s'.loopSet k).shadow = some l ∧ (s'.loopSet k).overrun = false ∧ s'.obj (O.loopSetConsec k) = 0 ∧ s'.obj O.loopLoad = load ∧
      s'.loops = s.loops ∧ s'.ev = s.ev ∧ l.map (·.1) = (s.loopSet k).samples.map (·.1)) ∧
  (∀ (t : Nat) (k : Fin 16) (load : Fin 1001) (s : State), ((s.loopSet k).boundary = none ∨ (s.loopSet k).shadow ≠ none) →
    exec (.loopSetComputeDone t k load) s = .next (s.at t)) ∧
  -- the law of a loop of polarity 0 without ramp, feed-forward, tracking or hand-over, while nothing saturates
  (∀ (t b l : Nat) (k : Fin 16) (load : Fin 1001) (m : LoopSample) (y : Int) (s : State), (s.loopSet k).boundary = some b → (s.loopSet k).shadow = none → (s.loopSet k).samples = [(l, m)] →
    m.y = some y → m.v = none → m.x = none → m.hand = false → m.ramp = false → m.c ≤ m.a → s.obj (O.loopPolarity l) = 0 → s.obj (O.loopFfSrc l) = 0xFF → s.obj (O.loopSchedSrc l) = 0xFF →
    (s.loop l).ramp = none → s.obj (O.loopRampRate l) = 0 →
    let mul (w : Nat) (x : Int) : Int := (toSigned 27 (w / 32) * x + if w % 32 = 0 then 0 else 2 ^ (w % 32 - 1)) / 2 ^ (w % 32)
    let j := s.obj (O.loopRegion l)
    let e := m.target - y
    let p := mul (s.obj (O.loopKp l j)) e
    let i := s.objI (O.loopInt l) + mul (s.obj (O.loopKi l j)) e
    let d := mul (s.obj (O.loopAd l j)) (s.objI (O.loopDer l)) + mul (s.obj (O.loopKd l j)) ((s.loop l).yPrev - y)
    let u := s.objI (O.loopBias l) + p + i + d
    let within (x : Int) : Prop := -2147483648 ≤ x ∧ x ≤ 2147483647
    within e → within ((s.loop l).yPrev - y) → within p → within (mul (s.obj (O.loopKi l j)) e) → within (mul (s.obj (O.loopAd l j)) (s.objI (O.loopDer l))) →
    within (mul (s.obj (O.loopKd l j)) ((s.loop l).yPrev - y)) → within d → within u → within i →
    s.objI (O.loopOutMin l) ≤ i → i ≤ s.objI (O.loopOutMax l) →
    ∃ s', exec (.loopSetComputeDone t k load) s = .next s' ∧
      (s.objI (O.loopOutMin l) ≤ u → u ≤ s.objI (O.loopOutMax l) → (s'.loopSet k).shadow = some [(l, ⟨u, i, d, y, m.target, none, j, 0⟩)]) ∧
      (s.objI (O.loopOutMax l) < u → within (i - (u - s.objI (O.loopOutMax l))) → s.objI (O.loopOutMin l) ≤ i - (u - s.objI (O.loopOutMax l)) →
        (s'.loopSet k).shadow = some [(l, ⟨s.objI (O.loopOutMax l), i - (u - s.objI (O.loopOutMax l)), d, y, m.target, none, j, flagHi⟩)])) ∧
  -- a hand-over: the output equals the value in force
  (∀ (t b l : Nat) (k : Fin 16) (load : Fin 1001) (m : LoopSample) (y : Int) (s : State), (s.loopSet k).boundary = some b → (s.loopSet k).shadow = none → (s.loopSet k).samples = [(l, m)] →
    m.y = some y → m.v = none → m.x = none → m.hand = true → s.obj (O.loopSchedSrc l) = 0xFF → s.objI (O.loopBias l) = 0 → s.obj (O.loopKp l (s.obj (O.loopRegion l))) = 0 →
    s.objI (O.loopOutMin l) ≤ m.a → m.a ≤ s.objI (O.loopOutMax l) →
    ∃ s' n, exec (.loopSetComputeDone t k load) s = .next s' ∧ (s'.loopSet k).shadow = some [(l, n)] ∧ n.u = m.a ∧ n.i = m.a ∧ n.d = 0 ∧ n.y = y) ∧
  -- the set-point of a boundary
  (∀ (ramp : Option Int) (start : Bool) (rate : Nat) (target y : Int),
    (rate = 0 → setpointAt ramp start rate target y = (target, none)) ∧
    (rate ≠ 0 → start = true → setpointAt ramp start rate target y = (y, some y)) ∧
    (start = false → ramp = none → setpointAt ramp start rate target y = (target, none)) ∧
    (∀ v : Int, rate ≠ 0 → start = false → ramp = some v → (v + rate < target → setpointAt ramp start rate target y = (v + rate, some (v + rate))) ∧
      (target < v - rate → setpointAt ramp start rate target y = (v - rate, some (v - rate))) ∧ (v - rate ≤ target → target ≤ v + rate → setpointAt ramp start rate target y = (target, none)))) ∧
  -- lowest wins
  (∀ (s : State) (code dflt : Nat), (∀ l < 256, s.obj (O.loopActuator l) = code → s.offer l = none) → s.applied code dflt = (dflt, 0xFF)) ∧
  (∀ (s : State) (code dflt l : Nat) (v : Int), l < 256 → s.obj (O.loopActuator l) = code → s.offer l = some v →
    (∀ j < 256, s.obj (O.loopActuator j) = code → ∀ w, s.offer j = some w → v < w ∨ (v = w ∧ l ≤ j)) → s.applied code dflt = ((max 0 (min 65535 v)).toNat, l)) ∧
  (∀ (s : State), (∀ b < 16, s.applyAll.obj (O.loopBankCode b) = (s.applied b (s.obj (O.loopBankDefault b))).1 ∧ s.applyAll.obj (O.loopBankWinner b) = (s.applied b (s.obj (O.loopBankDefault b))).2) ∧
    (∀ k < 24, s.applyAll.obj (O.loopPwmDuty k) = (s.applied (0x20 + k) (s.obj (O.loopPwmDefault k))).1 ∧ s.applyAll.obj (O.loopPwmWinner k) = (s.applied (0x20 + k) (s.obj (O.loopPwmDefault k))).2)) ∧
  (∀ (s : State) (l : Nat), s.obj (O.loopMode l) ≠ 0 → s.obj (O.loopSetState (s.obj (O.loopSet l))) ≠ 1 → (s.loopSet (s.obj (O.loopSet l))).clearing = false → (s.loop l).safeMiss = false →
    (s.loop l).offers = true → s.offer l = some (s.loop l).own) ∧
  (∀ (s : State) (l : Nat), (s.obj (O.loopMode l) = 0 → s.offer l = none) ∧
    (s.obj (O.loopMode l) ≠ 0 → (s.obj (O.loopSetState (s.obj (O.loopSet l))) = 1 ∨ (s.loop l).safeMiss = true) → s.offer l = some (s.objI (O.loopSafeOut l)))) ∧
  -- the latch of a completed computation, and an overrun
  (∀ (s : State) (k b l : Nat) (x : LoopNext), (s.loopSet k).boundary = some b → (s.loopSet k).shadow = some [(l, x)] →
    ((s.latchSet k).loop l).own = x.u ∧ ((s.latchSet k).loop l).offers = true ∧ ((s.latchSet k).loop l).yPrev = x.y ∧ (s.latchSet k).obj (O.loopRegion l) = x.region ∧
      (s.latchSet k).obj (O.loopInt l) = satI32 x.i ∧ (s.latchSet k).obj (O.loopDer l) = satI32 x.d ∧ (s.obj (O.loopRegion l) ≠ x.region → s.raisedOnce (s.latchSet k) 225)) ∧
  (∀ (s : State) (k b : Nat), k < 16 → (s.loopSet k).boundary = some b → (s.loopSet k).shadow = none →
    (s.latchSet k).obj (O.loopSetOverruns k) = s.counted (O.loopSetOverruns k) ∧ (s.latchSet k).obj O.loopOverruns = s.counted O.loopOverruns ∧
      (s.latchSet k).obj (O.loopSetConsec k) = min 255 (s.obj (O.loopSetConsec k) + 1) ∧ ((s.latchSet k).loopSet k).boundary = none ∧ (∀ l, ((s.latchSet k).loop l).own = (s.loop l).own) ∧
      (∀ l, (s.latchSet k).obj (O.loopInt l) = s.obj (O.loopInt l) ∧ (s.latchSet k).obj (O.loopDer l) = s.obj (O.loopDer l)) ∧
      (s.obj (O.loopSetConsec k) < 2 → (s.latchSet k).obj (O.loopSetState k) = s.obj (O.loopSetState k) ∧ ((s.loopSet k).overrun = false → s.raisedOnce (s.latchSet k) 223) ∧
        ((s.loopSet k).overrun = true → (s.latchSet k).evCount 223 = s.evCount 223)) ∧
      (2 ≤ s.obj (O.loopSetConsec k) → s.obj (O.loopSetState k) = 0 → (s.latchSet k).obj (O.loopSetState k) = 1 ∧ ((s.loopSet k).overrun = true → s.raisedOnce (s.latchSet k) 223))) ∧
  -- the writes
  (∀ (t : Nat) (q : Req) (l : Fin 256) (v : List Byte) (s s1 : State) (x : Session), (s.at t).takesWrite q (O.loopMode l) v = some (x, s1) → s1.writable x (O.loopMode l) v = true →
    ∃ s', exec (.loopMode t q l v) s = .next s' ∧
      (((beNat v ≠ 0 ∧ s1.obj (O.loopActuator l) = 0xFF) ∨ (beNat v = 1 ∧ s1.obj (O.loopMeasSrc l) = 0xFF)) →
        s'.answered q 2 St.loopConfig (refBytes (O.loopMode l)) = true ∧ s'.objs = s1.objs ∧ s'.loops = s1.loops) ∧
      (beNat v = 0 → s1.obj (O.loopMode l) ≠ 0 → s'.obj (O.loopMode l) = 0 ∧ s'.obj (O.loopState l) = 0 ∧ s'.offer l = none ∧ s'.wrote q (O.loopMode l) = true) ∧
      (beNat v = 1 → s1.obj (O.loopActuator l) ≠ 0xFF → s1.obj (O.loopMeasSrc l) ≠ 0xFF → s1.obj (O.loopMode l) ≠ 1 → s'.obj (O.loopMode l) = 1 ∧ (s'.loop l).hand = true ∧
        (s'.loop l).rampReq = true ∧ (s'.loop l).own = (s1.loop l).own ∧ s'.wrote q (O.loopMode l) = true) ∧
      (beNat v = 2 → s1.obj (O.loopActuator l) ≠ 0xFF → s1.obj (O.loopMode l) ≠ 2 → s'.obj (O.loopMode l) = 2 ∧ (s'.loop l).own = s1.appliedOf (s1.obj (O.loopActuator l)) ∧
        (s'.loop l).offers = true ∧ s'.wrote q (O.loopMode l) = true)) ∧
  (∀ (t : Nat) (q : Req) (l : Fin 256) (src : Bool) (v : List Byte) (ref : Nat) (s s1 : State) (x : Session), ref = (if src then O.loopSpSrc l.val else O.loopSetpoint l.val) →
    (s.at t).takesWrite q ref v = some (x, s1) → s1.writable x ref v = true →
    ∃ s', exec (.loopSetpoint t q l src v) s = .next s' ∧ s'.obj ref = beNat v ∧ (s'.loop l).rampReq = true ∧ (s'.loop l).hand = (s1.loop l).hand ∧ s'.wrote q ref = true) ∧
  (∀ (t : Nat) (q : Req) (l : Fin 256) (c : Fin 22) (v : List Byte) (ref : Nat) (s s1 : State) (x : Session), ref = 0x300000 + 256 * l.val + coefSub c →
    (s.at t).takesWrite q ref v = some (x, s1) → s1.writable x ref v = true →
    ∃ s', exec (.loopCoefficient t q l c v) s = .next s' ∧
      (2 ≤ c.val → (c.val - 2) % 5 = 3 → (toSigned 27 (beNat v / 32) < 0 ∨ 2 ^ (beNat v % 32) ≤ toSigned 27 (beNat v / 32)) →
        s'.answered q 2 St.badValue (refBytes ref) = true ∧ s'.objs = s1.objs ∧ s'.loops = s1.loops) ∧
      ((c.val < 2 ∨ (c.val - 2) % 5 ≠ 3 ∨ (0 ≤ toSigned 27 (beNat v / 32) ∧ toSigned 27 (beNat v / 32) < 2 ^ (beNat v % 32))) → s'.obj ref = beNat v ∧ s'.wrote q ref = true ∧
        (s'.loop l).hand = ((s1.loop l).hand || (decide (c.val < 2) || (c.val - 2) / 5 == s1.obj (O.loopRegion l))))) ∧
  (∀ (t : Nat) (q : Req) (l : Fin 256) (v : List Byte) (s s1 : State) (x : Session), (s.at t).takesWrite q (O.loopFlags l) v = some (x, s1) → s1.writable x (O.loopFlags l) v = true →
    ∃ s', exec (.loopFlags t q l v) s = .next s' ∧ s'.wrote q (O.loopFlags l) = true ∧
      ∀ b < 16, (s'.obj (O.loopFlags l)).testBit b = ((s1.obj (O.loopFlags l)).testBit b && !(beNat v).testBit b)) ∧
  (∀ (t : Nat) (q : Req) (k : Fin 16) (v : List Byte) (s s1 : State) (x : Session), (s.at t).takesWrite q (O.loopSetClear k) v = some (x, s1) → s1.writable x (O.loopSetClear k) v = true →
    ∃ s', exec (.loopSetClear t q k v) s = .next s' ∧
      (s1.obj (O.loopSetState k) = 0 → s'.answered q 2 St.notActive (refBytes (O.loopSetClear k)) = true ∧ s'.objs = s1.objs ∧ s'.loops = s1.loops) ∧
      (s1.obj (O.loopSetState k) ≠ 0 → s'.obj (O.loopSetState k) = 0 ∧ s1.raisedOnce s' 224 ∧ s'.wrote q (O.loopSetClear k) = true ∧
        ∀ l < 256, s1.obj (O.loopMode l) ≠ 0 → s1.obj (O.loopSet l) = k → (s'.loop l).hand = true ∧ (s'.loop l).rampReq = true))

/-- Calibration requests, the end of a run, cancelling, the automatic runs, ageing and the VDD_CORE target (R450, R451, R453 to R455, R458, R460 to R463). Where the spec leaves a point open or it is
read by inference, the choice is the model's: log entries 3, 199, 200, 203, 204, 205, 210, 214. -/
def Obligations.CalibrationAndAgeing : Prop :=
  (∀ p ∈ ([(.bandgap, 1), (.adc, 2), (.temp, 3), (.supply, 4), (.pd, 5), (.bankEff, 6), (.rootpll, 0x10), (.ddr, 0x11), (.eth, 0x12), (.mlane, 0x13), (.vernier, 0x14)] :
      List ((Nat → Req → Fin 256 → List Byte → Instr) × Nat)),
    ∀ (t n : Nat) (q : Req) (inst : Fin 256) (rest : List Byte) (s s1 : State) (x : Session), calInstances p.2 = some n →
    (s.at t).takesWrite q O.calRun (leBytes 1 p.2 ++ leBytes 1 inst ++ rest) = some (x, s1) → s1.writable x O.calRun (leBytes 1 p.2 ++ leBytes 1 inst ++ rest) = true →
    ∃ s', exec (p.1 t q inst rest) s = .next s' ∧
      (n ≤ inst → inst ≠ 0xFF → s'.answered q 2 St.badValue (refBytes O.calRun) = true ∧ s'.cal = s1.cal) ∧
      (inst < n → (4 ≤ s1.cal.runs.length ∨ ∃ r ∈ s1.cal.runs, r.id = p.2 ∧ r.inst = inst) → s'.answered q 2 St.calBusy (refBytes O.calRun) = true ∧ s'.cal = s1.cal) ∧
      (inst < n → s1.cal.runs = [] → s1.opState = normal → (p.2 = 0x10 ∨ p.2 = 0x11) → s'.answered q 2 St.calState (refBytes O.calRun) = true ∧ s'.cal = s1.cal) ∧
      (inst < n → s1.cal.runs = [] → p.2 = 3 → s1.obj O.calTempRef = 0xFF → s'.answered q 2 St.calState (refBytes O.calRun) = true ∧ s'.cal = s1.cal) ∧
      (inst < n → s1.cal.runs = [] → s1.opState = normal → p.2 = 2 → s1.obj O.calAllowMiss = 0 → s1.ainInUse inst = true →
        s'.answered q 2 St.calSourceInUse (refBytes O.calRun) = true ∧ s'.cal = s1.cal) ∧
      (inst < n → s1.cal.runs = [] → s1.opState = test → (p.2 = 2 → s1.obj O.calAllowMiss ≠ 0) → (p.2 = 3 → s1.obj O.calTempRef ≠ 0xFF) →
        (p.2 = 6 → s1.sweepRoom inst = true ∧ ∃ l, s1.brightnessLoop inst = some l ∧ s1.obj (O.loopMode l) = 1) →
        (s'.cal.runs.map fun r => (r.id, r.inst, r.left)) = [(p.2, inst.val, [])] ∧ s'.obj (O.calResult p.2) = 2 ^ 24 + inst * 65536 ∧ s'.cal.coefs = s1.cal.coefs ∧ s'.wrote q O.calRun = true) ∧
      (inst = 0xFF → s1.cal.runs = [] → s1.opState = test → p.2 ≠ 3 → p.2 ≠ 6 → (p.2 = 2 → s1.obj O.calAllowMiss ≠ 0) →
        (s'.cal.runs.map fun r => (r.id, r.inst, r.left)) = [(p.2, 0, (List.range n).drop 1)] ∧ s'.wrote q O.calRun = true)) ∧
  -- the end of a run
  (∀ (t : Nat) (id : Fin 32) (inst : Fin 256) (a b : List Int) (s : State), (∀ r ∈ s.cal.runs, ¬ (r.id = id ∧ r.inst = inst)) → exec (.calRunEnd t id inst a b) s = .next (s.at t)) ∧
  (∀ (t : Nat) (id : Fin 32) (inst : Fin 256) (a b : List Int) (x : CalRunSt) (s : State), s.cal.runs = [x] → x.id = id → x.inst = inst → x.left = [] → s.cal.startQ = [] →
    ∃ s', exec (.calRunEnd t id inst a b) s = .next s' ∧
      (id = 1 → ∀ tr tr' r r' : Int, a = [tr, r] → b = [tr', r'] →
        ((tr ≠ tr' ∨ s.obj (O.calLimit 1) < (r - r').natAbs) → (s.at t).calRejected s' x St.calRepeat) ∧
        (tr = tr' → (r - r').natAbs ≤ s.obj (O.calLimit 1) → (r + r') % 2 = 0 → (s.at t).calAccepted s' x (leBytes 2 tr.toNat ++ leBytes 4 (ofI32 ((r + r') / 2))))) ∧
      (id = 2 → ∀ o o' g g' : Int, a = [o, g] → b = [o', g'] →
        ((50 < (o - o').natAbs ∨ s.obj (O.calLimit 2) * 2 ^ 30 < (g - g').natAbs * 1000000) → (s.at t).calRejected s' x St.calRepeat) ∧
        ((o - o').natAbs ≤ 50 → (g - g').natAbs * 1000000 ≤ s.obj (O.calLimit 2) * 2 ^ 30 → (o + o') % 2 = 0 → (g + g') % 2 = 0 →
          (s.at t).calAccepted s' x (leBytes 4 (ofI32 ((o + o') / 2)) ++ leBytes 4 ((g + g') / 2).toNat) ∧ kvFind s'.cal.adcEnd inst = some (s.at t).tick)) ∧
      (id = 3 → ∀ o o' : Int, a = [o] → b = [o'] →
        (s.obj (O.calLimit 3) < (o - o').natAbs → (s.at t).calRejected s' x St.calRepeat) ∧
        ((o - o').natAbs ≤ s.obj (O.calLimit 3) → (o + o') % 2 = 0 → (s.at t).calAccepted s' x (leBytes 4 (ofI32 ((o + o') / 2))))) ∧
      ((id = 0x12 ∨ id = 0x13 ∨ id = 0x14) → x.since + msTicks (s.obj (O.calLimit id)) < (s.at t).tick → (s.at t).calRejected s' x St.calTimeout) ∧
      (id = 0x12 → (s.at t).tick ≤ x.since + msTicks (s.obj (O.calLimit id)) → ∀ e tx rx : Nat, a = [(e : Int), tx, rx] →
        (s.at t).calAccepted s' x (leBytes 4 e ++ leBytes 4 tx ++ leBytes 4 rx)) ∧
      (id = 0x14 → inst < 16 → (s.at t).tick ≤ x.since + msTicks (s.obj (O.calLimit id)) → a.length = 8 →
        ((∀ v ∈ a, 150 < v.natAbs) → (s.at t).calRejected s' x St.calRepeat) ∧
        (∀ i < 8, (∀ j < 8, (nth a i 0).natAbs < (nth a j 0).natAbs ∨ j = i) → (nth a i 0).natAbs ≤ 150 →
          (s.at t).calAccepted s' x [BitVec.ofNat 8 i] ∧ s'.obj (O.gateVernier inst) = i)) ∧
      (id = 0x11 → inst < 8 → x.since + msTicks (s.obj (O.calLimit id)) < (s.at t).tick → s.opState = startup →
        s'.obj (O.memChState inst) = 3 ∧ s.raisedOnce s' 141 ∧ s.raisedOnce s' 231 ∧ s'.cal.coefs = s.cal.coefs) ∧
      (id = 0x10 → x.since + msTicks (s.obj (O.calLimit id)) < (s.at t).tick → s.opState ≠ boot →
        s'.opState = recovery ∧ s'.obj O.timeState = freerun ∧ s'.cal.pllFailed = some (s.at t).tick ∧ s.raisedOnce s' 231 ∧ s'.cal.coefs = s.cal.coefs) ∧
      (id = 6 → inst < 16 → x.ending ≠ 0 → (s.at t).calRejected s' x x.ending ∧ s.raisedOnce s' 237 ∧ ∃ w, (s'.bank inst).sweep = some w ∧ w.to_ = 8)) ∧
  -- the points of a live sweep
  (∀ (t : Nat) (b : Fin 16) (x : CalRunSt) (s : State), s.cal.runs = [x] → x.id = 6 → x.inst = b → x.ending = 0 → x.means.length < 7 →
    ∃ s', exec (.bankEffPoint t b) s = .next s' ∧
      (x.nA < 64 → s' = s.at t) ∧
      (x.nA = 64 → (∃ y, s'.cal.runs = [y] ∧ y.means = x.means ++ [(x.sumR, x.nR, x.sumA)] ∧ y.point = x.point + 1 ∧ y.nA = 0 ∧ y.phaseAt = (s.at t).tick) ∧
        (∀ f, [8, 7, 6, 5, 6, 7, 8][x.point + 1]? = some f → ∃ w, (s'.bank b).sweep = some w ∧ w.to_ = f ∧ w.start = (s.at t).tick ∧ w.len = msTicks (s.obj O.calBankMove)))) ∧
  -- cancelling
  (∀ (t : Nat) (q : Req) (v : List Byte) (s s1 : State) (x : Session), (s.at t).takesWrite q O.calCancel v = some (x, s1) → s1.writable x O.calCancel v = true →
    ∃ s', exec (.calCancel t q v) s = .next s' ∧
      ((∀ r ∈ s1.cal.runs, r.id ≠ beNat v / 256) → s'.answered q 2 St.notActive (refBytes O.calCancel) = true ∧ s'.cal = s1.cal ∧ s'.ev = s1.ev) ∧
      (∀ r, s1.cal.runs = [r] → r.id = beNat v / 256 → r.inst = beNat v % 256 → r.inst < 255 → r.id ≠ 0x11 → r.id ≠ 6 → r.left = [] → s1.cal.startQ = [] →
        s'.cal.runs = [] ∧ s'.cal.coefs = s1.cal.coefs ∧ s'.cal.waiting = s1.cal.waiting ∧ s'.obj (O.calResult r.id) = 3 * 2 ^ 24 + r.inst * 65536 + St.aborted ∧
        s1.raisedOnce s' 231 ∧ s'.wrote q O.calCancel = true)) ∧
  -- automatic runs
  (∀ (t : Nat) (s : State), (s.obj O.calAutoPeriod = 0 ∨ s.opState ≠ normal ∨ (s.at t).tick < s.cal.autoAt + secTicks (s.obj O.calAutoPeriod)) → exec (.calAuto t) s = .next (s.at t)) ∧
  (∀ (t : Nat) (s : State), s.obj O.calAutoPeriod ≠ 0 → s.opState = normal → s.cal.autoAt + secTicks (s.obj O.calAutoPeriod) ≤ (s.at t).tick → s.cal.runs = [] → s.obj O.calAllowMiss ≠ 0 →
    ∃ s', exec (.calAuto t) s = .next s' ∧ s'.cal.autoAt = (s.at t).tick ∧
      (s.obj O.calTempRef = 0xFF → (s'.cal.runs.map fun r => (r.id, r.inst)) = [(2, 0)]) ∧ (s.obj O.calTempRef ≠ 0xFF → (s'.cal.runs.map fun r => (r.id, r.inst)) = [(2, 0), (3, 0)])) ∧
  (∀ (t f : Nat) (s : State), s.cal.pllFailed = some f → s.opState = recovery → s.obj O.timeState = freerun → s.cal.runs = [] →
    ∃ s', exec (.rootpllRetry t) s = .next s' ∧ (f + 10312500000 ≤ (s.at t).tick → (s'.cal.runs.map fun r => (r.id, r.inst)) = [(0x10, 0)]) ∧
      ((s.at t).tick < f + 10312500000 → s' = s.at t)) ∧
  -- ageing
  (∀ (t : Nat) (ro : List Int) (d e : List Nat) (s : State), (s.at t).tick < s.cal.ageAt + secTicks (s.obj O.agePeriod) → exec (.agePeriodTick t ro d e) s = .next (s.at t)) ∧
  (∀ (t : Nat) (ro : List Int) (d e : List Nat) (s : State), s.cal.ageAt + secTicks (s.obj O.agePeriod) ≤ (s.at t).tick → s.opState = normal → ro.length = 64 →
    (∀ i ∈ ro, -2147483648 ≤ i ∧ i ≤ 2147483647) →
    ∃ s', exec (.agePeriodTick t ro d e) s = .next s' ∧ s'.cal.ageAt = (s.at t).tick ∧ s'.objI O.ageRoWorst ∈ ro ∧ (∀ i ∈ ro, i ≤ s'.objI O.ageRoWorst) ∧
      (let v : Nat := (max 720 (min 840 ((s.obj O.ageVcoreBase : Int) + (s.obj O.ageVcoreK : Int) * s'.objI O.ageRoWorst / 1000))).toNat;
        s'.obj O.ageVcoreProp = v ∧
        (s.obj O.hierServiceNow = 0 → s'.obj O.ageVcoreTarget = v) ∧ (s.objI O.ageRoLimit < s'.objI O.ageRoWorst → s'.obj O.ageVcoreTarget = v) ∧
        (s.obj O.hierServiceNow ≠ 0 → s'.objI O.ageRoWorst ≤ s.objI O.ageRoLimit → s'.obj O.ageVcoreTarget = s.obj O.ageVcoreTarget ∧ s'.obj O.memTsetSel = s.obj O.memTsetSel ∧
          ∀ b < 16, s'.obj (O.colBankCeiling b) = s.obj (O.colBankCeiling b))) ∧
      s'.obj O.ageDdrProp = (if (List.range 16).any (fun i => decide (nth d i 0 % 65536 < s.obj O.ageDdrMin)) then 1 else 0)) ∧
  (∀ (t : Nat) (q : Req) (v : List Byte) (s s1 : State) (x : Session), (s.at t).takesWrite q O.ageVcoreTarget v = some (x, s1) → s1.writable x O.ageVcoreTarget v = true →
    ∃ s', exec (.ageVcoreTarget t q v) s = .next s' ∧
      (s1.obj O.hierServiceNow = 0 → s'.answered q 2 St.calState (refBytes O.ageVcoreTarget) = true ∧ s'.objs = s1.objs) ∧
      (s1.obj O.hierServiceNow ≠ 0 → s'.obj O.ageVcoreTarget = beNat v ∧ s'.wrote q O.ageVcoreTarget = true)) ∧
  -- the restore of a snapshot
  (∀ (t : Nat) (s : State), (∀ e ∈ s.resil.xfers, e.2.ref ≠ O.calRestore) → exec (.calRestore t) s = .next (s.at t)) ∧
  (∀ (t tid : Nat) (x : Xfer) (s : State), s.resil.xfers = [(tid, x)] → x.ref = O.calRestore → x.whole = true → x.toHost = false →
    ∃ s', exec (.calRestore t) s = .next s' ∧ s'.resil.xfers = [] ∧ s'.cal.coefs = s.cal.coefs ∧ s'.cal.runs = s.cal.runs ∧
      ((s.raisedOnce s' 232 ∧ s'.evCount 233 = s.evCount 233) ∨ (s.raisedOnce s' 233 ∧ s'.evCount 232 = s.evCount 232 ∧ s'.cal.waiting = s.cal.waiting)) ∧
      (x.off = 0 → leAt x.data 0 4 ≠ 0x50414E53 → s.raisedOnce s' 233))

/-- Patrol's channels, its decision table, the scheduled wake and the state requests (R472, R476 to R479, R483). Where the spec leaves a point open or it is read by inference, the choice is the
model's: log entries 3, 218, 228, 229, 230, 231, 232, 238, 239. -/
def Obligations.Patrol : Prop :=
  -- channels
  (∀ (t a : Nat) (c : Fin 16) (x : Option Int) (s : State), (s.opState = cold ∨ ((s.chanSt c).at_ = some a ∧ (s.at t).tick < a + usTicks (s.obj (O.ptlChPeriod c)) ∧ s.time.pllLocked = true)) →
    exec (.channelSample t c x) s = .next (s.at t)) ∧
  (∀ (t : Nat) (c : Fin 16) (x : Option Int) (s : State), s.opState ≠ cold → (∀ a, (s.chanSt c).at_ = some a → a + usTicks (s.obj (O.ptlChPeriod c)) ≤ (s.at t).tick) →
    islandMeasures (s.obj (O.ptlChSource c)) = true →
    ∃ s', exec (.channelSample t c x) s = .next s' ∧ (s'.chanSt c).at_ = some (s.at t).tick ∧
      (x = none → s'.obj (O.ptlChValid c) = 0 ∧ s'.obj (O.ptlChValue c) = s.obj (O.ptlChValue c) ∧ (s'.chanSt c).samples = (s.chanSt c).samples ∧ (s'.chanSt c).y = (s.chanSt c).y) ∧
      (∀ v : Int, x = some v → (s.obj (O.ptlChValid c) = 0 ∨ (s.chanSt c).samples = []) → s'.obj (O.ptlChValid c) = 1 ∧ s'.obj (O.ptlChValue c) = satI32 v) ∧
      (∀ v : Int, x = some v → s.obj (O.ptlChValid c) ≠ 0 → (s.chanSt c).samples ≠ [] → s'.obj (O.ptlChValid c) = 1 ∧
        (s.obj (O.ptlChFilter c) = 0 → s'.obj (O.ptlChValue c) = satI32 v) ∧
        (s.obj (O.ptlChFilter c) = 2 → s'.obj (O.ptlChValue c) = satI32 ((s.chanSt c).y + (v - (s.chanSt c).y + 2 ^ (s.obj (O.ptlChIirK c) - 1)) / (2 ^ s.obj (O.ptlChIirK c) : Nat))) ∧
        (∀ a b d e rest, s.obj (O.ptlChFilter c) = 1 → (s.chanSt c).samples = a :: b :: d :: e :: rest → v ≤ a → a ≤ b → b ≤ d → d ≤ e → s'.obj (O.ptlChValue c) = satI32 b) ∧
        (s.obj (O.ptlChFilter c) = 4 → s'.obj (O.ptlChValue c) =
          satI32 (if s.obj (O.ptlChDebounce c) ≤ (if v = (s.chanSt c).cand then (s.chanSt c).run + 1 else 1) then v else (s.chanSt c).y)))) ∧
  -- one rule in an evaluation
  (∀ (r : Nat) (sched : Bool) (s : State), (s.rule r).kind ≤ 4 → s.latched r = false → s.ruleActive r = true → s.obj (O.ptlChValid (s.rule r).chan) ≠ 0 → r < 32 →
    let x := s.objI (O.ptlChValue (s.rule r).chan)
    let e := s.rule r
    let s' := s.ruleStep r sched
    let true_ : Prop := (e.kind = 1 ∧ e.a < x) ∨ (e.kind = 2 ∧ x < e.a) ∨ (e.kind = 3 ∧ (x < e.a ∨ e.b < x)) ∨ (e.kind = 4 ∧ e.a ≤ x ∧ x ≤ e.b)
    let back : Prop := (e.kind = 1 ∧ x ≤ e.a - e.hyst) ∨ (e.kind = 2 ∧ e.a + e.hyst ≤ x)
    ((s.ruleSt r).asserted = false → true_ → e.hold ≤ (s.ruleSt r).run + 1 → (s'.ruleSt r).asserted = true ∧ s'.obj (O.ptlRuleState r) = (if bit e.actions 5 then 3 else 2) ∧
      s'.obj (O.ptlRuleCount r) = s.counted (O.ptlRuleCount r) ∧ (bit e.actions 3 = true → s.raisedOnce s' 238) ∧ (bit e.actions 3 = false → s'.evCount 238 = s.evCount 238) ∧
      (bit e.actions 1 = true → s.opState ≠ standby → s'.power.standbyReq = true)) ∧
    ((s.ruleSt r).asserted = false → true_ → (s.ruleSt r).run + 1 < e.hold → (s'.ruleSt r).asserted = false ∧ (s'.ruleSt r).run = (s.ruleSt r).run + 1 ∧ s'.ev = s.ev) ∧
    ((s.ruleSt r).asserted = false → ¬ true_ → (s'.ruleSt r).asserted = false ∧ (s'.ruleSt r).run = 0 ∧ s'.obj (O.ptlRuleState r) = 1 ∧ s'.ev = s.ev) ∧
    ((s.ruleSt r).asserted = true → (e.kind = 1 ∨ e.kind = 2) → back → e.hold ≤ (s.ruleSt r).run + 1 → (s'.ruleSt r).asserted = false ∧ s'.obj (O.ptlRuleState r) = 1) ∧
    ((s.ruleSt r).asserted = true → (e.kind = 1 ∨ e.kind = 2) → ¬ back → (s'.ruleSt r).asserted = true ∧ (s'.ruleSt r).run = 0)) ∧
  (∀ (r : Nat) (sched : Bool) (s : State), s.latched r = true → s.ruleStep r sched = s) ∧
  (∀ (r : Nat) (sched : Bool) (s : State), s.latched r = false → s.ruleActive r = false → ((s.ruleStep r sched).ruleSt r).asserted = false ∧ (s.ruleStep r sched).obj (O.ptlRuleState r) = 0 ∧
    (s.ruleStep r sched).ev = s.ev) ∧
  -- evaluations
  (∀ (t a : Nat) (s : State), (s.opState = cold ∨ (s.power.lastEval = some a ∧ (s.at t).tick < a + usTicks (s.obj O.ptlEvalPeriod) ∧ s.time.pllLocked = true)) → exec (.ruleEval t) s = .next (s.at t)) ∧
  (∀ (t : Nat) (s : State), s.opState ≠ cold → (∀ a, s.power.lastEval = some a → a + usTicks (s.obj O.ptlEvalPeriod) ≤ (s.at t).tick) →
    ∃ s', exec (.ruleEval t) s = .next s' ∧ s'.power.lastEval = some (s.at t).tick ∧ s'.power.netwake = false ∧ s'.mem = s.mem ∧
      ∀ b < 16, bit (s'.causes b) causePatrol = (List.range 32).any fun r => (s'.ruleSt r).asserted && bit (s'.rule r).actions 2 && bit (s'.rule r).banks b) ∧
  (∀ (t : Nat) (s : State), (s.obj O.ptlWakeAt = 0 ∨ s.opState = cold ∨ ∃ d, s.schedTick = some d ∧ t < d) → exec (.scheduledEval t) s = .next (s.at t)) ∧
  (∀ (t d : Nat) (s : State), s.schedTick = some d → d ≤ t → s.opState ≠ cold →
    ∃ s', exec (.scheduledEval t) s = .next s' ∧ s'.obj O.ptlWakeAt = 0 ∧ (s.time.pllLocked = true → s'.tick = max s.tick d) ∧ (s.time.pllLocked = false → s'.tick = max s.tick t)) ∧
  (∀ (s : State) (r : Nat), (s.rule r).kind = 9 → (s.rule r).chan = 1 → (s.ruleHolds r true).1 = true ∧ (s.ruleHolds r false).1 = false) ∧
  -- a wake
  (∀ s : State, s.opState ≠ standby → s.askWake = s) ∧
  (∀ (s : State), s.opState = standby →
    ((∃ r < 32, s.ruleTrue r = true ∧ bit (s.rule r).actions 1 = true) → s.askWake.obj O.ptlWakeSuppressed = s.counted O.ptlWakeSuppressed ∧ s.askWake.power = s.power) ∧
    ((∀ r < 32, s.ruleTrue r = true → bit (s.rule r).actions 1 = false) → s.power.wakeAt = none → s.power.wakeReq = none →
      s.askWake.power.wakeReq = some (max s.tick s.power.entryEnd) ∧ s.askWake.objs = s.objs)) ∧
  -- the writes
  (∀ (t : Nat) (q : Req) (v : List Byte) (s s1 : State) (x : Session), (s.at t).takesWrite q O.ptlWakeAt v = some (x, s1) → v.length = 12 → writeLevel O.ptlWakeAt ≤ x.level →
    ∃ s', exec (.ptlWakeAt t q v) s = .next s' ∧
      (stimeOk (beNat v) = false → s'.answered q 2 St.wakeTime (refBytes O.ptlWakeAt) = true ∧ s'.objs = s1.objs) ∧
      (stimeOk (beNat v) = true → beNat v ≠ 0 → (stimeInstant (beNat v)).num < (s1.studio + 247500000) * (stimeInstant (beNat v)).den →
        s'.answered q 2 St.wakeTime (refBytes O.ptlWakeAt) = true ∧ s'.objs = s1.objs) ∧
      (stimeOk (beNat v) = true → (beNat v = 0 ∨ (s1.studio + 247500000) * (stimeInstant (beNat v)).den ≤ (stimeInstant (beNat v)).num) → s'.obj O.ptlWakeAt = beNat v ∧ s'.wrote q O.ptlWakeAt = true)) ∧
  (∀ (t : Nat) (q : Req) (r : Fin 32) (v : List Byte) (s s1 : State) (x : Session), (s.at t).takesWrite q (O.ptlRule r) v = some (x, s1) → s1.writable x (O.ptlRule r) v = true →
    ∃ s', exec (.ptlRule t q r v) s = .next s' ∧
      ((9 < leAt v 0 1 ∨ (leAt v 0 1 ≠ 9 ∧ 15 < leAt v 1 1) ∨ (leAt v 0 1 = 9 ∧ 5 < leAt v 1 1) ∨ 2 ^ r.val ≤ leAt v 20 4) →
        s'.answered q 2 St.ruleBad (refBytes (O.ptlRule r)) = true ∧ s'.blobs = s1.blobs) ∧
      (leAt v 0 1 ≤ 9 → (leAt v 0 1 ≠ 9 → leAt v 1 1 ≤ 15) → (leAt v 0 1 = 9 → leAt v 1 1 ≤ 5) → leAt v 20 4 < 2 ^ r.val → leAt v 2 1 < 64 → leAt v 3 1 < 64 → 1 ≤ leAt v 16 2 →
        1 ≤ leAt v 18 2 → leAt v 18 2 ≤ 64 → leAt v 26 1 ≤ 1 → leAt v 27 5 = 0 → s'.blob (O.ptlRule r) = v ∧ s'.wrote q (O.ptlRule r) = true)) ∧
  (∀ (t : Nat) (q : Req) (r : Fin 32) (v : List Byte) (s s1 : State) (x : Session), (s.at t).takesWrite q (O.ptlRuleClear r) v = some (x, s1) → s1.writable x (O.ptlRuleClear r) v = true →
    ∃ s', exec (.ptlRuleClear t q r v) s = .next s' ∧
      (s1.obj (O.ptlRuleState r) ≠ 3 → s'.answered q 2 St.notActive (refBytes (O.ptlRuleClear r)) = true ∧ s'.objs = s1.objs ∧ s'.power = s1.power) ∧
      (s1.obj (O.ptlRuleState r) = 3 → s'.obj (O.ptlRuleState r) = 1 ∧ (s'.ruleSt r).asserted = false ∧ s'.wrote q (O.ptlRuleClear r) = true ∧
        ((∀ j < 32, j ≠ r → (s1.ruleSt j).asserted = false) → ∀ b < 16, bit (s'.causes b) causePatrol = false))) ∧
  (∀ p ∈ ([(.stateReqNormal, 3, 4), (.stateReqTest, 4, 3)] : List ((Nat → Req → Instr) × Nat × Nat)), ∀ (t : Nat) (q : Req) (s s1 : State) (x : Session),
    (s.at t).takesWrite q O.pwrStateReq [BitVec.ofNat 8 p.2.1] = some (x, s1) → s1.writable x O.pwrStateReq [BitVec.ofNat 8 p.2.1] = true →
    ∃ s', exec (p.1 t q) s = .next s' ∧
      (s1.opState = p.2.2 → s'.opState = p.2.1 ∧ s1.raisedOnce s' 245 ∧ s'.wrote q O.pwrStateReq = true) ∧
      (s1.opState = recovery → s1.obj O.pwrRecoveryCause = 0 → s'.opState = p.2.1 ∧ s1.raisedOnce s' 245 ∧ s'.wrote q O.pwrStateReq = true) ∧
      (s1.opState = recovery → s1.obj O.pwrRecoveryCause ≠ 0 → s'.answered q 2 St.recoveryCause (refBytes O.pwrStateReq) = true ∧ s'.objs = s1.objs) ∧
      ((s1.opState < normal ∨ s1.opState = standby ∨ s1.opState = p.2.1) → s'.answered q 2 St.stateRequest (refBytes O.pwrStateReq) = true ∧ s'.objs = s1.objs)) ∧
  (∀ (t : Nat) (q : Req) (s s1 : State) (x : Session), (s.at t).takesWrite q O.pwrStateReq [6] = some (x, s1) → s1.writable x O.pwrStateReq [6] = true →
    ∃ s', exec (.stateReqStandby t q) s = .next s' ∧
      (boot ≤ s1.opState → s1.opState ≤ recovery → s'.power.standbyReq = true ∧ s'.opState = s1.opState ∧ s'.wrote q O.pwrStateReq = true) ∧
      (s1.opState = standby → s1.power.wakeAt ≠ none → s'.power.standbyReq = true ∧ s'.opState = standby ∧ s'.wrote q O.pwrStateReq = true) ∧
      (s1.opState = standby → s1.power.wakeAt = none → s1.power.wakeReq = none → s'.answered q 2 St.stateRequest (refBytes O.pwrStateReq) = true ∧ s'.power = s1.power))

/-- VAUX, the rail groups of a cold start, regulators, STARTUP's end, standby entry and the wakes (R470, R471, R473 to R475, R481 to R484, R486). Where the spec leaves a point open or it is read by
inference, the choice is the model's: log entries 3, 218, 219, 220, 223, 233, 234, 235, 237, 240, 277. -/
def Obligations.PowerStates : Prop :=
  (∀ (t : Nat) (s : State), s.opState ≠ cold → exec (.vauxRelease t) s = .next (s.at t)) ∧
  (∀ (t : Nat) (s : State), s.opState = cold → ∃ s', exec (.vauxRelease t) s = .next s' ∧ s'.opState = boot ∧ s.raisedOnce s' 245 ∧ s'.power.step = some 0 ∧ bit s'.power.groups 0 = true ∧
    .pwrEn 0 true ∈ s'.tx ∧ (s.obj O.ptlResetCause = 1 → s.raisedOnce s' 240) ∧ (s.obj O.ptlResetCause ≠ 1 → s'.evCount 240 = s.evCount 240)) ∧
  (∀ (t : Nat) (b : Bool) (s : State), (s.opState = cold ∨ s.power.warn = b) → exec (.vauxWarning t b) s = .next (s.at t)) ∧
  (∀ (t : Nat) (b : Bool) (s : State), s.opState ≠ cold → s.power.warn ≠ b → ∃ s', exec (.vauxWarning t b) s = .next s' ∧ s'.power.warn = b ∧ s'.objs = s.objs ∧
    (b = true → s.raisedOnce s' 239) ∧ (b = false → s'.ev = s.ev)) ∧
  (∀ (t : Nat) (s : State), s.opState ≠ cold → ∃ s', exec (.brownOut t) s = .next s' ∧ s'.opState = cold ∧ s'.power.groups = 0 ∧ s'.mem = [] ∧ s'.obj O.ptlResetCause = 1 ∧
    s'.blob O.ptlLog = s.blob O.ptlLog ∧ s'.pending = s.pending ∧ s'.sec.slots = s.sec.slots ∧ s'.sec.keys = s.sec.keys ∧ ∀ g < 4, bit s.power.groups g = true → .pwrEn g false ∈ s'.tx) ∧
  (∀ (t : Nat) (s : State), ∃ s', exec (.islandPowerOnReset t) s = .next s' ∧ s'.opState = cold ∧ s'.power.groups = 0 ∧ s'.mem = [] ∧ s'.obj O.ptlResetCause = 0 ∧ s'.blob O.ptlLog = [] ∧
    s'.pending = s.pending ∧ s'.sec.slots = s.sec.slots ∧ s'.sec.keys = s.sec.keys) ∧
  -- rail groups
  (∀ (t straps : Nat) (g : Fin 4) (mv : List Nat) (geo : List (Nat × Nat)) (s : State), s.power.step = some g.val → bit s.power.good g = false → s.power.stepAt + usTicks 100 ≤ (s.at t).tick →
    (∀ r < 8, railGroup r = g → 19 * s.railNom r ≤ 20 * mv.getD r 0 ∧ 20 * mv.getD r 0 ≤ 21 * s.railNom r) →
    ∃ s', exec (.railGroupGood t g mv straps geo) s = .next s' ∧
      (s.power.wakeAt = none → bit s'.power.good g = true ∧ (∀ r < 8, railGroup r = g → s'.obj (O.pwrRailState r) = 1) ∧
        (g = 0 → s'.power.step = some 1 ∧ s'.hier.slotId = straps % 256 ∧ .pwrEn 1 true ∈ s'.tx) ∧
        (g = 1 → s.time.pllLocked = true → s'.power.step = some 2 ∧ .pwrEn 2 true ∈ s'.tx) ∧
        (g = 1 → s.time.pllLocked = false → s'.power.step = some 1 ∧ ∃ r ∈ s'.cal.runs, r.id = 0x10 ∧ r.since = (s.at t).tick) ∧
        (g = 2 → s'.power.step = some 3 ∧ .pwrEn 3 true ∈ s'.tx) ∧ (g = 3 → s'.power.step = none ∧ s'.power.tries = 0)) ∧
      (s.power.wakeAt ≠ none → (g.val < 2 → s'.power.step = some (g.val + 1) ∧ .pwrEn (g.val + 1) true ∈ s'.tx) ∧ (2 ≤ g.val → s.opState = standby → s.cal.runs = [] → s'.power.step = none ∧ s'.power.awake = true))) ∧
  (∀ (t straps : Nat) (g : Fin 4) (mv : List Nat) (geo : List (Nat × Nat)) (s : State), (s.power.step ≠ some g.val ∨ bit s.power.good g = true ∨ (s.at t).tick < s.power.stepAt + usTicks 100) →
    exec (.railGroupGood t g mv straps geo) s = .next (s.at t)) ∧
  (∀ (t g : Nat) (rail : Fin 8) (s : State), s.opState = boot → s.power.wakeAt = none → s.power.step = some g → bit s.power.good g = false →
    s.power.stepAt + msTicks (s.obj O.pwrRailTimeout) ≤ (s.at t).tick →
    ∃ s', exec (.railGroupTimeout t rail) s = .next s' ∧ s'.opState = boot ∧ (∀ k < 4, bit s'.power.groups k = false) ∧ s.raisedOnce s' 241 ∧ s'.power.step = none ∧ s'.cal.runs = [] ∧
      s'.power.tries = s.power.tries + 1 ∧ s'.power.retryAt = (if s.power.tries + 1 < 3 then some ((s.at t).tick + msTicks (s.obj O.pwrRetryDelay)) else none)) ∧
  (∀ (t : Nat) (rail : Fin 8) (s : State), s.power.step = none → exec (.railGroupTimeout t rail) s = .next (s.at t)) ∧
  (∀ (t a : Nat) (s : State), s.power.retryAt = some a → s.opState = boot → ∃ s', exec (.coldStartRetry t) s = .next s' ∧
    (a ≤ (s.at t).tick → s'.power.step = some 0 ∧ s'.power.retryAt = none ∧ .pwrEn 0 true ∈ s'.tx) ∧ ((s.at t).tick < a → s' = s.at t)) ∧
  (∀ (t : Nat) (s : State), s.opState = startup → s.memc.n ≠ 0 → s.memc.clearing = none → s.cal.startQ = [] → s.cal.runs = [] →
    ∃ s', exec (.startupComplete t) s = .next s' ∧ (s.obj O.pwrRecoveryCause = 0 → s'.opState = s.obj O.pwrBootTarget) ∧ (s.obj O.pwrRecoveryCause ≠ 0 → s'.opState = recovery)) ∧
  (∀ (t : Nat) (s : State), (s.opState ≠ startup ∨ s.memc.n = 0 ∨ s.cal.runs ≠ []) → exec (.startupComplete t) s = .next (s.at t)) ∧
  -- regulators and monitors
  (∀ (t a : Nat) (mv : List Nat) (regs : List (Option Pmbus)) (s : State), (s.opState = standby ∨ (s.power.lastPoll = some a ∧ (s.at t).tick < a + msTicks 10 ∧ s.time.pllLocked = true)) →
    exec (.pmbusPoll t mv regs) s = .next (s.at t)) ∧
  (∀ (t r : Nat) (y : Pmbus) (s : State), 1 ≤ r → r < 9 → s.opState = normal → (∀ a, s.power.lastPoll = some a → a + msTicks 10 ≤ (s.at t).tick) → s.obj (O.pwrRailPmbus r) ≠ 0xFF →
    ∃ s', exec (.pmbusPoll t [] (List.replicate r none ++ [some y])) s = .next s' ∧ s'.power.lastPoll = some (s.at t).tick ∧ s'.obj (O.pwrRailStatus r) = y.status % 65536 ∧
      ((∃ b ∈ [2, 6, 13, 14, 15], bit y.status b = true) → bit s'.power.faults r = true ∧ (bit s.power.faults r = false → s.raisedOnce s' 241) ∧ (bit s.power.faults r = true → s'.ev = s.ev)) ∧
      ((∀ b ∈ [2, 6, 13, 14, 15], bit y.status b = false) → bit s'.power.faults r = false ∧ s'.ev = s.ev) ∧ (y.modeOk = false → bit s.power.faults r = false → (∀ b ∈ [2, 6, 13, 14, 15], bit y.status b = false) → s'.obj (O.pwrRailState r) = 3)) ∧
  (∀ (t : Nat) (y : Pmbus) (s : State), s.opState = normal → (∀ a, s.power.lastPoll = some a → a + msTicks 10 ≤ (s.at t).tick) → s.obj (O.pwrRailPmbus 0) ≠ 0xFF → s.obj (O.pwrRailState 0) = 1 → s.power.faults = 0 →
    y.modeOk = true → y.status = 0 → bit s.power.good 2 = true → 720 ≤ s.power.vcmd → s.power.vcmd ≤ 840 → 720 ≤ s.obj O.ageVcoreTarget → s.obj O.ageVcoreTarget ≤ 840 →
    ∃ s', exec (.pmbusPoll t [] [some y]) s = .next s' ∧
      ((y.vout + 5 < s.power.vcmd ∨ s.power.vcmd + 5 < y.vout ∨ (s.at t).tick < s.power.vcmdAt + msTicks 10 ∨ s.obj O.ageVcoreTarget = s.power.vcmd) → s'.power.vcmd = s.power.vcmd ∧ s'.tx = []) ∧
      (y.vout ≤ s.power.vcmd + 5 → s.power.vcmd ≤ y.vout + 5 → s.power.vcmdAt + msTicks 10 ≤ (s.at t).tick → s.obj O.ageVcoreTarget ≠ s.power.vcmd →
        s'.power.vcmd = (if s.power.vcmd < s.obj O.ageVcoreTarget then min (s.obj O.ageVcoreTarget) (s.power.vcmd + 5) else max (s.obj O.ageVcoreTarget) (s.power.vcmd - 5)) ∧
        s'.power.vcmdAt = (s.at t).tick)) ∧
  (∀ (t mv : Nat) (r : Fin 8) (s : State), (s.opState = cold ∨ bit s.power.good (railGroup r) = false ∨ (19 * s.railNom r ≤ 20 * mv ∧ 20 * mv ≤ 21 * s.railNom r)) → exec (.railFault t r mv) s = .next (s.at t)) ∧
  (∀ (t mv : Nat) (r : Fin 8) (s : State), s.opState ≠ cold → bit s.power.good (railGroup r) = true → (20 * mv < 19 * s.railNom r ∨ 21 * s.railNom r < 20 * mv) →
    ∃ s', exec (.railFault t r mv) s = .next s' ∧ bit s'.power.faults r = true ∧ s'.obj (O.pwrRailMv r) = min mv 65535 ∧
      (bit s.power.faults r = false → s.raisedOnce s' 241) ∧ (bit s.power.faults r = true → s'.ev = s.ev)) ∧
  -- standby
  (∀ (t f : Nat) (s : State), (s.power.standbyReq = false ∨ s.opState < normal ∨ recovery < s.opState) → exec (.standbyEntry t f) s = .next (s.at t)) ∧
  (∀ (t f : Nat) (s : State), s.power.standbyReq = true → normal ≤ s.opState → s.opState ≤ recovery →
    ∃ s', exec (.standbyEntry t f) s = .next s' ∧ s'.opState = standby ∧ s'.power.held = s.opState ∧ s'.power.standbyReq = false ∧ s.raisedOnce s' 242 ∧ s'.obj O.ptlWarm = 1 ∧
      s'.cal.runs = [] ∧ (∀ b < 16, bit (s'.causes b) causeState = true) ∧ (∀ g < 3, bit s'.power.groups g = false) ∧ bit s'.power.groups 3 = bit s.power.groups 3 ∧
      (s.at t).tick ≤ s'.power.entryEnd ∧ s'.power.entryEnd ≤ (s.at t).tick + msTicks 10 ∧ (∀ n < 4, (s'.tg n).running = false)) ∧
  (∀ (t : Nat) (s : State), (s.power.standbyReq = false ∨ (s.opState ≠ boot ∧ s.opState ≠ startup)) → exec (.coldStandby t) s = .next (s.at t)) ∧
  (∀ (t : Nat) (s : State), s.power.standbyReq = true → (s.opState = boot ∨ s.opState = startup) →
    ∃ s', exec (.coldStandby t) s = .next s' ∧ s'.opState = standby ∧ s.raisedOnce s' 242 ∧ s'.obj O.ptlWarm = 0 ∧ (∀ g < 4, bit s'.power.groups g = false) ∧ s'.power.standbyReq = false) ∧
  -- wakes
  (∀ (t d : Nat) (s : State), s.power.wakeReq = some d → d ≤ (s.at t).tick → s.opState = standby → s.power.wakeAt = none →
    (s.obj O.ptlWarm ≠ 0 → ∃ s', exec (.warmWake t) s = .next s' ∧ s'.power.wakeAt = some d ∧ s'.power.wakeReq = none ∧ s'.power.step = some 0 ∧ s'.opState = standby ∧ .pwrEn 0 true ∈ s'.tx) ∧
    (s.obj O.ptlWarm = 0 → exec (.warmWake t) s = .next (s.at t)) ∧
    (s.obj O.ptlWarm ≠ 0 → exec (.coldWake t) s = .next (s.at t)) ∧
    (s.obj O.ptlWarm = 0 → ∃ s', exec (.coldWake t) s = .next s' ∧ s'.opState = boot ∧ s'.obj O.ptlWakeResult = 4 ∧ s'.evCount 244 = 1 ∧ s'.power.step = some 0 ∧ s'.mem = [] ∧ s'.time = s.time ∧
      s'.pending = s.pending)) ∧
  (∀ (t d : Nat) (s : State), s.power.wakeAt = some d → s.opState = standby → (s.at t).tick < d + 247500000 → exec (.wakeReady t) s = .next (s.at t)) ∧
  (∀ (t d : Nat) (s : State), s.power.wakeAt = some d → s.opState = standby → d + 247500000 ≤ (s.at t).tick →
    ∃ s', exec (.wakeReady t) s = .next s' ∧
      (s.power.awake = true → s.resil.procDown = false → s.power.held = normal → s.obj O.pwrRecoveryCause = 0 → s'.opState = normal ∧ s.raisedOnce s' 243 ∧ s'.evCount 244 = s.evCount 244 ∧
        s'.obj O.ptlWakeResult = 1 ∧ s'.power.wakeAt = none) ∧
      (s.power.awake = false → s'.opState = recovery ∧ bit (s'.obj O.pwrRecoveryCause) 1 = true ∧ s.raisedOnce s' 244 ∧ s'.evCount 243 = s.evCount 243 ∧ s'.obj O.ptlWakeResult = 2) ∧
      ((s.intlk.inStandby = true ∨ s.intlk.low = true) → s'.intlk.latched = true ∧ s.raisedOnce s' 50 ∧ ∀ b < 16, bit (s'.obj (O.gateForceLatch b)) causeIntlk = true) ∧
      (∀ n < 4, s.obj (O.tgEnable n) ≠ 0 → s.leadOf n = n → ∃ c, (s'.tg n).commit = some c ∧ c.bOld = tickInstant (s.studioAt (d + 247500000)) ∧ s'.obj (O.tgCommitState n) = 1)) ∧
  (∀ (t d g : Nat) (rail : Fin 8) (s : State), s.power.wakeAt = some d → s.opState = standby → s.power.step = some g → bit s.power.good g = false →
    s.power.stepAt + msTicks (s.obj O.pwrRailTimeout) ≤ (s.at t).tick →
    ∃ s', exec (.wakeRailFail t rail) s = .next s' ∧ s'.opState = standby ∧ s'.obj O.ptlWakeResult = 3 ∧ s.raisedOnce s' 244 ∧ s.raisedOnce s' 241 ∧ s'.power.wakeAt = none ∧
      ∀ k < 3, bit s'.power.groups k = false)

/-- Capture with coalescing and loss, the drain under both ring policies, and the clears (R494, R495, R497, R498, R501, R505). Where the spec leaves a point open or it is read by inference, the choice
is the model's: log entries 242, 244, 245, 246. -/
def Obligations.EventSystem : Prop :=
  (∀ (t : Nat) (s : State), (s.ev.raised = [] ∨ ∃ r rest, s.ev.raised = r :: rest ∧ (s.at t).tick < r.at_ + 60) → exec (.eventCapture t) s = .next (s.at t)) ∧
  (∀ (t : Nat) (r : Raised) (rest : List Raised) (s : State), s.ev.raised = r :: rest → r.at_ + 60 ≤ (s.at t).tick →
    ∃ s', exec (.eventCapture t) s = .next s' ∧
      (∀ pre x, s.ev.fifo = pre ++ [x] → x.src = r.src → s.obj O.evtCoalesced < 4294967294 →
        s'.ev.raised = rest ∧ s'.obj O.evtCoalesced = s.obj O.evtCoalesced + 1 ∧ s'.ev.counts = s.ev.counts ∧
        s'.ev.fifo = pre ++ [{ x with repeats := min 0xFFFF (x.repeats + 1), lastUs := min 0xFFFFFFFF ((r.at_ - x.at_) * 2 / 20625) }]) ∧
      ((∀ x ∈ s.ev.fifo, x.src ≠ r.src) → s.ev.fill + (if 12 < r.detail.length then 2 else 1) ≤ 64 →
        s'.ev.raised = rest ∧ s'.ev.fifo = s.ev.fifo ++ [⟨r.src, r.detail, 0, r.at_, r.secs, r.nanos, 0, r.free⟩] ∧ s'.ev.counts = s.ev.counts ∧ s'.ev.lostMap = s.ev.lostMap) ∧
      ((∀ x ∈ s.ev.fifo, x.src ≠ r.src) → s.ev.fill = 64 → r.src < 252 →
        s'.ev.fifo = s.ev.fifo ∧ bit s'.ev.lostMap r.src = true ∧ kvGet (fun _ => 0) s'.ev.losts r.src = min (kvGet (fun _ => 0) s.ev.losts r.src + 1) 0xFFFFFFFF ∧
        s'.evCount r.src = s.evCount r.src ∧ s'.ev.lostEpisode = true ∧ (s.ev.lostEpisode = false → s'.ev.lostOwed = true))) ∧
  -- an E253 owed enters with the first free entry, once
  (∀ s : State, (s.ev.lostOwed = false ∨ 64 ≤ s.ev.fill) → s.lostRecord = s) ∧
  (∀ s : State, s.ev.lostOwed = true → s.ev.fill < 64 → s.lostRecord.ev.lostOwed = false ∧ s.raisedOnce s.lostRecord 253 ∧
    ∃ x, s.lostRecord.ev.fifo = s.ev.fifo ++ [x] ∧ x.src = 253 ∧ x.detail = leBytes 2 (popCount 256 s.ev.lostMap)) ∧
  -- the drain
  (∀ (t : Nat) (s : State), ((s.at t).tick / 60 < s.ev.lastDrain + 64 ∨ s.ev.ringAt = []) → exec (.logDrain t) s = .next (s.at t)) ∧
  (∀ (t a : Nat) (r : Record) (rest : List Record) (s : State), s.ev.lastDrain + 64 ≤ (s.at t).tick / 60 → s.ev.ringAt = [(a, 131072)] → s.ev.fifo = r :: rest → s.ev.lostOwed = false →
    r.detail.length ≤ 12 → s.obj O.evtLogWrite < 4294967296 →
    ∃ s', exec (.logDrain t) s = .next s' ∧ s'.ev.lastDrain = (s.at t).tick / 60 ∧
      ((s.obj O.evtRingPolicy = 0 ∧ s.unread ≤ 4094 ∨ s.obj O.evtRingPolicy ≠ 0 ∧ s.unread ≤ 4095) →
        s'.ev.fifo = rest ∧ s'.obj O.evtLogWrite = (s.obj O.evtLogWrite + 1) % 4294967296 ∧ s'.obj O.evtLogRead = s.obj O.evtLogRead ∧
        s'.bytes (a + 32 * (s.obj O.evtLogWrite % 4096)) 32 = r.head (s.obj O.evtLogWrite) ∧
        (s.obj O.evtRingPolicy = 0 → s'.obj O.evtRingFull = 0)) ∧
      (s.obj O.evtRingPolicy = 0 → s.unread = 4095 → s.obj O.evtRingFull = 0 →
        s'.ev.fifo = r :: rest ∧ s'.obj O.evtLogWrite = (s.obj O.evtLogWrite + 1) % 4294967296 ∧ s'.obj O.evtRingFull = 1 ∧ s.raisedOnce s' 252) ∧
      (s.obj O.evtRingPolicy = 0 → 4095 ≤ s.unread → s.obj O.evtRingFull ≠ 0 → s'.ev.fifo = r :: rest ∧ s'.objs = s.objs ∧ s'.mem = s.mem) ∧
      (s.obj O.evtRingPolicy ≠ 0 → s.unread = 4096 → s.obj O.evtRingFull ≠ 0 → bit (leAt (s.ringSlot (s.obj O.evtLogRead)) 1 1) 2 = false → s.obj O.evtLogRead < 4294967296 →
        s'.ev.fifo = rest ∧ s'.obj O.evtLogWrite = (s.obj O.evtLogWrite + 1) % 4294967296 ∧ s'.obj O.evtLogRead = (s.obj O.evtLogRead + 1) % 4294967296 ∧
        s'.obj O.evtOverwritten = s.counted O.evtOverwritten)) ∧
  (∀ (t a : Nat) (r : Record) (rest : List Record) (s : State), s.ev.lastDrain + 64 ≤ (s.at t).tick / 60 → s.ev.ringAt = [(a, 131072)] → s.ev.fifo = r :: rest → s.ev.lostOwed = false →
    12 < r.detail.length → s.obj O.evtLogWrite < 4294967296 → s.obj O.evtRingPolicy = 0 → s.unread ≤ 4093 →
    ∃ s', exec (.logDrain t) s = .next s' ∧ s'.ev.fifo = rest ∧ s'.obj O.evtLogWrite = (s.obj O.evtLogWrite + 2) % 4294967296 ∧ s'.obj O.evtLogRead = s.obj O.evtLogRead ∧
      s'.bytes (a + 32 * (s.obj O.evtLogWrite % 4096)) 32 = r.head (s.obj O.evtLogWrite) ∧
      s'.bytes (a + 32 * ((s.obj O.evtLogWrite + 1) % 4294967296 % 4096)) 32 = r.ext ((s.obj O.evtLogWrite + 1) % 4294967296)) ∧
  -- the writes
  (∀ (t : Nat) (q : Req) (v : List Byte) (s s1 : State) (x : Session), (s.at t).takesWrite q O.evtLogReset v = some (x, s1) → s1.writable x O.evtLogReset v = true →
    ∃ s', exec (.evtLogReset t q v) s = .next s' ∧ s'.obj O.evtLogRead = s1.obj O.evtLogWrite ∧ s'.obj O.evtLogWrite = s1.obj O.evtLogWrite ∧ s'.obj O.evtRingFull = 0 ∧ s1.raisedOnce s' 255 ∧
      s'.ev.lostMap = s1.ev.lostMap ∧ s'.ev.losts = s1.ev.losts ∧ s'.wrote q O.evtLogReset = true) ∧
  (∀ (t : Nat) (q : Req) (v : List Byte) (s s1 : State) (x : Session), (s.at t).takesWrite q O.evtLostMap v = some (x, s1) → s1.writable x O.evtLostMap v = true →
    ∃ s', exec (.evtLostMap t q v) s = .next s' ∧ s'.ev.counts = s1.ev.counts ∧ s'.wrote q O.evtLostMap = true ∧
      (∀ e < 256, maskBit v e = true → bit s'.ev.lostMap e = false ∧ kvGet (fun _ => 0) s'.ev.losts e = 0) ∧
      (∀ e < 256, maskBit v e = false → bit s'.ev.lostMap e = bit s1.ev.lostMap e ∧ kvGet (fun _ => 0) s'.ev.losts e = kvGet (fun _ => 0) s1.ev.losts e) ∧
      (s'.ev.lostMap = 0 → s'.ev.lostEpisode = false ∧ s'.ev.lostOwed = false)) ∧
  (∀ (t : Nat) (q : Req) (v : List Byte) (s s1 : State) (x : Session), (s.at t).takesWrite q O.evtCountClear v = some (x, s1) → s1.writable x O.evtCountClear v = true →
    ∃ s', exec (.evtCountClear t q v) s = .next s' ∧ s'.ev.losts = s1.ev.losts ∧ s'.wrote q O.evtCountClear = true ∧
      (∀ e < 256, maskBit v e = true → s'.evCount e = 0 ∧ bit s'.ev.satBits e = false) ∧
      (∀ e < 256, maskBit v e = false → s'.evCount e = s1.evCount e ∧ bit s'.ev.satBits e = bit s1.ev.satBits e)) ∧
  -- a masked source is counted and makes no record; E252 to E255 cannot be masked
  (∀ (s : State) (e : Nat) (vals : List Nat), e < 252 → maskBit (s.blob O.evtMask) e = true → bit s.ev.satBits e = true → (s.raise e vals).ev.raised = s.ev.raised ∧ s.raisedOnce (s.raise e vals) e) ∧
  (∀ (s : State) (e : Nat) (vals : List Nat), (252 ≤ e ∨ maskBit (s.blob O.evtMask) e = false) → bit s.ev.satBits e = true →
    s.raisedOnce (s.raise e vals) e ∧ ∃ r, (s.raise e vals).ev.raised = s.ev.raised ++ [r] ∧ r.src = e ∧ r.at_ = s.tick ∧ r.free = (s.obj O.timeState == 0))

/-- The log's sequence numbers (R500): each record written takes the value of `EVT_LOG_WRITE` as its SEQ, both counts wrap modulo 2³², the unread records are those from `EVT_LOG_READ` to
`EVT_LOG_WRITE` − 1, and the host acknowledges by a later SEQ; a value beyond is LOG_RANGE and an earlier one changes nothing. -/
def Obligations.LogAcknowledgement : Prop :=
  (∀ (a : Nat) (r : Record) (s : State), s.ev.ringAt = [(a, 131072)] → s.obj O.evtLogWrite < 4294967296 →
    let w := s.obj O.evtLogWrite
    let s' := s.ringWriteRecord r
    s'.obj O.evtLogRead = s.obj O.evtLogRead ∧ s'.bytes (a + 32 * (w % 4096)) 32 = r.head w ∧ leAt (r.head w) 4 4 = w ∧
      (r.pair = false → s'.obj O.evtLogWrite = (w + 1) % 4294967296) ∧
      (r.pair = true → s'.obj O.evtLogWrite = (w + 2) % 4294967296 ∧
        s'.bytes (a + 32 * ((w + 1) % 4294967296 % 4096)) 32 = r.ext ((w + 1) % 4294967296) ∧ leAt (r.ext ((w + 1) % 4294967296)) 4 4 = (w + 1) % 4294967296)) ∧
  (∀ s : State, s.obj O.evtLogWrite < 4294967296 → s.obj O.evtLogRead < 4294967296 → s.unread < 4294967296 ∧ (s.obj O.evtLogRead + s.unread) % 4294967296 = s.obj O.evtLogWrite) ∧
  (∀ (t : Nat) (q : Req) (v : List Byte) (s s1 : State) (x : Session), (s.at t).takesWrite q O.evtLogRead v = some (x, s1) → s1.writable x O.evtLogRead v = true →
    ∃ s', exec (.evtLogRead t q v) s = .next s' ∧
      (serialAbove (beNat v) (s1.obj O.evtLogWrite) = true → s'.answered q 2 St.logRange (refBytes O.evtLogRead) = true ∧ s'.objs = s1.objs) ∧
      (serialAbove (beNat v) (s1.obj O.evtLogWrite) = false → serialAbove (s1.obj O.evtLogRead) (beNat v) = true → s'.wrote q O.evtLogRead = true ∧ s'.objs = s1.objs) ∧
      (serialAbove (beNat v) (s1.obj O.evtLogWrite) = false → serialAbove (s1.obj O.evtLogRead) (beNat v) = false → s'.obj O.evtLogRead = beNat v ∧ s'.wrote q O.evtLogRead = true ∧
        (s1.obj O.evtRingPolicy = 1 → s'.obj O.evtRingFull = 0) ∧ (s1.obj O.evtRingPolicy ≠ 1 → s'.obj O.evtRingFull = s1.obj O.evtRingFull)))

/-- The boot ROM, staging, activation and its end, and the management processor's restarts (R516 to R518, R525 to R528). Whether an image is accepted rests on a signature, so these clauses say both
ends. Where the spec leaves a point open or it is read by inference, the choice is the model's: log entries 3, 252, 253, 254, 255, 260, 262, 265, 266, 274, 276. -/
def Obligations.FirmwareLife : Prop :=
  (∀ (t : Nat) (spd : List Nat) (nominal : List Byte) (s : State), (s.opState ≠ boot ∨ s.sec.rescue = true ∨ bits s.power.good 3 0 ≠ 15 ∨ s.time.pllLocked = false) →
    exec (.bootRomStart t spd nominal) s = .next (s.at t)) ∧
  (∀ (t : Nat) (spd : List Nat) (nominal : List Byte) (s : State), s.opState = boot → s.sec.rescue = false → bits s.power.good 3 0 = 15 → s.time.pllLocked = true →
    ∃ s', exec (.bootRomStart t spd nominal) s = .next s' ∧
      ((∃ k < 2, s'.opState = startup ∧ s'.sec.rescue = false ∧ s'.obj O.secFwSlot = k ∧ s'.slotState k = 3) ∨
        (s'.opState = boot ∧ s'.sec.rescue = true ∧ s'.slotState 0 = 5 ∧ s'.slotState 1 = 5))) ∧
  (∀ (t : Nat) (spd : List Nat) (nominal : List Byte) (s : State), s.opState = boot → s.sec.rescue = false → bits s.power.good 3 0 = 15 → s.time.pllLocked = true → s.sec.slots = [[], []] →
    ∃ s', exec (.bootRomStart t spd nominal) s = .next s' ∧ s'.opState = boot ∧ s'.sec.rescue = true ∧ s'.slotState 0 = 5 ∧ s'.slotState 1 = 5 ∧
      s'.evCount 247 = min (min (s.evCount 247 + 1) 0xFFFFFFFF + 1) 0xFFFFFFFF) ∧
  -- the record in force follows a write
  (∀ (s : State) (pref tries : Nat), s.sec.records.length = 2 → pref < 2 → tries < 256 → (s.writeRecord pref tries).sec.preferred = pref ∧ (s.writeRecord pref tries).sec.tries = tries) ∧
  -- staging
  (∀ (t : Nat) (s : State), (∀ e ∈ s.resil.xfers, e.2.ref ≠ O.secStage) → exec (.secStage t) s = .next (s.at t)) ∧
  (∀ (t tid : Nat) (x : Xfer) (s : State), s.resil.xfers = [(tid, x)] → x.ref = O.secStage → x.whole = true → x.toHost = false → s.sec.rescue = false →
    ∃ s', exec (.secStage t) s = .next s' ∧ s'.resil.xfers = [] ∧ s.raisedOnce s' 249 ∧
      (leAt x.data 0 4 ≠ 0x4D494C46 → s'.slotState s.stageSlot = 0 ∧ s'.obj O.secStageState = 5 * 2 ^ 24 + St.badImage ∧ s.raisedOnce s' 247) ∧
      (leAt x.data 0 4 = 0x4D494C46 → leAt x.data 4 1 ≠ 5 →
        (s'.slotState s.stageSlot = 2 ∧ s'.obj O.secStageState = 3 * 2 ^ 24 ∧ s'.evCount 247 = s.evCount 247) ∨ (s'.slotState s.stageSlot = 0 ∧ 5 * 2 ^ 24 < s'.obj O.secStageState ∧ s.raisedOnce s' 247)) ∧
      (leAt x.data 0 4 = 0x4D494C46 → leAt x.data 4 1 = 5 → s'.sec.slots = s.sec.slots ∧ s'.obj O.secSlotState = s.obj O.secSlotState ∧
        (s'.obj O.secStageState = 3 * 2 ^ 24 ∨ (s'.sec.configs = s.sec.configs ∧ s.raisedOnce s' 247)))) ∧
  -- activation
  (∀ (t : Nat) (q : Req) (v : List Byte) (s s1 : State) (x : Session), (s.at t).takesWrite q O.secActivate v = some (x, s1) → s1.writable x O.secActivate v = true →
    ∃ s', exec (.secActivate t q v) s = .next s' ∧
      ((s1.obj O.secActivateState = 1 ∨ s1.obj O.secActivateState = 2) → s'.answered q 2 St.fwState (refBytes O.secActivate) = true ∧ s'.sec = s1.sec ∧ s'.objs = s1.objs) ∧
      (s1.activating = false → (s1.opState < normal ∨ s1.opState = standby) → s'.answered q 2 St.stateRequest (refBytes O.secActivate) = true ∧ s'.sec = s1.sec) ∧
      (s1.activating = false → normal ≤ s1.opState → s1.opState ≤ recovery → s1.slotState 0 ≠ 2 → s1.slotState 1 ≠ 2 →
        s'.answered q 2 St.notStaged (refBytes O.secActivate) = true ∧ s'.sec = s1.sec) ∧
      (∀ k < 2, s1.activating = false → normal ≤ s1.opState → s1.opState ≤ recovery → s1.slotState k = 2 → s1.slotState (1 - k) ≠ 2 → s1.sec.records.length = 2 →
        s'.wrote q O.secActivate = true ∧ s'.sec.preferred = k ∧ s'.sec.tries = 3 ∧ s'.sec.target = k ∧
        ((∀ n < 4, s1.showing n = false) → s'.obj O.secActivateState = 2 ∧ s'.resil.procDown = true ∧ s1.raisedOnce s' 246) ∧
        ((∃ n < 4, s1.showing n = true) → s'.obj O.secActivateState = 1 ∧ s'.resil.procDown = s1.resil.procDown ∧ s'.sec.swapLeft ≠ 0))) ∧
  (∀ (t : Nat) (s : State), (s.obj O.secActivateState ≠ 2 ∨ s.resil.procDown = true ∨ s.sec.revertDue = true ∨ (s.at t).tick < s.sec.started + secTicks (s.obj O.secConfirmTime)) →
    exec (.activationConfirm t) s = .next (s.at t)) ∧
  (∀ (t k : Nat) (s : State), s.obj O.secActivateState = 2 → s.resil.procDown = false → s.sec.revertDue = false → s.sec.started + secTicks (s.obj O.secConfirmTime) ≤ (s.at t).tick →
    s.obj O.secFwSlot = k → k < 2 → s.sec.records.length = 2 →
    ∃ s', exec (.activationConfirm t) s = .next s' ∧ s'.obj O.secActivateState = 3 ∧ s'.sec.preferred = k ∧ s'.sec.tries = 0xFF ∧ s'.slotState k = 3 ∧ s'.slotState (1 - k) = 4 ∧
      bit (s'.obj O.pwrRecoveryCause) 2 = false ∧ s.raisedOnce s' 250) ∧
  (∀ (t : Nat) (silent : Bool) (s : State), (s.obj O.secActivateState ≠ 2 ∨ (s.sec.revertDue = false ∧ (silent = false ∨ (s.at t).tick < s.sec.started + 10312500000))) →
    exec (.activationRevert t silent) s = .next (s.at t)) ∧
  (∀ (t : Nat) (silent : Bool) (s : State), s.obj O.secActivateState = 2 → (s.sec.revertDue = true ∨ (silent = true ∧ s.sec.started + 10312500000 ≤ (s.at t).tick)) → s.sec.target < 2 →
    s.sec.old = 1 - s.sec.target → s.sec.records.length = 2 →
    ∃ s', exec (.activationRevert t silent) s = .next s' ∧ s'.obj O.secActivateState = 4 ∧ s'.sec.preferred = s.sec.old ∧ s'.sec.tries = 0xFF ∧ s'.slotState s.sec.target = 5 ∧
      s'.slotState s.sec.old = 3 ∧ bit (s'.obj O.pwrRecoveryCause) 2 = true ∧ s.raisedOnce s' 248 ∧ s'.sec.target = s.sec.old) ∧
  -- the management processor
  (∀ (t : Nat) (s : State), (s.resil.procDown = true ∨ s.opState = cold ∨ s.opState = boot) → exec (.mgmtWatchdog t) s = .next (s.at t)) ∧
  (∀ (t : Nat) (s : State), s.resil.procDown = false → startup ≤ s.opState → s.opState ≤ recovery →
    ∃ s', exec (.mgmtWatchdog t) s = .next s' ∧ s'.resil.procDown = true ∧ s.raisedOnce s' 246 ∧ s'.obj O.secMgmtRestarts = s.counted O.secMgmtRestarts ∧ s'.mem = s.mem ∧
      s'.carve.jobs = s.carve.jobs ∧ s'.codecJobs = s.codecJobs ∧ s'.resil.sessions = s.resil.sessions ∧ (s.obj O.secActivateState = 2 → s'.sec.revertDue = true) ∧
      (2 ≤ (s.sec.restarts.filter fun r => decide ((s.at t).tick < r + 618750000000)).length → bit (s'.obj O.pwrRecoveryCause) 2 = true)) ∧
  (∀ (t : Nat) (same : Bool) (s : State), s.resil.procDown = false → exec (.mgmtRestartDone t same) s = .next (s.at t)) ∧
  (∀ (t : Nat) (same : Bool) (s : State), s.resil.procDown = true →
    ∃ s', exec (.mgmtRestartDone t same) s = .next s' ∧
      (s.sec.newCode = true → s'.resil.procDown = false ∧ s'.obj O.secFwSlot = s.sec.target ∧ s'.sec.newCode = false ∧ s'.sec.started = (s.at t).tick) ∧
      (s.sec.newCode = false → same = true → s'.resil.procDown = false ∧ s'.sec = s.sec) ∧
      (s.sec.newCode = false → same = false → s'.resil.procDown = false ∨ (s'.resil.procDown = true ∧ bit (s'.obj O.pwrRecoveryCause) 2 = true ∧ s.raisedOnce s' 247))) ∧
  (∀ (t : Nat) (q : Req) (v : List Byte) (s s1 : State) (x : Session), (s.at t).takesWrite q O.secFwClear v = some (x, s1) → s1.writable x O.secFwClear v = true →
    ∃ s', exec (.secFwClear t q v) s = .next s' ∧ bit (s'.obj O.pwrRecoveryCause) 2 = false ∧ (∀ b < 2, bit (s'.obj O.pwrRecoveryCause) b = bit (s1.obj O.pwrRecoveryCause) b) ∧
      s'.wrote q O.secFwClear = true)

/-- Quotes, measurement, keys, rollback, the TAP and saved configurations (R519, R520, R522 to R524, R530). Where a signature decides, both ends are said. Where the spec leaves a point open or it is
read by inference, the choice is the model's: log entries 3, 262, 267, 268, 269, 270, 271, 272. -/
def Obligations.Security : Prop :=
  (∀ (t : Nat) (q : Req) (v : List Byte) (s s1 : State) (x : Session), (s.at t).takesWrite q O.secQuoteReq v = some (x, s1) → s1.writable x O.secQuoteReq v = true →
    ∃ s', exec (.secQuoteReq t q v) s = .next s' ∧
      (s1.obj O.secQuoteState = 1 → s'.answered q 2 St.noSlot (refBytes O.secQuoteReq) = true ∧ s'.sec = s1.sec) ∧
      (s1.obj O.secQuoteState ≠ 1 → s'.obj O.secQuoteState = 1 ∧ s'.sec.quote = some v ∧ s'.wrote q O.secQuoteReq = true)) ∧
  (∀ (t : Nat) (s : State), s.sec.quote = none → exec (.quoteReady t) s = .next (s.at t)) ∧
  (∀ (t : Nat) (n : List Byte) (s : State), s.sec.quote = some n → n.length = 32 → ∃ s' b, exec (.quoteReady t) s = .next s' ∧ s'.obj O.secQuoteState = 2 ∧ s'.sec.quote = none ∧
    s'.blob O.secQuote = b ∧ leAt b 0 4 = 0x544F5551 ∧ leAt b 8 8 = s.obj O.dictSerial % 2 ^ 64 ∧ leAt b 28 1 = s.obj O.secRollback % 256 ∧ slice b 32 32 = n ∧ leAt b 64 4 = s.obj O.secLogCount % 2 ^ 32 ∧
    (bit (leAt b 6 2) 0 = s.sec.truncated) ∧ (bit (leAt b 6 2) 1 = s.sec.debugged) ∧ (bit (leAt b 6 2) 2 = bit (s.obj O.pwrRecoveryCause) 2)) ∧
  (∀ (t : Nat) (q : Req) (v : List Byte) (s s1 : State) (x : Session), (s.at t).takesWrite q O.secExtend v = some (x, s1) → s1.writable x O.secExtend v = true → (s1.blob O.secMeas).length = 512 →
    ∃ s', exec (.secExtend t q v) s = .next s' ∧ s'.wrote q O.secExtend = true ∧
      s'.blob O.secMeas = (s1.blob O.secMeas).take 448 ++ shake256 ((s1.blob O.secMeas).drop 448 ++ v) 64 ++ (s1.blob O.secMeas).drop (448 + (shake256 ((s1.blob O.secMeas).drop 448 ++ v) 64).length) ∧
      (s1.obj O.secLogCount < 4096 → s'.obj O.secLogCount = s1.obj O.secLogCount + 1 ∧ s'.sec.truncated = s1.sec.truncated) ∧
      (4096 ≤ s1.obj O.secLogCount → s'.obj O.secLogCount = s1.obj O.secLogCount ∧ s'.blob O.secLog = s1.blob O.secLog ∧ s'.sec.truncated = true)) ∧
  (∀ (t : Nat) (q : Req) (v : List Byte) (s s1 : State) (x : Session), (s.at t).takesWrite q O.secKeyEnrol v = some (x, s1) → s1.writable x O.secKeyEnrol v = true →
    let n := leAt v 0 1
    ∃ s', exec (.secKeyEnrol t q v) s = .next s' ∧
      ((n = 0 ∨ 4 < n) → s'.answered q 2 St.badValue (refBytes O.secKeyEnrol) = true ∧ s'.sec = s1.sec) ∧
      (1 ≤ n → n ≤ 4 → slice v 1 7 = fill 7 0 → v.drop 1801 = fill 7 0 → s1.sec.keyState n ≠ 0 → s'.answered q 2 St.keyUsed (refBytes O.secKeyEnrol) = true ∧ s'.sec = s1.sec) ∧
      (1 ≤ n → n ≤ 4 → slice v 1 7 = fill 7 0 → v.drop 1801 = fill 7 0 → s1.sec.keyState n = 0 → s1.sec.digests.length = 4 → s1.sec.keys.length = 4 →
        s'.sec.digests.getD (n - 1) [] = shake256 (slice v 8 1793) 64 ∧ s'.sec.keys.getD (n - 1) [] = v ∧ s'.blob (O.secKey n) = v ∧ s1.raisedOnce s' 251 ∧ s'.wrote q O.secKeyEnrol = true)) ∧
  (∀ (t : Nat) (q : Req) (v : List Byte) (s s1 : State) (x : Session), (s.at t).takesWrite q O.secKeyRevoke v = some (x, s1) → s1.writable x O.secKeyRevoke v = true →
    ∃ s', exec (.secKeyRevoke t q v) s = .next s' ∧ s'.sec.keyState (beNat v) = 2 ∧ bits (s'.obj O.secKeyState) (2 * beNat v - 1) (2 * beNat v - 2) = 2 ∧ s'.keyEnrolled (beNat v) = false ∧
      s1.raisedOnce s' 251 ∧ s'.sec.keys = s1.sec.keys ∧ s'.sec.digests = s1.sec.digests ∧ s'.wrote q O.secKeyRevoke = true) ∧
  (∀ (t : Nat) (q : Req) (v : List Byte) (s s1 : State) (x : Session), (s.at t).takesWrite q O.secRollbackAdvance v = some (x, s1) → s1.writable x O.secRollbackAdvance v = true →
    ∃ s', exec (.secRollbackAdvance t q v) s = .next s' ∧
      ((beNat v ≤ s1.obj O.secRollback ∨ 64 < beNat v) → s'.answered q 2 St.rollback (refBytes O.secRollbackAdvance) = true ∧ s'.sec = s1.sec) ∧
      (s1.obj O.secRollback < beNat v → beNat v ≤ 64 →
        (s'.sec.rollback = beNat v ∧ s'.obj O.secRollback = beNat v ∧ s1.raisedOnce s' 251 ∧ s'.wrote q O.secRollbackAdvance = true) ∨
        (s'.answered q 2 St.rollbackSlot (refBytes O.secRollbackAdvance) = true ∧ s'.sec = s1.sec)) ∧
      (s1.obj O.secRollback < beNat v → beNat v ≤ 64 → (∀ k < 2, s1.slotState k ∉ [2, 3, 4]) → s'.sec.rollback = beNat v ∧ s'.obj O.secRollback = beNat v ∧ s'.wrote q O.secRollbackAdvance = true)) ∧
  (∀ (t : Nat) (q : Req) (v : List Byte) (s s1 : State) (x : Session), (s.at t).takesWrite q O.secJtagUnlock v = some (x, s1) → s1.writable x O.secJtagUnlock v = true →
    ∃ s', exec (.secJtagUnlock t q v) s = .next s' ∧
      (leAt v 0 1 ≠ 1 → leAt v 0 1 ≠ 2 → s'.answered q 2 St.badValue (refBytes O.secJtagUnlock) = true ∧ s'.sec = s1.sec) ∧
      (∀ c e, (leAt v 0 1 = 1 ∨ leAt v 0 1 = 2) → slice v 2 6 = fill 6 0 → s1.sec.challenge = some (c, e) →
        (s'.obj O.secJtagState = leAt v 0 1 ∧ s'.sec.debugged = true ∧ s'.sec.challenge = none ∧ s1.raisedOnce s' 251 ∧ s'.wrote q O.secJtagUnlock = true) ∨
        (s'.answered q 2 St.signature (refBytes O.secJtagUnlock) = true ∧ s'.objs = s1.objs ∧ s'.sec = { s1.sec with challenge := none })) ∧
      (∀ c e, (leAt v 0 1 = 1 ∨ leAt v 0 1 = 2) → slice v 2 6 = fill 6 0 → s1.sec.challenge = some (c, e) →
        (e + 618750000000 < s1.tick ∨ (leAt v 0 1 = 2 ∧ leAt v 1 1 ≠ 0) ∨ 4 < leAt v 1 1) → s'.answered q 2 St.signature (refBytes O.secJtagUnlock) = true ∧ s'.objs = s1.objs) ∧
      ((leAt v 0 1 = 1 ∨ leAt v 0 1 = 2) → slice v 2 6 = fill 6 0 → s1.sec.challenge = none → s'.answered q 2 St.signature (refBytes O.secJtagUnlock) = true ∧ s'.objs = s1.objs)) ∧
  (∀ (t : Nat) (q : Req) (v : List Byte) (s s1 : State) (x : Session), (s.at t).takesWrite q O.secJtagLock v = some (x, s1) → s1.writable x O.secJtagLock v = true →
    ∃ s', exec (.secJtagLock t q v) s = .next s' ∧ s'.obj O.secJtagState = 0 ∧ s'.sec.tapInstr ≤ 2 ∧ s1.raisedOnce s' 251 ∧ s'.sec.debugged = s1.sec.debugged ∧ s'.wrote q O.secJtagLock = true) ∧
  (∀ (t d : Nat) (c : Fin 6) (s : State), ∃ s', exec (.tapInstruction t c d) s = .next s' ∧ s'.obj O.secJtagState = s.obj O.secJtagState ∧
    ((c.val ≤ 2 ∨ (c.val ≤ 4 ∧ 1 ≤ s.obj O.secJtagState) ∨ 2 ≤ s.obj O.secJtagState) → s'.sec.tapInstr = c) ∧
    ((c.val = 0 ∨ (3 ≤ c.val ∧ s.obj O.secJtagState = 0) ∨ (c.val = 5 ∧ s.obj O.secJtagState < 2)) → s'.sec.tapInstr = 0 ∧ s'.tx = [.tap d] ∧ s'.objs = s.objs)) ∧
  (∀ (t : Nat) (q : Req) (v : List Byte) (s s1 : State) (x : Session), (s.at t).takesWrite q O.secConfigSave v = some (x, s1) → s1.writable x O.secConfigSave v = true →
    ∃ s', exec (.secConfigSave t q v) s = .next s' ∧
      (s1.obj O.secActivateState = 2 → s'.answered q 2 St.fwState (refBytes O.secConfigSave) = true ∧ s'.sec = s1.sec) ∧
      (s1.activating = false → (∃ e ∈ s1.resil.xfers, e.2.ref = O.secStage) → s'.answered q 2 St.noSlot (refBytes O.secConfigSave) = true ∧ s'.sec = s1.sec) ∧
      (s1.activating = false → (∀ e ∈ s1.resil.xfers, e.2.ref ≠ O.secStage) → s1.raisedOnce s' 249 ∧
        ((s'.wrote q O.secConfigSave = true ∧ s'.obj O.secStageState = 3 * 2 ^ 24 ∧ ∃ k < 2, s'.sec.configs = s1.sec.configs.set k (((s1.sec.configs.getD (1 - k) (0, [])).1 + 1) % 2 ^ 32, s1.configImage)) ∨
          (s'.answered q 2 St.badSize (refBytes O.secConfigSave) = true ∧ s'.sec.configs = s1.sec.configs))))

/-- What a host's write to a control object leaves unchanged (R375): every object but the one written and those that its effect names, and every part of the device but those its effect acts on; the
session and the frames sent change by the answer. -/
def Obligations.FramesOfWrites : Prop :=
  (∀ (v : List Byte), framed (fun t q => .timeSet t q v) O.timeSet v
    [.fam O.tgCommitState, .fam O.tgBOld, .fam O.tgBNew] [.ev, .time, .tgs]) ∧
  (∀ (n : Fin 4) (v : List Byte), framed (fun t q => .slmPlanStage t q n v) (O.slmPlanStage n.val) v
    [] []) ∧
  (∀ (n : Fin 4) (v : List Byte), framed (fun t q => .slmPlanSwap t q n v) (O.slmPlanSwap n.val) v
    [.fam O.slmManualRefused, .one O.evtSatOverflow, .fam O.slmManualResult] [.ev, .slms]) ∧
  (∀ (v : List Byte), framed (fun t q => .slmCompressionCredit t q v) O.slmCompressionCredit v
    [] []) ∧
  (∀ (v : List Byte), framed (fun t q => .gateIntlkRearm t q v) O.gateIntlkRearm v
    [.fam O.gateForceCause, .one O.gateIntlkState, .fam O.gateForceLatch] [.ev, .banks, .intlk]) ∧
  (∀ (b : Fin 16) (v : List Byte), framed (fun t q => .gateEnable t q b v) (O.gateEnable b.val) v
    [.fam O.colPdReading, .fam O.gateWindowsCut, .fam O.colPdInvalid, .fam O.gateForceCause, .fam O.colPdTime, .one O.evtSatOverflow] [.ev, .banks, .cal]) ∧
  (∀ (b : Fin 16) (v : List Byte), framed (fun t q => .gateRearm t q b v) (O.gateRearm b.val) v
    [.fam O.gateForceCause, .fam O.gateForceLatch] [.ev, .banks]) ∧
  (∀ (b : Fin 16) (v : List Byte), framed (fun t q => .gateFadeLevel t q b v) (O.gateFadeLevel b.val) v
    [] [.banks]) ∧
  (∀ (w : Fin 16) (v : List Byte), framed (fun t q => .lwEnable t q w v) (O.lwEnable w.val) v
    [.fam O.lwLoadState, .fam O.colPdReading, .fam O.gateWindowsCut, .fam O.colPdInvalid, .fam O.gateForceCause, .fam O.colPdTime, .one O.evtSatOverflow] [.ev, .banks, .wires, .cal]) ∧
  (∀ (w : Fin 16) (v : List Byte), framed (fun t q => .lwRearm t q w v) (O.lwRearm w.val) v
    [.fam O.lwLoadState, .fam O.colPdReading, .fam O.gateWindowsCut, .fam O.colPdInvalid, .fam O.gateForceCause, .fam O.colPdTime, .one O.evtSatOverflow] [.ev, .banks, .wires, .cal]) ∧
  (∀ (w : Fin 16) (v : List Byte), framed (fun t q => .lwLimits t q w v) (O.lwLimits w.val) v
    [] [.wires]) ∧
  (∀ (w : Option (Fin 16)) (v : List Byte), framed (fun t q => .lwPeriod t q w v) (match w with | none => O.lwPeriod | some w => O.lwDrivers w.val) v
    [] []) ∧
  (∀ (n : Fin 4) (v : List Byte) (cols : Nat) (rows : Nat), framed (fun t q => .moutEnable t q n v cols rows) (O.moutEnable n.val) v
    [.fam O.moutState, .fam O.moutLanesDown, .fam O.colPdReading, .fam O.gateWindowsCut, .fam O.colPdInvalid, .fam O.gateForceCause, .fam O.moutLoadTime, .fam O.moutLanesActive,
      .fam O.colPdTime, .one O.evtSatOverflow, .fam O.moutBlankReason, .fam O.moutShort] [.ev, .banks, .mouts, .cal]) ∧
  (∀ (n : Fin 4) (v : List Byte) (lock : Nat), framed (fun t q => .moutLaneRestore t q n v lock) (O.moutLaneRestore n.val) v
    [] [.mouts]) ∧
  (∀ (n : Fin 4) (v : List Byte), framed (fun t q => .moutFreezeClear t q n v) (O.moutFreezeClear n.val) v
    [.fam O.colPdReading, .fam O.gateWindowsCut, .fam O.colPdInvalid, .fam O.gateForceCause, .fam O.colPdTime, .one O.evtSatOverflow, .fam O.moutBlankReason, .fam O.moutFreeze] [.ev, .banks, .cal]) ∧
  (∀ (v : List Byte), framed (fun t q => .layAlloc t q v) O.layAlloc v
    [.fam O.layBufState, .fam O.layBufPeriod, .fam O.layBufLoaded, .one O.layHandlesFree, .fam O.layBufStride, .fam O.layBufFormat, .fam O.layBufHandle, .fam O.layBufHeight, .fam O.layBufWidth, .fam O.layBufFrames] [.free, .bufs, .memc]) ∧
  (∀ (i : Fin 16384) (v : List Byte), framed (fun t q => .layBufFree t q i v) (O.layBufFree i.val) v
    [.fam O.layBufState, .fam O.layBufPeriod, .fam O.layBufLoaded, .one O.layHandlesFree, .fam O.layBufStride, .fam O.layBufFormat, .fam O.layBufHandle, .fam O.layBufHeight,
      .fam O.layBufWritten, .fam O.layBufWidth, .fam O.layBufFrames] [.bufs, .memc]) ∧
  (∀ (l : Fin 64) (v : List Byte), framed (fun t q => .layFlip t q l v) (O.layFlip l.val) v
    [.fam O.layQueue] [.lays]) ∧
  (∀ (l : Fin 64) (v : List Byte), framed (fun t q => .layFenceDone t q l v) (O.layFenceDone l.val) v
    [] []) ∧
  (∀ (l : Fin 64) (v : List Byte), framed (fun t q => .layPlaylist t q l v) (O.layPlaylist l.val) v
    [] []) ∧
  (∀ (l : Fin 64) (v : List Byte), framed (fun t q => .layPlay t q l v) (O.layPlay l.val) v
    [.fam O.layBufState, .fam O.layBufPeriod, .fam O.layBufLoaded, .one O.layHandlesFree, .fam O.layBufStride, .fam O.layBufFormat, .fam O.layBufHandle, .fam O.layBufHeight,
      .fam O.layBufWritten, .fam O.layBufWidth, .fam O.layBufFrames] [.ev, .bufs, .lays, .memc]) ∧
  (∀ (c : Fin 16), framed (fun t q => .clusterOfflineReq t q c) (O.crvClOnline c.val) [0]
    [.one O.crvEnginesOnline, .one O.crvSubstituted, .fam O.crvClState, .fam O.crvClView, .fam O.crvClPagesFree, .one O.evtSatOverflow, .one O.crvCapacity, .fam O.intgStaleOverflow] [.mem, .ev, .slms, .comps, .carve, .intg]) ∧
  (∀ (c : Fin 16), framed (fun t q => .clusterOnlineReq t q c) (O.crvClOnline c.val) [1]
    [.one O.crvEnginesOnline, .one O.crvSubstituted, .fam O.crvClState, .fam O.crvClView, .fam O.crvClPagesFree, .one O.evtSatOverflow, .one O.crvCapacity, .fam O.intgStaleOverflow] [.mem, .ev, .slms, .comps, .carve, .intg]) ∧
  (∀ (v : List Byte), framed (fun t q => .crvKernelRemove t q v) O.crvKernelRemove v
    [] [.carve]) ∧
  (∀ (v : List Byte), framed (fun t q => .crvJob t q v) O.crvJob v
    [.fam O.crvJobState] [.carve]) ∧
  (∀ (v : List Byte), framed (fun t q => .crvJobCancel t q v) O.crvJobCancel v
    [.fam O.layBufState, .fam O.layBufPeriod, .fam O.layBufLoaded, .one O.layHandlesFree, .fam O.layBufStride, .fam O.crvClView, .fam O.layBufFormat, .fam O.crvClPagesFree,
      .fam O.layBufHandle, .fam O.layBufHeight, .fam O.crvJobState, .fam O.layBufWritten, .fam O.layBufWidth, .fam O.layBufFrames] [.ev, .bufs, .carve, .memc]) ∧
  (∀ (mode : Fin 256) (rest : List Byte), framed (fun t q => .codecCompress t q mode rest) O.codecJob (leBytes 1 1 ++ leBytes 1 mode.val ++ rest)
    [.fam O.layBufState, .fam O.codecJobState, .fam O.codecJobDone, .fam O.codecJobGranules] [.codecJobs]) ∧
  (∀ (mode : Fin 256) (rest : List Byte), framed (fun t q => .codecDecompress t q mode rest) O.codecJob (leBytes 1 2 ++ leBytes 1 mode.val ++ rest)
    [.fam O.layBufState, .fam O.codecJobState, .fam O.codecJobDone, .fam O.codecJobGranules] [.codecJobs]) ∧
  (∀ (v : List Byte), framed (fun t q => .codecJobCancel t q v) O.codecJobCancel v
    [.fam O.layBufState, .fam O.layBufPeriod, .fam O.layBufLoaded, .one O.layHandlesFree, .fam O.layBufStride, .fam O.layBufFormat, .fam O.layBufHandle, .fam O.layBufHeight,
      .fam O.layBufWritten, .fam O.codecJobState, .fam O.layBufWidth, .fam O.layBufFrames] [.ev, .bufs, .codecJobs, .memc]) ∧
  (∀ (v : List Byte), framed (fun t q => .memFreqTarget t q v) O.memFreqTarget v
    [.fam O.memRmw, .fam O.memPortThrottled, .one O.memFreqState, .fam O.memRdHazardWaits, .one O.memFreqBlackout, .one O.evtSatOverflow, .fam O.memPortBytes, .fam O.memRdForwarded,
      .one O.memFreqResult, .fam O.memPortInorder, .fam O.intgStaleOverflow] [.mem, .ev, .memc, .intg]) ∧
  (∀ (v : List Byte), framed (fun t q => .memTsetSel t q v) O.memTsetSel v
    [.fam O.memRmw, .fam O.memPortThrottled, .one O.memFreqState, .fam O.memRdHazardWaits, .one O.evtSatOverflow, .fam O.memPortBytes, .fam O.memRdForwarded, .one O.memFreqResult,
      .fam O.memPortInorder, .fam O.intgStaleOverflow] [.mem, .ev, .memc, .intg]) ∧
  (∀ (which : Fin 3) (v : List Byte), framed (fun t q => .memInterleave t q which v) (match which with | 0 => O.memInterleave | 1 => O.memHash | 2 => O.memBankHash) v
    [] [.memc]) ∧
  (∀ (v : List Byte), framed (fun t q => .intgSweep t q v) O.intgSweep v
    [.one O.intgSweepState] [.intg]) ∧
  (∀ (v : List Byte), framed (fun t q => .intgSweepCancel t q v) O.intgSweepCancel v
    [.one O.intgSweepState] [.ev, .intg]) ∧
  (∀ (v : List Byte), framed (fun t q => .intgRetireList t q v) O.intgRetireList v
    [.one O.intgRetireList, .fam O.intgSparesFree, .one O.evtSatOverflow, .fam O.intgRetired] [.ev, .intg]) ∧
  (∀ (v : List Byte), framed (fun t q => .hierNodeId t q v) O.hierNodeId v
    [.one O.dictNodeId, .one O.hierNodeId, .one O.hierState] [.ev]) ∧
  (∀ (v : List Byte), framed (fun t q => .hierFence t q v) O.hierFence v
    [] []) ∧
  (∀ (v : List Byte), framed (fun t q => .hierStbProbe t q v) O.hierStbProbe v
    [] [.hier]) ∧
  (∀ (v : List Byte) (image : List Byte), framed (fun t q => .hierNodeCapture t q v image) O.hierNodeCapture v
    [.fam O.layBufState, .fam O.layBufPeriod, .fam O.layBufLoaded, .one O.layHandlesFree, .fam O.layBufStride, .fam O.layBufFormat, .fam O.layBufHandle, .fam O.layBufHeight,
      .fam O.layBufWritten, .one O.evtSatOverflow, .fam O.layBufWidth, .fam O.layBufFrames, .fam O.intgStaleOverflow] [.free, .mem, .ev, .bufs, .memc, .intg, .hier]) ∧
  (∀ (v : List Byte), framed (fun t q => .hierNodeRelease t q v) O.hierNodeRelease v
    [.one O.hierServiceNow, .fam O.layBufState, .fam O.layBufPeriod, .fam O.layBufLoaded, .one O.hierNodesJoined, .one O.layHandlesFree, .fam O.layBufStride, .fam O.layBufFormat,
      .fam O.layBufHandle, .fam O.layBufHeight, .fam O.layBufWritten, .fam O.layBufWidth, .fam O.layBufFrames] [.bufs, .memc, .hier]) ∧
  (∀ (v : List Byte) (hs : Option (Nat × List Byte)), framed (fun t q => .hierNodeAdopt t q v hs) O.hierNodeAdopt v
    [.one O.hierServiceNow, .one O.hierNodesJoined] [.hier]) ∧
  (∀ (l : Fin 256) (v : List Byte), framed (fun t q => .loopMode t q l v) (O.loopMode l.val) v
    [.fam O.loopOut, .fam O.loopState] [.loops, .loopSets]) ∧
  (∀ (l : Fin 256) (src : Bool) (v : List Byte), framed (fun t q => .loopSetpoint t q l src v) (if src then O.loopSpSrc l.val else O.loopSetpoint l.val) v
    [] [.loops]) ∧
  (∀ (l : Fin 256) (c : Fin 22) (v : List Byte), framed (fun t q => .loopCoefficient t q l c v) (0x300000 + 256 * l.val + coefSub c.val) v
    [] [.loops]) ∧
  (∀ (l : Fin 256) (v : List Byte), framed (fun t q => .loopFlags t q l v) (O.loopFlags l.val) v
    [] []) ∧
  (∀ (k : Fin 16) (v : List Byte), framed (fun t q => .loopSetClear t q k v) (O.loopSetClear k.val) v
    [.fam O.loopSetState, .fam O.loopState] [.ev, .loops, .loopSets]) ∧
  (∀ (inst : Fin 256) (rest : List Byte), framed (fun t q => .bandgap t q inst rest) O.calRun (leBytes 1 1 ++ leBytes 1 inst.val ++ rest)
    [.one O.calRunning, .fam O.calResult] [.cal]) ∧
  (∀ (inst : Fin 256) (rest : List Byte), framed (fun t q => .adc t q inst rest) O.calRun (leBytes 1 2 ++ leBytes 1 inst.val ++ rest)
    [.one O.calRunning, .fam O.calResult] [.cal]) ∧
  (∀ (inst : Fin 256) (rest : List Byte), framed (fun t q => .temp t q inst rest) O.calRun (leBytes 1 3 ++ leBytes 1 inst.val ++ rest)
    [.one O.calRunning, .fam O.calResult] [.cal]) ∧
  (∀ (inst : Fin 256) (rest : List Byte), framed (fun t q => .supply t q inst rest) O.calRun (leBytes 1 4 ++ leBytes 1 inst.val ++ rest)
    [.one O.calRunning, .fam O.calResult] [.cal]) ∧
  (∀ (inst : Fin 256) (rest : List Byte), framed (fun t q => .pd t q inst rest) O.calRun (leBytes 1 5 ++ leBytes 1 inst.val ++ rest)
    [.one O.calRunning, .fam O.calResult] [.cal]) ∧
  (∀ (inst : Fin 256) (rest : List Byte), framed (fun t q => .bankEff t q inst rest) O.calRun (leBytes 1 6 ++ leBytes 1 inst.val ++ rest)
    [.one O.calRunning, .fam O.calResult] [.cal]) ∧
  (∀ (inst : Fin 256) (rest : List Byte), framed (fun t q => .rootpll t q inst rest) O.calRun (leBytes 1 0x10 ++ leBytes 1 inst.val ++ rest)
    [.one O.calRunning, .fam O.calResult] [.cal]) ∧
  (∀ (inst : Fin 256) (rest : List Byte), framed (fun t q => .ddr t q inst rest) O.calRun (leBytes 1 0x11 ++ leBytes 1 inst.val ++ rest)
    [.one O.calRunning, .fam O.calResult] [.cal]) ∧
  (∀ (inst : Fin 256) (rest : List Byte), framed (fun t q => .eth t q inst rest) O.calRun (leBytes 1 0x12 ++ leBytes 1 inst.val ++ rest)
    [.one O.calRunning, .fam O.calResult] [.cal]) ∧
  (∀ (inst : Fin 256) (rest : List Byte), framed (fun t q => .mlane t q inst rest) O.calRun (leBytes 1 0x13 ++ leBytes 1 inst.val ++ rest)
    [.one O.calRunning, .fam O.calResult] [.cal]) ∧
  (∀ (inst : Fin 256) (rest : List Byte), framed (fun t q => .vernier t q inst rest) O.calRun (leBytes 1 0x14 ++ leBytes 1 inst.val ++ rest)
    [.one O.calRunning, .fam O.calResult] [.cal]) ∧
  (∀ (v : List Byte), framed (fun t q => .calCancel t q v) O.calCancel v
    [.one O.pwrRecoveryCause, .one O.calRejects, .one O.timeState, .one O.calRunning, .fam O.colPdReading, .fam O.gateWindowsCut, .fam O.colPdInvalid, .fam O.gateForceCause, .one O.memPeak,
      .fam O.calResult, .one O.memCeiling, .fam O.memChState, .fam O.colPdTime, .one O.ptlState, .one O.evtSatOverflow, .one O.memCapacity, .one O.timeSrcActive, .one O.calRuns] [.ev, .time,
      .banks, .memc, .intg, .loops, .loopSets, .cal]) ∧
  (∀ (v : List Byte), framed (fun t q => .ageVcoreTarget t q v) O.ageVcoreTarget v
    [] []) ∧
  (∀ (v : List Byte), framed (fun t q => .ptlWakeAt t q v) O.ptlWakeAt v
    [] []) ∧
  (∀ (r : Fin 32) (v : List Byte), framed (fun t q => .ptlRule t q r v) (O.ptlRule r.val) v
    [] [.power]) ∧
  (∀ (r : Fin 32) (v : List Byte), framed (fun t q => .ptlRuleClear t q r v) (O.ptlRuleClear r.val) v
    [.fam O.colPdReading, .fam O.ptlRuleState, .fam O.gateWindowsCut, .fam O.colPdInvalid, .fam O.gateForceCause, .one O.ptlLog, .fam O.colPdTime, .one O.evtSatOverflow] [.ev, .banks, .cal, .power]) ∧
  (framed (fun t q => .stateReqNormal t q) O.pwrStateReq [3]
    [.fam O.colPdReading, .fam O.gateWindowsCut, .fam O.colPdInvalid, .fam O.gateForceCause, .fam O.colPdTime, .one O.ptlState, .one O.evtSatOverflow] [.ev, .banks, .intg, .loops, .loopSets, .cal, .power]) ∧
  (framed (fun t q => .stateReqTest t q) O.pwrStateReq [4]
    [.fam O.colPdReading, .fam O.gateWindowsCut, .fam O.colPdInvalid, .fam O.gateForceCause, .fam O.colPdTime, .one O.ptlState, .one O.evtSatOverflow] [.ev, .banks, .intg, .loops, .loopSets, .cal, .power]) ∧
  (framed (fun t q => .stateReqStandby t q) O.pwrStateReq [6]
    [.fam O.colPdReading, .fam O.gateWindowsCut, .fam O.colPdInvalid, .fam O.gateForceCause, .fam O.colPdTime, .one O.ptlState, .one O.evtSatOverflow] [.ev, .banks, .intg, .loops, .loopSets, .cal, .power]) ∧
  (∀ (v : List Byte), framed (fun t q => .evtLogRead t q v) O.evtLogRead v
    [.one O.evtRingFull] []) ∧
  (∀ (v : List Byte), framed (fun t q => .evtLogReset t q v) O.evtLogReset v
    [.one O.evtRingFull, .one O.evtLogRead] [.ev]) ∧
  (∀ (v : List Byte), framed (fun t q => .evtLostMap t q v) O.evtLostMap v
    [] [.ev]) ∧
  (∀ (v : List Byte), framed (fun t q => .evtCountClear t q v) O.evtCountClear v
    [] [.ev]) ∧
  (∀ (v : List Byte), framed (fun t q => .secActivate t q v) O.secActivate v
    [.one O.pwrRecoveryCause, .one O.calRejects, .one O.timeState, .one O.calRunning, .fam O.colPdReading, .fam O.gateWindowsCut, .fam O.colPdInvalid, .fam O.gateForceCause,
      .one O.secStageState, .fam O.calResult, .fam O.memChState, .one O.secLogCount, .one O.secSlotState, .fam O.colPdTime, .one O.ptlState, .one O.evtSatOverflow, .one O.secMeas,
      .one O.timeSrcActive, .one O.secLog, .one O.secActivateState, .one O.calRuns, .one O.secMgmtRestarts] [.free, .ev, .time, .banks, .intg, .loops, .loopSets, .cal, .power, .sec]) ∧
  (∀ (v : List Byte), framed (fun t q => .secQuoteReq t q v) O.secQuoteReq v
    [.one O.secQuoteState] [.sec]) ∧
  (∀ (v : List Byte), framed (fun t q => .secExtend t q v) O.secExtend v
    [.one O.secLogCount, .one O.secMeas, .one O.secLog] [.sec]) ∧
  (∀ (v : List Byte), framed (fun t q => .secKeyEnrol t q v) O.secKeyEnrol v
    [.one O.secRollback, .one O.secKeyState, .one O.secLogCount, .one O.secMeas, .one O.secLog, .fam O.secKey] [.ev, .sec]) ∧
  (∀ (v : List Byte), framed (fun t q => .secKeyRevoke t q v) O.secKeyRevoke v
    [.one O.secRollback, .one O.secKeyState, .one O.secLogCount, .one O.secMeas, .one O.secLog, .fam O.secKey] [.ev, .sec]) ∧
  (∀ (v : List Byte), framed (fun t q => .secRollbackAdvance t q v) O.secRollbackAdvance v
    [.one O.secRollback, .one O.secKeyState, .one O.secLogCount, .one O.secMeas, .one O.secLog, .fam O.secKey] [.ev, .sec]) ∧
  (∀ (v : List Byte), framed (fun t q => .secJtagUnlock t q v) O.secJtagUnlock v
    [.one O.secJtagState, .one O.secLogCount, .one O.secMeas, .one O.secLog] [.ev, .sec]) ∧
  (∀ (v : List Byte), framed (fun t q => .secJtagLock t q v) O.secJtagLock v
    [.fam O.colPdReading, .fam O.gateWindowsCut, .fam O.colPdInvalid, .one O.secJtagState, .fam O.colPdTime, .one O.evtSatOverflow] [.ev, .banks, .sec]) ∧
  (∀ (v : List Byte), framed (fun t q => .secConfigSave t q v) O.secConfigSave v
    [.one O.secStageState] [.free, .ev, .sec]) ∧
  (∀ (v : List Byte), framed (fun t q => .secFwClear t q v) O.secFwClear v
    [.one O.pwrRecoveryCause] [])

/-- What the device's own events leave unchanged (R98, R334, R494): every object outside the families named, as number and as bytes. -/
def Obligations.FramesOfEvents : Prop :=
  ∀ (c : Instr) (s s' : State), exec c s = .next s' →
    match c with
    | .rootPllLockLoss .. =>
      sameObjects [.fam O.colPdInvalid, .fam O.colPdReading, .fam O.colPdTime, .one O.evtSatOverflow, .fam O.gateForceCause, .fam O.gateWindowsCut, .one O.ptlState, .one O.pwrRecoveryCause, .one O.timeSrcActive, .one O.timeState] s s'
    | .rootPllRelock .. =>
      sameObjects [.fam O.gateForceCause, .one O.pwrRecoveryCause, .one O.timeFreqCorr, .one O.timeSrcActive, .one O.timeState] s s'
    | .servoMeasurement .. =>
      sameObjects [.fam O.tgBNew, .fam O.tgBOld, .fam O.tgCommitState, .one O.timeFreqCorr, .one O.timePhaseErr, .one O.timeState] s s'
    | .sourceQualified .. =>
      sameObjects [.one O.timeFreqCorr, .one O.timeRefMeasured, .one O.timeSrcActive, .one O.timeState] s s'
    | .sourceDisqualified .. =>
      sameObjects [.one O.timeFreqCorr, .one O.timePtpGmId, .one O.timePtpSlavePort, .one O.timeRefMeasured, .one O.timeSrcActive, .one O.timeState] s s'
    | .holdoverExpired .. =>
      sameObjects [.one O.timeState] s s'
    | .ptpAnnounceRx .. =>
      sameObjects [.one O.timePtpGmId, .one O.timePtpSlavePort, .one O.timeSmTlv, .one O.timeTaiUtc] s s'
    | .ptpSyncTx .. | .ptpAnnounceTx .. | .ptpDelayReqTx .. | .ptpDelayReqRx .. | .plannerStart .. | .gateVernierApply .. | .tlVernierApply .. | .matrixCompute .. | .engineDispatch ..
    | .rowIdleClose .. | .powerDownEntry .. | .staleTrackerScan .. | .membershipExpiry .. | .arpRx .. | .neighbourSolicitationRx .. | .echoRx .. | .membershipQueryRx .. | .membershipReportRepeat ..
    | .legDown .. | .wakeFrameRx .. | .blockAckTimer .. | .blockResend .. | .eventResend .. | .challengeLapse .. | .udpPortSwitch .. | .proxyTimeout .. | .segmentConsensus .. | .segmentFlipDecided ..
    | .leaderAppoint .. | .bankEffPoint .. | .calRestore .. | .vauxWarning .. | .coldStartRetry .. | .warmWake .. | .freeBitmapClearDone .. =>
      sameObjects [] s s'
    | .ppsEdge .. =>
      sameObjects [.fam O.tgBNew, .fam O.tgBOld, .fam O.tgCommitState, .one O.timeFreqCorr, .one O.timePhaseErr, .one O.timeSrcActive, .one O.timeState] s s'
    | .compositionComplete .. =>
      sameObjects [.one O.evtSatOverflow, .fam O.intgStaleOverflow, .fam O.layBufFormat, .fam O.layBufFrames, .fam O.layBufHandle, .fam O.layBufHeight, .fam O.layBufLoaded,
        .fam O.layBufPeriod, .fam O.layBufState, .fam O.layBufStride, .fam O.layBufWidth, .fam O.layBufWritten, .one O.layHandlesFree] s s'
    | .plannerDone .. =>
      sameObjects [.one O.evtSatOverflow, .fam O.slmFallbacks] s s'
    | .plannerDeadline .. =>
      sameObjects [.one O.evtSatOverflow, .fam O.slmLatePlans] s s'
    | .manualSwapVerify .. =>
      sameObjects [.one O.evtSatOverflow, .fam O.slmManualRefused, .fam O.slmManualResult] s s'
    | .gateWindow .. =>
      sameObjects [.fam O.colPdInvalid, .fam O.colPdReading, .fam O.colPdTime, .one O.evtSatOverflow, .fam O.gateForceCause, .fam O.gateHeaders, .fam O.gateWindowsCut] s s'
    | .planeFifoRead .. =>
      sameObjects [.one O.evtSatOverflow, .fam O.moutFifoFill, .fam O.moutTolMin, .fam O.moutTolerance, .fam O.slmZeroBlocks] s s'
    | .parkRepeat .. =>
      sameObjects [.one O.evtSatOverflow, .fam O.moutParks] s s'
    | .intlkAssert .. =>
      sameObjects [.fam O.colPdInvalid, .fam O.colPdReading, .fam O.colPdTime, .one O.evtSatOverflow, .fam O.gateForceCause, .fam O.gateForceLatch, .one O.gateIntlkCount, .one O.gateIntlkState, .fam O.gateWindowsCut] s s'
    | .lwReady .. =>
      sameObjects [.fam O.gateForceCause, .fam O.lwLoadState] s s'
    | .lwInitFailed .. =>
      sameObjects [.fam O.lwLoadState] s s'
    | .faultNAssert .. =>
      sameObjects [.fam O.colPdInvalid, .fam O.colPdReading, .fam O.colPdTime, .one O.evtSatOverflow, .fam O.gateForceCause, .fam O.gateForceLatch, .fam O.gateWindowsCut, .fam O.lwFaultState, .fam O.lwFaults] s s'
    | .faultNRelease .. =>
      sameObjects [.fam O.lwFaultState] s s'
    | .lutAccept .. =>
      sameObjects [.fam O.colLutLoaded, .fam O.colLutStage] s s'
    | .shutterEdge .. =>
      sameObjects [.fam O.camExtraEdges, .fam O.camLastOpen, .fam O.camPeriodBad, .fam O.camPeriodErr, .one O.evtSatOverflow] s s'
    | .exposureFrameEval .. =>
      sameObjects [.fam O.camDriftClose, .fam O.camDriftFrames, .fam O.camDriftOpen, .fam O.camDriftPeak, .fam O.camMissed, .fam O.camShutState, .fam O.camSuggestLength, .fam O.camSuggestOpen, .one O.evtSatOverflow] s s'
    | .arrStatRise .. =>
      sameObjects [.fam O.calResult, .one O.calRunning, .fam O.colPdInvalid, .fam O.colPdReading, .fam O.colPdTime, .one O.evtSatOverflow, .fam O.gateForceCause, .fam O.gateWindowsCut,
        .fam O.moutBlankReason, .fam O.moutLanesActive, .fam O.moutLanesDown, .fam O.moutLoadTime, .fam O.moutShort, .fam O.moutState] s s'
    | .bringupTimeout .. =>
      sameObjects [.fam O.moutState] s s'
    | .arrStatFall .. =>
      sameObjects [.fam O.colPdInvalid, .fam O.colPdReading, .fam O.colPdTime, .one O.evtSatOverflow, .fam O.gateForceCause, .fam O.gateWindowsCut, .fam O.moutArrayDrops, .fam O.moutBlankReason, .fam O.moutState] s s'
    | .arrayPoll .. =>
      sameObjects [.fam O.calResult, .one O.calRunning, .fam O.colPdInvalid, .fam O.colPdReading, .fam O.colPdTime, .one O.evtSatOverflow, .fam O.gateForceCause, .fam O.gateWindowsCut,
        .fam O.moutArrayDrops, .fam O.moutArrayPlaneErr, .fam O.moutBlankReason, .fam O.moutLanesActive, .fam O.moutLanesDown, .fam O.moutLoadTime, .fam O.moutShort, .fam O.moutState] s s'
    | .tileIssue .. =>
      sameObjects [.fam O.crvClPagesFree, .fam O.crvJobState, .one O.crvSubstituted, .one O.evtSatOverflow, .fam O.intgStaleOverflow, .fam O.layPoisonTiles] s s'
    | .tileResult .. =>
      sameObjects [.fam O.crvClCorrected, .fam O.crvClPagesFree, .fam O.crvClTiles, .fam O.crvClView, .one O.crvDiscarded, .one O.crvSubstituted, .one O.crvTiles, .one O.evtSatOverflow, .fam O.intgStaleOverflow, .fam O.layBufState] s s'
    | .tileFault .. | .engNop .. | .br .. | .brs .. | .engFault .. | .shdr .. | .sadd .. | .ssub .. | .smul .. | .sand .. | .sor .. | .sxor .. | .sshl .. | .sshr .. | .smovi .. | .saddi .. | .sld ..
    | .sst .. | .vadd .. | .vsub .. | .vadds .. | .vsubs .. | .vmul .. | .vmulq .. | .vmac .. | .vmin .. | .vmax .. | .vand .. | .vor .. | .vxor .. | .vshl .. | .vshr .. | .vlerp .. | .vcmp ..
    | .vsel .. | .vbcast .. | .vmovi .. | .vlane .. | .vext .. | .vpack .. | .vunpk .. | .vld .. | .vst .. | .gather .. | .tetra .. | .bpx .. | .dito .. | .dife .. =>
      sameObjects [.one O.crvCapacity, .fam O.crvClFaults, .fam O.crvClLastFault, .fam O.crvClPagesFree, .fam O.crvClState, .fam O.crvClView, .one O.crvEnginesOnline, .one O.crvFaults,
        .one O.crvRedispatched, .one O.crvSubstituted, .one O.evtSatOverflow, .fam O.intgStaleOverflow] s s'
    | .clusterDrained .. =>
      sameObjects [.fam O.crvClState] s s'
    | .clusterTestDone .. =>
      sameObjects [.one O.crvCapacity, .fam O.crvClPagesFree, .fam O.crvClState, .fam O.crvClView, .one O.crvEnginesOnline, .one O.crvSubstituted, .one O.evtSatOverflow, .fam O.intgStaleOverflow] s s'
    | .kernelInstall .. =>
      sameObjects [.one O.crvKernelResult, .one O.secLog, .one O.secLogCount, .one O.secMeas] s s'
    | .crvJobEnd .. =>
      sameObjects [.fam O.crvClPagesFree, .fam O.crvClView, .fam O.crvJobState, .fam O.layBufFormat, .fam O.layBufFrames, .fam O.layBufHandle, .fam O.layBufHeight, .fam O.layBufLoaded,
        .fam O.layBufPeriod, .fam O.layBufState, .fam O.layBufStride, .fam O.layBufWidth, .fam O.layBufWritten, .one O.layHandlesFree] s s'
    | .engEnd .. =>
      sameObjects [.fam O.colClips, .one O.crvCapacity, .fam O.crvClFaults, .fam O.crvClLastFault, .fam O.crvClPagesFree, .fam O.crvClState, .fam O.crvClView, .one O.crvEnginesOnline,
        .one O.crvFaults, .one O.crvRedispatched, .one O.crvSatTiles, .one O.crvSubstituted, .one O.evtSatOverflow, .fam O.intgStaleOverflow] s s'
    | .inlineCompress .. =>
      sameObjects [.one O.codecBlocksComp, .one O.codecGranulesOut, .one O.codecNoGain, .one O.codecZero, .one O.evtSatOverflow, .fam O.intgStaleOverflow] s s'
    | .codecBypass .. =>
      sameObjects [.one O.codecBypass, .one O.evtSatOverflow, .fam O.intgStaleOverflow] s s'
    | .inlineDecompress .. =>
      sameObjects [.one O.codecBlocksDecomp, .one O.codecDecodeErr, .one O.evtSatOverflow, .fam O.slmZeroBlocks] s s'
    | .codecJobEnd .. =>
      sameObjects [.fam O.codecJobDone, .fam O.codecJobGranules, .fam O.codecJobState, .one O.evtSatOverflow, .fam O.intgStaleOverflow, .fam O.layBufFormat, .fam O.layBufFrames,
        .fam O.layBufHandle, .fam O.layBufHeight, .fam O.layBufLoaded, .fam O.layBufPeriod, .fam O.layBufState, .fam O.layBufStride, .fam O.layBufWidth, .fam O.layBufWritten,
        .one O.layHandlesFree] s s'
    | .memRequest .. =>
      sameObjects [.one O.evtSatOverflow, .fam O.intgStaleOverflow, .fam O.memPortBytes, .fam O.memPortInorder, .fam O.memPortInorderCount, .fam O.memPortThrottled, .fam O.memRdForwarded, .fam O.memRdHazardWaits, .fam O.memRmw] s s'
    | .refreshTick .. =>
      sameObjects [.fam O.memRefOwedR0, .fam O.memRefOwedR1] s s'
    | .mr4Poll .. =>
      sameObjects [.one O.evtSatOverflow, .fam O.memRefConversions, .fam O.memRefOwedR0, .fam O.memRefOwedR1, .fam O.memRefZoneR0, .fam O.memRefZoneR1] s s'
    | .freqChangeStart .. =>
      sameObjects [.one O.memFreqBlackout, .one O.memFreqState] s s'
    | .freqChangeDone .. =>
      sameObjects [.one O.evtSatOverflow, .fam O.intgStaleOverflow, .one O.memCeiling, .one O.memFreqChanges, .one O.memFreqResult, .one O.memFreqState, .one O.memPeak, .fam O.memPortBytes,
        .fam O.memPortInorder, .fam O.memPortThrottled, .fam O.memRdForwarded, .fam O.memRdHazardWaits, .fam O.memRefOwedR0, .fam O.memRefOwedR1, .fam O.memRmw, .one O.memSetpoint] s s'
    | .freqChangeAbandon .. =>
      sameObjects [.one O.memFreqResult, .one O.memFreqState] s s'
    | .rdimmAlert .. =>
      sameObjects [.one O.evtSatOverflow, .fam O.memAlerts] s s'
    | .bitmapClearDone .. =>
      sameObjects [.one O.intgClearTime] s s'
    | .burstRead .. =>
      sameObjects [.one O.evtSatOverflow, .fam O.intgCorrected, .fam O.intgMetaErrors, .fam O.intgPoisonReads, .fam O.intgPoisoned, .fam O.intgTrackEvict, .one O.memIsoLate, .fam O.memPortLatMax] s s'
    | .pageRepair .. =>
      sameObjects [.one O.evtSatOverflow, .fam O.intgCorrected, .fam O.intgPageRepairs, .fam O.intgPoisonReads, .fam O.intgPoisoned, .fam O.intgTrackEvict, .one O.memIsoLate, .fam O.memPortLatMax] s s'
    | .pageSettled .. =>
      sameObjects [.one O.evtSatOverflow, .fam O.intgConflicts, .fam O.intgCorrected, .fam O.intgGroomedPages, .fam O.intgPoisoned, .fam O.intgTrackEvict] s s'
    | .roundVisit .. =>
      sameObjects [.one O.evtSatOverflow, .fam O.intgCorrected, .fam O.intgGroomedPages, .fam O.intgPageRepairs, .fam O.intgPoisoned, .fam O.intgRecoded, .one O.intgRoundLast,
        .one O.intgRoundProgress, .fam O.intgStaleOverflow, .fam O.intgTrackEvict] s s'
    | .roundEnd .. =>
      sameObjects [.one O.intgRoundProgress] s s'
    | .writeBack .. =>
      sameObjects [.one O.evtSatOverflow, .fam O.intgWritebacks] s s'
    | .pageRetire .. =>
      sameObjects [.one O.evtSatOverflow, .one O.intgRetireList, .fam O.intgRetired, .fam O.intgSparesFree] s s'
    | .retireRetry .. =>
      sameObjects [.one O.evtSatOverflow, .one O.intgRetireList, .fam O.intgRetireRetries, .fam O.intgRetired, .fam O.intgSparesFree] s s'
    | .sweepEnd .. =>
      sameObjects [.one O.evtSatOverflow, .fam O.intgCorrected, .fam O.intgGroomedPages, .fam O.intgPageRepairs, .fam O.intgPoisoned, .fam O.intgRecoded, .fam O.intgStaleOverflow,
        .one O.intgSweepResult, .one O.intgSweepState, .fam O.intgTrackEvict] s s'
    | .linkUp .. =>
      sameObjects [.fam O.netPortState] s s'
    | .linkDown .. =>
      sameObjects [.one O.evtSatOverflow, .fam O.netPortState, .fam O.netPortTxFrames] s s'
    | .frameRx .. =>
      sameObjects [.one O.evtSatOverflow, .one O.netMacEntries, .fam O.netPortEgressDrops, .fam O.netPortFcsErrors, .fam O.netPortFecCorrected, .fam O.netPortFecUncorrected,
        .fam O.netPortOversize, .fam O.netPortPauseRx, .fam O.netPortRxFrames, .fam O.netPortTxFrames, .one O.netRxUnhandled] s s'
    | .macAgeOut .. =>
      sameObjects [.one O.netMacEntries] s s'
    | .flowFrameComplete .. =>
      sameObjects [.one O.evtSatOverflow, .fam O.layBufState, .fam O.layBufWritten, .fam O.layQueue, .fam O.netFlowEnable, .fam O.netFlowFlipRefused, .fam O.netFlowFrames, .fam O.netFlowJoin, .fam O.netFlowLate] s s'
    | .flowFrameIncomplete .. =>
      sameObjects [.one O.evtSatOverflow, .fam O.layBufState, .fam O.netFlowIncomplete] s s'
    | .packetLost .. =>
      sameObjects [.one O.evtSatOverflow, .fam O.netFlowLostPkts, .fam O.netFlowRecovered] s s'
    | .flowStopped .. =>
      sameObjects [.fam O.netFlowState] s s'
    | .transferIdle .. | .secStage .. =>
      sameObjects [.one O.secSlotState, .one O.secStageState] s s'
    | .eventSend .. =>
      sameObjects [.fam O.colPdInvalid, .fam O.colPdReading, .fam O.colPdTime, .one O.evtSatOverflow, .fam O.gateForceCause, .fam O.gateWindowsCut] s s'
    | .sessionIdle .. =>
      sameObjects [.one O.dictSessions, .one O.secSlotState, .one O.secStageState] s s'
    | .discoverSend .. | .heartbeat .. =>
      sameObjects [.one O.hierNodesJoined, .one O.hierServiceNow] s s'
    | .discover .. | .flipRx .. =>
      sameObjects [.one O.dictBadTags, .one O.evtSatOverflow] s s'
    | .announce .. =>
      sameObjects [.one O.dictBadTags, .one O.evtSatOverflow, .one O.hierNodesJoined, .one O.hierServiceNow] s s'
    | .custodyRestoreDone .. =>
      sameObjects [.one O.evtSatOverflow, .one O.hierNodesJoined, .one O.hierServiceNow, .fam O.intgStaleOverflow, .fam O.layBufFormat, .fam O.layBufFrames, .fam O.layBufHandle,
        .fam O.layBufHeight, .fam O.layBufLoaded, .fam O.layBufPeriod, .fam O.layBufState, .fam O.layBufStride, .fam O.layBufWidth, .fam O.layBufWritten, .one O.layHandlesFree] s s'
    | .orphan .. =>
      sameObjects [.one O.hierState] s s'
    | .workerResponse .. =>
      sameObjects [.one O.dictBadTags, .one O.evtSatOverflow, .fam O.intgStaleOverflow, .fam O.layBufFormat, .fam O.layBufFrames, .fam O.layBufHandle, .fam O.layBufHeight,
        .fam O.layBufLoaded, .fam O.layBufPeriod, .fam O.layBufState, .fam O.layBufStride, .fam O.layBufWidth, .fam O.layBufWritten, .one O.layHandlesFree] s s'
    | .fenceDatagram .. =>
      sameObjects [.one O.dictBadTags, .one O.evtSatOverflow, .fam O.layFenceDone] s s'
    | .segReady .. =>
      sameObjects [.one O.dictBadTags, .one O.evtSatOverflow, .one O.hierSplits] s s'
    | .stbNoClock .. | .stbStuck .. =>
      sameObjects [.one O.hierStbState] s s'
    | .loopSetComputeDone .. =>
      sameObjects [.one O.loopLoad, .fam O.loopSetConsec, .fam O.loopSetTimeMax] s s'
    | .calAuto .. | .rootpllRetry .. =>
      sameObjects [.fam O.calResult, .one O.calRunning] s s'
    | .vauxRelease .. | .startupComplete .. =>
      sameObjects [.fam O.colPdInvalid, .fam O.colPdReading, .fam O.colPdTime, .one O.evtSatOverflow, .fam O.gateForceCause, .fam O.gateWindowsCut, .one O.ptlState] s s'
    | .pmbusPoll .. =>
      sameObjects [.fam O.pwrRailIout, .fam O.pwrRailMv, .fam O.pwrRailState, .fam O.pwrRailStatus] s s'
    | .channelSample .. =>
      sameObjects [.fam O.ptlChValid, .fam O.ptlChValue] s s'
    | .ruleEval .. =>
      sameObjects [.fam O.colPdInvalid, .fam O.colPdReading, .fam O.colPdTime, .one O.evtSatOverflow, .fam O.gateForceCause, .fam O.gateWindowsCut, .one O.ptlLog, .fam O.ptlRuleCount, .fam O.ptlRuleState, .one O.ptlWakeSuppressed] s s'
    | .scheduledEval .. =>
      sameObjects [.fam O.colPdInvalid, .fam O.colPdReading, .fam O.colPdTime, .one O.evtSatOverflow, .fam O.gateForceCause, .fam O.gateWindowsCut, .one O.ptlLog, .fam O.ptlRuleCount,
        .fam O.ptlRuleState, .one O.ptlWakeAt, .one O.ptlWakeSuppressed] s s'
    | .wakeReady .. =>
      sameObjects [.fam O.colPdInvalid, .fam O.colPdReading, .fam O.colPdTime, .one O.evtSatOverflow, .fam O.gateForceCause, .fam O.gateForceLatch, .one O.gateIntlkCount,
        .one O.gateIntlkState, .fam O.gateWindowsCut, .one O.ptlState, .one O.ptlWakeResult, .one O.pwrRecoveryCause, .fam O.tgBNew, .fam O.tgBOld, .fam O.tgCommitState] s s'
    | .eventCapture .. =>
      sameObjects [.one O.evtCoalesced, .one O.evtSatOverflow] s s'
    | .logDrain .. =>
      sameObjects [.one O.evtLogRead, .one O.evtLogWrite, .one O.evtOverwritten, .one O.evtRingFull, .one O.evtSatOverflow, .fam O.intgStaleOverflow] s s'
    | .activationConfirm .. =>
      sameObjects [.one O.pwrRecoveryCause, .one O.secActivateState, .one O.secSlotState] s s'
    | .mgmtRestartDone .. =>
      sameObjects [.fam O.colPdInvalid, .fam O.colPdReading, .fam O.colPdTime, .one O.crvKernelResult, .one O.evtSatOverflow, .fam O.gateForceCause, .fam O.gateWindowsCut, .one O.ptlState,
        .one O.pwrRecoveryCause, .one O.secFwSlot, .one O.secFwVersion, .one O.secLog, .one O.secLogCount, .one O.secMeas] s s'
    | .quoteReady .. =>
      sameObjects [.one O.secQuote, .one O.secQuoteState] s s'
    | .intlkRelease .. =>
      sameObjects [.fam O.gateForceCause, .one O.gateIntlkState] s s'
    | .stbClkEdge .. =>
      sameObjects [.one O.hierStbProbeSeen, .one O.hierStbState] s s'
    | .subchannelSchedule .. =>
      sameObjects [.one O.evtSatOverflow, .fam O.intgStaleOverflow, .fam O.memPortBytes, .fam O.memPortInorder, .fam O.memPortThrottled, .fam O.memRdForwarded, .fam O.memRdHazardWaits,
        .fam O.memRefForced, .fam O.memRefOwedR0, .fam O.memRefOwedR1, .fam O.memRmw, .fam O.memRowHits] s s'
    | .railFault .. =>
      sameObjects [.fam O.pwrRailMv, .fam O.pwrRailState] s s'
    | .tapInstruction .. =>
      sameObjects [.fam O.colPdInvalid, .fam O.colPdReading, .fam O.colPdTime, .one O.evtSatOverflow, .fam O.gateWindowsCut] s s'
    | _ => True

/-- What every command leaves unchanged, part by part: each part of the device that `reach` does not name for it, the queue among them. -/
def Obligations.FramesOfParts : Prop :=
  ∀ (c : Instr) (s s' : State), exec c s = .next s' → ∀ p : Part, p ∉ reach c → p.same s s'

/-- Memory, the objects and their bytes keep their canonical form (R322): from every state in which they have it, every step keeps it. -/
def Obligations.StoresStayCanonical : Prop :=
  ∀ s s' : State, s.storesOk = true → step s = .next s' → s'.storesOk = true

/-- What the device writes in a fixed form is read back as what was written (R9, R11, R63, R64, R456, R516, R525): numbers as bytes, the entries of a plan and its image, an STIME96 code, the boot
record, the values of a CONFIG image, and the entries of a snapshot. Where the spec leaves a point open or it is read by inference, the choice is the model's: log entry 257. -/
def Obligations.RoundTrips : Prop :=
  (∀ n v, v < 256 ^ n → leNat (leBytes n v) = v ∧ beNat (beBytes n v) = v) ∧
  (∀ l : List Byte, leBytes l.length (leNat l) = l ∧ beBytes l.length (beNat l) = l) ∧
  (∀ e : Entry, e.ok = true → entryOf e.word = e) ∧
  (∀ p : List Entry, p.length ≤ 512 → (∀ e ∈ p, e.ok = true) → (∀ e ∈ p.dropLast, e.last = false) → (∀ e ∈ p.getLast?, e.last = true) → p ≠ [] →
    tableEntries (planImage p) 512 = p) ∧
  (∀ v, v < 2 ^ 96 → stimeOk v = true → (stimeInstant v).stime = v) ∧
  (∀ gen pref tries, gen < 2 ^ 32 → pref < 2 → tries < 256 →
    recordOk (recordBytes gen pref tries) = true ∧ leAt (recordBytes gen pref tries) 4 4 = gen ∧ leAt (recordBytes gen pref tries) 8 1 = pref ∧
      leAt (recordBytes gen pref tries) 9 1 = tries) ∧
  (∀ (vs : List (Nat × List Byte)) (k : Nat), (∀ p ∈ vs, p.1 < 2 ^ 24 ∧ 0 < p.1 ∧ p.2.length < 65536) →
    configValues (vs.length + 1) ((vs.flatMap fun p => valueForm p.1 p.2) ++ fill k 0) = some vs) ∧
  (∀ es : List (Nat × Nat × List Byte), (∀ e ∈ es, e.1 < 65536 ∧ e.2.2.length < 65536) →
    snapshotEntries es.length (es.flatMap fun e => snapshotEntry e.1 e.2.1 e.2.2) = some (es.map fun e => (e.1, (if e.1 / 256 < 0x10 then 0 else 1), e.2.2)))
end

