-- ==== Sys2Proof/Laws/Store.lean ====
section
/-! SUPPORT. The laws of the sparse tables: what a key reads after a write, and that every write keeps the canonical form. -/

namespace Sys2Proof.Machine

variable {α : Type}

theorem kvFind_erase_self (m : List (Nat × α)) (k : Nat) : kvFind (kvErase m k) k = none := by
  induction m with
  | nil => rfl
  | cons p m ih =>
    obtain ⟨j, v⟩ := p
    unfold kvErase
    split
    · exact ih
    · simp [kvFind, *]

theorem kvFind_erase_ne (m : List (Nat × α)) {k k' : Nat} (h : k' ≠ k) : kvFind (kvErase m k) k' = kvFind m k' := by
  induction m with
  | nil => rfl
  | cons p m ih =>
    obtain ⟨j, v⟩ := p
    unfold kvErase
    split
    · subst_vars; simp [kvFind, ih, Ne.symm h]
    · simp [kvFind, ih]

theorem kvFind_insert_self (m : List (Nat × α)) (k : Nat) (v : α) : kvFind (kvInsert m k v) k = some v := by
  induction m with
  | nil => simp [kvInsert, kvFind]
  | cons p m ih =>
    obtain ⟨j, w⟩ := p
    unfold kvInsert
    split
    · simp [kvFind]
    · split
      · simp [kvFind]
      · simp [kvFind, *]

theorem kvFind_insert_ne (m : List (Nat × α)) {k k' : Nat} (v : α) (h : k' ≠ k) :
    kvFind (kvInsert m k v) k' = kvFind m k' := by
  induction m with
  | nil => simp [kvInsert, kvFind, Ne.symm h]
  | cons p m ih =>
    obtain ⟨j, w⟩ := p
    unfold kvInsert
    split
    · simp [kvFind, Ne.symm h]
    · split
      · subst_vars; simp [kvFind, Ne.symm h]
      · simp [kvFind, ih]

/-- A key reads what was written to it. -/
@[simp] theorem kvGet_put_self [DecidableEq α] (d : Nat → α) (m : List (Nat × α)) (k : Nat) (v : α) :
    kvGet d (kvPut d m k v) k = v := by
  unfold kvPut kvGet
  split
  · simp [kvFind_erase_self, *]
  · simp [kvFind_insert_self]

/-- A write leaves every other key alone. -/
theorem kvGet_put_ne [DecidableEq α] (d : Nat → α) (m : List (Nat × α)) {k k' : Nat} (v : α) (h : k' ≠ k) :
    kvGet d (kvPut d m k v) k' = kvGet d m k' := by
  unfold kvPut kvGet
  split
  · rw [kvFind_erase_ne m h]
  · rw [kvFind_insert_ne m v h]

/-- The canonical form, in words: keys strictly rising, and no value that is its key's default. -/
theorem kvWf_iff [DecidableEq α] (d : Nat → α) (m : List (Nat × α)) :
    kvWf d m = true ↔ m.Pairwise (fun a b => a.1 < b.1) ∧ ∀ p ∈ m, p.2 ≠ d p.1 := by
  induction m with
  | nil => simp [kvWf]
  | cons p m ih =>
    obtain ⟨k, v⟩ := p
    cases m with
    | nil => simp [kvWf]
    | cons q m =>
      obtain ⟨j, w⟩ := q
      simp only [kvWf, Bool.and_eq_true, decide_eq_true_eq, ih]
      constructor
      · rintro ⟨⟨h1, h2⟩, h3, h4⟩
        refine ⟨List.pairwise_cons.2 ⟨fun x hx => ?_, h3⟩, fun x hx => ?_⟩
        · rcases List.mem_cons.1 hx with rfl | hx
          · exact h2
          · exact Nat.lt_trans h2 ((List.pairwise_cons.1 h3).1 x hx)
        · rcases List.mem_cons.1 hx with rfl | hx
          · exact h1
          · exact h4 x hx
      · rintro ⟨h1, h2⟩
        have h3 := List.pairwise_cons.1 h1
        exact ⟨⟨h2 (k, v) (by simp), h3.1 (j, w) (by simp)⟩, h3.2, fun x hx => h2 x (List.mem_cons_of_mem _ hx)⟩

theorem kvErase_sub (m : List (Nat × α)) (k : Nat) : (kvErase m k).Sublist m := by
  induction m with
  | nil => exact List.Sublist.slnil
  | cons p m ih =>
    obtain ⟨j, v⟩ := p
    unfold kvErase
    split
    · exact ih.cons _
    · exact ih.cons_cons _

/-- Fewer entries keep the form. -/
theorem kvWf_sub [DecidableEq α] {d : Nat → α} {m m' : List (Nat × α)} (h : kvWf d m = true) (hs : m'.Sublist m) : kvWf d m' = true := by
  rw [kvWf_iff] at h ⊢
  exact ⟨h.1.sublist hs, fun p hp => h.2 p (hs.subset hp)⟩

theorem kvWf_erase [DecidableEq α] {d : Nat → α} {m : List (Nat × α)} (h : kvWf d m = true) (k : Nat) : kvWf d (kvErase m k) = true :=
  kvWf_sub h (kvErase_sub m k)

theorem kvWf_filter [DecidableEq α] {d : Nat → α} {m : List (Nat × α)} (h : kvWf d m = true) (q : Nat × α → Bool) : kvWf d (m.filter q) = true :=
  kvWf_sub h List.filter_sublist

theorem kvWf_drop [DecidableEq α] {d : Nat → α} {m : List (Nat × α)} (h : kvWf d m = true) (q : Nat → Bool) : kvWf d (kvDrop q m) = true :=
  kvWf_filter h _

theorem kvInsert_mem {m : List (Nat × α)} {k : Nat} {v : α} {p : Nat × α} (h : p ∈ kvInsert m k v) : p = (k, v) ∨ p ∈ m := by
  induction m with
  | nil => simpa [kvInsert] using h
  | cons q m ih =>
    obtain ⟨j, w⟩ := q
    unfold kvInsert at h
    split at h
    · simpa using h
    · split at h
      · rcases List.mem_cons.1 h with h | h
        · exact .inl h
        · exact .inr (List.mem_cons_of_mem _ h)
      · rcases List.mem_cons.1 h with h | h
        · exact .inr (h ▸ List.mem_cons_self)
        · exact (ih h).imp_right (List.mem_cons_of_mem _)

theorem kvInsert_rising {m : List (Nat × α)} (k : Nat) (v : α) (h : m.Pairwise fun a b => a.1 < b.1) : (kvInsert m k v).Pairwise fun a b => a.1 < b.1 := by
  induction m with
  | nil => simp [kvInsert]
  | cons q m ih =>
    obtain ⟨j, w⟩ := q
    have hc := List.pairwise_cons.1 h
    unfold kvInsert
    split
    · rename_i hk
      refine List.pairwise_cons.2 ⟨fun x hx => ?_, h⟩
      rcases List.mem_cons.1 hx with rfl | hx
      · exact hk
      · exact Nat.lt_trans hk (hc.1 x hx)
    · split
      · rename_i hj
        subst hj
        exact List.pairwise_cons.2 ⟨fun x hx => hc.1 x hx, hc.2⟩
      · refine List.pairwise_cons.2 ⟨fun x hx => ?_, ih hc.2⟩
        rcases kvInsert_mem hx with rfl | hx
        · simp only; omega
        · exact hc.1 x hx

/-- Every write keeps the canonical form. -/
theorem kvWf_put [DecidableEq α] {d : Nat → α} {m : List (Nat × α)} (h : kvWf d m = true) (k : Nat) (v : α) : kvWf d (kvPut d m k v) = true := by
  unfold kvPut
  split
  · exact kvWf_erase h k
  · rename_i hv
    rw [kvWf_iff] at h ⊢
    refine ⟨kvInsert_rising k v h.1, fun p hp => ?_⟩
    rcases kvInsert_mem hp with rfl | hp
    · exact hv
    · exact h.2 p hp

end Sys2Proof.Machine
end

