-- ==== Sys2Proof/Laws/State.lean ====
section
/-! SUPPORT. What each update of State leaves alone, field by field, and what reads back after it. -/

namespace Sys2Proof.Machine

variable (s : State)

/-! ### setObj -/

@[simp] theorem State.setObj_pending (ref v : Nat) : (s.setObj ref v).pending = s.pending := rfl
@[simp] theorem State.setObj_tick (ref v : Nat) : (s.setObj ref v).tick = s.tick := rfl
@[simp] theorem State.setObj_free (ref v : Nat) : (s.setObj ref v).free = s.free := rfl
@[simp] theorem State.setObj_blobs (ref v : Nat) : (s.setObj ref v).blobs = s.blobs := rfl
@[simp] theorem State.setObj_mem (ref v : Nat) : (s.setObj ref v).mem = s.mem := rfl
@[simp] theorem State.setObj_tx (ref v : Nat) : (s.setObj ref v).tx = s.tx := rfl
@[simp] theorem State.setObj_ev (ref v : Nat) : (s.setObj ref v).ev = s.ev := rfl
@[simp] theorem State.setObj_time (ref v : Nat) : (s.setObj ref v).time = s.time := rfl
@[simp] theorem State.setObj_tgs (ref v : Nat) : (s.setObj ref v).tgs = s.tgs := rfl
@[simp] theorem State.setObj_slms (ref v : Nat) : (s.setObj ref v).slms = s.slms := rfl
@[simp] theorem State.setObj_banks (ref v : Nat) : (s.setObj ref v).banks = s.banks := rfl
@[simp] theorem State.setObj_wires (ref v : Nat) : (s.setObj ref v).wires = s.wires := rfl
@[simp] theorem State.setObj_intlk (ref v : Nat) : (s.setObj ref v).intlk = s.intlk := rfl
@[simp] theorem State.setObj_cols (ref v : Nat) : (s.setObj ref v).cols = s.cols := rfl
@[simp] theorem State.setObj_lutAcc (ref v : Nat) : (s.setObj ref v).lutAcc = s.lutAcc := rfl
@[simp] theorem State.setObj_cams (ref v : Nat) : (s.setObj ref v).cams = s.cams := rfl
@[simp] theorem State.setObj_mouts (ref v : Nat) : (s.setObj ref v).mouts = s.mouts := rfl
@[simp] theorem State.setObj_bufs (ref v : Nat) : (s.setObj ref v).bufs = s.bufs := rfl
@[simp] theorem State.setObj_lays (ref v : Nat) : (s.setObj ref v).lays = s.lays := rfl
@[simp] theorem State.setObj_comps (ref v : Nat) : (s.setObj ref v).comps = s.comps := rfl
@[simp] theorem State.setObj_layCommit (ref v : Nat) : (s.setObj ref v).layCommit = s.layCommit := rfl
@[simp] theorem State.setObj_carve (ref v : Nat) : (s.setObj ref v).carve = s.carve := rfl
@[simp] theorem State.setObj_codecJobs (ref v : Nat) : (s.setObj ref v).codecJobs = s.codecJobs := rfl
@[simp] theorem State.setObj_codecRecent (ref v : Nat) : (s.setObj ref v).codecRecent = s.codecRecent := rfl
@[simp] theorem State.setObj_memc (ref v : Nat) : (s.setObj ref v).memc = s.memc := rfl
@[simp] theorem State.setObj_intg (ref v : Nat) : (s.setObj ref v).intg = s.intg := rfl
@[simp] theorem State.setObj_net (ref v : Nat) : (s.setObj ref v).net = s.net := rfl
@[simp] theorem State.setObj_sent (ref v : Nat) : (s.setObj ref v).sent = s.sent := rfl
@[simp] theorem State.setObj_resil (ref v : Nat) : (s.setObj ref v).resil = s.resil := rfl
@[simp] theorem State.setObj_hier (ref v : Nat) : (s.setObj ref v).hier = s.hier := rfl
@[simp] theorem State.setObj_loops (ref v : Nat) : (s.setObj ref v).loops = s.loops := rfl
@[simp] theorem State.setObj_loopSets (ref v : Nat) : (s.setObj ref v).loopSets = s.loopSets := rfl
@[simp] theorem State.setObj_cal (ref v : Nat) : (s.setObj ref v).cal = s.cal := rfl
@[simp] theorem State.setObj_power (ref v : Nat) : (s.setObj ref v).power = s.power := rfl
@[simp] theorem State.setObj_sec (ref v : Nat) : (s.setObj ref v).sec = s.sec := rfl
@[simp] theorem State.setObj_blob (ref v : Nat) (z : Nat) : (s.setObj ref v).blob z = s.blob z := rfl
@[simp] theorem State.setObj_byte (ref v : Nat) (z : Nat) : (s.setObj ref v).byte z = s.byte z := rfl
@[simp] theorem State.setObj_evCount (ref v : Nat) (z : Nat) : (s.setObj ref v).evCount z = s.evCount z := rfl
@[simp] theorem State.setObj_tg (ref v : Nat) (z : Nat) : (s.setObj ref v).tg z = s.tg z := rfl
@[simp] theorem State.setObj_slm (ref v : Nat) (z : Nat) : (s.setObj ref v).slm z = s.slm z := rfl
@[simp] theorem State.setObj_bank (ref v : Nat) (z : Nat) : (s.setObj ref v).bank z = s.bank z := rfl
@[simp] theorem State.setObj_wire (ref v : Nat) (z : Nat) : (s.setObj ref v).wire z = s.wire z := rfl
@[simp] theorem State.setObj_col (ref v : Nat) (z : Nat) : (s.setObj ref v).col z = s.col z := rfl
@[simp] theorem State.setObj_cam (ref v : Nat) (z : Nat) : (s.setObj ref v).cam z = s.cam z := rfl
@[simp] theorem State.setObj_mout (ref v : Nat) (z : Nat) : (s.setObj ref v).mout z = s.mout z := rfl
@[simp] theorem State.setObj_buf (ref v : Nat) (z : Nat) : (s.setObj ref v).buf z = s.buf z := rfl
@[simp] theorem State.setObj_lay (ref v : Nat) (z : Nat) : (s.setObj ref v).lay z = s.lay z := rfl
@[simp] theorem State.setObj_comp (ref v : Nat) (z : Nat) : (s.setObj ref v).comp z = s.comp z := rfl
@[simp] theorem State.setObj_loop (ref v : Nat) (z : Nat) : (s.setObj ref v).loop z = s.loop z := rfl
@[simp] theorem State.setObj_loopSet (ref v : Nat) (z : Nat) : (s.setObj ref v).loopSet z = s.loopSet z := rfl

/-! ### setBlob -/

@[simp] theorem State.setBlob_pending (ref : Nat) (l : List Byte) : (s.setBlob ref l).pending = s.pending := rfl
@[simp] theorem State.setBlob_tick (ref : Nat) (l : List Byte) : (s.setBlob ref l).tick = s.tick := rfl
@[simp] theorem State.setBlob_free (ref : Nat) (l : List Byte) : (s.setBlob ref l).free = s.free := rfl
@[simp] theorem State.setBlob_objs (ref : Nat) (l : List Byte) : (s.setBlob ref l).objs = s.objs := rfl
@[simp] theorem State.setBlob_mem (ref : Nat) (l : List Byte) : (s.setBlob ref l).mem = s.mem := rfl
@[simp] theorem State.setBlob_tx (ref : Nat) (l : List Byte) : (s.setBlob ref l).tx = s.tx := rfl
@[simp] theorem State.setBlob_ev (ref : Nat) (l : List Byte) : (s.setBlob ref l).ev = s.ev := rfl
@[simp] theorem State.setBlob_time (ref : Nat) (l : List Byte) : (s.setBlob ref l).time = s.time := rfl
@[simp] theorem State.setBlob_tgs (ref : Nat) (l : List Byte) : (s.setBlob ref l).tgs = s.tgs := rfl
@[simp] theorem State.setBlob_slms (ref : Nat) (l : List Byte) : (s.setBlob ref l).slms = s.slms := rfl
@[simp] theorem State.setBlob_banks (ref : Nat) (l : List Byte) : (s.setBlob ref l).banks = s.banks := rfl
@[simp] theorem State.setBlob_wires (ref : Nat) (l : List Byte) : (s.setBlob ref l).wires = s.wires := rfl
@[simp] theorem State.setBlob_intlk (ref : Nat) (l : List Byte) : (s.setBlob ref l).intlk = s.intlk := rfl
@[simp] theorem State.setBlob_cols (ref : Nat) (l : List Byte) : (s.setBlob ref l).cols = s.cols := rfl
@[simp] theorem State.setBlob_lutAcc (ref : Nat) (l : List Byte) : (s.setBlob ref l).lutAcc = s.lutAcc := rfl
@[simp] theorem State.setBlob_cams (ref : Nat) (l : List Byte) : (s.setBlob ref l).cams = s.cams := rfl
@[simp] theorem State.setBlob_mouts (ref : Nat) (l : List Byte) : (s.setBlob ref l).mouts = s.mouts := rfl
@[simp] theorem State.setBlob_bufs (ref : Nat) (l : List Byte) : (s.setBlob ref l).bufs = s.bufs := rfl
@[simp] theorem State.setBlob_lays (ref : Nat) (l : List Byte) : (s.setBlob ref l).lays = s.lays := rfl
@[simp] theorem State.setBlob_comps (ref : Nat) (l : List Byte) : (s.setBlob ref l).comps = s.comps := rfl
@[simp] theorem State.setBlob_layCommit (ref : Nat) (l : List Byte) : (s.setBlob ref l).layCommit = s.layCommit := rfl
@[simp] theorem State.setBlob_carve (ref : Nat) (l : List Byte) : (s.setBlob ref l).carve = s.carve := rfl
@[simp] theorem State.setBlob_codecJobs (ref : Nat) (l : List Byte) : (s.setBlob ref l).codecJobs = s.codecJobs := rfl
@[simp] theorem State.setBlob_codecRecent (ref : Nat) (l : List Byte) : (s.setBlob ref l).codecRecent = s.codecRecent := rfl
@[simp] theorem State.setBlob_memc (ref : Nat) (l : List Byte) : (s.setBlob ref l).memc = s.memc := rfl
@[simp] theorem State.setBlob_intg (ref : Nat) (l : List Byte) : (s.setBlob ref l).intg = s.intg := rfl
@[simp] theorem State.setBlob_net (ref : Nat) (l : List Byte) : (s.setBlob ref l).net = s.net := rfl
@[simp] theorem State.setBlob_sent (ref : Nat) (l : List Byte) : (s.setBlob ref l).sent = s.sent := rfl
@[simp] theorem State.setBlob_resil (ref : Nat) (l : List Byte) : (s.setBlob ref l).resil = s.resil := rfl
@[simp] theorem State.setBlob_hier (ref : Nat) (l : List Byte) : (s.setBlob ref l).hier = s.hier := rfl
@[simp] theorem State.setBlob_loops (ref : Nat) (l : List Byte) : (s.setBlob ref l).loops = s.loops := rfl
@[simp] theorem State.setBlob_loopSets (ref : Nat) (l : List Byte) : (s.setBlob ref l).loopSets = s.loopSets := rfl
@[simp] theorem State.setBlob_cal (ref : Nat) (l : List Byte) : (s.setBlob ref l).cal = s.cal := rfl
@[simp] theorem State.setBlob_power (ref : Nat) (l : List Byte) : (s.setBlob ref l).power = s.power := rfl
@[simp] theorem State.setBlob_sec (ref : Nat) (l : List Byte) : (s.setBlob ref l).sec = s.sec := rfl
@[simp] theorem State.setBlob_obj (ref : Nat) (l : List Byte) (z : Nat) : (s.setBlob ref l).obj z = s.obj z := rfl
@[simp] theorem State.setBlob_byte (ref : Nat) (l : List Byte) (z : Nat) : (s.setBlob ref l).byte z = s.byte z := rfl
@[simp] theorem State.setBlob_evCount (ref : Nat) (l : List Byte) (z : Nat) : (s.setBlob ref l).evCount z = s.evCount z := rfl
@[simp] theorem State.setBlob_tg (ref : Nat) (l : List Byte) (z : Nat) : (s.setBlob ref l).tg z = s.tg z := rfl
@[simp] theorem State.setBlob_slm (ref : Nat) (l : List Byte) (z : Nat) : (s.setBlob ref l).slm z = s.slm z := rfl
@[simp] theorem State.setBlob_bank (ref : Nat) (l : List Byte) (z : Nat) : (s.setBlob ref l).bank z = s.bank z := rfl
@[simp] theorem State.setBlob_wire (ref : Nat) (l : List Byte) (z : Nat) : (s.setBlob ref l).wire z = s.wire z := rfl
@[simp] theorem State.setBlob_col (ref : Nat) (l : List Byte) (z : Nat) : (s.setBlob ref l).col z = s.col z := rfl
@[simp] theorem State.setBlob_cam (ref : Nat) (l : List Byte) (z : Nat) : (s.setBlob ref l).cam z = s.cam z := rfl
@[simp] theorem State.setBlob_mout (ref : Nat) (l : List Byte) (z : Nat) : (s.setBlob ref l).mout z = s.mout z := rfl
@[simp] theorem State.setBlob_buf (ref : Nat) (l : List Byte) (z : Nat) : (s.setBlob ref l).buf z = s.buf z := rfl
@[simp] theorem State.setBlob_lay (ref : Nat) (l : List Byte) (z : Nat) : (s.setBlob ref l).lay z = s.lay z := rfl
@[simp] theorem State.setBlob_comp (ref : Nat) (l : List Byte) (z : Nat) : (s.setBlob ref l).comp z = s.comp z := rfl
@[simp] theorem State.setBlob_loop (ref : Nat) (l : List Byte) (z : Nat) : (s.setBlob ref l).loop z = s.loop z := rfl
@[simp] theorem State.setBlob_loopSet (ref : Nat) (l : List Byte) (z : Nat) : (s.setBlob ref l).loopSet z = s.loopSet z := rfl

/-! ### setByte -/

@[simp] theorem State.setByte_pending (a : Nat) (b : Byte) : (s.setByte a b).pending = s.pending := rfl
@[simp] theorem State.setByte_tick (a : Nat) (b : Byte) : (s.setByte a b).tick = s.tick := rfl
@[simp] theorem State.setByte_free (a : Nat) (b : Byte) : (s.setByte a b).free = s.free := rfl
@[simp] theorem State.setByte_objs (a : Nat) (b : Byte) : (s.setByte a b).objs = s.objs := rfl
@[simp] theorem State.setByte_blobs (a : Nat) (b : Byte) : (s.setByte a b).blobs = s.blobs := rfl
@[simp] theorem State.setByte_tx (a : Nat) (b : Byte) : (s.setByte a b).tx = s.tx := rfl
@[simp] theorem State.setByte_ev (a : Nat) (b : Byte) : (s.setByte a b).ev = s.ev := rfl
@[simp] theorem State.setByte_time (a : Nat) (b : Byte) : (s.setByte a b).time = s.time := rfl
@[simp] theorem State.setByte_tgs (a : Nat) (b : Byte) : (s.setByte a b).tgs = s.tgs := rfl
@[simp] theorem State.setByte_slms (a : Nat) (b : Byte) : (s.setByte a b).slms = s.slms := rfl
@[simp] theorem State.setByte_banks (a : Nat) (b : Byte) : (s.setByte a b).banks = s.banks := rfl
@[simp] theorem State.setByte_wires (a : Nat) (b : Byte) : (s.setByte a b).wires = s.wires := rfl
@[simp] theorem State.setByte_intlk (a : Nat) (b : Byte) : (s.setByte a b).intlk = s.intlk := rfl
@[simp] theorem State.setByte_cols (a : Nat) (b : Byte) : (s.setByte a b).cols = s.cols := rfl
@[simp] theorem State.setByte_lutAcc (a : Nat) (b : Byte) : (s.setByte a b).lutAcc = s.lutAcc := rfl
@[simp] theorem State.setByte_cams (a : Nat) (b : Byte) : (s.setByte a b).cams = s.cams := rfl
@[simp] theorem State.setByte_mouts (a : Nat) (b : Byte) : (s.setByte a b).mouts = s.mouts := rfl
@[simp] theorem State.setByte_bufs (a : Nat) (b : Byte) : (s.setByte a b).bufs = s.bufs := rfl
@[simp] theorem State.setByte_lays (a : Nat) (b : Byte) : (s.setByte a b).lays = s.lays := rfl
@[simp] theorem State.setByte_comps (a : Nat) (b : Byte) : (s.setByte a b).comps = s.comps := rfl
@[simp] theorem State.setByte_layCommit (a : Nat) (b : Byte) : (s.setByte a b).layCommit = s.layCommit := rfl
@[simp] theorem State.setByte_carve (a : Nat) (b : Byte) : (s.setByte a b).carve = s.carve := rfl
@[simp] theorem State.setByte_codecJobs (a : Nat) (b : Byte) : (s.setByte a b).codecJobs = s.codecJobs := rfl
@[simp] theorem State.setByte_codecRecent (a : Nat) (b : Byte) : (s.setByte a b).codecRecent = s.codecRecent := rfl
@[simp] theorem State.setByte_memc (a : Nat) (b : Byte) : (s.setByte a b).memc = s.memc := rfl
@[simp] theorem State.setByte_intg (a : Nat) (b : Byte) : (s.setByte a b).intg = s.intg := rfl
@[simp] theorem State.setByte_net (a : Nat) (b : Byte) : (s.setByte a b).net = s.net := rfl
@[simp] theorem State.setByte_sent (a : Nat) (b : Byte) : (s.setByte a b).sent = s.sent := rfl
@[simp] theorem State.setByte_resil (a : Nat) (b : Byte) : (s.setByte a b).resil = s.resil := rfl
@[simp] theorem State.setByte_hier (a : Nat) (b : Byte) : (s.setByte a b).hier = s.hier := rfl
@[simp] theorem State.setByte_loops (a : Nat) (b : Byte) : (s.setByte a b).loops = s.loops := rfl
@[simp] theorem State.setByte_loopSets (a : Nat) (b : Byte) : (s.setByte a b).loopSets = s.loopSets := rfl
@[simp] theorem State.setByte_cal (a : Nat) (b : Byte) : (s.setByte a b).cal = s.cal := rfl
@[simp] theorem State.setByte_power (a : Nat) (b : Byte) : (s.setByte a b).power = s.power := rfl
@[simp] theorem State.setByte_sec (a : Nat) (b : Byte) : (s.setByte a b).sec = s.sec := rfl
@[simp] theorem State.setByte_obj (a : Nat) (b : Byte) (z : Nat) : (s.setByte a b).obj z = s.obj z := rfl
@[simp] theorem State.setByte_blob (a : Nat) (b : Byte) (z : Nat) : (s.setByte a b).blob z = s.blob z := rfl
@[simp] theorem State.setByte_evCount (a : Nat) (b : Byte) (z : Nat) : (s.setByte a b).evCount z = s.evCount z := rfl
@[simp] theorem State.setByte_tg (a : Nat) (b : Byte) (z : Nat) : (s.setByte a b).tg z = s.tg z := rfl
@[simp] theorem State.setByte_slm (a : Nat) (b : Byte) (z : Nat) : (s.setByte a b).slm z = s.slm z := rfl
@[simp] theorem State.setByte_bank (a : Nat) (b : Byte) (z : Nat) : (s.setByte a b).bank z = s.bank z := rfl
@[simp] theorem State.setByte_wire (a : Nat) (b : Byte) (z : Nat) : (s.setByte a b).wire z = s.wire z := rfl
@[simp] theorem State.setByte_col (a : Nat) (b : Byte) (z : Nat) : (s.setByte a b).col z = s.col z := rfl
@[simp] theorem State.setByte_cam (a : Nat) (b : Byte) (z : Nat) : (s.setByte a b).cam z = s.cam z := rfl
@[simp] theorem State.setByte_mout (a : Nat) (b : Byte) (z : Nat) : (s.setByte a b).mout z = s.mout z := rfl
@[simp] theorem State.setByte_buf (a : Nat) (b : Byte) (z : Nat) : (s.setByte a b).buf z = s.buf z := rfl
@[simp] theorem State.setByte_lay (a : Nat) (b : Byte) (z : Nat) : (s.setByte a b).lay z = s.lay z := rfl
@[simp] theorem State.setByte_comp (a : Nat) (b : Byte) (z : Nat) : (s.setByte a b).comp z = s.comp z := rfl
@[simp] theorem State.setByte_loop (a : Nat) (b : Byte) (z : Nat) : (s.setByte a b).loop z = s.loop z := rfl
@[simp] theorem State.setByte_loopSet (a : Nat) (b : Byte) (z : Nat) : (s.setByte a b).loopSet z = s.loopSet z := rfl

/-! ### took -/

@[simp] theorem State.took_pending : (s.took).pending = s.pending := rfl
@[simp] theorem State.took_tick : (s.took).tick = s.tick := rfl
@[simp] theorem State.took_objs : (s.took).objs = s.objs := rfl
@[simp] theorem State.took_blobs : (s.took).blobs = s.blobs := rfl
@[simp] theorem State.took_mem : (s.took).mem = s.mem := rfl
@[simp] theorem State.took_tx : (s.took).tx = s.tx := rfl
@[simp] theorem State.took_ev : (s.took).ev = s.ev := rfl
@[simp] theorem State.took_time : (s.took).time = s.time := rfl
@[simp] theorem State.took_tgs : (s.took).tgs = s.tgs := rfl
@[simp] theorem State.took_slms : (s.took).slms = s.slms := rfl
@[simp] theorem State.took_banks : (s.took).banks = s.banks := rfl
@[simp] theorem State.took_wires : (s.took).wires = s.wires := rfl
@[simp] theorem State.took_intlk : (s.took).intlk = s.intlk := rfl
@[simp] theorem State.took_cols : (s.took).cols = s.cols := rfl
@[simp] theorem State.took_lutAcc : (s.took).lutAcc = s.lutAcc := rfl
@[simp] theorem State.took_cams : (s.took).cams = s.cams := rfl
@[simp] theorem State.took_mouts : (s.took).mouts = s.mouts := rfl
@[simp] theorem State.took_bufs : (s.took).bufs = s.bufs := rfl
@[simp] theorem State.took_lays : (s.took).lays = s.lays := rfl
@[simp] theorem State.took_comps : (s.took).comps = s.comps := rfl
@[simp] theorem State.took_layCommit : (s.took).layCommit = s.layCommit := rfl
@[simp] theorem State.took_carve : (s.took).carve = s.carve := rfl
@[simp] theorem State.took_codecJobs : (s.took).codecJobs = s.codecJobs := rfl
@[simp] theorem State.took_codecRecent : (s.took).codecRecent = s.codecRecent := rfl
@[simp] theorem State.took_memc : (s.took).memc = s.memc := rfl
@[simp] theorem State.took_intg : (s.took).intg = s.intg := rfl
@[simp] theorem State.took_net : (s.took).net = s.net := rfl
@[simp] theorem State.took_sent : (s.took).sent = s.sent := rfl
@[simp] theorem State.took_resil : (s.took).resil = s.resil := rfl
@[simp] theorem State.took_hier : (s.took).hier = s.hier := rfl
@[simp] theorem State.took_loops : (s.took).loops = s.loops := rfl
@[simp] theorem State.took_loopSets : (s.took).loopSets = s.loopSets := rfl
@[simp] theorem State.took_cal : (s.took).cal = s.cal := rfl
@[simp] theorem State.took_power : (s.took).power = s.power := rfl
@[simp] theorem State.took_sec : (s.took).sec = s.sec := rfl
@[simp] theorem State.took_obj (z : Nat) : (s.took).obj z = s.obj z := rfl
@[simp] theorem State.took_blob (z : Nat) : (s.took).blob z = s.blob z := rfl
@[simp] theorem State.took_byte (z : Nat) : (s.took).byte z = s.byte z := rfl
@[simp] theorem State.took_evCount (z : Nat) : (s.took).evCount z = s.evCount z := rfl
@[simp] theorem State.took_tg (z : Nat) : (s.took).tg z = s.tg z := rfl
@[simp] theorem State.took_slm (z : Nat) : (s.took).slm z = s.slm z := rfl
@[simp] theorem State.took_bank (z : Nat) : (s.took).bank z = s.bank z := rfl
@[simp] theorem State.took_wire (z : Nat) : (s.took).wire z = s.wire z := rfl
@[simp] theorem State.took_col (z : Nat) : (s.took).col z = s.col z := rfl
@[simp] theorem State.took_cam (z : Nat) : (s.took).cam z = s.cam z := rfl
@[simp] theorem State.took_mout (z : Nat) : (s.took).mout z = s.mout z := rfl
@[simp] theorem State.took_buf (z : Nat) : (s.took).buf z = s.buf z := rfl
@[simp] theorem State.took_lay (z : Nat) : (s.took).lay z = s.lay z := rfl
@[simp] theorem State.took_comp (z : Nat) : (s.took).comp z = s.comp z := rfl
@[simp] theorem State.took_loop (z : Nat) : (s.took).loop z = s.loop z := rfl
@[simp] theorem State.took_loopSet (z : Nat) : (s.took).loopSet z = s.loopSet z := rfl

/-! ### at -/

@[simp] theorem State.at_pending (t : Nat) : (s.at t).pending = s.pending := rfl
@[simp] theorem State.at_free (t : Nat) : (s.at t).free = s.free := rfl
@[simp] theorem State.at_objs (t : Nat) : (s.at t).objs = s.objs := rfl
@[simp] theorem State.at_blobs (t : Nat) : (s.at t).blobs = s.blobs := rfl
@[simp] theorem State.at_mem (t : Nat) : (s.at t).mem = s.mem := rfl
@[simp] theorem State.at_ev (t : Nat) : (s.at t).ev = s.ev := rfl
@[simp] theorem State.at_time (t : Nat) : (s.at t).time = s.time := rfl
@[simp] theorem State.at_tgs (t : Nat) : (s.at t).tgs = s.tgs := rfl
@[simp] theorem State.at_slms (t : Nat) : (s.at t).slms = s.slms := rfl
@[simp] theorem State.at_banks (t : Nat) : (s.at t).banks = s.banks := rfl
@[simp] theorem State.at_wires (t : Nat) : (s.at t).wires = s.wires := rfl
@[simp] theorem State.at_intlk (t : Nat) : (s.at t).intlk = s.intlk := rfl
@[simp] theorem State.at_cols (t : Nat) : (s.at t).cols = s.cols := rfl
@[simp] theorem State.at_lutAcc (t : Nat) : (s.at t).lutAcc = s.lutAcc := rfl
@[simp] theorem State.at_cams (t : Nat) : (s.at t).cams = s.cams := rfl
@[simp] theorem State.at_mouts (t : Nat) : (s.at t).mouts = s.mouts := rfl
@[simp] theorem State.at_bufs (t : Nat) : (s.at t).bufs = s.bufs := rfl
@[simp] theorem State.at_lays (t : Nat) : (s.at t).lays = s.lays := rfl
@[simp] theorem State.at_comps (t : Nat) : (s.at t).comps = s.comps := rfl
@[simp] theorem State.at_layCommit (t : Nat) : (s.at t).layCommit = s.layCommit := rfl
@[simp] theorem State.at_carve (t : Nat) : (s.at t).carve = s.carve := rfl
@[simp] theorem State.at_codecJobs (t : Nat) : (s.at t).codecJobs = s.codecJobs := rfl
@[simp] theorem State.at_codecRecent (t : Nat) : (s.at t).codecRecent = s.codecRecent := rfl
@[simp] theorem State.at_memc (t : Nat) : (s.at t).memc = s.memc := rfl
@[simp] theorem State.at_intg (t : Nat) : (s.at t).intg = s.intg := rfl
@[simp] theorem State.at_net (t : Nat) : (s.at t).net = s.net := rfl
@[simp] theorem State.at_sent (t : Nat) : (s.at t).sent = s.sent := rfl
@[simp] theorem State.at_resil (t : Nat) : (s.at t).resil = s.resil := rfl
@[simp] theorem State.at_hier (t : Nat) : (s.at t).hier = s.hier := rfl
@[simp] theorem State.at_loops (t : Nat) : (s.at t).loops = s.loops := rfl
@[simp] theorem State.at_loopSets (t : Nat) : (s.at t).loopSets = s.loopSets := rfl
@[simp] theorem State.at_cal (t : Nat) : (s.at t).cal = s.cal := rfl
@[simp] theorem State.at_power (t : Nat) : (s.at t).power = s.power := rfl
@[simp] theorem State.at_sec (t : Nat) : (s.at t).sec = s.sec := rfl
@[simp] theorem State.at_obj (t : Nat) (z : Nat) : (s.at t).obj z = s.obj z := rfl
@[simp] theorem State.at_blob (t : Nat) (z : Nat) : (s.at t).blob z = s.blob z := rfl
@[simp] theorem State.at_byte (t : Nat) (z : Nat) : (s.at t).byte z = s.byte z := rfl
@[simp] theorem State.at_evCount (t : Nat) (z : Nat) : (s.at t).evCount z = s.evCount z := rfl
@[simp] theorem State.at_tg (t : Nat) (z : Nat) : (s.at t).tg z = s.tg z := rfl
@[simp] theorem State.at_slm (t : Nat) (z : Nat) : (s.at t).slm z = s.slm z := rfl
@[simp] theorem State.at_bank (t : Nat) (z : Nat) : (s.at t).bank z = s.bank z := rfl
@[simp] theorem State.at_wire (t : Nat) (z : Nat) : (s.at t).wire z = s.wire z := rfl
@[simp] theorem State.at_col (t : Nat) (z : Nat) : (s.at t).col z = s.col z := rfl
@[simp] theorem State.at_cam (t : Nat) (z : Nat) : (s.at t).cam z = s.cam z := rfl
@[simp] theorem State.at_mout (t : Nat) (z : Nat) : (s.at t).mout z = s.mout z := rfl
@[simp] theorem State.at_buf (t : Nat) (z : Nat) : (s.at t).buf z = s.buf z := rfl
@[simp] theorem State.at_lay (t : Nat) (z : Nat) : (s.at t).lay z = s.lay z := rfl
@[simp] theorem State.at_comp (t : Nat) (z : Nat) : (s.at t).comp z = s.comp z := rfl
@[simp] theorem State.at_loop (t : Nat) (z : Nat) : (s.at t).loop z = s.loop z := rfl
@[simp] theorem State.at_loopSet (t : Nat) (z : Nat) : (s.at t).loopSet z = s.loopSet z := rfl

/-! ### emit -/

@[simp] theorem State.emit_pending (x : Tx) : (s.emit x).pending = s.pending := rfl
@[simp] theorem State.emit_tick (x : Tx) : (s.emit x).tick = s.tick := rfl
@[simp] theorem State.emit_free (x : Tx) : (s.emit x).free = s.free := rfl
@[simp] theorem State.emit_objs (x : Tx) : (s.emit x).objs = s.objs := rfl
@[simp] theorem State.emit_blobs (x : Tx) : (s.emit x).blobs = s.blobs := rfl
@[simp] theorem State.emit_mem (x : Tx) : (s.emit x).mem = s.mem := rfl
@[simp] theorem State.emit_ev (x : Tx) : (s.emit x).ev = s.ev := rfl
@[simp] theorem State.emit_time (x : Tx) : (s.emit x).time = s.time := rfl
@[simp] theorem State.emit_tgs (x : Tx) : (s.emit x).tgs = s.tgs := rfl
@[simp] theorem State.emit_slms (x : Tx) : (s.emit x).slms = s.slms := rfl
@[simp] theorem State.emit_banks (x : Tx) : (s.emit x).banks = s.banks := rfl
@[simp] theorem State.emit_wires (x : Tx) : (s.emit x).wires = s.wires := rfl
@[simp] theorem State.emit_intlk (x : Tx) : (s.emit x).intlk = s.intlk := rfl
@[simp] theorem State.emit_cols (x : Tx) : (s.emit x).cols = s.cols := rfl
@[simp] theorem State.emit_lutAcc (x : Tx) : (s.emit x).lutAcc = s.lutAcc := rfl
@[simp] theorem State.emit_cams (x : Tx) : (s.emit x).cams = s.cams := rfl
@[simp] theorem State.emit_mouts (x : Tx) : (s.emit x).mouts = s.mouts := rfl
@[simp] theorem State.emit_bufs (x : Tx) : (s.emit x).bufs = s.bufs := rfl
@[simp] theorem State.emit_lays (x : Tx) : (s.emit x).lays = s.lays := rfl
@[simp] theorem State.emit_comps (x : Tx) : (s.emit x).comps = s.comps := rfl
@[simp] theorem State.emit_layCommit (x : Tx) : (s.emit x).layCommit = s.layCommit := rfl
@[simp] theorem State.emit_carve (x : Tx) : (s.emit x).carve = s.carve := rfl
@[simp] theorem State.emit_codecJobs (x : Tx) : (s.emit x).codecJobs = s.codecJobs := rfl
@[simp] theorem State.emit_codecRecent (x : Tx) : (s.emit x).codecRecent = s.codecRecent := rfl
@[simp] theorem State.emit_memc (x : Tx) : (s.emit x).memc = s.memc := rfl
@[simp] theorem State.emit_intg (x : Tx) : (s.emit x).intg = s.intg := rfl
@[simp] theorem State.emit_net (x : Tx) : (s.emit x).net = s.net := rfl
@[simp] theorem State.emit_resil (x : Tx) : (s.emit x).resil = s.resil := rfl
@[simp] theorem State.emit_hier (x : Tx) : (s.emit x).hier = s.hier := rfl
@[simp] theorem State.emit_loops (x : Tx) : (s.emit x).loops = s.loops := rfl
@[simp] theorem State.emit_loopSets (x : Tx) : (s.emit x).loopSets = s.loopSets := rfl
@[simp] theorem State.emit_cal (x : Tx) : (s.emit x).cal = s.cal := rfl
@[simp] theorem State.emit_power (x : Tx) : (s.emit x).power = s.power := rfl
@[simp] theorem State.emit_sec (x : Tx) : (s.emit x).sec = s.sec := rfl
@[simp] theorem State.emit_obj (x : Tx) (z : Nat) : (s.emit x).obj z = s.obj z := rfl
@[simp] theorem State.emit_blob (x : Tx) (z : Nat) : (s.emit x).blob z = s.blob z := rfl
@[simp] theorem State.emit_byte (x : Tx) (z : Nat) : (s.emit x).byte z = s.byte z := rfl
@[simp] theorem State.emit_evCount (x : Tx) (z : Nat) : (s.emit x).evCount z = s.evCount z := rfl
@[simp] theorem State.emit_tg (x : Tx) (z : Nat) : (s.emit x).tg z = s.tg z := rfl
@[simp] theorem State.emit_slm (x : Tx) (z : Nat) : (s.emit x).slm z = s.slm z := rfl
@[simp] theorem State.emit_bank (x : Tx) (z : Nat) : (s.emit x).bank z = s.bank z := rfl
@[simp] theorem State.emit_wire (x : Tx) (z : Nat) : (s.emit x).wire z = s.wire z := rfl
@[simp] theorem State.emit_col (x : Tx) (z : Nat) : (s.emit x).col z = s.col z := rfl
@[simp] theorem State.emit_cam (x : Tx) (z : Nat) : (s.emit x).cam z = s.cam z := rfl
@[simp] theorem State.emit_mout (x : Tx) (z : Nat) : (s.emit x).mout z = s.mout z := rfl
@[simp] theorem State.emit_buf (x : Tx) (z : Nat) : (s.emit x).buf z = s.buf z := rfl
@[simp] theorem State.emit_lay (x : Tx) (z : Nat) : (s.emit x).lay z = s.lay z := rfl
@[simp] theorem State.emit_comp (x : Tx) (z : Nat) : (s.emit x).comp z = s.comp z := rfl
@[simp] theorem State.emit_loop (x : Tx) (z : Nat) : (s.emit x).loop z = s.loop z := rfl
@[simp] theorem State.emit_loopSet (x : Tx) (z : Nat) : (s.emit x).loopSet z = s.loopSet z := rfl

/-! ### setTg -/

@[simp] theorem State.setTg_pending (n : Nat) (x : TgSt) : (s.setTg n x).pending = s.pending := rfl
@[simp] theorem State.setTg_tick (n : Nat) (x : TgSt) : (s.setTg n x).tick = s.tick := rfl
@[simp] theorem State.setTg_free (n : Nat) (x : TgSt) : (s.setTg n x).free = s.free := rfl
@[simp] theorem State.setTg_objs (n : Nat) (x : TgSt) : (s.setTg n x).objs = s.objs := rfl
@[simp] theorem State.setTg_blobs (n : Nat) (x : TgSt) : (s.setTg n x).blobs = s.blobs := rfl
@[simp] theorem State.setTg_mem (n : Nat) (x : TgSt) : (s.setTg n x).mem = s.mem := rfl
@[simp] theorem State.setTg_tx (n : Nat) (x : TgSt) : (s.setTg n x).tx = s.tx := rfl
@[simp] theorem State.setTg_ev (n : Nat) (x : TgSt) : (s.setTg n x).ev = s.ev := rfl
@[simp] theorem State.setTg_time (n : Nat) (x : TgSt) : (s.setTg n x).time = s.time := rfl
@[simp] theorem State.setTg_slms (n : Nat) (x : TgSt) : (s.setTg n x).slms = s.slms := rfl
@[simp] theorem State.setTg_banks (n : Nat) (x : TgSt) : (s.setTg n x).banks = s.banks := rfl
@[simp] theorem State.setTg_wires (n : Nat) (x : TgSt) : (s.setTg n x).wires = s.wires := rfl
@[simp] theorem State.setTg_intlk (n : Nat) (x : TgSt) : (s.setTg n x).intlk = s.intlk := rfl
@[simp] theorem State.setTg_cols (n : Nat) (x : TgSt) : (s.setTg n x).cols = s.cols := rfl
@[simp] theorem State.setTg_lutAcc (n : Nat) (x : TgSt) : (s.setTg n x).lutAcc = s.lutAcc := rfl
@[simp] theorem State.setTg_cams (n : Nat) (x : TgSt) : (s.setTg n x).cams = s.cams := rfl
@[simp] theorem State.setTg_mouts (n : Nat) (x : TgSt) : (s.setTg n x).mouts = s.mouts := rfl
@[simp] theorem State.setTg_bufs (n : Nat) (x : TgSt) : (s.setTg n x).bufs = s.bufs := rfl
@[simp] theorem State.setTg_lays (n : Nat) (x : TgSt) : (s.setTg n x).lays = s.lays := rfl
@[simp] theorem State.setTg_comps (n : Nat) (x : TgSt) : (s.setTg n x).comps = s.comps := rfl
@[simp] theorem State.setTg_layCommit (n : Nat) (x : TgSt) : (s.setTg n x).layCommit = s.layCommit := rfl
@[simp] theorem State.setTg_carve (n : Nat) (x : TgSt) : (s.setTg n x).carve = s.carve := rfl
@[simp] theorem State.setTg_codecJobs (n : Nat) (x : TgSt) : (s.setTg n x).codecJobs = s.codecJobs := rfl
@[simp] theorem State.setTg_codecRecent (n : Nat) (x : TgSt) : (s.setTg n x).codecRecent = s.codecRecent := rfl
@[simp] theorem State.setTg_memc (n : Nat) (x : TgSt) : (s.setTg n x).memc = s.memc := rfl
@[simp] theorem State.setTg_intg (n : Nat) (x : TgSt) : (s.setTg n x).intg = s.intg := rfl
@[simp] theorem State.setTg_net (n : Nat) (x : TgSt) : (s.setTg n x).net = s.net := rfl
@[simp] theorem State.setTg_sent (n : Nat) (x : TgSt) : (s.setTg n x).sent = s.sent := rfl
@[simp] theorem State.setTg_resil (n : Nat) (x : TgSt) : (s.setTg n x).resil = s.resil := rfl
@[simp] theorem State.setTg_hier (n : Nat) (x : TgSt) : (s.setTg n x).hier = s.hier := rfl
@[simp] theorem State.setTg_loops (n : Nat) (x : TgSt) : (s.setTg n x).loops = s.loops := rfl
@[simp] theorem State.setTg_loopSets (n : Nat) (x : TgSt) : (s.setTg n x).loopSets = s.loopSets := rfl
@[simp] theorem State.setTg_cal (n : Nat) (x : TgSt) : (s.setTg n x).cal = s.cal := rfl
@[simp] theorem State.setTg_power (n : Nat) (x : TgSt) : (s.setTg n x).power = s.power := rfl
@[simp] theorem State.setTg_sec (n : Nat) (x : TgSt) : (s.setTg n x).sec = s.sec := rfl
@[simp] theorem State.setTg_obj (n : Nat) (x : TgSt) (z : Nat) : (s.setTg n x).obj z = s.obj z := rfl
@[simp] theorem State.setTg_blob (n : Nat) (x : TgSt) (z : Nat) : (s.setTg n x).blob z = s.blob z := rfl
@[simp] theorem State.setTg_byte (n : Nat) (x : TgSt) (z : Nat) : (s.setTg n x).byte z = s.byte z := rfl
@[simp] theorem State.setTg_evCount (n : Nat) (x : TgSt) (z : Nat) : (s.setTg n x).evCount z = s.evCount z := rfl
@[simp] theorem State.setTg_slm (n : Nat) (x : TgSt) (z : Nat) : (s.setTg n x).slm z = s.slm z := rfl
@[simp] theorem State.setTg_bank (n : Nat) (x : TgSt) (z : Nat) : (s.setTg n x).bank z = s.bank z := rfl
@[simp] theorem State.setTg_wire (n : Nat) (x : TgSt) (z : Nat) : (s.setTg n x).wire z = s.wire z := rfl
@[simp] theorem State.setTg_col (n : Nat) (x : TgSt) (z : Nat) : (s.setTg n x).col z = s.col z := rfl
@[simp] theorem State.setTg_cam (n : Nat) (x : TgSt) (z : Nat) : (s.setTg n x).cam z = s.cam z := rfl
@[simp] theorem State.setTg_mout (n : Nat) (x : TgSt) (z : Nat) : (s.setTg n x).mout z = s.mout z := rfl
@[simp] theorem State.setTg_buf (n : Nat) (x : TgSt) (z : Nat) : (s.setTg n x).buf z = s.buf z := rfl
@[simp] theorem State.setTg_lay (n : Nat) (x : TgSt) (z : Nat) : (s.setTg n x).lay z = s.lay z := rfl
@[simp] theorem State.setTg_comp (n : Nat) (x : TgSt) (z : Nat) : (s.setTg n x).comp z = s.comp z := rfl
@[simp] theorem State.setTg_loop (n : Nat) (x : TgSt) (z : Nat) : (s.setTg n x).loop z = s.loop z := rfl
@[simp] theorem State.setTg_loopSet (n : Nat) (x : TgSt) (z : Nat) : (s.setTg n x).loopSet z = s.loopSet z := rfl

/-! ### setSlm -/

@[simp] theorem State.setSlm_pending (n : Nat) (x : SlmSt) : (s.setSlm n x).pending = s.pending := rfl
@[simp] theorem State.setSlm_tick (n : Nat) (x : SlmSt) : (s.setSlm n x).tick = s.tick := rfl
@[simp] theorem State.setSlm_free (n : Nat) (x : SlmSt) : (s.setSlm n x).free = s.free := rfl
@[simp] theorem State.setSlm_objs (n : Nat) (x : SlmSt) : (s.setSlm n x).objs = s.objs := rfl
@[simp] theorem State.setSlm_blobs (n : Nat) (x : SlmSt) : (s.setSlm n x).blobs = s.blobs := rfl
@[simp] theorem State.setSlm_mem (n : Nat) (x : SlmSt) : (s.setSlm n x).mem = s.mem := rfl
@[simp] theorem State.setSlm_tx (n : Nat) (x : SlmSt) : (s.setSlm n x).tx = s.tx := rfl
@[simp] theorem State.setSlm_ev (n : Nat) (x : SlmSt) : (s.setSlm n x).ev = s.ev := rfl
@[simp] theorem State.setSlm_time (n : Nat) (x : SlmSt) : (s.setSlm n x).time = s.time := rfl
@[simp] theorem State.setSlm_tgs (n : Nat) (x : SlmSt) : (s.setSlm n x).tgs = s.tgs := rfl
@[simp] theorem State.setSlm_banks (n : Nat) (x : SlmSt) : (s.setSlm n x).banks = s.banks := rfl
@[simp] theorem State.setSlm_wires (n : Nat) (x : SlmSt) : (s.setSlm n x).wires = s.wires := rfl
@[simp] theorem State.setSlm_intlk (n : Nat) (x : SlmSt) : (s.setSlm n x).intlk = s.intlk := rfl
@[simp] theorem State.setSlm_cols (n : Nat) (x : SlmSt) : (s.setSlm n x).cols = s.cols := rfl
@[simp] theorem State.setSlm_lutAcc (n : Nat) (x : SlmSt) : (s.setSlm n x).lutAcc = s.lutAcc := rfl
@[simp] theorem State.setSlm_cams (n : Nat) (x : SlmSt) : (s.setSlm n x).cams = s.cams := rfl
@[simp] theorem State.setSlm_mouts (n : Nat) (x : SlmSt) : (s.setSlm n x).mouts = s.mouts := rfl
@[simp] theorem State.setSlm_bufs (n : Nat) (x : SlmSt) : (s.setSlm n x).bufs = s.bufs := rfl
@[simp] theorem State.setSlm_lays (n : Nat) (x : SlmSt) : (s.setSlm n x).lays = s.lays := rfl
@[simp] theorem State.setSlm_comps (n : Nat) (x : SlmSt) : (s.setSlm n x).comps = s.comps := rfl
@[simp] theorem State.setSlm_layCommit (n : Nat) (x : SlmSt) : (s.setSlm n x).layCommit = s.layCommit := rfl
@[simp] theorem State.setSlm_carve (n : Nat) (x : SlmSt) : (s.setSlm n x).carve = s.carve := rfl
@[simp] theorem State.setSlm_codecJobs (n : Nat) (x : SlmSt) : (s.setSlm n x).codecJobs = s.codecJobs := rfl
@[simp] theorem State.setSlm_codecRecent (n : Nat) (x : SlmSt) : (s.setSlm n x).codecRecent = s.codecRecent := rfl
@[simp] theorem State.setSlm_memc (n : Nat) (x : SlmSt) : (s.setSlm n x).memc = s.memc := rfl
@[simp] theorem State.setSlm_intg (n : Nat) (x : SlmSt) : (s.setSlm n x).intg = s.intg := rfl
@[simp] theorem State.setSlm_net (n : Nat) (x : SlmSt) : (s.setSlm n x).net = s.net := rfl
@[simp] theorem State.setSlm_sent (n : Nat) (x : SlmSt) : (s.setSlm n x).sent = s.sent := rfl
@[simp] theorem State.setSlm_resil (n : Nat) (x : SlmSt) : (s.setSlm n x).resil = s.resil := rfl
@[simp] theorem State.setSlm_hier (n : Nat) (x : SlmSt) : (s.setSlm n x).hier = s.hier := rfl
@[simp] theorem State.setSlm_loops (n : Nat) (x : SlmSt) : (s.setSlm n x).loops = s.loops := rfl
@[simp] theorem State.setSlm_loopSets (n : Nat) (x : SlmSt) : (s.setSlm n x).loopSets = s.loopSets := rfl
@[simp] theorem State.setSlm_cal (n : Nat) (x : SlmSt) : (s.setSlm n x).cal = s.cal := rfl
@[simp] theorem State.setSlm_power (n : Nat) (x : SlmSt) : (s.setSlm n x).power = s.power := rfl
@[simp] theorem State.setSlm_sec (n : Nat) (x : SlmSt) : (s.setSlm n x).sec = s.sec := rfl
@[simp] theorem State.setSlm_obj (n : Nat) (x : SlmSt) (z : Nat) : (s.setSlm n x).obj z = s.obj z := rfl
@[simp] theorem State.setSlm_blob (n : Nat) (x : SlmSt) (z : Nat) : (s.setSlm n x).blob z = s.blob z := rfl
@[simp] theorem State.setSlm_byte (n : Nat) (x : SlmSt) (z : Nat) : (s.setSlm n x).byte z = s.byte z := rfl
@[simp] theorem State.setSlm_evCount (n : Nat) (x : SlmSt) (z : Nat) : (s.setSlm n x).evCount z = s.evCount z := rfl
@[simp] theorem State.setSlm_tg (n : Nat) (x : SlmSt) (z : Nat) : (s.setSlm n x).tg z = s.tg z := rfl
@[simp] theorem State.setSlm_bank (n : Nat) (x : SlmSt) (z : Nat) : (s.setSlm n x).bank z = s.bank z := rfl
@[simp] theorem State.setSlm_wire (n : Nat) (x : SlmSt) (z : Nat) : (s.setSlm n x).wire z = s.wire z := rfl
@[simp] theorem State.setSlm_col (n : Nat) (x : SlmSt) (z : Nat) : (s.setSlm n x).col z = s.col z := rfl
@[simp] theorem State.setSlm_cam (n : Nat) (x : SlmSt) (z : Nat) : (s.setSlm n x).cam z = s.cam z := rfl
@[simp] theorem State.setSlm_mout (n : Nat) (x : SlmSt) (z : Nat) : (s.setSlm n x).mout z = s.mout z := rfl
@[simp] theorem State.setSlm_buf (n : Nat) (x : SlmSt) (z : Nat) : (s.setSlm n x).buf z = s.buf z := rfl
@[simp] theorem State.setSlm_lay (n : Nat) (x : SlmSt) (z : Nat) : (s.setSlm n x).lay z = s.lay z := rfl
@[simp] theorem State.setSlm_comp (n : Nat) (x : SlmSt) (z : Nat) : (s.setSlm n x).comp z = s.comp z := rfl
@[simp] theorem State.setSlm_loop (n : Nat) (x : SlmSt) (z : Nat) : (s.setSlm n x).loop z = s.loop z := rfl
@[simp] theorem State.setSlm_loopSet (n : Nat) (x : SlmSt) (z : Nat) : (s.setSlm n x).loopSet z = s.loopSet z := rfl

/-! ### setBank -/

@[simp] theorem State.setBank_pending (n : Nat) (x : BankSt) : (s.setBank n x).pending = s.pending := rfl
@[simp] theorem State.setBank_tick (n : Nat) (x : BankSt) : (s.setBank n x).tick = s.tick := rfl
@[simp] theorem State.setBank_free (n : Nat) (x : BankSt) : (s.setBank n x).free = s.free := rfl
@[simp] theorem State.setBank_objs (n : Nat) (x : BankSt) : (s.setBank n x).objs = s.objs := rfl
@[simp] theorem State.setBank_blobs (n : Nat) (x : BankSt) : (s.setBank n x).blobs = s.blobs := rfl
@[simp] theorem State.setBank_mem (n : Nat) (x : BankSt) : (s.setBank n x).mem = s.mem := rfl
@[simp] theorem State.setBank_tx (n : Nat) (x : BankSt) : (s.setBank n x).tx = s.tx := rfl
@[simp] theorem State.setBank_ev (n : Nat) (x : BankSt) : (s.setBank n x).ev = s.ev := rfl
@[simp] theorem State.setBank_time (n : Nat) (x : BankSt) : (s.setBank n x).time = s.time := rfl
@[simp] theorem State.setBank_tgs (n : Nat) (x : BankSt) : (s.setBank n x).tgs = s.tgs := rfl
@[simp] theorem State.setBank_slms (n : Nat) (x : BankSt) : (s.setBank n x).slms = s.slms := rfl
@[simp] theorem State.setBank_wires (n : Nat) (x : BankSt) : (s.setBank n x).wires = s.wires := rfl
@[simp] theorem State.setBank_intlk (n : Nat) (x : BankSt) : (s.setBank n x).intlk = s.intlk := rfl
@[simp] theorem State.setBank_cols (n : Nat) (x : BankSt) : (s.setBank n x).cols = s.cols := rfl
@[simp] theorem State.setBank_lutAcc (n : Nat) (x : BankSt) : (s.setBank n x).lutAcc = s.lutAcc := rfl
@[simp] theorem State.setBank_cams (n : Nat) (x : BankSt) : (s.setBank n x).cams = s.cams := rfl
@[simp] theorem State.setBank_mouts (n : Nat) (x : BankSt) : (s.setBank n x).mouts = s.mouts := rfl
@[simp] theorem State.setBank_bufs (n : Nat) (x : BankSt) : (s.setBank n x).bufs = s.bufs := rfl
@[simp] theorem State.setBank_lays (n : Nat) (x : BankSt) : (s.setBank n x).lays = s.lays := rfl
@[simp] theorem State.setBank_comps (n : Nat) (x : BankSt) : (s.setBank n x).comps = s.comps := rfl
@[simp] theorem State.setBank_layCommit (n : Nat) (x : BankSt) : (s.setBank n x).layCommit = s.layCommit := rfl
@[simp] theorem State.setBank_carve (n : Nat) (x : BankSt) : (s.setBank n x).carve = s.carve := rfl
@[simp] theorem State.setBank_codecJobs (n : Nat) (x : BankSt) : (s.setBank n x).codecJobs = s.codecJobs := rfl
@[simp] theorem State.setBank_codecRecent (n : Nat) (x : BankSt) : (s.setBank n x).codecRecent = s.codecRecent := rfl
@[simp] theorem State.setBank_memc (n : Nat) (x : BankSt) : (s.setBank n x).memc = s.memc := rfl
@[simp] theorem State.setBank_intg (n : Nat) (x : BankSt) : (s.setBank n x).intg = s.intg := rfl
@[simp] theorem State.setBank_net (n : Nat) (x : BankSt) : (s.setBank n x).net = s.net := rfl
@[simp] theorem State.setBank_sent (n : Nat) (x : BankSt) : (s.setBank n x).sent = s.sent := rfl
@[simp] theorem State.setBank_resil (n : Nat) (x : BankSt) : (s.setBank n x).resil = s.resil := rfl
@[simp] theorem State.setBank_hier (n : Nat) (x : BankSt) : (s.setBank n x).hier = s.hier := rfl
@[simp] theorem State.setBank_loops (n : Nat) (x : BankSt) : (s.setBank n x).loops = s.loops := rfl
@[simp] theorem State.setBank_loopSets (n : Nat) (x : BankSt) : (s.setBank n x).loopSets = s.loopSets := rfl
@[simp] theorem State.setBank_cal (n : Nat) (x : BankSt) : (s.setBank n x).cal = s.cal := rfl
@[simp] theorem State.setBank_power (n : Nat) (x : BankSt) : (s.setBank n x).power = s.power := rfl
@[simp] theorem State.setBank_sec (n : Nat) (x : BankSt) : (s.setBank n x).sec = s.sec := rfl
@[simp] theorem State.setBank_obj (n : Nat) (x : BankSt) (z : Nat) : (s.setBank n x).obj z = s.obj z := rfl
@[simp] theorem State.setBank_blob (n : Nat) (x : BankSt) (z : Nat) : (s.setBank n x).blob z = s.blob z := rfl
@[simp] theorem State.setBank_byte (n : Nat) (x : BankSt) (z : Nat) : (s.setBank n x).byte z = s.byte z := rfl
@[simp] theorem State.setBank_evCount (n : Nat) (x : BankSt) (z : Nat) : (s.setBank n x).evCount z = s.evCount z := rfl
@[simp] theorem State.setBank_tg (n : Nat) (x : BankSt) (z : Nat) : (s.setBank n x).tg z = s.tg z := rfl
@[simp] theorem State.setBank_slm (n : Nat) (x : BankSt) (z : Nat) : (s.setBank n x).slm z = s.slm z := rfl
@[simp] theorem State.setBank_wire (n : Nat) (x : BankSt) (z : Nat) : (s.setBank n x).wire z = s.wire z := rfl
@[simp] theorem State.setBank_col (n : Nat) (x : BankSt) (z : Nat) : (s.setBank n x).col z = s.col z := rfl
@[simp] theorem State.setBank_cam (n : Nat) (x : BankSt) (z : Nat) : (s.setBank n x).cam z = s.cam z := rfl
@[simp] theorem State.setBank_mout (n : Nat) (x : BankSt) (z : Nat) : (s.setBank n x).mout z = s.mout z := rfl
@[simp] theorem State.setBank_buf (n : Nat) (x : BankSt) (z : Nat) : (s.setBank n x).buf z = s.buf z := rfl
@[simp] theorem State.setBank_lay (n : Nat) (x : BankSt) (z : Nat) : (s.setBank n x).lay z = s.lay z := rfl
@[simp] theorem State.setBank_comp (n : Nat) (x : BankSt) (z : Nat) : (s.setBank n x).comp z = s.comp z := rfl
@[simp] theorem State.setBank_loop (n : Nat) (x : BankSt) (z : Nat) : (s.setBank n x).loop z = s.loop z := rfl
@[simp] theorem State.setBank_loopSet (n : Nat) (x : BankSt) (z : Nat) : (s.setBank n x).loopSet z = s.loopSet z := rfl

/-! ### setWire -/

@[simp] theorem State.setWire_pending (n : Nat) (x : WireSt) : (s.setWire n x).pending = s.pending := rfl
@[simp] theorem State.setWire_tick (n : Nat) (x : WireSt) : (s.setWire n x).tick = s.tick := rfl
@[simp] theorem State.setWire_free (n : Nat) (x : WireSt) : (s.setWire n x).free = s.free := rfl
@[simp] theorem State.setWire_objs (n : Nat) (x : WireSt) : (s.setWire n x).objs = s.objs := rfl
@[simp] theorem State.setWire_blobs (n : Nat) (x : WireSt) : (s.setWire n x).blobs = s.blobs := rfl
@[simp] theorem State.setWire_mem (n : Nat) (x : WireSt) : (s.setWire n x).mem = s.mem := rfl
@[simp] theorem State.setWire_tx (n : Nat) (x : WireSt) : (s.setWire n x).tx = s.tx := rfl
@[simp] theorem State.setWire_ev (n : Nat) (x : WireSt) : (s.setWire n x).ev = s.ev := rfl
@[simp] theorem State.setWire_time (n : Nat) (x : WireSt) : (s.setWire n x).time = s.time := rfl
@[simp] theorem State.setWire_tgs (n : Nat) (x : WireSt) : (s.setWire n x).tgs = s.tgs := rfl
@[simp] theorem State.setWire_slms (n : Nat) (x : WireSt) : (s.setWire n x).slms = s.slms := rfl
@[simp] theorem State.setWire_banks (n : Nat) (x : WireSt) : (s.setWire n x).banks = s.banks := rfl
@[simp] theorem State.setWire_intlk (n : Nat) (x : WireSt) : (s.setWire n x).intlk = s.intlk := rfl
@[simp] theorem State.setWire_cols (n : Nat) (x : WireSt) : (s.setWire n x).cols = s.cols := rfl
@[simp] theorem State.setWire_lutAcc (n : Nat) (x : WireSt) : (s.setWire n x).lutAcc = s.lutAcc := rfl
@[simp] theorem State.setWire_cams (n : Nat) (x : WireSt) : (s.setWire n x).cams = s.cams := rfl
@[simp] theorem State.setWire_mouts (n : Nat) (x : WireSt) : (s.setWire n x).mouts = s.mouts := rfl
@[simp] theorem State.setWire_bufs (n : Nat) (x : WireSt) : (s.setWire n x).bufs = s.bufs := rfl
@[simp] theorem State.setWire_lays (n : Nat) (x : WireSt) : (s.setWire n x).lays = s.lays := rfl
@[simp] theorem State.setWire_comps (n : Nat) (x : WireSt) : (s.setWire n x).comps = s.comps := rfl
@[simp] theorem State.setWire_layCommit (n : Nat) (x : WireSt) : (s.setWire n x).layCommit = s.layCommit := rfl
@[simp] theorem State.setWire_carve (n : Nat) (x : WireSt) : (s.setWire n x).carve = s.carve := rfl
@[simp] theorem State.setWire_codecJobs (n : Nat) (x : WireSt) : (s.setWire n x).codecJobs = s.codecJobs := rfl
@[simp] theorem State.setWire_codecRecent (n : Nat) (x : WireSt) : (s.setWire n x).codecRecent = s.codecRecent := rfl
@[simp] theorem State.setWire_memc (n : Nat) (x : WireSt) : (s.setWire n x).memc = s.memc := rfl
@[simp] theorem State.setWire_intg (n : Nat) (x : WireSt) : (s.setWire n x).intg = s.intg := rfl
@[simp] theorem State.setWire_net (n : Nat) (x : WireSt) : (s.setWire n x).net = s.net := rfl
@[simp] theorem State.setWire_sent (n : Nat) (x : WireSt) : (s.setWire n x).sent = s.sent := rfl
@[simp] theorem State.setWire_resil (n : Nat) (x : WireSt) : (s.setWire n x).resil = s.resil := rfl
@[simp] theorem State.setWire_hier (n : Nat) (x : WireSt) : (s.setWire n x).hier = s.hier := rfl
@[simp] theorem State.setWire_loops (n : Nat) (x : WireSt) : (s.setWire n x).loops = s.loops := rfl
@[simp] theorem State.setWire_loopSets (n : Nat) (x : WireSt) : (s.setWire n x).loopSets = s.loopSets := rfl
@[simp] theorem State.setWire_cal (n : Nat) (x : WireSt) : (s.setWire n x).cal = s.cal := rfl
@[simp] theorem State.setWire_power (n : Nat) (x : WireSt) : (s.setWire n x).power = s.power := rfl
@[simp] theorem State.setWire_sec (n : Nat) (x : WireSt) : (s.setWire n x).sec = s.sec := rfl
@[simp] theorem State.setWire_obj (n : Nat) (x : WireSt) (z : Nat) : (s.setWire n x).obj z = s.obj z := rfl
@[simp] theorem State.setWire_blob (n : Nat) (x : WireSt) (z : Nat) : (s.setWire n x).blob z = s.blob z := rfl
@[simp] theorem State.setWire_byte (n : Nat) (x : WireSt) (z : Nat) : (s.setWire n x).byte z = s.byte z := rfl
@[simp] theorem State.setWire_evCount (n : Nat) (x : WireSt) (z : Nat) : (s.setWire n x).evCount z = s.evCount z := rfl
@[simp] theorem State.setWire_tg (n : Nat) (x : WireSt) (z : Nat) : (s.setWire n x).tg z = s.tg z := rfl
@[simp] theorem State.setWire_slm (n : Nat) (x : WireSt) (z : Nat) : (s.setWire n x).slm z = s.slm z := rfl
@[simp] theorem State.setWire_bank (n : Nat) (x : WireSt) (z : Nat) : (s.setWire n x).bank z = s.bank z := rfl
@[simp] theorem State.setWire_col (n : Nat) (x : WireSt) (z : Nat) : (s.setWire n x).col z = s.col z := rfl
@[simp] theorem State.setWire_cam (n : Nat) (x : WireSt) (z : Nat) : (s.setWire n x).cam z = s.cam z := rfl
@[simp] theorem State.setWire_mout (n : Nat) (x : WireSt) (z : Nat) : (s.setWire n x).mout z = s.mout z := rfl
@[simp] theorem State.setWire_buf (n : Nat) (x : WireSt) (z : Nat) : (s.setWire n x).buf z = s.buf z := rfl
@[simp] theorem State.setWire_lay (n : Nat) (x : WireSt) (z : Nat) : (s.setWire n x).lay z = s.lay z := rfl
@[simp] theorem State.setWire_comp (n : Nat) (x : WireSt) (z : Nat) : (s.setWire n x).comp z = s.comp z := rfl
@[simp] theorem State.setWire_loop (n : Nat) (x : WireSt) (z : Nat) : (s.setWire n x).loop z = s.loop z := rfl
@[simp] theorem State.setWire_loopSet (n : Nat) (x : WireSt) (z : Nat) : (s.setWire n x).loopSet z = s.loopSet z := rfl

/-! ### setCol -/

@[simp] theorem State.setCol_pending (n : Nat) (x : ColSt) : (s.setCol n x).pending = s.pending := rfl
@[simp] theorem State.setCol_tick (n : Nat) (x : ColSt) : (s.setCol n x).tick = s.tick := rfl
@[simp] theorem State.setCol_free (n : Nat) (x : ColSt) : (s.setCol n x).free = s.free := rfl
@[simp] theorem State.setCol_objs (n : Nat) (x : ColSt) : (s.setCol n x).objs = s.objs := rfl
@[simp] theorem State.setCol_blobs (n : Nat) (x : ColSt) : (s.setCol n x).blobs = s.blobs := rfl
@[simp] theorem State.setCol_mem (n : Nat) (x : ColSt) : (s.setCol n x).mem = s.mem := rfl
@[simp] theorem State.setCol_tx (n : Nat) (x : ColSt) : (s.setCol n x).tx = s.tx := rfl
@[simp] theorem State.setCol_ev (n : Nat) (x : ColSt) : (s.setCol n x).ev = s.ev := rfl
@[simp] theorem State.setCol_time (n : Nat) (x : ColSt) : (s.setCol n x).time = s.time := rfl
@[simp] theorem State.setCol_tgs (n : Nat) (x : ColSt) : (s.setCol n x).tgs = s.tgs := rfl
@[simp] theorem State.setCol_slms (n : Nat) (x : ColSt) : (s.setCol n x).slms = s.slms := rfl
@[simp] theorem State.setCol_banks (n : Nat) (x : ColSt) : (s.setCol n x).banks = s.banks := rfl
@[simp] theorem State.setCol_wires (n : Nat) (x : ColSt) : (s.setCol n x).wires = s.wires := rfl
@[simp] theorem State.setCol_intlk (n : Nat) (x : ColSt) : (s.setCol n x).intlk = s.intlk := rfl
@[simp] theorem State.setCol_lutAcc (n : Nat) (x : ColSt) : (s.setCol n x).lutAcc = s.lutAcc := rfl
@[simp] theorem State.setCol_cams (n : Nat) (x : ColSt) : (s.setCol n x).cams = s.cams := rfl
@[simp] theorem State.setCol_mouts (n : Nat) (x : ColSt) : (s.setCol n x).mouts = s.mouts := rfl
@[simp] theorem State.setCol_bufs (n : Nat) (x : ColSt) : (s.setCol n x).bufs = s.bufs := rfl
@[simp] theorem State.setCol_lays (n : Nat) (x : ColSt) : (s.setCol n x).lays = s.lays := rfl
@[simp] theorem State.setCol_comps (n : Nat) (x : ColSt) : (s.setCol n x).comps = s.comps := rfl
@[simp] theorem State.setCol_layCommit (n : Nat) (x : ColSt) : (s.setCol n x).layCommit = s.layCommit := rfl
@[simp] theorem State.setCol_carve (n : Nat) (x : ColSt) : (s.setCol n x).carve = s.carve := rfl
@[simp] theorem State.setCol_codecJobs (n : Nat) (x : ColSt) : (s.setCol n x).codecJobs = s.codecJobs := rfl
@[simp] theorem State.setCol_codecRecent (n : Nat) (x : ColSt) : (s.setCol n x).codecRecent = s.codecRecent := rfl
@[simp] theorem State.setCol_memc (n : Nat) (x : ColSt) : (s.setCol n x).memc = s.memc := rfl
@[simp] theorem State.setCol_intg (n : Nat) (x : ColSt) : (s.setCol n x).intg = s.intg := rfl
@[simp] theorem State.setCol_net (n : Nat) (x : ColSt) : (s.setCol n x).net = s.net := rfl
@[simp] theorem State.setCol_sent (n : Nat) (x : ColSt) : (s.setCol n x).sent = s.sent := rfl
@[simp] theorem State.setCol_resil (n : Nat) (x : ColSt) : (s.setCol n x).resil = s.resil := rfl
@[simp] theorem State.setCol_hier (n : Nat) (x : ColSt) : (s.setCol n x).hier = s.hier := rfl
@[simp] theorem State.setCol_loops (n : Nat) (x : ColSt) : (s.setCol n x).loops = s.loops := rfl
@[simp] theorem State.setCol_loopSets (n : Nat) (x : ColSt) : (s.setCol n x).loopSets = s.loopSets := rfl
@[simp] theorem State.setCol_cal (n : Nat) (x : ColSt) : (s.setCol n x).cal = s.cal := rfl
@[simp] theorem State.setCol_power (n : Nat) (x : ColSt) : (s.setCol n x).power = s.power := rfl
@[simp] theorem State.setCol_sec (n : Nat) (x : ColSt) : (s.setCol n x).sec = s.sec := rfl
@[simp] theorem State.setCol_obj (n : Nat) (x : ColSt) (z : Nat) : (s.setCol n x).obj z = s.obj z := rfl
@[simp] theorem State.setCol_blob (n : Nat) (x : ColSt) (z : Nat) : (s.setCol n x).blob z = s.blob z := rfl
@[simp] theorem State.setCol_byte (n : Nat) (x : ColSt) (z : Nat) : (s.setCol n x).byte z = s.byte z := rfl
@[simp] theorem State.setCol_evCount (n : Nat) (x : ColSt) (z : Nat) : (s.setCol n x).evCount z = s.evCount z := rfl
@[simp] theorem State.setCol_tg (n : Nat) (x : ColSt) (z : Nat) : (s.setCol n x).tg z = s.tg z := rfl
@[simp] theorem State.setCol_slm (n : Nat) (x : ColSt) (z : Nat) : (s.setCol n x).slm z = s.slm z := rfl
@[simp] theorem State.setCol_bank (n : Nat) (x : ColSt) (z : Nat) : (s.setCol n x).bank z = s.bank z := rfl
@[simp] theorem State.setCol_wire (n : Nat) (x : ColSt) (z : Nat) : (s.setCol n x).wire z = s.wire z := rfl
@[simp] theorem State.setCol_cam (n : Nat) (x : ColSt) (z : Nat) : (s.setCol n x).cam z = s.cam z := rfl
@[simp] theorem State.setCol_mout (n : Nat) (x : ColSt) (z : Nat) : (s.setCol n x).mout z = s.mout z := rfl
@[simp] theorem State.setCol_buf (n : Nat) (x : ColSt) (z : Nat) : (s.setCol n x).buf z = s.buf z := rfl
@[simp] theorem State.setCol_lay (n : Nat) (x : ColSt) (z : Nat) : (s.setCol n x).lay z = s.lay z := rfl
@[simp] theorem State.setCol_comp (n : Nat) (x : ColSt) (z : Nat) : (s.setCol n x).comp z = s.comp z := rfl
@[simp] theorem State.setCol_loop (n : Nat) (x : ColSt) (z : Nat) : (s.setCol n x).loop z = s.loop z := rfl
@[simp] theorem State.setCol_loopSet (n : Nat) (x : ColSt) (z : Nat) : (s.setCol n x).loopSet z = s.loopSet z := rfl

/-! ### setCam -/

@[simp] theorem State.setCam_pending (n : Nat) (x : CamSt) : (s.setCam n x).pending = s.pending := rfl
@[simp] theorem State.setCam_tick (n : Nat) (x : CamSt) : (s.setCam n x).tick = s.tick := rfl
@[simp] theorem State.setCam_free (n : Nat) (x : CamSt) : (s.setCam n x).free = s.free := rfl
@[simp] theorem State.setCam_objs (n : Nat) (x : CamSt) : (s.setCam n x).objs = s.objs := rfl
@[simp] theorem State.setCam_blobs (n : Nat) (x : CamSt) : (s.setCam n x).blobs = s.blobs := rfl
@[simp] theorem State.setCam_mem (n : Nat) (x : CamSt) : (s.setCam n x).mem = s.mem := rfl
@[simp] theorem State.setCam_tx (n : Nat) (x : CamSt) : (s.setCam n x).tx = s.tx := rfl
@[simp] theorem State.setCam_ev (n : Nat) (x : CamSt) : (s.setCam n x).ev = s.ev := rfl
@[simp] theorem State.setCam_time (n : Nat) (x : CamSt) : (s.setCam n x).time = s.time := rfl
@[simp] theorem State.setCam_tgs (n : Nat) (x : CamSt) : (s.setCam n x).tgs = s.tgs := rfl
@[simp] theorem State.setCam_slms (n : Nat) (x : CamSt) : (s.setCam n x).slms = s.slms := rfl
@[simp] theorem State.setCam_banks (n : Nat) (x : CamSt) : (s.setCam n x).banks = s.banks := rfl
@[simp] theorem State.setCam_wires (n : Nat) (x : CamSt) : (s.setCam n x).wires = s.wires := rfl
@[simp] theorem State.setCam_intlk (n : Nat) (x : CamSt) : (s.setCam n x).intlk = s.intlk := rfl
@[simp] theorem State.setCam_cols (n : Nat) (x : CamSt) : (s.setCam n x).cols = s.cols := rfl
@[simp] theorem State.setCam_lutAcc (n : Nat) (x : CamSt) : (s.setCam n x).lutAcc = s.lutAcc := rfl
@[simp] theorem State.setCam_mouts (n : Nat) (x : CamSt) : (s.setCam n x).mouts = s.mouts := rfl
@[simp] theorem State.setCam_bufs (n : Nat) (x : CamSt) : (s.setCam n x).bufs = s.bufs := rfl
@[simp] theorem State.setCam_lays (n : Nat) (x : CamSt) : (s.setCam n x).lays = s.lays := rfl
@[simp] theorem State.setCam_comps (n : Nat) (x : CamSt) : (s.setCam n x).comps = s.comps := rfl
@[simp] theorem State.setCam_layCommit (n : Nat) (x : CamSt) : (s.setCam n x).layCommit = s.layCommit := rfl
@[simp] theorem State.setCam_carve (n : Nat) (x : CamSt) : (s.setCam n x).carve = s.carve := rfl
@[simp] theorem State.setCam_codecJobs (n : Nat) (x : CamSt) : (s.setCam n x).codecJobs = s.codecJobs := rfl
@[simp] theorem State.setCam_codecRecent (n : Nat) (x : CamSt) : (s.setCam n x).codecRecent = s.codecRecent := rfl
@[simp] theorem State.setCam_memc (n : Nat) (x : CamSt) : (s.setCam n x).memc = s.memc := rfl
@[simp] theorem State.setCam_intg (n : Nat) (x : CamSt) : (s.setCam n x).intg = s.intg := rfl
@[simp] theorem State.setCam_net (n : Nat) (x : CamSt) : (s.setCam n x).net = s.net := rfl
@[simp] theorem State.setCam_sent (n : Nat) (x : CamSt) : (s.setCam n x).sent = s.sent := rfl
@[simp] theorem State.setCam_resil (n : Nat) (x : CamSt) : (s.setCam n x).resil = s.resil := rfl
@[simp] theorem State.setCam_hier (n : Nat) (x : CamSt) : (s.setCam n x).hier = s.hier := rfl
@[simp] theorem State.setCam_loops (n : Nat) (x : CamSt) : (s.setCam n x).loops = s.loops := rfl
@[simp] theorem State.setCam_loopSets (n : Nat) (x : CamSt) : (s.setCam n x).loopSets = s.loopSets := rfl
@[simp] theorem State.setCam_cal (n : Nat) (x : CamSt) : (s.setCam n x).cal = s.cal := rfl
@[simp] theorem State.setCam_power (n : Nat) (x : CamSt) : (s.setCam n x).power = s.power := rfl
@[simp] theorem State.setCam_sec (n : Nat) (x : CamSt) : (s.setCam n x).sec = s.sec := rfl
@[simp] theorem State.setCam_obj (n : Nat) (x : CamSt) (z : Nat) : (s.setCam n x).obj z = s.obj z := rfl
@[simp] theorem State.setCam_blob (n : Nat) (x : CamSt) (z : Nat) : (s.setCam n x).blob z = s.blob z := rfl
@[simp] theorem State.setCam_byte (n : Nat) (x : CamSt) (z : Nat) : (s.setCam n x).byte z = s.byte z := rfl
@[simp] theorem State.setCam_evCount (n : Nat) (x : CamSt) (z : Nat) : (s.setCam n x).evCount z = s.evCount z := rfl
@[simp] theorem State.setCam_tg (n : Nat) (x : CamSt) (z : Nat) : (s.setCam n x).tg z = s.tg z := rfl
@[simp] theorem State.setCam_slm (n : Nat) (x : CamSt) (z : Nat) : (s.setCam n x).slm z = s.slm z := rfl
@[simp] theorem State.setCam_bank (n : Nat) (x : CamSt) (z : Nat) : (s.setCam n x).bank z = s.bank z := rfl
@[simp] theorem State.setCam_wire (n : Nat) (x : CamSt) (z : Nat) : (s.setCam n x).wire z = s.wire z := rfl
@[simp] theorem State.setCam_col (n : Nat) (x : CamSt) (z : Nat) : (s.setCam n x).col z = s.col z := rfl
@[simp] theorem State.setCam_mout (n : Nat) (x : CamSt) (z : Nat) : (s.setCam n x).mout z = s.mout z := rfl
@[simp] theorem State.setCam_buf (n : Nat) (x : CamSt) (z : Nat) : (s.setCam n x).buf z = s.buf z := rfl
@[simp] theorem State.setCam_lay (n : Nat) (x : CamSt) (z : Nat) : (s.setCam n x).lay z = s.lay z := rfl
@[simp] theorem State.setCam_comp (n : Nat) (x : CamSt) (z : Nat) : (s.setCam n x).comp z = s.comp z := rfl
@[simp] theorem State.setCam_loop (n : Nat) (x : CamSt) (z : Nat) : (s.setCam n x).loop z = s.loop z := rfl
@[simp] theorem State.setCam_loopSet (n : Nat) (x : CamSt) (z : Nat) : (s.setCam n x).loopSet z = s.loopSet z := rfl

/-! ### setMout -/

@[simp] theorem State.setMout_pending (n : Nat) (x : MoutSt) : (s.setMout n x).pending = s.pending := rfl
@[simp] theorem State.setMout_tick (n : Nat) (x : MoutSt) : (s.setMout n x).tick = s.tick := rfl
@[simp] theorem State.setMout_free (n : Nat) (x : MoutSt) : (s.setMout n x).free = s.free := rfl
@[simp] theorem State.setMout_objs (n : Nat) (x : MoutSt) : (s.setMout n x).objs = s.objs := rfl
@[simp] theorem State.setMout_blobs (n : Nat) (x : MoutSt) : (s.setMout n x).blobs = s.blobs := rfl
@[simp] theorem State.setMout_mem (n : Nat) (x : MoutSt) : (s.setMout n x).mem = s.mem := rfl
@[simp] theorem State.setMout_tx (n : Nat) (x : MoutSt) : (s.setMout n x).tx = s.tx := rfl
@[simp] theorem State.setMout_ev (n : Nat) (x : MoutSt) : (s.setMout n x).ev = s.ev := rfl
@[simp] theorem State.setMout_time (n : Nat) (x : MoutSt) : (s.setMout n x).time = s.time := rfl
@[simp] theorem State.setMout_tgs (n : Nat) (x : MoutSt) : (s.setMout n x).tgs = s.tgs := rfl
@[simp] theorem State.setMout_slms (n : Nat) (x : MoutSt) : (s.setMout n x).slms = s.slms := rfl
@[simp] theorem State.setMout_banks (n : Nat) (x : MoutSt) : (s.setMout n x).banks = s.banks := rfl
@[simp] theorem State.setMout_wires (n : Nat) (x : MoutSt) : (s.setMout n x).wires = s.wires := rfl
@[simp] theorem State.setMout_intlk (n : Nat) (x : MoutSt) : (s.setMout n x).intlk = s.intlk := rfl
@[simp] theorem State.setMout_cols (n : Nat) (x : MoutSt) : (s.setMout n x).cols = s.cols := rfl
@[simp] theorem State.setMout_lutAcc (n : Nat) (x : MoutSt) : (s.setMout n x).lutAcc = s.lutAcc := rfl
@[simp] theorem State.setMout_cams (n : Nat) (x : MoutSt) : (s.setMout n x).cams = s.cams := rfl
@[simp] theorem State.setMout_bufs (n : Nat) (x : MoutSt) : (s.setMout n x).bufs = s.bufs := rfl
@[simp] theorem State.setMout_lays (n : Nat) (x : MoutSt) : (s.setMout n x).lays = s.lays := rfl
@[simp] theorem State.setMout_comps (n : Nat) (x : MoutSt) : (s.setMout n x).comps = s.comps := rfl
@[simp] theorem State.setMout_layCommit (n : Nat) (x : MoutSt) : (s.setMout n x).layCommit = s.layCommit := rfl
@[simp] theorem State.setMout_carve (n : Nat) (x : MoutSt) : (s.setMout n x).carve = s.carve := rfl
@[simp] theorem State.setMout_codecJobs (n : Nat) (x : MoutSt) : (s.setMout n x).codecJobs = s.codecJobs := rfl
@[simp] theorem State.setMout_codecRecent (n : Nat) (x : MoutSt) : (s.setMout n x).codecRecent = s.codecRecent := rfl
@[simp] theorem State.setMout_memc (n : Nat) (x : MoutSt) : (s.setMout n x).memc = s.memc := rfl
@[simp] theorem State.setMout_intg (n : Nat) (x : MoutSt) : (s.setMout n x).intg = s.intg := rfl
@[simp] theorem State.setMout_net (n : Nat) (x : MoutSt) : (s.setMout n x).net = s.net := rfl
@[simp] theorem State.setMout_sent (n : Nat) (x : MoutSt) : (s.setMout n x).sent = s.sent := rfl
@[simp] theorem State.setMout_resil (n : Nat) (x : MoutSt) : (s.setMout n x).resil = s.resil := rfl
@[simp] theorem State.setMout_hier (n : Nat) (x : MoutSt) : (s.setMout n x).hier = s.hier := rfl
@[simp] theorem State.setMout_loops (n : Nat) (x : MoutSt) : (s.setMout n x).loops = s.loops := rfl
@[simp] theorem State.setMout_loopSets (n : Nat) (x : MoutSt) : (s.setMout n x).loopSets = s.loopSets := rfl
@[simp] theorem State.setMout_cal (n : Nat) (x : MoutSt) : (s.setMout n x).cal = s.cal := rfl
@[simp] theorem State.setMout_power (n : Nat) (x : MoutSt) : (s.setMout n x).power = s.power := rfl
@[simp] theorem State.setMout_sec (n : Nat) (x : MoutSt) : (s.setMout n x).sec = s.sec := rfl
@[simp] theorem State.setMout_obj (n : Nat) (x : MoutSt) (z : Nat) : (s.setMout n x).obj z = s.obj z := rfl
@[simp] theorem State.setMout_blob (n : Nat) (x : MoutSt) (z : Nat) : (s.setMout n x).blob z = s.blob z := rfl
@[simp] theorem State.setMout_byte (n : Nat) (x : MoutSt) (z : Nat) : (s.setMout n x).byte z = s.byte z := rfl
@[simp] theorem State.setMout_evCount (n : Nat) (x : MoutSt) (z : Nat) : (s.setMout n x).evCount z = s.evCount z := rfl
@[simp] theorem State.setMout_tg (n : Nat) (x : MoutSt) (z : Nat) : (s.setMout n x).tg z = s.tg z := rfl
@[simp] theorem State.setMout_slm (n : Nat) (x : MoutSt) (z : Nat) : (s.setMout n x).slm z = s.slm z := rfl
@[simp] theorem State.setMout_bank (n : Nat) (x : MoutSt) (z : Nat) : (s.setMout n x).bank z = s.bank z := rfl
@[simp] theorem State.setMout_wire (n : Nat) (x : MoutSt) (z : Nat) : (s.setMout n x).wire z = s.wire z := rfl
@[simp] theorem State.setMout_col (n : Nat) (x : MoutSt) (z : Nat) : (s.setMout n x).col z = s.col z := rfl
@[simp] theorem State.setMout_cam (n : Nat) (x : MoutSt) (z : Nat) : (s.setMout n x).cam z = s.cam z := rfl
@[simp] theorem State.setMout_buf (n : Nat) (x : MoutSt) (z : Nat) : (s.setMout n x).buf z = s.buf z := rfl
@[simp] theorem State.setMout_lay (n : Nat) (x : MoutSt) (z : Nat) : (s.setMout n x).lay z = s.lay z := rfl
@[simp] theorem State.setMout_comp (n : Nat) (x : MoutSt) (z : Nat) : (s.setMout n x).comp z = s.comp z := rfl
@[simp] theorem State.setMout_loop (n : Nat) (x : MoutSt) (z : Nat) : (s.setMout n x).loop z = s.loop z := rfl
@[simp] theorem State.setMout_loopSet (n : Nat) (x : MoutSt) (z : Nat) : (s.setMout n x).loopSet z = s.loopSet z := rfl

/-! ### setBuf -/

@[simp] theorem State.setBuf_pending (i : Nat) (x : BufSt) : (s.setBuf i x).pending = s.pending := rfl
@[simp] theorem State.setBuf_tick (i : Nat) (x : BufSt) : (s.setBuf i x).tick = s.tick := rfl
@[simp] theorem State.setBuf_free (i : Nat) (x : BufSt) : (s.setBuf i x).free = s.free := rfl
@[simp] theorem State.setBuf_objs (i : Nat) (x : BufSt) : (s.setBuf i x).objs = s.objs := rfl
@[simp] theorem State.setBuf_blobs (i : Nat) (x : BufSt) : (s.setBuf i x).blobs = s.blobs := rfl
@[simp] theorem State.setBuf_mem (i : Nat) (x : BufSt) : (s.setBuf i x).mem = s.mem := rfl
@[simp] theorem State.setBuf_tx (i : Nat) (x : BufSt) : (s.setBuf i x).tx = s.tx := rfl
@[simp] theorem State.setBuf_ev (i : Nat) (x : BufSt) : (s.setBuf i x).ev = s.ev := rfl
@[simp] theorem State.setBuf_time (i : Nat) (x : BufSt) : (s.setBuf i x).time = s.time := rfl
@[simp] theorem State.setBuf_tgs (i : Nat) (x : BufSt) : (s.setBuf i x).tgs = s.tgs := rfl
@[simp] theorem State.setBuf_slms (i : Nat) (x : BufSt) : (s.setBuf i x).slms = s.slms := rfl
@[simp] theorem State.setBuf_banks (i : Nat) (x : BufSt) : (s.setBuf i x).banks = s.banks := rfl
@[simp] theorem State.setBuf_wires (i : Nat) (x : BufSt) : (s.setBuf i x).wires = s.wires := rfl
@[simp] theorem State.setBuf_intlk (i : Nat) (x : BufSt) : (s.setBuf i x).intlk = s.intlk := rfl
@[simp] theorem State.setBuf_cols (i : Nat) (x : BufSt) : (s.setBuf i x).cols = s.cols := rfl
@[simp] theorem State.setBuf_lutAcc (i : Nat) (x : BufSt) : (s.setBuf i x).lutAcc = s.lutAcc := rfl
@[simp] theorem State.setBuf_cams (i : Nat) (x : BufSt) : (s.setBuf i x).cams = s.cams := rfl
@[simp] theorem State.setBuf_mouts (i : Nat) (x : BufSt) : (s.setBuf i x).mouts = s.mouts := rfl
@[simp] theorem State.setBuf_lays (i : Nat) (x : BufSt) : (s.setBuf i x).lays = s.lays := rfl
@[simp] theorem State.setBuf_comps (i : Nat) (x : BufSt) : (s.setBuf i x).comps = s.comps := rfl
@[simp] theorem State.setBuf_layCommit (i : Nat) (x : BufSt) : (s.setBuf i x).layCommit = s.layCommit := rfl
@[simp] theorem State.setBuf_carve (i : Nat) (x : BufSt) : (s.setBuf i x).carve = s.carve := rfl
@[simp] theorem State.setBuf_codecJobs (i : Nat) (x : BufSt) : (s.setBuf i x).codecJobs = s.codecJobs := rfl
@[simp] theorem State.setBuf_codecRecent (i : Nat) (x : BufSt) : (s.setBuf i x).codecRecent = s.codecRecent := rfl
@[simp] theorem State.setBuf_memc (i : Nat) (x : BufSt) : (s.setBuf i x).memc = s.memc := rfl
@[simp] theorem State.setBuf_intg (i : Nat) (x : BufSt) : (s.setBuf i x).intg = s.intg := rfl
@[simp] theorem State.setBuf_net (i : Nat) (x : BufSt) : (s.setBuf i x).net = s.net := rfl
@[simp] theorem State.setBuf_sent (i : Nat) (x : BufSt) : (s.setBuf i x).sent = s.sent := rfl
@[simp] theorem State.setBuf_resil (i : Nat) (x : BufSt) : (s.setBuf i x).resil = s.resil := rfl
@[simp] theorem State.setBuf_hier (i : Nat) (x : BufSt) : (s.setBuf i x).hier = s.hier := rfl
@[simp] theorem State.setBuf_loops (i : Nat) (x : BufSt) : (s.setBuf i x).loops = s.loops := rfl
@[simp] theorem State.setBuf_loopSets (i : Nat) (x : BufSt) : (s.setBuf i x).loopSets = s.loopSets := rfl
@[simp] theorem State.setBuf_cal (i : Nat) (x : BufSt) : (s.setBuf i x).cal = s.cal := rfl
@[simp] theorem State.setBuf_power (i : Nat) (x : BufSt) : (s.setBuf i x).power = s.power := rfl
@[simp] theorem State.setBuf_sec (i : Nat) (x : BufSt) : (s.setBuf i x).sec = s.sec := rfl
@[simp] theorem State.setBuf_obj (i : Nat) (x : BufSt) (z : Nat) : (s.setBuf i x).obj z = s.obj z := rfl
@[simp] theorem State.setBuf_blob (i : Nat) (x : BufSt) (z : Nat) : (s.setBuf i x).blob z = s.blob z := rfl
@[simp] theorem State.setBuf_byte (i : Nat) (x : BufSt) (z : Nat) : (s.setBuf i x).byte z = s.byte z := rfl
@[simp] theorem State.setBuf_evCount (i : Nat) (x : BufSt) (z : Nat) : (s.setBuf i x).evCount z = s.evCount z := rfl
@[simp] theorem State.setBuf_tg (i : Nat) (x : BufSt) (z : Nat) : (s.setBuf i x).tg z = s.tg z := rfl
@[simp] theorem State.setBuf_slm (i : Nat) (x : BufSt) (z : Nat) : (s.setBuf i x).slm z = s.slm z := rfl
@[simp] theorem State.setBuf_bank (i : Nat) (x : BufSt) (z : Nat) : (s.setBuf i x).bank z = s.bank z := rfl
@[simp] theorem State.setBuf_wire (i : Nat) (x : BufSt) (z : Nat) : (s.setBuf i x).wire z = s.wire z := rfl
@[simp] theorem State.setBuf_col (i : Nat) (x : BufSt) (z : Nat) : (s.setBuf i x).col z = s.col z := rfl
@[simp] theorem State.setBuf_cam (i : Nat) (x : BufSt) (z : Nat) : (s.setBuf i x).cam z = s.cam z := rfl
@[simp] theorem State.setBuf_mout (i : Nat) (x : BufSt) (z : Nat) : (s.setBuf i x).mout z = s.mout z := rfl
@[simp] theorem State.setBuf_lay (i : Nat) (x : BufSt) (z : Nat) : (s.setBuf i x).lay z = s.lay z := rfl
@[simp] theorem State.setBuf_comp (i : Nat) (x : BufSt) (z : Nat) : (s.setBuf i x).comp z = s.comp z := rfl
@[simp] theorem State.setBuf_loop (i : Nat) (x : BufSt) (z : Nat) : (s.setBuf i x).loop z = s.loop z := rfl
@[simp] theorem State.setBuf_loopSet (i : Nat) (x : BufSt) (z : Nat) : (s.setBuf i x).loopSet z = s.loopSet z := rfl

/-! ### setLay -/

@[simp] theorem State.setLay_pending (l : Nat) (x : LaySt) : (s.setLay l x).pending = s.pending := rfl
@[simp] theorem State.setLay_tick (l : Nat) (x : LaySt) : (s.setLay l x).tick = s.tick := rfl
@[simp] theorem State.setLay_free (l : Nat) (x : LaySt) : (s.setLay l x).free = s.free := rfl
@[simp] theorem State.setLay_objs (l : Nat) (x : LaySt) : (s.setLay l x).objs = s.objs := rfl
@[simp] theorem State.setLay_blobs (l : Nat) (x : LaySt) : (s.setLay l x).blobs = s.blobs := rfl
@[simp] theorem State.setLay_mem (l : Nat) (x : LaySt) : (s.setLay l x).mem = s.mem := rfl
@[simp] theorem State.setLay_tx (l : Nat) (x : LaySt) : (s.setLay l x).tx = s.tx := rfl
@[simp] theorem State.setLay_ev (l : Nat) (x : LaySt) : (s.setLay l x).ev = s.ev := rfl
@[simp] theorem State.setLay_time (l : Nat) (x : LaySt) : (s.setLay l x).time = s.time := rfl
@[simp] theorem State.setLay_tgs (l : Nat) (x : LaySt) : (s.setLay l x).tgs = s.tgs := rfl
@[simp] theorem State.setLay_slms (l : Nat) (x : LaySt) : (s.setLay l x).slms = s.slms := rfl
@[simp] theorem State.setLay_banks (l : Nat) (x : LaySt) : (s.setLay l x).banks = s.banks := rfl
@[simp] theorem State.setLay_wires (l : Nat) (x : LaySt) : (s.setLay l x).wires = s.wires := rfl
@[simp] theorem State.setLay_intlk (l : Nat) (x : LaySt) : (s.setLay l x).intlk = s.intlk := rfl
@[simp] theorem State.setLay_cols (l : Nat) (x : LaySt) : (s.setLay l x).cols = s.cols := rfl
@[simp] theorem State.setLay_lutAcc (l : Nat) (x : LaySt) : (s.setLay l x).lutAcc = s.lutAcc := rfl
@[simp] theorem State.setLay_cams (l : Nat) (x : LaySt) : (s.setLay l x).cams = s.cams := rfl
@[simp] theorem State.setLay_mouts (l : Nat) (x : LaySt) : (s.setLay l x).mouts = s.mouts := rfl
@[simp] theorem State.setLay_bufs (l : Nat) (x : LaySt) : (s.setLay l x).bufs = s.bufs := rfl
@[simp] theorem State.setLay_comps (l : Nat) (x : LaySt) : (s.setLay l x).comps = s.comps := rfl
@[simp] theorem State.setLay_layCommit (l : Nat) (x : LaySt) : (s.setLay l x).layCommit = s.layCommit := rfl
@[simp] theorem State.setLay_carve (l : Nat) (x : LaySt) : (s.setLay l x).carve = s.carve := rfl
@[simp] theorem State.setLay_codecJobs (l : Nat) (x : LaySt) : (s.setLay l x).codecJobs = s.codecJobs := rfl
@[simp] theorem State.setLay_codecRecent (l : Nat) (x : LaySt) : (s.setLay l x).codecRecent = s.codecRecent := rfl
@[simp] theorem State.setLay_memc (l : Nat) (x : LaySt) : (s.setLay l x).memc = s.memc := rfl
@[simp] theorem State.setLay_intg (l : Nat) (x : LaySt) : (s.setLay l x).intg = s.intg := rfl
@[simp] theorem State.setLay_net (l : Nat) (x : LaySt) : (s.setLay l x).net = s.net := rfl
@[simp] theorem State.setLay_sent (l : Nat) (x : LaySt) : (s.setLay l x).sent = s.sent := rfl
@[simp] theorem State.setLay_resil (l : Nat) (x : LaySt) : (s.setLay l x).resil = s.resil := rfl
@[simp] theorem State.setLay_hier (l : Nat) (x : LaySt) : (s.setLay l x).hier = s.hier := rfl
@[simp] theorem State.setLay_loops (l : Nat) (x : LaySt) : (s.setLay l x).loops = s.loops := rfl
@[simp] theorem State.setLay_loopSets (l : Nat) (x : LaySt) : (s.setLay l x).loopSets = s.loopSets := rfl
@[simp] theorem State.setLay_cal (l : Nat) (x : LaySt) : (s.setLay l x).cal = s.cal := rfl
@[simp] theorem State.setLay_power (l : Nat) (x : LaySt) : (s.setLay l x).power = s.power := rfl
@[simp] theorem State.setLay_sec (l : Nat) (x : LaySt) : (s.setLay l x).sec = s.sec := rfl
@[simp] theorem State.setLay_obj (l : Nat) (x : LaySt) (z : Nat) : (s.setLay l x).obj z = s.obj z := rfl
@[simp] theorem State.setLay_blob (l : Nat) (x : LaySt) (z : Nat) : (s.setLay l x).blob z = s.blob z := rfl
@[simp] theorem State.setLay_byte (l : Nat) (x : LaySt) (z : Nat) : (s.setLay l x).byte z = s.byte z := rfl
@[simp] theorem State.setLay_evCount (l : Nat) (x : LaySt) (z : Nat) : (s.setLay l x).evCount z = s.evCount z := rfl
@[simp] theorem State.setLay_tg (l : Nat) (x : LaySt) (z : Nat) : (s.setLay l x).tg z = s.tg z := rfl
@[simp] theorem State.setLay_slm (l : Nat) (x : LaySt) (z : Nat) : (s.setLay l x).slm z = s.slm z := rfl
@[simp] theorem State.setLay_bank (l : Nat) (x : LaySt) (z : Nat) : (s.setLay l x).bank z = s.bank z := rfl
@[simp] theorem State.setLay_wire (l : Nat) (x : LaySt) (z : Nat) : (s.setLay l x).wire z = s.wire z := rfl
@[simp] theorem State.setLay_col (l : Nat) (x : LaySt) (z : Nat) : (s.setLay l x).col z = s.col z := rfl
@[simp] theorem State.setLay_cam (l : Nat) (x : LaySt) (z : Nat) : (s.setLay l x).cam z = s.cam z := rfl
@[simp] theorem State.setLay_mout (l : Nat) (x : LaySt) (z : Nat) : (s.setLay l x).mout z = s.mout z := rfl
@[simp] theorem State.setLay_buf (l : Nat) (x : LaySt) (z : Nat) : (s.setLay l x).buf z = s.buf z := rfl
@[simp] theorem State.setLay_comp (l : Nat) (x : LaySt) (z : Nat) : (s.setLay l x).comp z = s.comp z := rfl
@[simp] theorem State.setLay_loop (l : Nat) (x : LaySt) (z : Nat) : (s.setLay l x).loop z = s.loop z := rfl
@[simp] theorem State.setLay_loopSet (l : Nat) (x : LaySt) (z : Nat) : (s.setLay l x).loopSet z = s.loopSet z := rfl

/-! ### setComp -/

@[simp] theorem State.setComp_pending (n : Nat) (x : CompSt) : (s.setComp n x).pending = s.pending := rfl
@[simp] theorem State.setComp_tick (n : Nat) (x : CompSt) : (s.setComp n x).tick = s.tick := rfl
@[simp] theorem State.setComp_free (n : Nat) (x : CompSt) : (s.setComp n x).free = s.free := rfl
@[simp] theorem State.setComp_objs (n : Nat) (x : CompSt) : (s.setComp n x).objs = s.objs := rfl
@[simp] theorem State.setComp_blobs (n : Nat) (x : CompSt) : (s.setComp n x).blobs = s.blobs := rfl
@[simp] theorem State.setComp_mem (n : Nat) (x : CompSt) : (s.setComp n x).mem = s.mem := rfl
@[simp] theorem State.setComp_tx (n : Nat) (x : CompSt) : (s.setComp n x).tx = s.tx := rfl
@[simp] theorem State.setComp_ev (n : Nat) (x : CompSt) : (s.setComp n x).ev = s.ev := rfl
@[simp] theorem State.setComp_time (n : Nat) (x : CompSt) : (s.setComp n x).time = s.time := rfl
@[simp] theorem State.setComp_tgs (n : Nat) (x : CompSt) : (s.setComp n x).tgs = s.tgs := rfl
@[simp] theorem State.setComp_slms (n : Nat) (x : CompSt) : (s.setComp n x).slms = s.slms := rfl
@[simp] theorem State.setComp_banks (n : Nat) (x : CompSt) : (s.setComp n x).banks = s.banks := rfl
@[simp] theorem State.setComp_wires (n : Nat) (x : CompSt) : (s.setComp n x).wires = s.wires := rfl
@[simp] theorem State.setComp_intlk (n : Nat) (x : CompSt) : (s.setComp n x).intlk = s.intlk := rfl
@[simp] theorem State.setComp_cols (n : Nat) (x : CompSt) : (s.setComp n x).cols = s.cols := rfl
@[simp] theorem State.setComp_lutAcc (n : Nat) (x : CompSt) : (s.setComp n x).lutAcc = s.lutAcc := rfl
@[simp] theorem State.setComp_cams (n : Nat) (x : CompSt) : (s.setComp n x).cams = s.cams := rfl
@[simp] theorem State.setComp_mouts (n : Nat) (x : CompSt) : (s.setComp n x).mouts = s.mouts := rfl
@[simp] theorem State.setComp_bufs (n : Nat) (x : CompSt) : (s.setComp n x).bufs = s.bufs := rfl
@[simp] theorem State.setComp_lays (n : Nat) (x : CompSt) : (s.setComp n x).lays = s.lays := rfl
@[simp] theorem State.setComp_layCommit (n : Nat) (x : CompSt) : (s.setComp n x).layCommit = s.layCommit := rfl
@[simp] theorem State.setComp_carve (n : Nat) (x : CompSt) : (s.setComp n x).carve = s.carve := rfl
@[simp] theorem State.setComp_codecJobs (n : Nat) (x : CompSt) : (s.setComp n x).codecJobs = s.codecJobs := rfl
@[simp] theorem State.setComp_codecRecent (n : Nat) (x : CompSt) : (s.setComp n x).codecRecent = s.codecRecent := rfl
@[simp] theorem State.setComp_memc (n : Nat) (x : CompSt) : (s.setComp n x).memc = s.memc := rfl
@[simp] theorem State.setComp_intg (n : Nat) (x : CompSt) : (s.setComp n x).intg = s.intg := rfl
@[simp] theorem State.setComp_net (n : Nat) (x : CompSt) : (s.setComp n x).net = s.net := rfl
@[simp] theorem State.setComp_sent (n : Nat) (x : CompSt) : (s.setComp n x).sent = s.sent := rfl
@[simp] theorem State.setComp_resil (n : Nat) (x : CompSt) : (s.setComp n x).resil = s.resil := rfl
@[simp] theorem State.setComp_hier (n : Nat) (x : CompSt) : (s.setComp n x).hier = s.hier := rfl
@[simp] theorem State.setComp_loops (n : Nat) (x : CompSt) : (s.setComp n x).loops = s.loops := rfl
@[simp] theorem State.setComp_loopSets (n : Nat) (x : CompSt) : (s.setComp n x).loopSets = s.loopSets := rfl
@[simp] theorem State.setComp_cal (n : Nat) (x : CompSt) : (s.setComp n x).cal = s.cal := rfl
@[simp] theorem State.setComp_power (n : Nat) (x : CompSt) : (s.setComp n x).power = s.power := rfl
@[simp] theorem State.setComp_sec (n : Nat) (x : CompSt) : (s.setComp n x).sec = s.sec := rfl
@[simp] theorem State.setComp_obj (n : Nat) (x : CompSt) (z : Nat) : (s.setComp n x).obj z = s.obj z := rfl
@[simp] theorem State.setComp_blob (n : Nat) (x : CompSt) (z : Nat) : (s.setComp n x).blob z = s.blob z := rfl
@[simp] theorem State.setComp_byte (n : Nat) (x : CompSt) (z : Nat) : (s.setComp n x).byte z = s.byte z := rfl
@[simp] theorem State.setComp_evCount (n : Nat) (x : CompSt) (z : Nat) : (s.setComp n x).evCount z = s.evCount z := rfl
@[simp] theorem State.setComp_tg (n : Nat) (x : CompSt) (z : Nat) : (s.setComp n x).tg z = s.tg z := rfl
@[simp] theorem State.setComp_slm (n : Nat) (x : CompSt) (z : Nat) : (s.setComp n x).slm z = s.slm z := rfl
@[simp] theorem State.setComp_bank (n : Nat) (x : CompSt) (z : Nat) : (s.setComp n x).bank z = s.bank z := rfl
@[simp] theorem State.setComp_wire (n : Nat) (x : CompSt) (z : Nat) : (s.setComp n x).wire z = s.wire z := rfl
@[simp] theorem State.setComp_col (n : Nat) (x : CompSt) (z : Nat) : (s.setComp n x).col z = s.col z := rfl
@[simp] theorem State.setComp_cam (n : Nat) (x : CompSt) (z : Nat) : (s.setComp n x).cam z = s.cam z := rfl
@[simp] theorem State.setComp_mout (n : Nat) (x : CompSt) (z : Nat) : (s.setComp n x).mout z = s.mout z := rfl
@[simp] theorem State.setComp_buf (n : Nat) (x : CompSt) (z : Nat) : (s.setComp n x).buf z = s.buf z := rfl
@[simp] theorem State.setComp_lay (n : Nat) (x : CompSt) (z : Nat) : (s.setComp n x).lay z = s.lay z := rfl
@[simp] theorem State.setComp_loop (n : Nat) (x : CompSt) (z : Nat) : (s.setComp n x).loop z = s.loop z := rfl
@[simp] theorem State.setComp_loopSet (n : Nat) (x : CompSt) (z : Nat) : (s.setComp n x).loopSet z = s.loopSet z := rfl

/-! ### setLoop -/

@[simp] theorem State.setLoop_pending (l : Nat) (x : LoopSt) : (s.setLoop l x).pending = s.pending := rfl
@[simp] theorem State.setLoop_tick (l : Nat) (x : LoopSt) : (s.setLoop l x).tick = s.tick := rfl
@[simp] theorem State.setLoop_free (l : Nat) (x : LoopSt) : (s.setLoop l x).free = s.free := rfl
@[simp] theorem State.setLoop_objs (l : Nat) (x : LoopSt) : (s.setLoop l x).objs = s.objs := rfl
@[simp] theorem State.setLoop_blobs (l : Nat) (x : LoopSt) : (s.setLoop l x).blobs = s.blobs := rfl
@[simp] theorem State.setLoop_mem (l : Nat) (x : LoopSt) : (s.setLoop l x).mem = s.mem := rfl
@[simp] theorem State.setLoop_tx (l : Nat) (x : LoopSt) : (s.setLoop l x).tx = s.tx := rfl
@[simp] theorem State.setLoop_ev (l : Nat) (x : LoopSt) : (s.setLoop l x).ev = s.ev := rfl
@[simp] theorem State.setLoop_time (l : Nat) (x : LoopSt) : (s.setLoop l x).time = s.time := rfl
@[simp] theorem State.setLoop_tgs (l : Nat) (x : LoopSt) : (s.setLoop l x).tgs = s.tgs := rfl
@[simp] theorem State.setLoop_slms (l : Nat) (x : LoopSt) : (s.setLoop l x).slms = s.slms := rfl
@[simp] theorem State.setLoop_banks (l : Nat) (x : LoopSt) : (s.setLoop l x).banks = s.banks := rfl
@[simp] theorem State.setLoop_wires (l : Nat) (x : LoopSt) : (s.setLoop l x).wires = s.wires := rfl
@[simp] theorem State.setLoop_intlk (l : Nat) (x : LoopSt) : (s.setLoop l x).intlk = s.intlk := rfl
@[simp] theorem State.setLoop_cols (l : Nat) (x : LoopSt) : (s.setLoop l x).cols = s.cols := rfl
@[simp] theorem State.setLoop_lutAcc (l : Nat) (x : LoopSt) : (s.setLoop l x).lutAcc = s.lutAcc := rfl
@[simp] theorem State.setLoop_cams (l : Nat) (x : LoopSt) : (s.setLoop l x).cams = s.cams := rfl
@[simp] theorem State.setLoop_mouts (l : Nat) (x : LoopSt) : (s.setLoop l x).mouts = s.mouts := rfl
@[simp] theorem State.setLoop_bufs (l : Nat) (x : LoopSt) : (s.setLoop l x).bufs = s.bufs := rfl
@[simp] theorem State.setLoop_lays (l : Nat) (x : LoopSt) : (s.setLoop l x).lays = s.lays := rfl
@[simp] theorem State.setLoop_comps (l : Nat) (x : LoopSt) : (s.setLoop l x).comps = s.comps := rfl
@[simp] theorem State.setLoop_layCommit (l : Nat) (x : LoopSt) : (s.setLoop l x).layCommit = s.layCommit := rfl
@[simp] theorem State.setLoop_carve (l : Nat) (x : LoopSt) : (s.setLoop l x).carve = s.carve := rfl
@[simp] theorem State.setLoop_codecJobs (l : Nat) (x : LoopSt) : (s.setLoop l x).codecJobs = s.codecJobs := rfl
@[simp] theorem State.setLoop_codecRecent (l : Nat) (x : LoopSt) : (s.setLoop l x).codecRecent = s.codecRecent := rfl
@[simp] theorem State.setLoop_memc (l : Nat) (x : LoopSt) : (s.setLoop l x).memc = s.memc := rfl
@[simp] theorem State.setLoop_intg (l : Nat) (x : LoopSt) : (s.setLoop l x).intg = s.intg := rfl
@[simp] theorem State.setLoop_net (l : Nat) (x : LoopSt) : (s.setLoop l x).net = s.net := rfl
@[simp] theorem State.setLoop_sent (l : Nat) (x : LoopSt) : (s.setLoop l x).sent = s.sent := rfl
@[simp] theorem State.setLoop_resil (l : Nat) (x : LoopSt) : (s.setLoop l x).resil = s.resil := rfl
@[simp] theorem State.setLoop_hier (l : Nat) (x : LoopSt) : (s.setLoop l x).hier = s.hier := rfl
@[simp] theorem State.setLoop_loopSets (l : Nat) (x : LoopSt) : (s.setLoop l x).loopSets = s.loopSets := rfl
@[simp] theorem State.setLoop_cal (l : Nat) (x : LoopSt) : (s.setLoop l x).cal = s.cal := rfl
@[simp] theorem State.setLoop_power (l : Nat) (x : LoopSt) : (s.setLoop l x).power = s.power := rfl
@[simp] theorem State.setLoop_sec (l : Nat) (x : LoopSt) : (s.setLoop l x).sec = s.sec := rfl
@[simp] theorem State.setLoop_obj (l : Nat) (x : LoopSt) (z : Nat) : (s.setLoop l x).obj z = s.obj z := rfl
@[simp] theorem State.setLoop_blob (l : Nat) (x : LoopSt) (z : Nat) : (s.setLoop l x).blob z = s.blob z := rfl
@[simp] theorem State.setLoop_byte (l : Nat) (x : LoopSt) (z : Nat) : (s.setLoop l x).byte z = s.byte z := rfl
@[simp] theorem State.setLoop_evCount (l : Nat) (x : LoopSt) (z : Nat) : (s.setLoop l x).evCount z = s.evCount z := rfl
@[simp] theorem State.setLoop_tg (l : Nat) (x : LoopSt) (z : Nat) : (s.setLoop l x).tg z = s.tg z := rfl
@[simp] theorem State.setLoop_slm (l : Nat) (x : LoopSt) (z : Nat) : (s.setLoop l x).slm z = s.slm z := rfl
@[simp] theorem State.setLoop_bank (l : Nat) (x : LoopSt) (z : Nat) : (s.setLoop l x).bank z = s.bank z := rfl
@[simp] theorem State.setLoop_wire (l : Nat) (x : LoopSt) (z : Nat) : (s.setLoop l x).wire z = s.wire z := rfl
@[simp] theorem State.setLoop_col (l : Nat) (x : LoopSt) (z : Nat) : (s.setLoop l x).col z = s.col z := rfl
@[simp] theorem State.setLoop_cam (l : Nat) (x : LoopSt) (z : Nat) : (s.setLoop l x).cam z = s.cam z := rfl
@[simp] theorem State.setLoop_mout (l : Nat) (x : LoopSt) (z : Nat) : (s.setLoop l x).mout z = s.mout z := rfl
@[simp] theorem State.setLoop_buf (l : Nat) (x : LoopSt) (z : Nat) : (s.setLoop l x).buf z = s.buf z := rfl
@[simp] theorem State.setLoop_lay (l : Nat) (x : LoopSt) (z : Nat) : (s.setLoop l x).lay z = s.lay z := rfl
@[simp] theorem State.setLoop_comp (l : Nat) (x : LoopSt) (z : Nat) : (s.setLoop l x).comp z = s.comp z := rfl
@[simp] theorem State.setLoop_loopSet (l : Nat) (x : LoopSt) (z : Nat) : (s.setLoop l x).loopSet z = s.loopSet z := rfl

/-! ### setLoopSet -/

@[simp] theorem State.setLoopSet_pending (k : Nat) (x : LoopSetSt) : (s.setLoopSet k x).pending = s.pending := rfl
@[simp] theorem State.setLoopSet_tick (k : Nat) (x : LoopSetSt) : (s.setLoopSet k x).tick = s.tick := rfl
@[simp] theorem State.setLoopSet_free (k : Nat) (x : LoopSetSt) : (s.setLoopSet k x).free = s.free := rfl
@[simp] theorem State.setLoopSet_objs (k : Nat) (x : LoopSetSt) : (s.setLoopSet k x).objs = s.objs := rfl
@[simp] theorem State.setLoopSet_blobs (k : Nat) (x : LoopSetSt) : (s.setLoopSet k x).blobs = s.blobs := rfl
@[simp] theorem State.setLoopSet_mem (k : Nat) (x : LoopSetSt) : (s.setLoopSet k x).mem = s.mem := rfl
@[simp] theorem State.setLoopSet_tx (k : Nat) (x : LoopSetSt) : (s.setLoopSet k x).tx = s.tx := rfl
@[simp] theorem State.setLoopSet_ev (k : Nat) (x : LoopSetSt) : (s.setLoopSet k x).ev = s.ev := rfl
@[simp] theorem State.setLoopSet_time (k : Nat) (x : LoopSetSt) : (s.setLoopSet k x).time = s.time := rfl
@[simp] theorem State.setLoopSet_tgs (k : Nat) (x : LoopSetSt) : (s.setLoopSet k x).tgs = s.tgs := rfl
@[simp] theorem State.setLoopSet_slms (k : Nat) (x : LoopSetSt) : (s.setLoopSet k x).slms = s.slms := rfl
@[simp] theorem State.setLoopSet_banks (k : Nat) (x : LoopSetSt) : (s.setLoopSet k x).banks = s.banks := rfl
@[simp] theorem State.setLoopSet_wires (k : Nat) (x : LoopSetSt) : (s.setLoopSet k x).wires = s.wires := rfl
@[simp] theorem State.setLoopSet_intlk (k : Nat) (x : LoopSetSt) : (s.setLoopSet k x).intlk = s.intlk := rfl
@[simp] theorem State.setLoopSet_cols (k : Nat) (x : LoopSetSt) : (s.setLoopSet k x).cols = s.cols := rfl
@[simp] theorem State.setLoopSet_lutAcc (k : Nat) (x : LoopSetSt) : (s.setLoopSet k x).lutAcc = s.lutAcc := rfl
@[simp] theorem State.setLoopSet_cams (k : Nat) (x : LoopSetSt) : (s.setLoopSet k x).cams = s.cams := rfl
@[simp] theorem State.setLoopSet_mouts (k : Nat) (x : LoopSetSt) : (s.setLoopSet k x).mouts = s.mouts := rfl
@[simp] theorem State.setLoopSet_bufs (k : Nat) (x : LoopSetSt) : (s.setLoopSet k x).bufs = s.bufs := rfl
@[simp] theorem State.setLoopSet_lays (k : Nat) (x : LoopSetSt) : (s.setLoopSet k x).lays = s.lays := rfl
@[simp] theorem State.setLoopSet_comps (k : Nat) (x : LoopSetSt) : (s.setLoopSet k x).comps = s.comps := rfl
@[simp] theorem State.setLoopSet_layCommit (k : Nat) (x : LoopSetSt) : (s.setLoopSet k x).layCommit = s.layCommit := rfl
@[simp] theorem State.setLoopSet_carve (k : Nat) (x : LoopSetSt) : (s.setLoopSet k x).carve = s.carve := rfl
@[simp] theorem State.setLoopSet_codecJobs (k : Nat) (x : LoopSetSt) : (s.setLoopSet k x).codecJobs = s.codecJobs := rfl
@[simp] theorem State.setLoopSet_codecRecent (k : Nat) (x : LoopSetSt) : (s.setLoopSet k x).codecRecent = s.codecRecent := rfl
@[simp] theorem State.setLoopSet_memc (k : Nat) (x : LoopSetSt) : (s.setLoopSet k x).memc = s.memc := rfl
@[simp] theorem State.setLoopSet_intg (k : Nat) (x : LoopSetSt) : (s.setLoopSet k x).intg = s.intg := rfl
@[simp] theorem State.setLoopSet_net (k : Nat) (x : LoopSetSt) : (s.setLoopSet k x).net = s.net := rfl
@[simp] theorem State.setLoopSet_sent (k : Nat) (x : LoopSetSt) : (s.setLoopSet k x).sent = s.sent := rfl
@[simp] theorem State.setLoopSet_resil (k : Nat) (x : LoopSetSt) : (s.setLoopSet k x).resil = s.resil := rfl
@[simp] theorem State.setLoopSet_hier (k : Nat) (x : LoopSetSt) : (s.setLoopSet k x).hier = s.hier := rfl
@[simp] theorem State.setLoopSet_loops (k : Nat) (x : LoopSetSt) : (s.setLoopSet k x).loops = s.loops := rfl
@[simp] theorem State.setLoopSet_cal (k : Nat) (x : LoopSetSt) : (s.setLoopSet k x).cal = s.cal := rfl
@[simp] theorem State.setLoopSet_power (k : Nat) (x : LoopSetSt) : (s.setLoopSet k x).power = s.power := rfl
@[simp] theorem State.setLoopSet_sec (k : Nat) (x : LoopSetSt) : (s.setLoopSet k x).sec = s.sec := rfl
@[simp] theorem State.setLoopSet_obj (k : Nat) (x : LoopSetSt) (z : Nat) : (s.setLoopSet k x).obj z = s.obj z := rfl
@[simp] theorem State.setLoopSet_blob (k : Nat) (x : LoopSetSt) (z : Nat) : (s.setLoopSet k x).blob z = s.blob z := rfl
@[simp] theorem State.setLoopSet_byte (k : Nat) (x : LoopSetSt) (z : Nat) : (s.setLoopSet k x).byte z = s.byte z := rfl
@[simp] theorem State.setLoopSet_evCount (k : Nat) (x : LoopSetSt) (z : Nat) : (s.setLoopSet k x).evCount z = s.evCount z := rfl
@[simp] theorem State.setLoopSet_tg (k : Nat) (x : LoopSetSt) (z : Nat) : (s.setLoopSet k x).tg z = s.tg z := rfl
@[simp] theorem State.setLoopSet_slm (k : Nat) (x : LoopSetSt) (z : Nat) : (s.setLoopSet k x).slm z = s.slm z := rfl
@[simp] theorem State.setLoopSet_bank (k : Nat) (x : LoopSetSt) (z : Nat) : (s.setLoopSet k x).bank z = s.bank z := rfl
@[simp] theorem State.setLoopSet_wire (k : Nat) (x : LoopSetSt) (z : Nat) : (s.setLoopSet k x).wire z = s.wire z := rfl
@[simp] theorem State.setLoopSet_col (k : Nat) (x : LoopSetSt) (z : Nat) : (s.setLoopSet k x).col z = s.col z := rfl
@[simp] theorem State.setLoopSet_cam (k : Nat) (x : LoopSetSt) (z : Nat) : (s.setLoopSet k x).cam z = s.cam z := rfl
@[simp] theorem State.setLoopSet_mout (k : Nat) (x : LoopSetSt) (z : Nat) : (s.setLoopSet k x).mout z = s.mout z := rfl
@[simp] theorem State.setLoopSet_buf (k : Nat) (x : LoopSetSt) (z : Nat) : (s.setLoopSet k x).buf z = s.buf z := rfl
@[simp] theorem State.setLoopSet_lay (k : Nat) (x : LoopSetSt) (z : Nat) : (s.setLoopSet k x).lay z = s.lay z := rfl
@[simp] theorem State.setLoopSet_comp (k : Nat) (x : LoopSetSt) (z : Nat) : (s.setLoopSet k x).comp z = s.comp z := rfl
@[simp] theorem State.setLoopSet_loop (k : Nat) (x : LoopSetSt) (z : Nat) : (s.setLoopSet k x).loop z = s.loop z := rfl

/-! ### setEv -/

@[simp] theorem State.setEv_pending (x : EvSt) : (s.setEv x).pending = s.pending := rfl
@[simp] theorem State.setEv_tick (x : EvSt) : (s.setEv x).tick = s.tick := rfl
@[simp] theorem State.setEv_free (x : EvSt) : (s.setEv x).free = s.free := rfl
@[simp] theorem State.setEv_objs (x : EvSt) : (s.setEv x).objs = s.objs := rfl
@[simp] theorem State.setEv_blobs (x : EvSt) : (s.setEv x).blobs = s.blobs := rfl
@[simp] theorem State.setEv_mem (x : EvSt) : (s.setEv x).mem = s.mem := rfl
@[simp] theorem State.setEv_tx (x : EvSt) : (s.setEv x).tx = s.tx := rfl
@[simp] theorem State.setEv_time (x : EvSt) : (s.setEv x).time = s.time := rfl
@[simp] theorem State.setEv_tgs (x : EvSt) : (s.setEv x).tgs = s.tgs := rfl
@[simp] theorem State.setEv_slms (x : EvSt) : (s.setEv x).slms = s.slms := rfl
@[simp] theorem State.setEv_banks (x : EvSt) : (s.setEv x).banks = s.banks := rfl
@[simp] theorem State.setEv_wires (x : EvSt) : (s.setEv x).wires = s.wires := rfl
@[simp] theorem State.setEv_intlk (x : EvSt) : (s.setEv x).intlk = s.intlk := rfl
@[simp] theorem State.setEv_cols (x : EvSt) : (s.setEv x).cols = s.cols := rfl
@[simp] theorem State.setEv_lutAcc (x : EvSt) : (s.setEv x).lutAcc = s.lutAcc := rfl
@[simp] theorem State.setEv_cams (x : EvSt) : (s.setEv x).cams = s.cams := rfl
@[simp] theorem State.setEv_mouts (x : EvSt) : (s.setEv x).mouts = s.mouts := rfl
@[simp] theorem State.setEv_bufs (x : EvSt) : (s.setEv x).bufs = s.bufs := rfl
@[simp] theorem State.setEv_lays (x : EvSt) : (s.setEv x).lays = s.lays := rfl
@[simp] theorem State.setEv_comps (x : EvSt) : (s.setEv x).comps = s.comps := rfl
@[simp] theorem State.setEv_layCommit (x : EvSt) : (s.setEv x).layCommit = s.layCommit := rfl
@[simp] theorem State.setEv_carve (x : EvSt) : (s.setEv x).carve = s.carve := rfl
@[simp] theorem State.setEv_codecJobs (x : EvSt) : (s.setEv x).codecJobs = s.codecJobs := rfl
@[simp] theorem State.setEv_codecRecent (x : EvSt) : (s.setEv x).codecRecent = s.codecRecent := rfl
@[simp] theorem State.setEv_memc (x : EvSt) : (s.setEv x).memc = s.memc := rfl
@[simp] theorem State.setEv_intg (x : EvSt) : (s.setEv x).intg = s.intg := rfl
@[simp] theorem State.setEv_net (x : EvSt) : (s.setEv x).net = s.net := rfl
@[simp] theorem State.setEv_sent (x : EvSt) : (s.setEv x).sent = s.sent := rfl
@[simp] theorem State.setEv_resil (x : EvSt) : (s.setEv x).resil = s.resil := rfl
@[simp] theorem State.setEv_hier (x : EvSt) : (s.setEv x).hier = s.hier := rfl
@[simp] theorem State.setEv_loops (x : EvSt) : (s.setEv x).loops = s.loops := rfl
@[simp] theorem State.setEv_loopSets (x : EvSt) : (s.setEv x).loopSets = s.loopSets := rfl
@[simp] theorem State.setEv_cal (x : EvSt) : (s.setEv x).cal = s.cal := rfl
@[simp] theorem State.setEv_power (x : EvSt) : (s.setEv x).power = s.power := rfl
@[simp] theorem State.setEv_sec (x : EvSt) : (s.setEv x).sec = s.sec := rfl
@[simp] theorem State.setEv_obj (x : EvSt) (z : Nat) : (s.setEv x).obj z = s.obj z := rfl
@[simp] theorem State.setEv_blob (x : EvSt) (z : Nat) : (s.setEv x).blob z = s.blob z := rfl
@[simp] theorem State.setEv_byte (x : EvSt) (z : Nat) : (s.setEv x).byte z = s.byte z := rfl
@[simp] theorem State.setEv_tg (x : EvSt) (z : Nat) : (s.setEv x).tg z = s.tg z := rfl
@[simp] theorem State.setEv_slm (x : EvSt) (z : Nat) : (s.setEv x).slm z = s.slm z := rfl
@[simp] theorem State.setEv_bank (x : EvSt) (z : Nat) : (s.setEv x).bank z = s.bank z := rfl
@[simp] theorem State.setEv_wire (x : EvSt) (z : Nat) : (s.setEv x).wire z = s.wire z := rfl
@[simp] theorem State.setEv_col (x : EvSt) (z : Nat) : (s.setEv x).col z = s.col z := rfl
@[simp] theorem State.setEv_cam (x : EvSt) (z : Nat) : (s.setEv x).cam z = s.cam z := rfl
@[simp] theorem State.setEv_mout (x : EvSt) (z : Nat) : (s.setEv x).mout z = s.mout z := rfl
@[simp] theorem State.setEv_buf (x : EvSt) (z : Nat) : (s.setEv x).buf z = s.buf z := rfl
@[simp] theorem State.setEv_lay (x : EvSt) (z : Nat) : (s.setEv x).lay z = s.lay z := rfl
@[simp] theorem State.setEv_comp (x : EvSt) (z : Nat) : (s.setEv x).comp z = s.comp z := rfl
@[simp] theorem State.setEv_loop (x : EvSt) (z : Nat) : (s.setEv x).loop z = s.loop z := rfl
@[simp] theorem State.setEv_loopSet (x : EvSt) (z : Nat) : (s.setEv x).loopSet z = s.loopSet z := rfl

/-! ### setTime -/

@[simp] theorem State.setTime_pending (x : TimeSt) : (s.setTime x).pending = s.pending := rfl
@[simp] theorem State.setTime_tick (x : TimeSt) : (s.setTime x).tick = s.tick := rfl
@[simp] theorem State.setTime_free (x : TimeSt) : (s.setTime x).free = s.free := rfl
@[simp] theorem State.setTime_objs (x : TimeSt) : (s.setTime x).objs = s.objs := rfl
@[simp] theorem State.setTime_blobs (x : TimeSt) : (s.setTime x).blobs = s.blobs := rfl
@[simp] theorem State.setTime_mem (x : TimeSt) : (s.setTime x).mem = s.mem := rfl
@[simp] theorem State.setTime_tx (x : TimeSt) : (s.setTime x).tx = s.tx := rfl
@[simp] theorem State.setTime_ev (x : TimeSt) : (s.setTime x).ev = s.ev := rfl
@[simp] theorem State.setTime_tgs (x : TimeSt) : (s.setTime x).tgs = s.tgs := rfl
@[simp] theorem State.setTime_slms (x : TimeSt) : (s.setTime x).slms = s.slms := rfl
@[simp] theorem State.setTime_banks (x : TimeSt) : (s.setTime x).banks = s.banks := rfl
@[simp] theorem State.setTime_wires (x : TimeSt) : (s.setTime x).wires = s.wires := rfl
@[simp] theorem State.setTime_intlk (x : TimeSt) : (s.setTime x).intlk = s.intlk := rfl
@[simp] theorem State.setTime_cols (x : TimeSt) : (s.setTime x).cols = s.cols := rfl
@[simp] theorem State.setTime_lutAcc (x : TimeSt) : (s.setTime x).lutAcc = s.lutAcc := rfl
@[simp] theorem State.setTime_cams (x : TimeSt) : (s.setTime x).cams = s.cams := rfl
@[simp] theorem State.setTime_mouts (x : TimeSt) : (s.setTime x).mouts = s.mouts := rfl
@[simp] theorem State.setTime_bufs (x : TimeSt) : (s.setTime x).bufs = s.bufs := rfl
@[simp] theorem State.setTime_lays (x : TimeSt) : (s.setTime x).lays = s.lays := rfl
@[simp] theorem State.setTime_comps (x : TimeSt) : (s.setTime x).comps = s.comps := rfl
@[simp] theorem State.setTime_layCommit (x : TimeSt) : (s.setTime x).layCommit = s.layCommit := rfl
@[simp] theorem State.setTime_carve (x : TimeSt) : (s.setTime x).carve = s.carve := rfl
@[simp] theorem State.setTime_codecJobs (x : TimeSt) : (s.setTime x).codecJobs = s.codecJobs := rfl
@[simp] theorem State.setTime_codecRecent (x : TimeSt) : (s.setTime x).codecRecent = s.codecRecent := rfl
@[simp] theorem State.setTime_memc (x : TimeSt) : (s.setTime x).memc = s.memc := rfl
@[simp] theorem State.setTime_intg (x : TimeSt) : (s.setTime x).intg = s.intg := rfl
@[simp] theorem State.setTime_net (x : TimeSt) : (s.setTime x).net = s.net := rfl
@[simp] theorem State.setTime_sent (x : TimeSt) : (s.setTime x).sent = s.sent := rfl
@[simp] theorem State.setTime_resil (x : TimeSt) : (s.setTime x).resil = s.resil := rfl
@[simp] theorem State.setTime_hier (x : TimeSt) : (s.setTime x).hier = s.hier := rfl
@[simp] theorem State.setTime_loops (x : TimeSt) : (s.setTime x).loops = s.loops := rfl
@[simp] theorem State.setTime_loopSets (x : TimeSt) : (s.setTime x).loopSets = s.loopSets := rfl
@[simp] theorem State.setTime_cal (x : TimeSt) : (s.setTime x).cal = s.cal := rfl
@[simp] theorem State.setTime_power (x : TimeSt) : (s.setTime x).power = s.power := rfl
@[simp] theorem State.setTime_sec (x : TimeSt) : (s.setTime x).sec = s.sec := rfl
@[simp] theorem State.setTime_obj (x : TimeSt) (z : Nat) : (s.setTime x).obj z = s.obj z := rfl
@[simp] theorem State.setTime_blob (x : TimeSt) (z : Nat) : (s.setTime x).blob z = s.blob z := rfl
@[simp] theorem State.setTime_byte (x : TimeSt) (z : Nat) : (s.setTime x).byte z = s.byte z := rfl
@[simp] theorem State.setTime_evCount (x : TimeSt) (z : Nat) : (s.setTime x).evCount z = s.evCount z := rfl
@[simp] theorem State.setTime_tg (x : TimeSt) (z : Nat) : (s.setTime x).tg z = s.tg z := rfl
@[simp] theorem State.setTime_slm (x : TimeSt) (z : Nat) : (s.setTime x).slm z = s.slm z := rfl
@[simp] theorem State.setTime_bank (x : TimeSt) (z : Nat) : (s.setTime x).bank z = s.bank z := rfl
@[simp] theorem State.setTime_wire (x : TimeSt) (z : Nat) : (s.setTime x).wire z = s.wire z := rfl
@[simp] theorem State.setTime_col (x : TimeSt) (z : Nat) : (s.setTime x).col z = s.col z := rfl
@[simp] theorem State.setTime_cam (x : TimeSt) (z : Nat) : (s.setTime x).cam z = s.cam z := rfl
@[simp] theorem State.setTime_mout (x : TimeSt) (z : Nat) : (s.setTime x).mout z = s.mout z := rfl
@[simp] theorem State.setTime_buf (x : TimeSt) (z : Nat) : (s.setTime x).buf z = s.buf z := rfl
@[simp] theorem State.setTime_lay (x : TimeSt) (z : Nat) : (s.setTime x).lay z = s.lay z := rfl
@[simp] theorem State.setTime_comp (x : TimeSt) (z : Nat) : (s.setTime x).comp z = s.comp z := rfl
@[simp] theorem State.setTime_loop (x : TimeSt) (z : Nat) : (s.setTime x).loop z = s.loop z := rfl
@[simp] theorem State.setTime_loopSet (x : TimeSt) (z : Nat) : (s.setTime x).loopSet z = s.loopSet z := rfl

/-! ### setCarve -/

@[simp] theorem State.setCarve_pending (x : CarveSt) : (s.setCarve x).pending = s.pending := rfl
@[simp] theorem State.setCarve_tick (x : CarveSt) : (s.setCarve x).tick = s.tick := rfl
@[simp] theorem State.setCarve_free (x : CarveSt) : (s.setCarve x).free = s.free := rfl
@[simp] theorem State.setCarve_objs (x : CarveSt) : (s.setCarve x).objs = s.objs := rfl
@[simp] theorem State.setCarve_blobs (x : CarveSt) : (s.setCarve x).blobs = s.blobs := rfl
@[simp] theorem State.setCarve_mem (x : CarveSt) : (s.setCarve x).mem = s.mem := rfl
@[simp] theorem State.setCarve_tx (x : CarveSt) : (s.setCarve x).tx = s.tx := rfl
@[simp] theorem State.setCarve_ev (x : CarveSt) : (s.setCarve x).ev = s.ev := rfl
@[simp] theorem State.setCarve_time (x : CarveSt) : (s.setCarve x).time = s.time := rfl
@[simp] theorem State.setCarve_tgs (x : CarveSt) : (s.setCarve x).tgs = s.tgs := rfl
@[simp] theorem State.setCarve_slms (x : CarveSt) : (s.setCarve x).slms = s.slms := rfl
@[simp] theorem State.setCarve_banks (x : CarveSt) : (s.setCarve x).banks = s.banks := rfl
@[simp] theorem State.setCarve_wires (x : CarveSt) : (s.setCarve x).wires = s.wires := rfl
@[simp] theorem State.setCarve_intlk (x : CarveSt) : (s.setCarve x).intlk = s.intlk := rfl
@[simp] theorem State.setCarve_cols (x : CarveSt) : (s.setCarve x).cols = s.cols := rfl
@[simp] theorem State.setCarve_lutAcc (x : CarveSt) : (s.setCarve x).lutAcc = s.lutAcc := rfl
@[simp] theorem State.setCarve_cams (x : CarveSt) : (s.setCarve x).cams = s.cams := rfl
@[simp] theorem State.setCarve_mouts (x : CarveSt) : (s.setCarve x).mouts = s.mouts := rfl
@[simp] theorem State.setCarve_bufs (x : CarveSt) : (s.setCarve x).bufs = s.bufs := rfl
@[simp] theorem State.setCarve_lays (x : CarveSt) : (s.setCarve x).lays = s.lays := rfl
@[simp] theorem State.setCarve_comps (x : CarveSt) : (s.setCarve x).comps = s.comps := rfl
@[simp] theorem State.setCarve_layCommit (x : CarveSt) : (s.setCarve x).layCommit = s.layCommit := rfl
@[simp] theorem State.setCarve_codecJobs (x : CarveSt) : (s.setCarve x).codecJobs = s.codecJobs := rfl
@[simp] theorem State.setCarve_codecRecent (x : CarveSt) : (s.setCarve x).codecRecent = s.codecRecent := rfl
@[simp] theorem State.setCarve_memc (x : CarveSt) : (s.setCarve x).memc = s.memc := rfl
@[simp] theorem State.setCarve_intg (x : CarveSt) : (s.setCarve x).intg = s.intg := rfl
@[simp] theorem State.setCarve_net (x : CarveSt) : (s.setCarve x).net = s.net := rfl
@[simp] theorem State.setCarve_sent (x : CarveSt) : (s.setCarve x).sent = s.sent := rfl
@[simp] theorem State.setCarve_resil (x : CarveSt) : (s.setCarve x).resil = s.resil := rfl
@[simp] theorem State.setCarve_hier (x : CarveSt) : (s.setCarve x).hier = s.hier := rfl
@[simp] theorem State.setCarve_loops (x : CarveSt) : (s.setCarve x).loops = s.loops := rfl
@[simp] theorem State.setCarve_loopSets (x : CarveSt) : (s.setCarve x).loopSets = s.loopSets := rfl
@[simp] theorem State.setCarve_cal (x : CarveSt) : (s.setCarve x).cal = s.cal := rfl
@[simp] theorem State.setCarve_power (x : CarveSt) : (s.setCarve x).power = s.power := rfl
@[simp] theorem State.setCarve_sec (x : CarveSt) : (s.setCarve x).sec = s.sec := rfl
@[simp] theorem State.setCarve_obj (x : CarveSt) (z : Nat) : (s.setCarve x).obj z = s.obj z := rfl
@[simp] theorem State.setCarve_blob (x : CarveSt) (z : Nat) : (s.setCarve x).blob z = s.blob z := rfl
@[simp] theorem State.setCarve_byte (x : CarveSt) (z : Nat) : (s.setCarve x).byte z = s.byte z := rfl
@[simp] theorem State.setCarve_evCount (x : CarveSt) (z : Nat) : (s.setCarve x).evCount z = s.evCount z := rfl
@[simp] theorem State.setCarve_tg (x : CarveSt) (z : Nat) : (s.setCarve x).tg z = s.tg z := rfl
@[simp] theorem State.setCarve_slm (x : CarveSt) (z : Nat) : (s.setCarve x).slm z = s.slm z := rfl
@[simp] theorem State.setCarve_bank (x : CarveSt) (z : Nat) : (s.setCarve x).bank z = s.bank z := rfl
@[simp] theorem State.setCarve_wire (x : CarveSt) (z : Nat) : (s.setCarve x).wire z = s.wire z := rfl
@[simp] theorem State.setCarve_col (x : CarveSt) (z : Nat) : (s.setCarve x).col z = s.col z := rfl
@[simp] theorem State.setCarve_cam (x : CarveSt) (z : Nat) : (s.setCarve x).cam z = s.cam z := rfl
@[simp] theorem State.setCarve_mout (x : CarveSt) (z : Nat) : (s.setCarve x).mout z = s.mout z := rfl
@[simp] theorem State.setCarve_buf (x : CarveSt) (z : Nat) : (s.setCarve x).buf z = s.buf z := rfl
@[simp] theorem State.setCarve_lay (x : CarveSt) (z : Nat) : (s.setCarve x).lay z = s.lay z := rfl
@[simp] theorem State.setCarve_comp (x : CarveSt) (z : Nat) : (s.setCarve x).comp z = s.comp z := rfl
@[simp] theorem State.setCarve_loop (x : CarveSt) (z : Nat) : (s.setCarve x).loop z = s.loop z := rfl
@[simp] theorem State.setCarve_loopSet (x : CarveSt) (z : Nat) : (s.setCarve x).loopSet z = s.loopSet z := rfl

/-! ### setMemc -/

@[simp] theorem State.setMemc_pending (x : MemSt) : (s.setMemc x).pending = s.pending := rfl
@[simp] theorem State.setMemc_tick (x : MemSt) : (s.setMemc x).tick = s.tick := rfl
@[simp] theorem State.setMemc_free (x : MemSt) : (s.setMemc x).free = s.free := rfl
@[simp] theorem State.setMemc_objs (x : MemSt) : (s.setMemc x).objs = s.objs := rfl
@[simp] theorem State.setMemc_blobs (x : MemSt) : (s.setMemc x).blobs = s.blobs := rfl
@[simp] theorem State.setMemc_mem (x : MemSt) : (s.setMemc x).mem = s.mem := rfl
@[simp] theorem State.setMemc_tx (x : MemSt) : (s.setMemc x).tx = s.tx := rfl
@[simp] theorem State.setMemc_ev (x : MemSt) : (s.setMemc x).ev = s.ev := rfl
@[simp] theorem State.setMemc_time (x : MemSt) : (s.setMemc x).time = s.time := rfl
@[simp] theorem State.setMemc_tgs (x : MemSt) : (s.setMemc x).tgs = s.tgs := rfl
@[simp] theorem State.setMemc_slms (x : MemSt) : (s.setMemc x).slms = s.slms := rfl
@[simp] theorem State.setMemc_banks (x : MemSt) : (s.setMemc x).banks = s.banks := rfl
@[simp] theorem State.setMemc_wires (x : MemSt) : (s.setMemc x).wires = s.wires := rfl
@[simp] theorem State.setMemc_intlk (x : MemSt) : (s.setMemc x).intlk = s.intlk := rfl
@[simp] theorem State.setMemc_cols (x : MemSt) : (s.setMemc x).cols = s.cols := rfl
@[simp] theorem State.setMemc_lutAcc (x : MemSt) : (s.setMemc x).lutAcc = s.lutAcc := rfl
@[simp] theorem State.setMemc_cams (x : MemSt) : (s.setMemc x).cams = s.cams := rfl
@[simp] theorem State.setMemc_mouts (x : MemSt) : (s.setMemc x).mouts = s.mouts := rfl
@[simp] theorem State.setMemc_bufs (x : MemSt) : (s.setMemc x).bufs = s.bufs := rfl
@[simp] theorem State.setMemc_lays (x : MemSt) : (s.setMemc x).lays = s.lays := rfl
@[simp] theorem State.setMemc_comps (x : MemSt) : (s.setMemc x).comps = s.comps := rfl
@[simp] theorem State.setMemc_layCommit (x : MemSt) : (s.setMemc x).layCommit = s.layCommit := rfl
@[simp] theorem State.setMemc_carve (x : MemSt) : (s.setMemc x).carve = s.carve := rfl
@[simp] theorem State.setMemc_codecJobs (x : MemSt) : (s.setMemc x).codecJobs = s.codecJobs := rfl
@[simp] theorem State.setMemc_codecRecent (x : MemSt) : (s.setMemc x).codecRecent = s.codecRecent := rfl
@[simp] theorem State.setMemc_intg (x : MemSt) : (s.setMemc x).intg = s.intg := rfl
@[simp] theorem State.setMemc_net (x : MemSt) : (s.setMemc x).net = s.net := rfl
@[simp] theorem State.setMemc_sent (x : MemSt) : (s.setMemc x).sent = s.sent := rfl
@[simp] theorem State.setMemc_resil (x : MemSt) : (s.setMemc x).resil = s.resil := rfl
@[simp] theorem State.setMemc_hier (x : MemSt) : (s.setMemc x).hier = s.hier := rfl
@[simp] theorem State.setMemc_loops (x : MemSt) : (s.setMemc x).loops = s.loops := rfl
@[simp] theorem State.setMemc_loopSets (x : MemSt) : (s.setMemc x).loopSets = s.loopSets := rfl
@[simp] theorem State.setMemc_cal (x : MemSt) : (s.setMemc x).cal = s.cal := rfl
@[simp] theorem State.setMemc_power (x : MemSt) : (s.setMemc x).power = s.power := rfl
@[simp] theorem State.setMemc_sec (x : MemSt) : (s.setMemc x).sec = s.sec := rfl
@[simp] theorem State.setMemc_obj (x : MemSt) (z : Nat) : (s.setMemc x).obj z = s.obj z := rfl
@[simp] theorem State.setMemc_blob (x : MemSt) (z : Nat) : (s.setMemc x).blob z = s.blob z := rfl
@[simp] theorem State.setMemc_byte (x : MemSt) (z : Nat) : (s.setMemc x).byte z = s.byte z := rfl
@[simp] theorem State.setMemc_evCount (x : MemSt) (z : Nat) : (s.setMemc x).evCount z = s.evCount z := rfl
@[simp] theorem State.setMemc_tg (x : MemSt) (z : Nat) : (s.setMemc x).tg z = s.tg z := rfl
@[simp] theorem State.setMemc_slm (x : MemSt) (z : Nat) : (s.setMemc x).slm z = s.slm z := rfl
@[simp] theorem State.setMemc_bank (x : MemSt) (z : Nat) : (s.setMemc x).bank z = s.bank z := rfl
@[simp] theorem State.setMemc_wire (x : MemSt) (z : Nat) : (s.setMemc x).wire z = s.wire z := rfl
@[simp] theorem State.setMemc_col (x : MemSt) (z : Nat) : (s.setMemc x).col z = s.col z := rfl
@[simp] theorem State.setMemc_cam (x : MemSt) (z : Nat) : (s.setMemc x).cam z = s.cam z := rfl
@[simp] theorem State.setMemc_mout (x : MemSt) (z : Nat) : (s.setMemc x).mout z = s.mout z := rfl
@[simp] theorem State.setMemc_buf (x : MemSt) (z : Nat) : (s.setMemc x).buf z = s.buf z := rfl
@[simp] theorem State.setMemc_lay (x : MemSt) (z : Nat) : (s.setMemc x).lay z = s.lay z := rfl
@[simp] theorem State.setMemc_comp (x : MemSt) (z : Nat) : (s.setMemc x).comp z = s.comp z := rfl
@[simp] theorem State.setMemc_loop (x : MemSt) (z : Nat) : (s.setMemc x).loop z = s.loop z := rfl
@[simp] theorem State.setMemc_loopSet (x : MemSt) (z : Nat) : (s.setMemc x).loopSet z = s.loopSet z := rfl

/-! ### setIntg -/

@[simp] theorem State.setIntg_pending (x : IntgSt) : (s.setIntg x).pending = s.pending := rfl
@[simp] theorem State.setIntg_tick (x : IntgSt) : (s.setIntg x).tick = s.tick := rfl
@[simp] theorem State.setIntg_free (x : IntgSt) : (s.setIntg x).free = s.free := rfl
@[simp] theorem State.setIntg_objs (x : IntgSt) : (s.setIntg x).objs = s.objs := rfl
@[simp] theorem State.setIntg_blobs (x : IntgSt) : (s.setIntg x).blobs = s.blobs := rfl
@[simp] theorem State.setIntg_mem (x : IntgSt) : (s.setIntg x).mem = s.mem := rfl
@[simp] theorem State.setIntg_tx (x : IntgSt) : (s.setIntg x).tx = s.tx := rfl
@[simp] theorem State.setIntg_ev (x : IntgSt) : (s.setIntg x).ev = s.ev := rfl
@[simp] theorem State.setIntg_time (x : IntgSt) : (s.setIntg x).time = s.time := rfl
@[simp] theorem State.setIntg_tgs (x : IntgSt) : (s.setIntg x).tgs = s.tgs := rfl
@[simp] theorem State.setIntg_slms (x : IntgSt) : (s.setIntg x).slms = s.slms := rfl
@[simp] theorem State.setIntg_banks (x : IntgSt) : (s.setIntg x).banks = s.banks := rfl
@[simp] theorem State.setIntg_wires (x : IntgSt) : (s.setIntg x).wires = s.wires := rfl
@[simp] theorem State.setIntg_intlk (x : IntgSt) : (s.setIntg x).intlk = s.intlk := rfl
@[simp] theorem State.setIntg_cols (x : IntgSt) : (s.setIntg x).cols = s.cols := rfl
@[simp] theorem State.setIntg_lutAcc (x : IntgSt) : (s.setIntg x).lutAcc = s.lutAcc := rfl
@[simp] theorem State.setIntg_cams (x : IntgSt) : (s.setIntg x).cams = s.cams := rfl
@[simp] theorem State.setIntg_mouts (x : IntgSt) : (s.setIntg x).mouts = s.mouts := rfl
@[simp] theorem State.setIntg_bufs (x : IntgSt) : (s.setIntg x).bufs = s.bufs := rfl
@[simp] theorem State.setIntg_lays (x : IntgSt) : (s.setIntg x).lays = s.lays := rfl
@[simp] theorem State.setIntg_comps (x : IntgSt) : (s.setIntg x).comps = s.comps := rfl
@[simp] theorem State.setIntg_layCommit (x : IntgSt) : (s.setIntg x).layCommit = s.layCommit := rfl
@[simp] theorem State.setIntg_carve (x : IntgSt) : (s.setIntg x).carve = s.carve := rfl
@[simp] theorem State.setIntg_codecJobs (x : IntgSt) : (s.setIntg x).codecJobs = s.codecJobs := rfl
@[simp] theorem State.setIntg_codecRecent (x : IntgSt) : (s.setIntg x).codecRecent = s.codecRecent := rfl
@[simp] theorem State.setIntg_memc (x : IntgSt) : (s.setIntg x).memc = s.memc := rfl
@[simp] theorem State.setIntg_net (x : IntgSt) : (s.setIntg x).net = s.net := rfl
@[simp] theorem State.setIntg_sent (x : IntgSt) : (s.setIntg x).sent = s.sent := rfl
@[simp] theorem State.setIntg_resil (x : IntgSt) : (s.setIntg x).resil = s.resil := rfl
@[simp] theorem State.setIntg_hier (x : IntgSt) : (s.setIntg x).hier = s.hier := rfl
@[simp] theorem State.setIntg_loops (x : IntgSt) : (s.setIntg x).loops = s.loops := rfl
@[simp] theorem State.setIntg_loopSets (x : IntgSt) : (s.setIntg x).loopSets = s.loopSets := rfl
@[simp] theorem State.setIntg_cal (x : IntgSt) : (s.setIntg x).cal = s.cal := rfl
@[simp] theorem State.setIntg_power (x : IntgSt) : (s.setIntg x).power = s.power := rfl
@[simp] theorem State.setIntg_sec (x : IntgSt) : (s.setIntg x).sec = s.sec := rfl
@[simp] theorem State.setIntg_obj (x : IntgSt) (z : Nat) : (s.setIntg x).obj z = s.obj z := rfl
@[simp] theorem State.setIntg_blob (x : IntgSt) (z : Nat) : (s.setIntg x).blob z = s.blob z := rfl
@[simp] theorem State.setIntg_byte (x : IntgSt) (z : Nat) : (s.setIntg x).byte z = s.byte z := rfl
@[simp] theorem State.setIntg_evCount (x : IntgSt) (z : Nat) : (s.setIntg x).evCount z = s.evCount z := rfl
@[simp] theorem State.setIntg_tg (x : IntgSt) (z : Nat) : (s.setIntg x).tg z = s.tg z := rfl
@[simp] theorem State.setIntg_slm (x : IntgSt) (z : Nat) : (s.setIntg x).slm z = s.slm z := rfl
@[simp] theorem State.setIntg_bank (x : IntgSt) (z : Nat) : (s.setIntg x).bank z = s.bank z := rfl
@[simp] theorem State.setIntg_wire (x : IntgSt) (z : Nat) : (s.setIntg x).wire z = s.wire z := rfl
@[simp] theorem State.setIntg_col (x : IntgSt) (z : Nat) : (s.setIntg x).col z = s.col z := rfl
@[simp] theorem State.setIntg_cam (x : IntgSt) (z : Nat) : (s.setIntg x).cam z = s.cam z := rfl
@[simp] theorem State.setIntg_mout (x : IntgSt) (z : Nat) : (s.setIntg x).mout z = s.mout z := rfl
@[simp] theorem State.setIntg_buf (x : IntgSt) (z : Nat) : (s.setIntg x).buf z = s.buf z := rfl
@[simp] theorem State.setIntg_lay (x : IntgSt) (z : Nat) : (s.setIntg x).lay z = s.lay z := rfl
@[simp] theorem State.setIntg_comp (x : IntgSt) (z : Nat) : (s.setIntg x).comp z = s.comp z := rfl
@[simp] theorem State.setIntg_loop (x : IntgSt) (z : Nat) : (s.setIntg x).loop z = s.loop z := rfl
@[simp] theorem State.setIntg_loopSet (x : IntgSt) (z : Nat) : (s.setIntg x).loopSet z = s.loopSet z := rfl

/-! ### setNet -/

@[simp] theorem State.setNet_pending (x : NetSt) : (s.setNet x).pending = s.pending := rfl
@[simp] theorem State.setNet_tick (x : NetSt) : (s.setNet x).tick = s.tick := rfl
@[simp] theorem State.setNet_free (x : NetSt) : (s.setNet x).free = s.free := rfl
@[simp] theorem State.setNet_objs (x : NetSt) : (s.setNet x).objs = s.objs := rfl
@[simp] theorem State.setNet_blobs (x : NetSt) : (s.setNet x).blobs = s.blobs := rfl
@[simp] theorem State.setNet_mem (x : NetSt) : (s.setNet x).mem = s.mem := rfl
@[simp] theorem State.setNet_tx (x : NetSt) : (s.setNet x).tx = s.tx := rfl
@[simp] theorem State.setNet_ev (x : NetSt) : (s.setNet x).ev = s.ev := rfl
@[simp] theorem State.setNet_time (x : NetSt) : (s.setNet x).time = s.time := rfl
@[simp] theorem State.setNet_tgs (x : NetSt) : (s.setNet x).tgs = s.tgs := rfl
@[simp] theorem State.setNet_slms (x : NetSt) : (s.setNet x).slms = s.slms := rfl
@[simp] theorem State.setNet_banks (x : NetSt) : (s.setNet x).banks = s.banks := rfl
@[simp] theorem State.setNet_wires (x : NetSt) : (s.setNet x).wires = s.wires := rfl
@[simp] theorem State.setNet_intlk (x : NetSt) : (s.setNet x).intlk = s.intlk := rfl
@[simp] theorem State.setNet_cols (x : NetSt) : (s.setNet x).cols = s.cols := rfl
@[simp] theorem State.setNet_lutAcc (x : NetSt) : (s.setNet x).lutAcc = s.lutAcc := rfl
@[simp] theorem State.setNet_cams (x : NetSt) : (s.setNet x).cams = s.cams := rfl
@[simp] theorem State.setNet_mouts (x : NetSt) : (s.setNet x).mouts = s.mouts := rfl
@[simp] theorem State.setNet_bufs (x : NetSt) : (s.setNet x).bufs = s.bufs := rfl
@[simp] theorem State.setNet_lays (x : NetSt) : (s.setNet x).lays = s.lays := rfl
@[simp] theorem State.setNet_comps (x : NetSt) : (s.setNet x).comps = s.comps := rfl
@[simp] theorem State.setNet_layCommit (x : NetSt) : (s.setNet x).layCommit = s.layCommit := rfl
@[simp] theorem State.setNet_carve (x : NetSt) : (s.setNet x).carve = s.carve := rfl
@[simp] theorem State.setNet_codecJobs (x : NetSt) : (s.setNet x).codecJobs = s.codecJobs := rfl
@[simp] theorem State.setNet_codecRecent (x : NetSt) : (s.setNet x).codecRecent = s.codecRecent := rfl
@[simp] theorem State.setNet_memc (x : NetSt) : (s.setNet x).memc = s.memc := rfl
@[simp] theorem State.setNet_intg (x : NetSt) : (s.setNet x).intg = s.intg := rfl
@[simp] theorem State.setNet_sent (x : NetSt) : (s.setNet x).sent = s.sent := rfl
@[simp] theorem State.setNet_resil (x : NetSt) : (s.setNet x).resil = s.resil := rfl
@[simp] theorem State.setNet_hier (x : NetSt) : (s.setNet x).hier = s.hier := rfl
@[simp] theorem State.setNet_loops (x : NetSt) : (s.setNet x).loops = s.loops := rfl
@[simp] theorem State.setNet_loopSets (x : NetSt) : (s.setNet x).loopSets = s.loopSets := rfl
@[simp] theorem State.setNet_cal (x : NetSt) : (s.setNet x).cal = s.cal := rfl
@[simp] theorem State.setNet_power (x : NetSt) : (s.setNet x).power = s.power := rfl
@[simp] theorem State.setNet_sec (x : NetSt) : (s.setNet x).sec = s.sec := rfl
@[simp] theorem State.setNet_obj (x : NetSt) (z : Nat) : (s.setNet x).obj z = s.obj z := rfl
@[simp] theorem State.setNet_blob (x : NetSt) (z : Nat) : (s.setNet x).blob z = s.blob z := rfl
@[simp] theorem State.setNet_byte (x : NetSt) (z : Nat) : (s.setNet x).byte z = s.byte z := rfl
@[simp] theorem State.setNet_evCount (x : NetSt) (z : Nat) : (s.setNet x).evCount z = s.evCount z := rfl
@[simp] theorem State.setNet_tg (x : NetSt) (z : Nat) : (s.setNet x).tg z = s.tg z := rfl
@[simp] theorem State.setNet_slm (x : NetSt) (z : Nat) : (s.setNet x).slm z = s.slm z := rfl
@[simp] theorem State.setNet_bank (x : NetSt) (z : Nat) : (s.setNet x).bank z = s.bank z := rfl
@[simp] theorem State.setNet_wire (x : NetSt) (z : Nat) : (s.setNet x).wire z = s.wire z := rfl
@[simp] theorem State.setNet_col (x : NetSt) (z : Nat) : (s.setNet x).col z = s.col z := rfl
@[simp] theorem State.setNet_cam (x : NetSt) (z : Nat) : (s.setNet x).cam z = s.cam z := rfl
@[simp] theorem State.setNet_mout (x : NetSt) (z : Nat) : (s.setNet x).mout z = s.mout z := rfl
@[simp] theorem State.setNet_buf (x : NetSt) (z : Nat) : (s.setNet x).buf z = s.buf z := rfl
@[simp] theorem State.setNet_lay (x : NetSt) (z : Nat) : (s.setNet x).lay z = s.lay z := rfl
@[simp] theorem State.setNet_comp (x : NetSt) (z : Nat) : (s.setNet x).comp z = s.comp z := rfl
@[simp] theorem State.setNet_loop (x : NetSt) (z : Nat) : (s.setNet x).loop z = s.loop z := rfl
@[simp] theorem State.setNet_loopSet (x : NetSt) (z : Nat) : (s.setNet x).loopSet z = s.loopSet z := rfl

/-! ### setHier -/

@[simp] theorem State.setHier_pending (x : HierSt) : (s.setHier x).pending = s.pending := rfl
@[simp] theorem State.setHier_tick (x : HierSt) : (s.setHier x).tick = s.tick := rfl
@[simp] theorem State.setHier_free (x : HierSt) : (s.setHier x).free = s.free := rfl
@[simp] theorem State.setHier_objs (x : HierSt) : (s.setHier x).objs = s.objs := rfl
@[simp] theorem State.setHier_blobs (x : HierSt) : (s.setHier x).blobs = s.blobs := rfl
@[simp] theorem State.setHier_mem (x : HierSt) : (s.setHier x).mem = s.mem := rfl
@[simp] theorem State.setHier_tx (x : HierSt) : (s.setHier x).tx = s.tx := rfl
@[simp] theorem State.setHier_ev (x : HierSt) : (s.setHier x).ev = s.ev := rfl
@[simp] theorem State.setHier_time (x : HierSt) : (s.setHier x).time = s.time := rfl
@[simp] theorem State.setHier_tgs (x : HierSt) : (s.setHier x).tgs = s.tgs := rfl
@[simp] theorem State.setHier_slms (x : HierSt) : (s.setHier x).slms = s.slms := rfl
@[simp] theorem State.setHier_banks (x : HierSt) : (s.setHier x).banks = s.banks := rfl
@[simp] theorem State.setHier_wires (x : HierSt) : (s.setHier x).wires = s.wires := rfl
@[simp] theorem State.setHier_intlk (x : HierSt) : (s.setHier x).intlk = s.intlk := rfl
@[simp] theorem State.setHier_cols (x : HierSt) : (s.setHier x).cols = s.cols := rfl
@[simp] theorem State.setHier_lutAcc (x : HierSt) : (s.setHier x).lutAcc = s.lutAcc := rfl
@[simp] theorem State.setHier_cams (x : HierSt) : (s.setHier x).cams = s.cams := rfl
@[simp] theorem State.setHier_mouts (x : HierSt) : (s.setHier x).mouts = s.mouts := rfl
@[simp] theorem State.setHier_bufs (x : HierSt) : (s.setHier x).bufs = s.bufs := rfl
@[simp] theorem State.setHier_lays (x : HierSt) : (s.setHier x).lays = s.lays := rfl
@[simp] theorem State.setHier_comps (x : HierSt) : (s.setHier x).comps = s.comps := rfl
@[simp] theorem State.setHier_layCommit (x : HierSt) : (s.setHier x).layCommit = s.layCommit := rfl
@[simp] theorem State.setHier_carve (x : HierSt) : (s.setHier x).carve = s.carve := rfl
@[simp] theorem State.setHier_codecJobs (x : HierSt) : (s.setHier x).codecJobs = s.codecJobs := rfl
@[simp] theorem State.setHier_codecRecent (x : HierSt) : (s.setHier x).codecRecent = s.codecRecent := rfl
@[simp] theorem State.setHier_memc (x : HierSt) : (s.setHier x).memc = s.memc := rfl
@[simp] theorem State.setHier_intg (x : HierSt) : (s.setHier x).intg = s.intg := rfl
@[simp] theorem State.setHier_net (x : HierSt) : (s.setHier x).net = s.net := rfl
@[simp] theorem State.setHier_sent (x : HierSt) : (s.setHier x).sent = s.sent := rfl
@[simp] theorem State.setHier_resil (x : HierSt) : (s.setHier x).resil = s.resil := rfl
@[simp] theorem State.setHier_loops (x : HierSt) : (s.setHier x).loops = s.loops := rfl
@[simp] theorem State.setHier_loopSets (x : HierSt) : (s.setHier x).loopSets = s.loopSets := rfl
@[simp] theorem State.setHier_cal (x : HierSt) : (s.setHier x).cal = s.cal := rfl
@[simp] theorem State.setHier_power (x : HierSt) : (s.setHier x).power = s.power := rfl
@[simp] theorem State.setHier_sec (x : HierSt) : (s.setHier x).sec = s.sec := rfl
@[simp] theorem State.setHier_obj (x : HierSt) (z : Nat) : (s.setHier x).obj z = s.obj z := rfl
@[simp] theorem State.setHier_blob (x : HierSt) (z : Nat) : (s.setHier x).blob z = s.blob z := rfl
@[simp] theorem State.setHier_byte (x : HierSt) (z : Nat) : (s.setHier x).byte z = s.byte z := rfl
@[simp] theorem State.setHier_evCount (x : HierSt) (z : Nat) : (s.setHier x).evCount z = s.evCount z := rfl
@[simp] theorem State.setHier_tg (x : HierSt) (z : Nat) : (s.setHier x).tg z = s.tg z := rfl
@[simp] theorem State.setHier_slm (x : HierSt) (z : Nat) : (s.setHier x).slm z = s.slm z := rfl
@[simp] theorem State.setHier_bank (x : HierSt) (z : Nat) : (s.setHier x).bank z = s.bank z := rfl
@[simp] theorem State.setHier_wire (x : HierSt) (z : Nat) : (s.setHier x).wire z = s.wire z := rfl
@[simp] theorem State.setHier_col (x : HierSt) (z : Nat) : (s.setHier x).col z = s.col z := rfl
@[simp] theorem State.setHier_cam (x : HierSt) (z : Nat) : (s.setHier x).cam z = s.cam z := rfl
@[simp] theorem State.setHier_mout (x : HierSt) (z : Nat) : (s.setHier x).mout z = s.mout z := rfl
@[simp] theorem State.setHier_buf (x : HierSt) (z : Nat) : (s.setHier x).buf z = s.buf z := rfl
@[simp] theorem State.setHier_lay (x : HierSt) (z : Nat) : (s.setHier x).lay z = s.lay z := rfl
@[simp] theorem State.setHier_comp (x : HierSt) (z : Nat) : (s.setHier x).comp z = s.comp z := rfl
@[simp] theorem State.setHier_loop (x : HierSt) (z : Nat) : (s.setHier x).loop z = s.loop z := rfl
@[simp] theorem State.setHier_loopSet (x : HierSt) (z : Nat) : (s.setHier x).loopSet z = s.loopSet z := rfl

/-! ### setCal -/

@[simp] theorem State.setCal_pending (x : CalSt) : (s.setCal x).pending = s.pending := rfl
@[simp] theorem State.setCal_tick (x : CalSt) : (s.setCal x).tick = s.tick := rfl
@[simp] theorem State.setCal_free (x : CalSt) : (s.setCal x).free = s.free := rfl
@[simp] theorem State.setCal_objs (x : CalSt) : (s.setCal x).objs = s.objs := rfl
@[simp] theorem State.setCal_blobs (x : CalSt) : (s.setCal x).blobs = s.blobs := rfl
@[simp] theorem State.setCal_mem (x : CalSt) : (s.setCal x).mem = s.mem := rfl
@[simp] theorem State.setCal_tx (x : CalSt) : (s.setCal x).tx = s.tx := rfl
@[simp] theorem State.setCal_ev (x : CalSt) : (s.setCal x).ev = s.ev := rfl
@[simp] theorem State.setCal_time (x : CalSt) : (s.setCal x).time = s.time := rfl
@[simp] theorem State.setCal_tgs (x : CalSt) : (s.setCal x).tgs = s.tgs := rfl
@[simp] theorem State.setCal_slms (x : CalSt) : (s.setCal x).slms = s.slms := rfl
@[simp] theorem State.setCal_banks (x : CalSt) : (s.setCal x).banks = s.banks := rfl
@[simp] theorem State.setCal_wires (x : CalSt) : (s.setCal x).wires = s.wires := rfl
@[simp] theorem State.setCal_intlk (x : CalSt) : (s.setCal x).intlk = s.intlk := rfl
@[simp] theorem State.setCal_cols (x : CalSt) : (s.setCal x).cols = s.cols := rfl
@[simp] theorem State.setCal_lutAcc (x : CalSt) : (s.setCal x).lutAcc = s.lutAcc := rfl
@[simp] theorem State.setCal_cams (x : CalSt) : (s.setCal x).cams = s.cams := rfl
@[simp] theorem State.setCal_mouts (x : CalSt) : (s.setCal x).mouts = s.mouts := rfl
@[simp] theorem State.setCal_bufs (x : CalSt) : (s.setCal x).bufs = s.bufs := rfl
@[simp] theorem State.setCal_lays (x : CalSt) : (s.setCal x).lays = s.lays := rfl
@[simp] theorem State.setCal_comps (x : CalSt) : (s.setCal x).comps = s.comps := rfl
@[simp] theorem State.setCal_layCommit (x : CalSt) : (s.setCal x).layCommit = s.layCommit := rfl
@[simp] theorem State.setCal_carve (x : CalSt) : (s.setCal x).carve = s.carve := rfl
@[simp] theorem State.setCal_codecJobs (x : CalSt) : (s.setCal x).codecJobs = s.codecJobs := rfl
@[simp] theorem State.setCal_codecRecent (x : CalSt) : (s.setCal x).codecRecent = s.codecRecent := rfl
@[simp] theorem State.setCal_memc (x : CalSt) : (s.setCal x).memc = s.memc := rfl
@[simp] theorem State.setCal_intg (x : CalSt) : (s.setCal x).intg = s.intg := rfl
@[simp] theorem State.setCal_net (x : CalSt) : (s.setCal x).net = s.net := rfl
@[simp] theorem State.setCal_sent (x : CalSt) : (s.setCal x).sent = s.sent := rfl
@[simp] theorem State.setCal_resil (x : CalSt) : (s.setCal x).resil = s.resil := rfl
@[simp] theorem State.setCal_hier (x : CalSt) : (s.setCal x).hier = s.hier := rfl
@[simp] theorem State.setCal_loops (x : CalSt) : (s.setCal x).loops = s.loops := rfl
@[simp] theorem State.setCal_loopSets (x : CalSt) : (s.setCal x).loopSets = s.loopSets := rfl
@[simp] theorem State.setCal_power (x : CalSt) : (s.setCal x).power = s.power := rfl
@[simp] theorem State.setCal_sec (x : CalSt) : (s.setCal x).sec = s.sec := rfl
@[simp] theorem State.setCal_obj (x : CalSt) (z : Nat) : (s.setCal x).obj z = s.obj z := rfl
@[simp] theorem State.setCal_blob (x : CalSt) (z : Nat) : (s.setCal x).blob z = s.blob z := rfl
@[simp] theorem State.setCal_byte (x : CalSt) (z : Nat) : (s.setCal x).byte z = s.byte z := rfl
@[simp] theorem State.setCal_evCount (x : CalSt) (z : Nat) : (s.setCal x).evCount z = s.evCount z := rfl
@[simp] theorem State.setCal_tg (x : CalSt) (z : Nat) : (s.setCal x).tg z = s.tg z := rfl
@[simp] theorem State.setCal_slm (x : CalSt) (z : Nat) : (s.setCal x).slm z = s.slm z := rfl
@[simp] theorem State.setCal_bank (x : CalSt) (z : Nat) : (s.setCal x).bank z = s.bank z := rfl
@[simp] theorem State.setCal_wire (x : CalSt) (z : Nat) : (s.setCal x).wire z = s.wire z := rfl
@[simp] theorem State.setCal_col (x : CalSt) (z : Nat) : (s.setCal x).col z = s.col z := rfl
@[simp] theorem State.setCal_cam (x : CalSt) (z : Nat) : (s.setCal x).cam z = s.cam z := rfl
@[simp] theorem State.setCal_mout (x : CalSt) (z : Nat) : (s.setCal x).mout z = s.mout z := rfl
@[simp] theorem State.setCal_buf (x : CalSt) (z : Nat) : (s.setCal x).buf z = s.buf z := rfl
@[simp] theorem State.setCal_lay (x : CalSt) (z : Nat) : (s.setCal x).lay z = s.lay z := rfl
@[simp] theorem State.setCal_comp (x : CalSt) (z : Nat) : (s.setCal x).comp z = s.comp z := rfl
@[simp] theorem State.setCal_loop (x : CalSt) (z : Nat) : (s.setCal x).loop z = s.loop z := rfl
@[simp] theorem State.setCal_loopSet (x : CalSt) (z : Nat) : (s.setCal x).loopSet z = s.loopSet z := rfl

/-! ### setPower -/

@[simp] theorem State.setPower_pending (x : PowerSt) : (s.setPower x).pending = s.pending := rfl
@[simp] theorem State.setPower_tick (x : PowerSt) : (s.setPower x).tick = s.tick := rfl
@[simp] theorem State.setPower_free (x : PowerSt) : (s.setPower x).free = s.free := rfl
@[simp] theorem State.setPower_objs (x : PowerSt) : (s.setPower x).objs = s.objs := rfl
@[simp] theorem State.setPower_blobs (x : PowerSt) : (s.setPower x).blobs = s.blobs := rfl
@[simp] theorem State.setPower_mem (x : PowerSt) : (s.setPower x).mem = s.mem := rfl
@[simp] theorem State.setPower_tx (x : PowerSt) : (s.setPower x).tx = s.tx := rfl
@[simp] theorem State.setPower_ev (x : PowerSt) : (s.setPower x).ev = s.ev := rfl
@[simp] theorem State.setPower_time (x : PowerSt) : (s.setPower x).time = s.time := rfl
@[simp] theorem State.setPower_tgs (x : PowerSt) : (s.setPower x).tgs = s.tgs := rfl
@[simp] theorem State.setPower_slms (x : PowerSt) : (s.setPower x).slms = s.slms := rfl
@[simp] theorem State.setPower_banks (x : PowerSt) : (s.setPower x).banks = s.banks := rfl
@[simp] theorem State.setPower_wires (x : PowerSt) : (s.setPower x).wires = s.wires := rfl
@[simp] theorem State.setPower_intlk (x : PowerSt) : (s.setPower x).intlk = s.intlk := rfl
@[simp] theorem State.setPower_cols (x : PowerSt) : (s.setPower x).cols = s.cols := rfl
@[simp] theorem State.setPower_lutAcc (x : PowerSt) : (s.setPower x).lutAcc = s.lutAcc := rfl
@[simp] theorem State.setPower_cams (x : PowerSt) : (s.setPower x).cams = s.cams := rfl
@[simp] theorem State.setPower_mouts (x : PowerSt) : (s.setPower x).mouts = s.mouts := rfl
@[simp] theorem State.setPower_bufs (x : PowerSt) : (s.setPower x).bufs = s.bufs := rfl
@[simp] theorem State.setPower_lays (x : PowerSt) : (s.setPower x).lays = s.lays := rfl
@[simp] theorem State.setPower_comps (x : PowerSt) : (s.setPower x).comps = s.comps := rfl
@[simp] theorem State.setPower_layCommit (x : PowerSt) : (s.setPower x).layCommit = s.layCommit := rfl
@[simp] theorem State.setPower_carve (x : PowerSt) : (s.setPower x).carve = s.carve := rfl
@[simp] theorem State.setPower_codecJobs (x : PowerSt) : (s.setPower x).codecJobs = s.codecJobs := rfl
@[simp] theorem State.setPower_codecRecent (x : PowerSt) : (s.setPower x).codecRecent = s.codecRecent := rfl
@[simp] theorem State.setPower_memc (x : PowerSt) : (s.setPower x).memc = s.memc := rfl
@[simp] theorem State.setPower_intg (x : PowerSt) : (s.setPower x).intg = s.intg := rfl
@[simp] theorem State.setPower_net (x : PowerSt) : (s.setPower x).net = s.net := rfl
@[simp] theorem State.setPower_sent (x : PowerSt) : (s.setPower x).sent = s.sent := rfl
@[simp] theorem State.setPower_resil (x : PowerSt) : (s.setPower x).resil = s.resil := rfl
@[simp] theorem State.setPower_hier (x : PowerSt) : (s.setPower x).hier = s.hier := rfl
@[simp] theorem State.setPower_loops (x : PowerSt) : (s.setPower x).loops = s.loops := rfl
@[simp] theorem State.setPower_loopSets (x : PowerSt) : (s.setPower x).loopSets = s.loopSets := rfl
@[simp] theorem State.setPower_cal (x : PowerSt) : (s.setPower x).cal = s.cal := rfl
@[simp] theorem State.setPower_sec (x : PowerSt) : (s.setPower x).sec = s.sec := rfl
@[simp] theorem State.setPower_obj (x : PowerSt) (z : Nat) : (s.setPower x).obj z = s.obj z := rfl
@[simp] theorem State.setPower_blob (x : PowerSt) (z : Nat) : (s.setPower x).blob z = s.blob z := rfl
@[simp] theorem State.setPower_byte (x : PowerSt) (z : Nat) : (s.setPower x).byte z = s.byte z := rfl
@[simp] theorem State.setPower_evCount (x : PowerSt) (z : Nat) : (s.setPower x).evCount z = s.evCount z := rfl
@[simp] theorem State.setPower_tg (x : PowerSt) (z : Nat) : (s.setPower x).tg z = s.tg z := rfl
@[simp] theorem State.setPower_slm (x : PowerSt) (z : Nat) : (s.setPower x).slm z = s.slm z := rfl
@[simp] theorem State.setPower_bank (x : PowerSt) (z : Nat) : (s.setPower x).bank z = s.bank z := rfl
@[simp] theorem State.setPower_wire (x : PowerSt) (z : Nat) : (s.setPower x).wire z = s.wire z := rfl
@[simp] theorem State.setPower_col (x : PowerSt) (z : Nat) : (s.setPower x).col z = s.col z := rfl
@[simp] theorem State.setPower_cam (x : PowerSt) (z : Nat) : (s.setPower x).cam z = s.cam z := rfl
@[simp] theorem State.setPower_mout (x : PowerSt) (z : Nat) : (s.setPower x).mout z = s.mout z := rfl
@[simp] theorem State.setPower_buf (x : PowerSt) (z : Nat) : (s.setPower x).buf z = s.buf z := rfl
@[simp] theorem State.setPower_lay (x : PowerSt) (z : Nat) : (s.setPower x).lay z = s.lay z := rfl
@[simp] theorem State.setPower_comp (x : PowerSt) (z : Nat) : (s.setPower x).comp z = s.comp z := rfl
@[simp] theorem State.setPower_loop (x : PowerSt) (z : Nat) : (s.setPower x).loop z = s.loop z := rfl
@[simp] theorem State.setPower_loopSet (x : PowerSt) (z : Nat) : (s.setPower x).loopSet z = s.loopSet z := rfl

/-! ### setSec -/

@[simp] theorem State.setSec_pending (x : SecSt) : (s.setSec x).pending = s.pending := rfl
@[simp] theorem State.setSec_tick (x : SecSt) : (s.setSec x).tick = s.tick := rfl
@[simp] theorem State.setSec_free (x : SecSt) : (s.setSec x).free = s.free := rfl
@[simp] theorem State.setSec_objs (x : SecSt) : (s.setSec x).objs = s.objs := rfl
@[simp] theorem State.setSec_blobs (x : SecSt) : (s.setSec x).blobs = s.blobs := rfl
@[simp] theorem State.setSec_mem (x : SecSt) : (s.setSec x).mem = s.mem := rfl
@[simp] theorem State.setSec_tx (x : SecSt) : (s.setSec x).tx = s.tx := rfl
@[simp] theorem State.setSec_ev (x : SecSt) : (s.setSec x).ev = s.ev := rfl
@[simp] theorem State.setSec_time (x : SecSt) : (s.setSec x).time = s.time := rfl
@[simp] theorem State.setSec_tgs (x : SecSt) : (s.setSec x).tgs = s.tgs := rfl
@[simp] theorem State.setSec_slms (x : SecSt) : (s.setSec x).slms = s.slms := rfl
@[simp] theorem State.setSec_banks (x : SecSt) : (s.setSec x).banks = s.banks := rfl
@[simp] theorem State.setSec_wires (x : SecSt) : (s.setSec x).wires = s.wires := rfl
@[simp] theorem State.setSec_intlk (x : SecSt) : (s.setSec x).intlk = s.intlk := rfl
@[simp] theorem State.setSec_cols (x : SecSt) : (s.setSec x).cols = s.cols := rfl
@[simp] theorem State.setSec_lutAcc (x : SecSt) : (s.setSec x).lutAcc = s.lutAcc := rfl
@[simp] theorem State.setSec_cams (x : SecSt) : (s.setSec x).cams = s.cams := rfl
@[simp] theorem State.setSec_mouts (x : SecSt) : (s.setSec x).mouts = s.mouts := rfl
@[simp] theorem State.setSec_bufs (x : SecSt) : (s.setSec x).bufs = s.bufs := rfl
@[simp] theorem State.setSec_lays (x : SecSt) : (s.setSec x).lays = s.lays := rfl
@[simp] theorem State.setSec_comps (x : SecSt) : (s.setSec x).comps = s.comps := rfl
@[simp] theorem State.setSec_layCommit (x : SecSt) : (s.setSec x).layCommit = s.layCommit := rfl
@[simp] theorem State.setSec_carve (x : SecSt) : (s.setSec x).carve = s.carve := rfl
@[simp] theorem State.setSec_codecJobs (x : SecSt) : (s.setSec x).codecJobs = s.codecJobs := rfl
@[simp] theorem State.setSec_codecRecent (x : SecSt) : (s.setSec x).codecRecent = s.codecRecent := rfl
@[simp] theorem State.setSec_memc (x : SecSt) : (s.setSec x).memc = s.memc := rfl
@[simp] theorem State.setSec_intg (x : SecSt) : (s.setSec x).intg = s.intg := rfl
@[simp] theorem State.setSec_net (x : SecSt) : (s.setSec x).net = s.net := rfl
@[simp] theorem State.setSec_sent (x : SecSt) : (s.setSec x).sent = s.sent := rfl
@[simp] theorem State.setSec_resil (x : SecSt) : (s.setSec x).resil = s.resil := rfl
@[simp] theorem State.setSec_hier (x : SecSt) : (s.setSec x).hier = s.hier := rfl
@[simp] theorem State.setSec_loops (x : SecSt) : (s.setSec x).loops = s.loops := rfl
@[simp] theorem State.setSec_loopSets (x : SecSt) : (s.setSec x).loopSets = s.loopSets := rfl
@[simp] theorem State.setSec_cal (x : SecSt) : (s.setSec x).cal = s.cal := rfl
@[simp] theorem State.setSec_power (x : SecSt) : (s.setSec x).power = s.power := rfl
@[simp] theorem State.setSec_obj (x : SecSt) (z : Nat) : (s.setSec x).obj z = s.obj z := rfl
@[simp] theorem State.setSec_blob (x : SecSt) (z : Nat) : (s.setSec x).blob z = s.blob z := rfl
@[simp] theorem State.setSec_byte (x : SecSt) (z : Nat) : (s.setSec x).byte z = s.byte z := rfl
@[simp] theorem State.setSec_evCount (x : SecSt) (z : Nat) : (s.setSec x).evCount z = s.evCount z := rfl
@[simp] theorem State.setSec_tg (x : SecSt) (z : Nat) : (s.setSec x).tg z = s.tg z := rfl
@[simp] theorem State.setSec_slm (x : SecSt) (z : Nat) : (s.setSec x).slm z = s.slm z := rfl
@[simp] theorem State.setSec_bank (x : SecSt) (z : Nat) : (s.setSec x).bank z = s.bank z := rfl
@[simp] theorem State.setSec_wire (x : SecSt) (z : Nat) : (s.setSec x).wire z = s.wire z := rfl
@[simp] theorem State.setSec_col (x : SecSt) (z : Nat) : (s.setSec x).col z = s.col z := rfl
@[simp] theorem State.setSec_cam (x : SecSt) (z : Nat) : (s.setSec x).cam z = s.cam z := rfl
@[simp] theorem State.setSec_mout (x : SecSt) (z : Nat) : (s.setSec x).mout z = s.mout z := rfl
@[simp] theorem State.setSec_buf (x : SecSt) (z : Nat) : (s.setSec x).buf z = s.buf z := rfl
@[simp] theorem State.setSec_lay (x : SecSt) (z : Nat) : (s.setSec x).lay z = s.lay z := rfl
@[simp] theorem State.setSec_comp (x : SecSt) (z : Nat) : (s.setSec x).comp z = s.comp z := rfl
@[simp] theorem State.setSec_loop (x : SecSt) (z : Nat) : (s.setSec x).loop z = s.loop z := rfl
@[simp] theorem State.setSec_loopSet (x : SecSt) (z : Nat) : (s.setSec x).loopSet z = s.loopSet z := rfl

/-! ### setSession -/

@[simp] theorem State.setSession_pending (n : Nat) (x : Session) : (s.setSession n x).pending = s.pending := rfl
@[simp] theorem State.setSession_tick (n : Nat) (x : Session) : (s.setSession n x).tick = s.tick := rfl
@[simp] theorem State.setSession_free (n : Nat) (x : Session) : (s.setSession n x).free = s.free := rfl
@[simp] theorem State.setSession_objs (n : Nat) (x : Session) : (s.setSession n x).objs = s.objs := rfl
@[simp] theorem State.setSession_blobs (n : Nat) (x : Session) : (s.setSession n x).blobs = s.blobs := rfl
@[simp] theorem State.setSession_mem (n : Nat) (x : Session) : (s.setSession n x).mem = s.mem := rfl
@[simp] theorem State.setSession_tx (n : Nat) (x : Session) : (s.setSession n x).tx = s.tx := rfl
@[simp] theorem State.setSession_ev (n : Nat) (x : Session) : (s.setSession n x).ev = s.ev := rfl
@[simp] theorem State.setSession_time (n : Nat) (x : Session) : (s.setSession n x).time = s.time := rfl
@[simp] theorem State.setSession_tgs (n : Nat) (x : Session) : (s.setSession n x).tgs = s.tgs := rfl
@[simp] theorem State.setSession_slms (n : Nat) (x : Session) : (s.setSession n x).slms = s.slms := rfl
@[simp] theorem State.setSession_banks (n : Nat) (x : Session) : (s.setSession n x).banks = s.banks := rfl
@[simp] theorem State.setSession_wires (n : Nat) (x : Session) : (s.setSession n x).wires = s.wires := rfl
@[simp] theorem State.setSession_intlk (n : Nat) (x : Session) : (s.setSession n x).intlk = s.intlk := rfl
@[simp] theorem State.setSession_cols (n : Nat) (x : Session) : (s.setSession n x).cols = s.cols := rfl
@[simp] theorem State.setSession_lutAcc (n : Nat) (x : Session) : (s.setSession n x).lutAcc = s.lutAcc := rfl
@[simp] theorem State.setSession_cams (n : Nat) (x : Session) : (s.setSession n x).cams = s.cams := rfl
@[simp] theorem State.setSession_mouts (n : Nat) (x : Session) : (s.setSession n x).mouts = s.mouts := rfl
@[simp] theorem State.setSession_bufs (n : Nat) (x : Session) : (s.setSession n x).bufs = s.bufs := rfl
@[simp] theorem State.setSession_lays (n : Nat) (x : Session) : (s.setSession n x).lays = s.lays := rfl
@[simp] theorem State.setSession_comps (n : Nat) (x : Session) : (s.setSession n x).comps = s.comps := rfl
@[simp] theorem State.setSession_layCommit (n : Nat) (x : Session) : (s.setSession n x).layCommit = s.layCommit := rfl
@[simp] theorem State.setSession_carve (n : Nat) (x : Session) : (s.setSession n x).carve = s.carve := rfl
@[simp] theorem State.setSession_codecJobs (n : Nat) (x : Session) : (s.setSession n x).codecJobs = s.codecJobs := rfl
@[simp] theorem State.setSession_codecRecent (n : Nat) (x : Session) : (s.setSession n x).codecRecent = s.codecRecent := rfl
@[simp] theorem State.setSession_memc (n : Nat) (x : Session) : (s.setSession n x).memc = s.memc := rfl
@[simp] theorem State.setSession_intg (n : Nat) (x : Session) : (s.setSession n x).intg = s.intg := rfl
@[simp] theorem State.setSession_net (n : Nat) (x : Session) : (s.setSession n x).net = s.net := rfl
@[simp] theorem State.setSession_sent (n : Nat) (x : Session) : (s.setSession n x).sent = s.sent := rfl
@[simp] theorem State.setSession_hier (n : Nat) (x : Session) : (s.setSession n x).hier = s.hier := rfl
@[simp] theorem State.setSession_loops (n : Nat) (x : Session) : (s.setSession n x).loops = s.loops := rfl
@[simp] theorem State.setSession_loopSets (n : Nat) (x : Session) : (s.setSession n x).loopSets = s.loopSets := rfl
@[simp] theorem State.setSession_cal (n : Nat) (x : Session) : (s.setSession n x).cal = s.cal := rfl
@[simp] theorem State.setSession_power (n : Nat) (x : Session) : (s.setSession n x).power = s.power := rfl
@[simp] theorem State.setSession_sec (n : Nat) (x : Session) : (s.setSession n x).sec = s.sec := rfl
@[simp] theorem State.setSession_obj (n : Nat) (x : Session) (z : Nat) : (s.setSession n x).obj z = s.obj z := rfl
@[simp] theorem State.setSession_blob (n : Nat) (x : Session) (z : Nat) : (s.setSession n x).blob z = s.blob z := rfl
@[simp] theorem State.setSession_byte (n : Nat) (x : Session) (z : Nat) : (s.setSession n x).byte z = s.byte z := rfl
@[simp] theorem State.setSession_evCount (n : Nat) (x : Session) (z : Nat) : (s.setSession n x).evCount z = s.evCount z := rfl
@[simp] theorem State.setSession_tg (n : Nat) (x : Session) (z : Nat) : (s.setSession n x).tg z = s.tg z := rfl
@[simp] theorem State.setSession_slm (n : Nat) (x : Session) (z : Nat) : (s.setSession n x).slm z = s.slm z := rfl
@[simp] theorem State.setSession_bank (n : Nat) (x : Session) (z : Nat) : (s.setSession n x).bank z = s.bank z := rfl
@[simp] theorem State.setSession_wire (n : Nat) (x : Session) (z : Nat) : (s.setSession n x).wire z = s.wire z := rfl
@[simp] theorem State.setSession_col (n : Nat) (x : Session) (z : Nat) : (s.setSession n x).col z = s.col z := rfl
@[simp] theorem State.setSession_cam (n : Nat) (x : Session) (z : Nat) : (s.setSession n x).cam z = s.cam z := rfl
@[simp] theorem State.setSession_mout (n : Nat) (x : Session) (z : Nat) : (s.setSession n x).mout z = s.mout z := rfl
@[simp] theorem State.setSession_buf (n : Nat) (x : Session) (z : Nat) : (s.setSession n x).buf z = s.buf z := rfl
@[simp] theorem State.setSession_lay (n : Nat) (x : Session) (z : Nat) : (s.setSession n x).lay z = s.lay z := rfl
@[simp] theorem State.setSession_comp (n : Nat) (x : Session) (z : Nat) : (s.setSession n x).comp z = s.comp z := rfl
@[simp] theorem State.setSession_loop (n : Nat) (x : Session) (z : Nat) : (s.setSession n x).loop z = s.loop z := rfl
@[simp] theorem State.setSession_loopSet (n : Nat) (x : Session) (z : Nat) : (s.setSession n x).loopSet z = s.loopSet z := rfl

/-! ### setXfers -/

@[simp] theorem State.setXfers_pending (m : List (Nat × Xfer)) : (s.setXfers m).pending = s.pending := rfl
@[simp] theorem State.setXfers_tick (m : List (Nat × Xfer)) : (s.setXfers m).tick = s.tick := rfl
@[simp] theorem State.setXfers_free (m : List (Nat × Xfer)) : (s.setXfers m).free = s.free := rfl
@[simp] theorem State.setXfers_objs (m : List (Nat × Xfer)) : (s.setXfers m).objs = s.objs := rfl
@[simp] theorem State.setXfers_blobs (m : List (Nat × Xfer)) : (s.setXfers m).blobs = s.blobs := rfl
@[simp] theorem State.setXfers_mem (m : List (Nat × Xfer)) : (s.setXfers m).mem = s.mem := rfl
@[simp] theorem State.setXfers_tx (m : List (Nat × Xfer)) : (s.setXfers m).tx = s.tx := rfl
@[simp] theorem State.setXfers_ev (m : List (Nat × Xfer)) : (s.setXfers m).ev = s.ev := rfl
@[simp] theorem State.setXfers_time (m : List (Nat × Xfer)) : (s.setXfers m).time = s.time := rfl
@[simp] theorem State.setXfers_tgs (m : List (Nat × Xfer)) : (s.setXfers m).tgs = s.tgs := rfl
@[simp] theorem State.setXfers_slms (m : List (Nat × Xfer)) : (s.setXfers m).slms = s.slms := rfl
@[simp] theorem State.setXfers_banks (m : List (Nat × Xfer)) : (s.setXfers m).banks = s.banks := rfl
@[simp] theorem State.setXfers_wires (m : List (Nat × Xfer)) : (s.setXfers m).wires = s.wires := rfl
@[simp] theorem State.setXfers_intlk (m : List (Nat × Xfer)) : (s.setXfers m).intlk = s.intlk := rfl
@[simp] theorem State.setXfers_cols (m : List (Nat × Xfer)) : (s.setXfers m).cols = s.cols := rfl
@[simp] theorem State.setXfers_lutAcc (m : List (Nat × Xfer)) : (s.setXfers m).lutAcc = s.lutAcc := rfl
@[simp] theorem State.setXfers_cams (m : List (Nat × Xfer)) : (s.setXfers m).cams = s.cams := rfl
@[simp] theorem State.setXfers_mouts (m : List (Nat × Xfer)) : (s.setXfers m).mouts = s.mouts := rfl
@[simp] theorem State.setXfers_bufs (m : List (Nat × Xfer)) : (s.setXfers m).bufs = s.bufs := rfl
@[simp] theorem State.setXfers_lays (m : List (Nat × Xfer)) : (s.setXfers m).lays = s.lays := rfl
@[simp] theorem State.setXfers_comps (m : List (Nat × Xfer)) : (s.setXfers m).comps = s.comps := rfl
@[simp] theorem State.setXfers_layCommit (m : List (Nat × Xfer)) : (s.setXfers m).layCommit = s.layCommit := rfl
@[simp] theorem State.setXfers_carve (m : List (Nat × Xfer)) : (s.setXfers m).carve = s.carve := rfl
@[simp] theorem State.setXfers_codecJobs (m : List (Nat × Xfer)) : (s.setXfers m).codecJobs = s.codecJobs := rfl
@[simp] theorem State.setXfers_codecRecent (m : List (Nat × Xfer)) : (s.setXfers m).codecRecent = s.codecRecent := rfl
@[simp] theorem State.setXfers_memc (m : List (Nat × Xfer)) : (s.setXfers m).memc = s.memc := rfl
@[simp] theorem State.setXfers_intg (m : List (Nat × Xfer)) : (s.setXfers m).intg = s.intg := rfl
@[simp] theorem State.setXfers_net (m : List (Nat × Xfer)) : (s.setXfers m).net = s.net := rfl
@[simp] theorem State.setXfers_sent (m : List (Nat × Xfer)) : (s.setXfers m).sent = s.sent := rfl
@[simp] theorem State.setXfers_hier (m : List (Nat × Xfer)) : (s.setXfers m).hier = s.hier := rfl
@[simp] theorem State.setXfers_loops (m : List (Nat × Xfer)) : (s.setXfers m).loops = s.loops := rfl
@[simp] theorem State.setXfers_loopSets (m : List (Nat × Xfer)) : (s.setXfers m).loopSets = s.loopSets := rfl
@[simp] theorem State.setXfers_cal (m : List (Nat × Xfer)) : (s.setXfers m).cal = s.cal := rfl
@[simp] theorem State.setXfers_power (m : List (Nat × Xfer)) : (s.setXfers m).power = s.power := rfl
@[simp] theorem State.setXfers_sec (m : List (Nat × Xfer)) : (s.setXfers m).sec = s.sec := rfl
@[simp] theorem State.setXfers_obj (m : List (Nat × Xfer)) (z : Nat) : (s.setXfers m).obj z = s.obj z := rfl
@[simp] theorem State.setXfers_blob (m : List (Nat × Xfer)) (z : Nat) : (s.setXfers m).blob z = s.blob z := rfl
@[simp] theorem State.setXfers_byte (m : List (Nat × Xfer)) (z : Nat) : (s.setXfers m).byte z = s.byte z := rfl
@[simp] theorem State.setXfers_evCount (m : List (Nat × Xfer)) (z : Nat) : (s.setXfers m).evCount z = s.evCount z := rfl
@[simp] theorem State.setXfers_tg (m : List (Nat × Xfer)) (z : Nat) : (s.setXfers m).tg z = s.tg z := rfl
@[simp] theorem State.setXfers_slm (m : List (Nat × Xfer)) (z : Nat) : (s.setXfers m).slm z = s.slm z := rfl
@[simp] theorem State.setXfers_bank (m : List (Nat × Xfer)) (z : Nat) : (s.setXfers m).bank z = s.bank z := rfl
@[simp] theorem State.setXfers_wire (m : List (Nat × Xfer)) (z : Nat) : (s.setXfers m).wire z = s.wire z := rfl
@[simp] theorem State.setXfers_col (m : List (Nat × Xfer)) (z : Nat) : (s.setXfers m).col z = s.col z := rfl
@[simp] theorem State.setXfers_cam (m : List (Nat × Xfer)) (z : Nat) : (s.setXfers m).cam z = s.cam z := rfl
@[simp] theorem State.setXfers_mout (m : List (Nat × Xfer)) (z : Nat) : (s.setXfers m).mout z = s.mout z := rfl
@[simp] theorem State.setXfers_buf (m : List (Nat × Xfer)) (z : Nat) : (s.setXfers m).buf z = s.buf z := rfl
@[simp] theorem State.setXfers_lay (m : List (Nat × Xfer)) (z : Nat) : (s.setXfers m).lay z = s.lay z := rfl
@[simp] theorem State.setXfers_comp (m : List (Nat × Xfer)) (z : Nat) : (s.setXfers m).comp z = s.comp z := rfl
@[simp] theorem State.setXfers_loop (m : List (Nat × Xfer)) (z : Nat) : (s.setXfers m).loop z = s.loop z := rfl
@[simp] theorem State.setXfers_loopSet (m : List (Nat × Xfer)) (z : Nat) : (s.setXfers m).loopSet z = s.loopSet z := rfl

/-! ### setSubs -/

@[simp] theorem State.setSubs_pending (m : List (Nat × Sub)) : (s.setSubs m).pending = s.pending := rfl
@[simp] theorem State.setSubs_tick (m : List (Nat × Sub)) : (s.setSubs m).tick = s.tick := rfl
@[simp] theorem State.setSubs_free (m : List (Nat × Sub)) : (s.setSubs m).free = s.free := rfl
@[simp] theorem State.setSubs_objs (m : List (Nat × Sub)) : (s.setSubs m).objs = s.objs := rfl
@[simp] theorem State.setSubs_blobs (m : List (Nat × Sub)) : (s.setSubs m).blobs = s.blobs := rfl
@[simp] theorem State.setSubs_mem (m : List (Nat × Sub)) : (s.setSubs m).mem = s.mem := rfl
@[simp] theorem State.setSubs_tx (m : List (Nat × Sub)) : (s.setSubs m).tx = s.tx := rfl
@[simp] theorem State.setSubs_ev (m : List (Nat × Sub)) : (s.setSubs m).ev = s.ev := rfl
@[simp] theorem State.setSubs_time (m : List (Nat × Sub)) : (s.setSubs m).time = s.time := rfl
@[simp] theorem State.setSubs_tgs (m : List (Nat × Sub)) : (s.setSubs m).tgs = s.tgs := rfl
@[simp] theorem State.setSubs_slms (m : List (Nat × Sub)) : (s.setSubs m).slms = s.slms := rfl
@[simp] theorem State.setSubs_banks (m : List (Nat × Sub)) : (s.setSubs m).banks = s.banks := rfl
@[simp] theorem State.setSubs_wires (m : List (Nat × Sub)) : (s.setSubs m).wires = s.wires := rfl
@[simp] theorem State.setSubs_intlk (m : List (Nat × Sub)) : (s.setSubs m).intlk = s.intlk := rfl
@[simp] theorem State.setSubs_cols (m : List (Nat × Sub)) : (s.setSubs m).cols = s.cols := rfl
@[simp] theorem State.setSubs_lutAcc (m : List (Nat × Sub)) : (s.setSubs m).lutAcc = s.lutAcc := rfl
@[simp] theorem State.setSubs_cams (m : List (Nat × Sub)) : (s.setSubs m).cams = s.cams := rfl
@[simp] theorem State.setSubs_mouts (m : List (Nat × Sub)) : (s.setSubs m).mouts = s.mouts := rfl
@[simp] theorem State.setSubs_bufs (m : List (Nat × Sub)) : (s.setSubs m).bufs = s.bufs := rfl
@[simp] theorem State.setSubs_lays (m : List (Nat × Sub)) : (s.setSubs m).lays = s.lays := rfl
@[simp] theorem State.setSubs_comps (m : List (Nat × Sub)) : (s.setSubs m).comps = s.comps := rfl
@[simp] theorem State.setSubs_layCommit (m : List (Nat × Sub)) : (s.setSubs m).layCommit = s.layCommit := rfl
@[simp] theorem State.setSubs_carve (m : List (Nat × Sub)) : (s.setSubs m).carve = s.carve := rfl
@[simp] theorem State.setSubs_codecJobs (m : List (Nat × Sub)) : (s.setSubs m).codecJobs = s.codecJobs := rfl
@[simp] theorem State.setSubs_codecRecent (m : List (Nat × Sub)) : (s.setSubs m).codecRecent = s.codecRecent := rfl
@[simp] theorem State.setSubs_memc (m : List (Nat × Sub)) : (s.setSubs m).memc = s.memc := rfl
@[simp] theorem State.setSubs_intg (m : List (Nat × Sub)) : (s.setSubs m).intg = s.intg := rfl
@[simp] theorem State.setSubs_net (m : List (Nat × Sub)) : (s.setSubs m).net = s.net := rfl
@[simp] theorem State.setSubs_sent (m : List (Nat × Sub)) : (s.setSubs m).sent = s.sent := rfl
@[simp] theorem State.setSubs_hier (m : List (Nat × Sub)) : (s.setSubs m).hier = s.hier := rfl
@[simp] theorem State.setSubs_loops (m : List (Nat × Sub)) : (s.setSubs m).loops = s.loops := rfl
@[simp] theorem State.setSubs_loopSets (m : List (Nat × Sub)) : (s.setSubs m).loopSets = s.loopSets := rfl
@[simp] theorem State.setSubs_cal (m : List (Nat × Sub)) : (s.setSubs m).cal = s.cal := rfl
@[simp] theorem State.setSubs_power (m : List (Nat × Sub)) : (s.setSubs m).power = s.power := rfl
@[simp] theorem State.setSubs_sec (m : List (Nat × Sub)) : (s.setSubs m).sec = s.sec := rfl
@[simp] theorem State.setSubs_obj (m : List (Nat × Sub)) (z : Nat) : (s.setSubs m).obj z = s.obj z := rfl
@[simp] theorem State.setSubs_blob (m : List (Nat × Sub)) (z : Nat) : (s.setSubs m).blob z = s.blob z := rfl
@[simp] theorem State.setSubs_byte (m : List (Nat × Sub)) (z : Nat) : (s.setSubs m).byte z = s.byte z := rfl
@[simp] theorem State.setSubs_evCount (m : List (Nat × Sub)) (z : Nat) : (s.setSubs m).evCount z = s.evCount z := rfl
@[simp] theorem State.setSubs_tg (m : List (Nat × Sub)) (z : Nat) : (s.setSubs m).tg z = s.tg z := rfl
@[simp] theorem State.setSubs_slm (m : List (Nat × Sub)) (z : Nat) : (s.setSubs m).slm z = s.slm z := rfl
@[simp] theorem State.setSubs_bank (m : List (Nat × Sub)) (z : Nat) : (s.setSubs m).bank z = s.bank z := rfl
@[simp] theorem State.setSubs_wire (m : List (Nat × Sub)) (z : Nat) : (s.setSubs m).wire z = s.wire z := rfl
@[simp] theorem State.setSubs_col (m : List (Nat × Sub)) (z : Nat) : (s.setSubs m).col z = s.col z := rfl
@[simp] theorem State.setSubs_cam (m : List (Nat × Sub)) (z : Nat) : (s.setSubs m).cam z = s.cam z := rfl
@[simp] theorem State.setSubs_mout (m : List (Nat × Sub)) (z : Nat) : (s.setSubs m).mout z = s.mout z := rfl
@[simp] theorem State.setSubs_buf (m : List (Nat × Sub)) (z : Nat) : (s.setSubs m).buf z = s.buf z := rfl
@[simp] theorem State.setSubs_lay (m : List (Nat × Sub)) (z : Nat) : (s.setSubs m).lay z = s.lay z := rfl
@[simp] theorem State.setSubs_comp (m : List (Nat × Sub)) (z : Nat) : (s.setSubs m).comp z = s.comp z := rfl
@[simp] theorem State.setSubs_loop (m : List (Nat × Sub)) (z : Nat) : (s.setSubs m).loop z = s.loop z := rfl
@[simp] theorem State.setSubs_loopSet (m : List (Nat × Sub)) (z : Nat) : (s.setSubs m).loopSet z = s.loopSet z := rfl

/-! ### Reading back -/

@[simp] theorem State.tg_setTg (n : Nat) (x : TgSt) : (s.setTg n x).tg n = x := kvGet_put_self _ _ _ _
theorem State.tg_setTg_ne {n m : Nat} (x : TgSt) (h : m ≠ n) : (s.setTg n x).tg m = s.tg m := kvGet_put_ne _ _ _ h
@[simp] theorem State.slm_setSlm (n : Nat) (x : SlmSt) : (s.setSlm n x).slm n = x := kvGet_put_self _ _ _ _
theorem State.slm_setSlm_ne {n m : Nat} (x : SlmSt) (h : m ≠ n) : (s.setSlm n x).slm m = s.slm m := kvGet_put_ne _ _ _ h
@[simp] theorem State.bank_setBank (n : Nat) (x : BankSt) : (s.setBank n x).bank n = x := kvGet_put_self _ _ _ _
theorem State.bank_setBank_ne {n m : Nat} (x : BankSt) (h : m ≠ n) : (s.setBank n x).bank m = s.bank m := kvGet_put_ne _ _ _ h
@[simp] theorem State.wire_setWire (n : Nat) (x : WireSt) : (s.setWire n x).wire n = x := kvGet_put_self _ _ _ _
theorem State.wire_setWire_ne {n m : Nat} (x : WireSt) (h : m ≠ n) : (s.setWire n x).wire m = s.wire m := kvGet_put_ne _ _ _ h
@[simp] theorem State.col_setCol (n : Nat) (x : ColSt) : (s.setCol n x).col n = x := kvGet_put_self _ _ _ _
theorem State.col_setCol_ne {n m : Nat} (x : ColSt) (h : m ≠ n) : (s.setCol n x).col m = s.col m := kvGet_put_ne _ _ _ h
@[simp] theorem State.cam_setCam (n : Nat) (x : CamSt) : (s.setCam n x).cam n = x := kvGet_put_self _ _ _ _
theorem State.cam_setCam_ne {n m : Nat} (x : CamSt) (h : m ≠ n) : (s.setCam n x).cam m = s.cam m := kvGet_put_ne _ _ _ h
@[simp] theorem State.mout_setMout (n : Nat) (x : MoutSt) : (s.setMout n x).mout n = x := kvGet_put_self _ _ _ _
theorem State.mout_setMout_ne {n m : Nat} (x : MoutSt) (h : m ≠ n) : (s.setMout n x).mout m = s.mout m := kvGet_put_ne _ _ _ h
@[simp] theorem State.buf_setBuf (i : Nat) (x : BufSt) : (s.setBuf i x).buf i = x := kvGet_put_self _ _ _ _
theorem State.buf_setBuf_ne {i m : Nat} (x : BufSt) (h : m ≠ i) : (s.setBuf i x).buf m = s.buf m := kvGet_put_ne _ _ _ h
@[simp] theorem State.lay_setLay (l : Nat) (x : LaySt) : (s.setLay l x).lay l = x := kvGet_put_self _ _ _ _
theorem State.lay_setLay_ne {l m : Nat} (x : LaySt) (h : m ≠ l) : (s.setLay l x).lay m = s.lay m := kvGet_put_ne _ _ _ h
@[simp] theorem State.comp_setComp (n : Nat) (x : CompSt) : (s.setComp n x).comp n = x := kvGet_put_self _ _ _ _
theorem State.comp_setComp_ne {n m : Nat} (x : CompSt) (h : m ≠ n) : (s.setComp n x).comp m = s.comp m := kvGet_put_ne _ _ _ h
@[simp] theorem State.loop_setLoop (l : Nat) (x : LoopSt) : (s.setLoop l x).loop l = x := kvGet_put_self _ _ _ _
theorem State.loop_setLoop_ne {l m : Nat} (x : LoopSt) (h : m ≠ l) : (s.setLoop l x).loop m = s.loop m := kvGet_put_ne _ _ _ h
@[simp] theorem State.loopSet_setLoopSet (k : Nat) (x : LoopSetSt) : (s.setLoopSet k x).loopSet k = x := kvGet_put_self _ _ _ _
theorem State.loopSet_setLoopSet_ne {k m : Nat} (x : LoopSetSt) (h : m ≠ k) : (s.setLoopSet k x).loopSet m = s.loopSet m := kvGet_put_ne _ _ _ h
@[simp] theorem State.setEv_self (x : EvSt) : (s.setEv x).ev = x := rfl
@[simp] theorem State.setTime_self (x : TimeSt) : (s.setTime x).time = x := rfl
@[simp] theorem State.setCarve_self (x : CarveSt) : (s.setCarve x).carve = x := rfl
@[simp] theorem State.setMemc_self (x : MemSt) : (s.setMemc x).memc = x := rfl
@[simp] theorem State.setIntg_self (x : IntgSt) : (s.setIntg x).intg = x := rfl
@[simp] theorem State.setNet_self (x : NetSt) : (s.setNet x).net = x := rfl
@[simp] theorem State.setHier_self (x : HierSt) : (s.setHier x).hier = x := rfl
@[simp] theorem State.setCal_self (x : CalSt) : (s.setCal x).cal = x := rfl
@[simp] theorem State.setPower_self (x : PowerSt) : (s.setPower x).power = x := rfl
@[simp] theorem State.setSec_self (x : SecSt) : (s.setSec x).sec = x := rfl
@[simp] theorem State.obj_setObj (ref v : Nat) : (s.setObj ref v).obj ref = v := kvGet_put_self _ _ _ _
theorem State.obj_setObj_ne {ref r : Nat} (v : Nat) (h : r ≠ ref) : (s.setObj ref v).obj r = s.obj r := kvGet_put_ne _ _ _ h
@[simp] theorem State.blob_setBlob (ref : Nat) (l : List Byte) : (s.setBlob ref l).blob ref = l := kvGet_put_self _ _ _ _
theorem State.blob_setBlob_ne {ref r : Nat} (l : List Byte) (h : r ≠ ref) : (s.setBlob ref l).blob r = s.blob r := kvGet_put_ne _ _ _ h
@[simp] theorem State.byte_setByte (a : Nat) (b : Byte) : (s.setByte a b).byte a = b := kvGet_put_self _ _ _ _
theorem State.byte_setByte_ne {a k : Nat} (b : Byte) (h : k ≠ a) : (s.setByte a b).byte k = s.byte k := kvGet_put_ne _ _ _ h
@[simp] theorem State.at_tick (t : Nat) : (s.at t).tick = max s.tick t := rfl
@[simp] theorem State.at_tx (t : Nat) : (s.at t).tx = [] := rfl
@[simp] theorem State.emit_tx (x : Tx) : (s.emit x).tx = s.tx ++ [x] := rfl
@[simp] theorem State.took_free : s.took.free = s.free + 1 := rfl

end Sys2Proof.Machine
end

