-- ==== Sys2Proof/Laws/Events.lean ====
section
/-! SUPPORT. What raising an event and counting do, once for every command that does them (R494, R503, R504). -/

namespace Sys2Proof.Machine

theorem queueRaise_eq (s : State) (e : Nat) (vals : List Nat) : s.queueRaise e vals = { s with ev := (s.queueRaise e vals).ev } := by
  unfold State.queueRaise
  split <;> rfl

theorem countUp_eq (s : State) (lost : Bool) (e : Nat) : (s.countUp lost e).2 = { s with ev := (s.countUp lost e).2.ev } := by
  cases lost <;> simp only [State.countUp, Bool.false_eq_true, if_false, if_true] <;> split <;> rfl

/-- Only the event unit changes. -/
def OnlyEv (s t : State) : Prop := t = { s with ev := t.ev }

theorem OnlyEv.trans {s t u : State} (h : OnlyEv s t) (h' : OnlyEv t u) : OnlyEv s u := by
  unfold OnlyEv at *
  rw [h'] ; rw [h]

theorem queueRaise_only (s : State) (e : Nat) (vals : List Nat) : OnlyEv s (s.queueRaise e vals) := queueRaise_eq s e vals

theorem countEntry_only (s : State) (lost : Bool) (e : Nat) : OnlyEv s (s.countEntry lost e) := by
  unfold State.countEntry
  have h1 : OnlyEv s (s.countUp lost e).2 := countUp_eq s lost e
  split
  · rename_i s1 hs
    rw [hs] at h1; exact h1
  · rename_i s1 hs
    rw [hs] at h1
    have h2 : OnlyEv s1 (s1.countUp false 254).2 := countUp_eq s1 false 254
    split
    · rename_i s2 hs2
      rw [hs2] at h2
      exact (h1.trans h2).trans (queueRaise_only _ _ _)
    · rename_i s2 hs2
      rw [hs2] at h2
      exact ((h1.trans h2).trans (queueRaise_only _ _ _)).trans (queueRaise_only _ _ _)

/-- Raising an event changes the event unit alone. -/
theorem raise_eq (s : State) (e : Nat) (vals : List Nat) : s.raise e vals = { s with ev := (s.raise e vals).ev } :=
  (countEntry_only s false e).trans (queueRaise_only _ e vals)

/-- Queueing counts nothing. -/
@[simp] theorem queueRaise_evCount (s : State) (e : Nat) (vals : List Nat) (z : Nat) : (s.queueRaise e vals).evCount z = s.evCount z := by
  unfold State.queueRaise State.evCount
  split <;> rfl

theorem countUp_evCount (s : State) (e z : Nat) : (s.countUp false e).2.evCount z = if z = e then min (s.evCount e + 1) 0xFFFFFFFF else s.evCount z := by
  simp only [State.countUp, Bool.false_eq_true, if_false, State.evCount]
  by_cases h : z = e
  · subst h; split <;> simp
  · split <;> simp [h, kvGet_put_ne]

/-- A raised event counts once (R494, R503); no other source but E254 counts with it. -/
theorem raise_evCount (s : State) (e : Nat) (vals : List Nat) (z : Nat) (hz : z ≠ 254) :
    (s.raise e vals).evCount z = if z = e then min (s.evCount e + 1) 0xFFFFFFFF else s.evCount z := by
  unfold State.raise
  rw [queueRaise_evCount]
  have h1 := countUp_evCount s e z
  simp only [State.countEntry]
  split
  · rename_i s1 hs
    rw [hs] at h1; exact h1
  · rename_i s1 hs
    rw [hs] at h1
    have h2 := countUp_evCount s1 254 z
    split
    · rename_i s2 hs2
      rw [hs2] at h2
      rw [queueRaise_evCount]; simpa [h1, hz] using h2
    · rename_i s2 hs2
      rw [hs2] at h2
      rw [queueRaise_evCount, queueRaise_evCount]; simpa [h1, hz] using h2

theorem raisedOnce_raise (s : State) (e : Nat) (vals : List Nat) (h : e ≠ 254) : s.raisedOnce (s.raise e vals) e := by
  unfold State.raisedOnce
  rw [raise_evCount s e vals e h, if_pos rfl]

/-- Counting changes the objects and the event unit alone. -/
theorem bumpBy_eq (s : State) (ref n : Nat) : s.bumpBy ref n = { s with objs := (s.bumpBy ref n).objs, ev := (s.bumpBy ref n).ev } := by
  unfold State.bumpBy
  split
  · rfl
  · split
    · rfl
    · split
      · rfl
      · unfold State.saturate
        split
        · rfl
        · simp only []
          rw [raise_eq]
          split <;> rfl

theorem raise_obj (s : State) (e : Nat) (vals : List Nat) (z : Nat) : (s.raise e vals).obj z = s.obj z := by rw [raise_eq]; rfl

/-- A saturating counter shows one more, up to its top (R503). -/
theorem bump_obj (s : State) (ref : Nat) (h : s.obj ref ≤ topOf ref) (hr : ref ≠ O.evtSatOverflow) : (s.bump ref).obj ref = s.counted ref := by
  unfold State.bump State.bumpBy State.counted
  split
  · omega
  · split
    · rw [State.obj_setObj]; omega
    · split
      · omega
      · unfold State.saturate
        split
        · rw [State.obj_setObj]; omega
        · simp only []
          rw [raise_obj]
          split
          · change (s.setObj ref (topOf ref)).obj ref = _
            rw [State.obj_setObj]; omega
          · rw [State.obj_setObj_ne _ _ hr, State.obj_setObj]; omega

/-- Every other object but `EVT_SAT_OVERFLOW` reads as before. -/
theorem bump_obj_ne (s : State) {ref z : Nat} (h : z ≠ ref) (hz : z ≠ O.evtSatOverflow) : (s.bump ref).obj z = s.obj z := by
  unfold State.bump State.bumpBy
  split
  · rfl
  · split
    · exact State.obj_setObj_ne _ _ h
    · split
      · rfl
      · unfold State.saturate
        split
        · exact State.obj_setObj_ne _ _ h
        · simp only []
          rw [raise_obj]
          split
          · exact State.obj_setObj_ne _ _ h
          · rw [State.obj_setObj_ne _ _ hz, State.obj_setObj_ne _ _ h]

@[simp] theorem raise_pending (s : State) (e : Nat) (vals : List Nat) : (s.raise e vals).pending = s.pending := by rw [raise_eq]
@[simp] theorem raise_tick (s : State) (e : Nat) (vals : List Nat) : (s.raise e vals).tick = s.tick := by rw [raise_eq]
@[simp] theorem raise_free (s : State) (e : Nat) (vals : List Nat) : (s.raise e vals).free = s.free := by rw [raise_eq]
@[simp] theorem raise_objs (s : State) (e : Nat) (vals : List Nat) : (s.raise e vals).objs = s.objs := by rw [raise_eq]
@[simp] theorem raise_blobs (s : State) (e : Nat) (vals : List Nat) : (s.raise e vals).blobs = s.blobs := by rw [raise_eq]
@[simp] theorem raise_mem (s : State) (e : Nat) (vals : List Nat) : (s.raise e vals).mem = s.mem := by rw [raise_eq]
@[simp] theorem raise_tx (s : State) (e : Nat) (vals : List Nat) : (s.raise e vals).tx = s.tx := by rw [raise_eq]
@[simp] theorem raise_time (s : State) (e : Nat) (vals : List Nat) : (s.raise e vals).time = s.time := by rw [raise_eq]
@[simp] theorem raise_tgs (s : State) (e : Nat) (vals : List Nat) : (s.raise e vals).tgs = s.tgs := by rw [raise_eq]
@[simp] theorem raise_slms (s : State) (e : Nat) (vals : List Nat) : (s.raise e vals).slms = s.slms := by rw [raise_eq]
@[simp] theorem raise_banks (s : State) (e : Nat) (vals : List Nat) : (s.raise e vals).banks = s.banks := by rw [raise_eq]
@[simp] theorem raise_wires (s : State) (e : Nat) (vals : List Nat) : (s.raise e vals).wires = s.wires := by rw [raise_eq]
@[simp] theorem raise_intlk (s : State) (e : Nat) (vals : List Nat) : (s.raise e vals).intlk = s.intlk := by rw [raise_eq]
@[simp] theorem raise_cols (s : State) (e : Nat) (vals : List Nat) : (s.raise e vals).cols = s.cols := by rw [raise_eq]
@[simp] theorem raise_lutAcc (s : State) (e : Nat) (vals : List Nat) : (s.raise e vals).lutAcc = s.lutAcc := by rw [raise_eq]
@[simp] theorem raise_cams (s : State) (e : Nat) (vals : List Nat) : (s.raise e vals).cams = s.cams := by rw [raise_eq]
@[simp] theorem raise_mouts (s : State) (e : Nat) (vals : List Nat) : (s.raise e vals).mouts = s.mouts := by rw [raise_eq]
@[simp] theorem raise_bufs (s : State) (e : Nat) (vals : List Nat) : (s.raise e vals).bufs = s.bufs := by rw [raise_eq]
@[simp] theorem raise_lays (s : State) (e : Nat) (vals : List Nat) : (s.raise e vals).lays = s.lays := by rw [raise_eq]
@[simp] theorem raise_comps (s : State) (e : Nat) (vals : List Nat) : (s.raise e vals).comps = s.comps := by rw [raise_eq]
@[simp] theorem raise_layCommit (s : State) (e : Nat) (vals : List Nat) : (s.raise e vals).layCommit = s.layCommit := by rw [raise_eq]
@[simp] theorem raise_carve (s : State) (e : Nat) (vals : List Nat) : (s.raise e vals).carve = s.carve := by rw [raise_eq]
@[simp] theorem raise_codecJobs (s : State) (e : Nat) (vals : List Nat) : (s.raise e vals).codecJobs = s.codecJobs := by rw [raise_eq]
@[simp] theorem raise_codecRecent (s : State) (e : Nat) (vals : List Nat) : (s.raise e vals).codecRecent = s.codecRecent := by rw [raise_eq]
@[simp] theorem raise_memc (s : State) (e : Nat) (vals : List Nat) : (s.raise e vals).memc = s.memc := by rw [raise_eq]
@[simp] theorem raise_intg (s : State) (e : Nat) (vals : List Nat) : (s.raise e vals).intg = s.intg := by rw [raise_eq]
@[simp] theorem raise_net (s : State) (e : Nat) (vals : List Nat) : (s.raise e vals).net = s.net := by rw [raise_eq]
@[simp] theorem raise_sent (s : State) (e : Nat) (vals : List Nat) : (s.raise e vals).sent = s.sent := by rw [raise_eq]
@[simp] theorem raise_resil (s : State) (e : Nat) (vals : List Nat) : (s.raise e vals).resil = s.resil := by rw [raise_eq]
@[simp] theorem raise_hier (s : State) (e : Nat) (vals : List Nat) : (s.raise e vals).hier = s.hier := by rw [raise_eq]
@[simp] theorem raise_loops (s : State) (e : Nat) (vals : List Nat) : (s.raise e vals).loops = s.loops := by rw [raise_eq]
@[simp] theorem raise_loopSets (s : State) (e : Nat) (vals : List Nat) : (s.raise e vals).loopSets = s.loopSets := by rw [raise_eq]
@[simp] theorem raise_cal (s : State) (e : Nat) (vals : List Nat) : (s.raise e vals).cal = s.cal := by rw [raise_eq]
@[simp] theorem raise_power (s : State) (e : Nat) (vals : List Nat) : (s.raise e vals).power = s.power := by rw [raise_eq]
@[simp] theorem raise_sec (s : State) (e : Nat) (vals : List Nat) : (s.raise e vals).sec = s.sec := by rw [raise_eq]
@[simp] theorem bump_pending (s : State) (ref : Nat) : (s.bump ref).pending = s.pending := by rw [State.bump, bumpBy_eq]
@[simp] theorem bump_tick (s : State) (ref : Nat) : (s.bump ref).tick = s.tick := by rw [State.bump, bumpBy_eq]
@[simp] theorem bump_free (s : State) (ref : Nat) : (s.bump ref).free = s.free := by rw [State.bump, bumpBy_eq]
@[simp] theorem bump_blobs (s : State) (ref : Nat) : (s.bump ref).blobs = s.blobs := by rw [State.bump, bumpBy_eq]
@[simp] theorem bump_mem (s : State) (ref : Nat) : (s.bump ref).mem = s.mem := by rw [State.bump, bumpBy_eq]
@[simp] theorem bump_tx (s : State) (ref : Nat) : (s.bump ref).tx = s.tx := by rw [State.bump, bumpBy_eq]
@[simp] theorem bump_time (s : State) (ref : Nat) : (s.bump ref).time = s.time := by rw [State.bump, bumpBy_eq]
@[simp] theorem bump_tgs (s : State) (ref : Nat) : (s.bump ref).tgs = s.tgs := by rw [State.bump, bumpBy_eq]
@[simp] theorem bump_slms (s : State) (ref : Nat) : (s.bump ref).slms = s.slms := by rw [State.bump, bumpBy_eq]
@[simp] theorem bump_banks (s : State) (ref : Nat) : (s.bump ref).banks = s.banks := by rw [State.bump, bumpBy_eq]
@[simp] theorem bump_wires (s : State) (ref : Nat) : (s.bump ref).wires = s.wires := by rw [State.bump, bumpBy_eq]
@[simp] theorem bump_intlk (s : State) (ref : Nat) : (s.bump ref).intlk = s.intlk := by rw [State.bump, bumpBy_eq]
@[simp] theorem bump_cols (s : State) (ref : Nat) : (s.bump ref).cols = s.cols := by rw [State.bump, bumpBy_eq]
@[simp] theorem bump_lutAcc (s : State) (ref : Nat) : (s.bump ref).lutAcc = s.lutAcc := by rw [State.bump, bumpBy_eq]
@[simp] theorem bump_cams (s : State) (ref : Nat) : (s.bump ref).cams = s.cams := by rw [State.bump, bumpBy_eq]
@[simp] theorem bump_mouts (s : State) (ref : Nat) : (s.bump ref).mouts = s.mouts := by rw [State.bump, bumpBy_eq]
@[simp] theorem bump_bufs (s : State) (ref : Nat) : (s.bump ref).bufs = s.bufs := by rw [State.bump, bumpBy_eq]
@[simp] theorem bump_lays (s : State) (ref : Nat) : (s.bump ref).lays = s.lays := by rw [State.bump, bumpBy_eq]
@[simp] theorem bump_comps (s : State) (ref : Nat) : (s.bump ref).comps = s.comps := by rw [State.bump, bumpBy_eq]
@[simp] theorem bump_layCommit (s : State) (ref : Nat) : (s.bump ref).layCommit = s.layCommit := by rw [State.bump, bumpBy_eq]
@[simp] theorem bump_carve (s : State) (ref : Nat) : (s.bump ref).carve = s.carve := by rw [State.bump, bumpBy_eq]
@[simp] theorem bump_codecJobs (s : State) (ref : Nat) : (s.bump ref).codecJobs = s.codecJobs := by rw [State.bump, bumpBy_eq]
@[simp] theorem bump_codecRecent (s : State) (ref : Nat) : (s.bump ref).codecRecent = s.codecRecent := by rw [State.bump, bumpBy_eq]
@[simp] theorem bump_memc (s : State) (ref : Nat) : (s.bump ref).memc = s.memc := by rw [State.bump, bumpBy_eq]
@[simp] theorem bump_intg (s : State) (ref : Nat) : (s.bump ref).intg = s.intg := by rw [State.bump, bumpBy_eq]
@[simp] theorem bump_net (s : State) (ref : Nat) : (s.bump ref).net = s.net := by rw [State.bump, bumpBy_eq]
@[simp] theorem bump_sent (s : State) (ref : Nat) : (s.bump ref).sent = s.sent := by rw [State.bump, bumpBy_eq]
@[simp] theorem bump_resil (s : State) (ref : Nat) : (s.bump ref).resil = s.resil := by rw [State.bump, bumpBy_eq]
@[simp] theorem bump_hier (s : State) (ref : Nat) : (s.bump ref).hier = s.hier := by rw [State.bump, bumpBy_eq]
@[simp] theorem bump_loops (s : State) (ref : Nat) : (s.bump ref).loops = s.loops := by rw [State.bump, bumpBy_eq]
@[simp] theorem bump_loopSets (s : State) (ref : Nat) : (s.bump ref).loopSets = s.loopSets := by rw [State.bump, bumpBy_eq]
@[simp] theorem bump_cal (s : State) (ref : Nat) : (s.bump ref).cal = s.cal := by rw [State.bump, bumpBy_eq]
@[simp] theorem bump_power (s : State) (ref : Nat) : (s.bump ref).power = s.power := by rw [State.bump, bumpBy_eq]
@[simp] theorem bump_sec (s : State) (ref : Nat) : (s.bump ref).sec = s.sec := by rw [State.bump, bumpBy_eq]

end Sys2Proof.Machine
end

