-- ==== Sys2Proof/Laws/Memory.lean ====
section
/-! SUPPORT. What each operation on memory does: the bytes it changes, and that it keeps the canonical form (R322). -/

namespace Sys2Proof.Machine

theorem reset_mem_wf : Memory.wf State.reset.mem = true := rfl

theorem setByte_wf {s : State} (h : Memory.wf s.mem = true) (a : Nat) (b : Byte) : Memory.wf (s.setByte a b).mem = true := kvWf_put h a b

theorem setBytes_wf {s : State} (h : Memory.wf s.mem = true) (a : Nat) (l : List Byte) : Memory.wf (s.setBytes a l).mem = true := by
  induction l generalizing s a with
  | nil => exact h
  | cons b l ih => exact ih (setByte_wf h a b) (a + 1)

/-- A byte outside the bytes stored reads as before. -/
theorem byte_setBytes_out {s : State} {a z : Nat} {l : List Byte} (h : z < a ∨ a + l.length ≤ z) : (s.setBytes a l).byte z = s.byte z := by
  induction l generalizing s a with
  | nil => rfl
  | cons b l ih =>
    simp only [List.length_cons] at h
    rw [State.setBytes, ih (by omega), State.byte_setByte_ne]
    omega

/-- The bytes stored read back. -/
theorem byte_setBytes_in {s : State} {a i : Nat} {l : List Byte} (h : i < l.length) : (s.setBytes a l).byte (a + i) = l[i] := by
  induction l generalizing s a i with
  | nil => simp at h
  | cons b l ih =>
    cases i with
    | zero => rw [State.setBytes, byte_setBytes_out (by omega)]; exact State.byte_setByte _ _ _
    | succ i =>
      simp only [List.length_cons, Nat.add_lt_add_iff_right] at h
      rw [State.setBytes, show a + (i + 1) = a + 1 + i by omega, ih h]; rfl

/-- Everything but memory is as it was. -/
theorem setBytes_eq (s : State) (a : Nat) (l : List Byte) : s.setBytes a l = { s with mem := (s.setBytes a l).mem } := by
  induction l generalizing s a with
  | nil => rfl
  | cons b l ih => rw [State.setBytes, ih]; rfl

@[simp] theorem staleTouch_mem (s : State) (p : Nat) : (s.staleTouch p).mem = s.mem := by
  unfold State.staleTouch
  simp only []
  split
  · rfl
  · split
    · rfl
    · simp

@[simp] theorem blockWritten_mem (s : State) (a len : Nat) : (s.blockWritten a len).mem = s.mem := by
  have key (u : State) (p : Nat) : (if u.groomedAt a then u.staleTouch p else u).mem = u.mem := by
    split
    · exact staleTouch_mem u p
    · rfl
  exact (key _ _).trans rfl

@[simp] theorem written_mem (s : State) (fuel a len : Nat) : (s.written fuel a len).mem = s.mem := by
  induction fuel generalizing s a len with
  | zero => rfl
  | succ n ih =>
    unfold State.written
    split
    · rfl
    · simp [ih]

/-- A port's write changes memory as its bytes say, and the metadata of what it writes beside. -/
@[simp] theorem portWrite_mem (s : State) (a : Nat) (l : List Byte) : (s.portWrite a l).mem = (s.setBytes a l).mem := by simp [State.portWrite]

theorem portWrite_byte_out {s : State} {a z : Nat} {l : List Byte} (h : z < a ∨ a + l.length ≤ z) : (s.portWrite a l).byte z = s.byte z := by
  simp only [State.byte, portWrite_mem]; exact byte_setBytes_out h

theorem portWrite_byte_in {s : State} {a i : Nat} {l : List Byte} (h : i < l.length) : (s.portWrite a l).byte (a + i) = l[i] := by
  simp only [State.byte, portWrite_mem]; exact byte_setBytes_in h

theorem portWrite_wf {s : State} (h : Memory.wf s.mem = true) (a : Nat) (l : List Byte) : Memory.wf (s.portWrite a l).mem = true := by
  rw [portWrite_mem]; exact setBytes_wf h a l

theorem extentWrite_wf {s : State} (es : List (Nat × Nat)) (off : Nat) (l : List Byte) (h : Memory.wf s.mem = true) : Memory.wf (s.extentWrite es off l).mem = true := by
  induction es generalizing s off l with
  | nil => exact h
  | cons e es ih =>
    obtain ⟨a, n⟩ := e
    unfold State.extentWrite
    split
    · exact ih _ _ h
    · simp only []
      split
      · exact portWrite_wf h _ _
      · exact ih _ _ (portWrite_wf h _ _)

/-- Invalid blocks read as zeros, and every other byte as before (R322). -/
theorem invalidate_wf {s : State} (h : Memory.wf s.mem = true) (a len : Nat) : Memory.wf (s.invalidate a len).mem = true :=
  kvWf_drop (d := fun _ => 0) h fun k => decide (a ≤ k) && decide (k < a + len)

theorem freeCleared_wf {s : State} (h : Memory.wf s.mem = true) (a : Nat) : Memory.wf (s.freeCleared a).mem = true := by
  unfold State.freeCleared
  split
  · exact h
  · exact invalidate_wf h _ _

/-- An allocation takes pages and leaves their bytes. -/
theorem alloc_mem {s t : State} {len : Nat} {g : Bool} {es : List (Nat × Nat)} (h : s.alloc len g = some (es, t)) : t.mem = s.mem := by
  unfold State.alloc at h
  split at h
  · cases h
  · cases h; rfl

/-- What is allocated at startup leaves every byte. -/
theorem startupAlloc_mem (s : State) : s.startupAlloc.mem = s.mem := by
  unfold State.startupAlloc
  split
  · rfl
  · have k1 : (match s.alloc 131072 true with | some (es, s) => { s with ev := { s.ev with ringAt := es } } | none => s).mem = s.mem := by
      split
      · rename_i h; exact (alloc_mem h : _)
      · rfl
    have k2 (u : State) (hu : u.mem = s.mem) : (match u.alloc 393216 true with | some (_, s) => s | none => u).mem = s.mem := by
      split
      · rename_i h; exact (alloc_mem h).trans hu
      · exact hu
    have k3 (w : State) (hw : w.mem = s.mem) : (if w.obj O.hierRoleNow ≠ 1 then w
        else match w.alloc ((w.obj O.hierNodeLimit + 1) * 65536) false with | some (es, s) => { s with hier := { s.hier with arena := es } } | none => w).mem = s.mem := by
      split
      · exact hw
      · split
        · rename_i h; exact (alloc_mem h : _).trans hw
        · exact hw
    exact k3 _ (k2 _ k1)

/-- The clear at startup leaves nothing in memory (R324). -/
theorem bitmapCleared_mem {s : State} {a : Nat} (h : s.memc.clearing = some a) : s.bitmapCleared.mem = [] := by
  unfold State.bitmapCleared
  rw [h]
  dsimp only
  rw [startupAlloc_mem, raise_mem]; rfl

theorem bitmapCleared_wf {s : State} (h : Memory.wf s.mem = true) : Memory.wf s.bitmapCleared.mem = true := by
  cases hc : s.memc.clearing with
  | none => unfold State.bitmapCleared; rw [hc]; exact h
  | some a => rw [bitmapCleared_mem hc]; rfl

end Sys2Proof.Machine
end

