-- ==== Sys2Proof/Laws/Requests.lean ====
section
/-! SUPPORT. What an executed request does, once for every request row. -/

namespace Sys2Proof.Machine

/-- Without a session at its last request, the limit of R377 changes nothing. -/
theorem limitSession_eq (s : State) (num : Nat) (h : ∀ x, s.session? num = some x → x.requests < 2147483648) : s.limitSession num = s := by
  unfold State.limitSession
  split
  · rename_i x hx
    have := h x hx
    rw [if_neg]; simp; omega
  · rfl

/-- A request that is taken runs its own checks, then its action, and answers. -/
theorem request_takes {s s1 : State} {q : Req} {op : Nat} {payload : List Byte} {fast : Bool} {front : Session → State → Option Nat}
    {act : Nat → Session → State → Ans} {x : Session} (h : s.takes q op payload fast = some (x, s1)) (hop : op ≠ 9) (hf : front x s1 = none) :
    s.request q op payload fast front act =
      (((act q.session x s1).st.respond x q op (act q.session x s1).status (act q.session x s1).result)).limitSession q.session := by
  unfold State.takes at h
  unfold State.request
  by_cases h1 : (!s.serves q || decide (q.ver ≠ 1) || decide (q.length ≠ payload.length) || decide (s.maxMessage < payload.length + 32)) = true
  · rw [if_pos h1] at h; cases h
  · rw [if_neg h1] at h
    simp only [ne_eq, Bool.or_eq_true, not_or, decide_eq_true_eq, Bool.not_eq_true] at h1
    obtain ⟨⟨⟨a1, a2⟩, a3⟩, a4⟩ := h1
    rw [if_neg (by rw [a1]; decide), if_neg (by simp [a2, a3, a4])]
    cases hs : s.session? q.session with
    | none => simp [hs] at h
    | some y =>
      simp only [hs] at h
      simp only []
      by_cases h2 : (decide (q.tag ≠ tagOf y.key (reqMsg q op payload)) || y.expired || decide (2147483647 ≤ y.requests)) = true
      · rw [if_pos h2] at h; cases h
      · rw [if_neg h2] at h
        simp only [Bool.or_eq_true, not_or, decide_eq_true_eq, Bool.not_eq_true] at h2
        obtain ⟨⟨b1, b2⟩, b3⟩ := h2
        rw [if_neg b1, if_neg (by rw [b2]; decide)]
        by_cases h3 : (y.inflight.contains q.seq || y.fences.any (fun f => f.1.seq == q.seq)) = true
        · rw [if_pos h3] at h; cases h
        · rw [if_neg h3] at h
          rw [if_neg h3]
          by_cases h4 : (serialAbove q.seq y.high || y.busied.contains q.seq) = true
          · rw [if_neg (by rw [h4]; decide)] at h
            rw [if_pos h4]
            congr 1
            unfold State.execute
            revert h
            generalize ((s.setSession q.session _).resumeSubs q.session).setSession q.session _ = s0
            intro h
            by_cases h5 : (s0.rescueBars op payload || decide (q.node ≠ s0.obj O.dictNodeId)) = true
            · rw [if_pos h5] at h; cases h
            · rw [if_neg h5] at h
              simp only [Bool.or_eq_true, not_or, decide_eq_true_eq, Bool.not_eq_true, Decidable.not_not, ne_eq] at h5
              rw [if_neg (by rw [h5.1]; decide), if_pos h5.2]
              revert h
              generalize (if fast = true then (none, s0.bump O.dictFastRequests) else s0.enqueue q.session _ q) = pr
              intro h
              obtain ⟨o, s2⟩ := pr
              cases o with
              | some r => cases h
              | none =>
                cases h
                simp only [hf]
                rw [if_neg (by simp [hop])]
          · rw [if_pos (by simpa using h4)] at h; cases h

/-- An object write that is taken runs checks 9 and 10 and its effect, and answers with the reference (R375, R381). -/
theorem hostWrite_takes {s s1 : State} {q : Req} {ref : Nat} {v : List Byte} {eff : Effect} {x : Session} (h : s.takesWrite q ref v = some (x, s1))
    (hf : objectCheck x ref true = none) :
    s.hostWrite q ref v eff =
      (((writeOne eff q.session x ref v s1).st.respond x q 0x02 (writeOne eff q.session x ref v s1).status
        (refBytes ref ++ (writeOne eff q.session x ref v s1).result))).limitSession q.session :=
  request_takes h (by decide) hf

/-- A write that passes checks 7 to 10 comes to its effect. -/
theorem writeOne_writable {s : State} {x : Session} {ref num : Nat} {v : List Byte} {eff : Effect} (h : s.writable x ref v = true) :
    ∃ r n, findRef ref = some (r, n) ∧ writeOne eff num x ref v s = eff num x r ref v s ∧ objectCheck x ref true = none := by
  unfold State.writable at h
  cases hr : findRef ref with
  | none => simp [hr] at h
  | some p =>
    obtain ⟨r, n⟩ := p
    simp only [hr, Bool.and_eq_true, decide_eq_true_eq, Bool.not_eq_true', bne_iff_ne, ne_eq, Bool.or_eq_true, Option.isNone_iff_eq_none] at h
    obtain ⟨⟨⟨⟨h1, h2⟩, h3⟩, h4⟩, h5⟩ := h
    refine ⟨r, n, rfl, ?_, ?_⟩
    · simp only [writeOne, hr, h2, Bool.false_eq_true, if_false, if_neg h3, h5]
      rw [if_neg]
      rcases h4 with h4 | h4
      · simp [h4]
      · simp [h4]
    · simp [objectCheck, hr]
      omega

end Sys2Proof.Machine
end

