-- ==== Sys2Proof/Tests/Slice0.lean ====
section
/-! SUPPORT. The model's own tests. -/

namespace Sys2Proof.Machine

set_option Elab.async false

/-- `takes` but for the tag. -/
def wTakes (s : State) (q : Req) (op : Nat) (payload : List Byte) (fast : Bool) : Option (Session × State) :=
  if !s.serves q || q.ver ≠ 1 || q.length ≠ payload.length || s.maxMessage < payload.length + 32 then none
  else
    match s.session? q.session with
    | none => none
    | some x =>
      if x.expired || 2147483647 ≤ x.requests then none
      else if x.inflight.contains q.seq || x.fences.any (fun f => f.1.seq == q.seq) then none
      else
        let new := serialAbove q.seq x.high
        if !(new || x.busied.contains q.seq) then none
        else
          let y := { x with badTag := false, lastAuth := s.tick, requests := x.requests + 1 }
          let z := { y with high := if new then q.seq else x.high, stale := false }
          let s := ((s.setSession q.session y).resumeSubs q.session).setSession q.session z
          if s.rescueBars op payload || q.node ≠ s.obj O.dictNodeId then none
          else
            match (if fast then (none, s.bump O.dictFastRequests) else s.enqueue q.session z q) with
            | (some _, _) => none
            | (none, s) => some (z, s)

theorem wTakes_takes {s : State} {q : Req} {op : Nat} {payload : List Byte} {fast : Bool} {r : Session × State} (h : wTakes s q op payload fast = some r) :
    ∃ q, s.takes q op payload fast = some r := by
  cases hs : s.session? q.session with
  | none => simp [wTakes, hs] at h
  | some x =>
    refine ⟨{ q with tag := tagOf x.key (reqMsg q op payload) }, ?_⟩
    have hs' : s.session? ({ q with tag := tagOf x.key (reqMsg q op payload) } : Req).session = some x := hs
    have ht : tagOf x.key (reqMsg { q with tag := tagOf x.key (reqMsg q op payload) } op payload) = tagOf x.key (reqMsg q op payload) := rfl
    unfold State.takes
    rw [hs']
    unfold wTakes at h
    rw [hs] at h
    simp only [ht, ne_eq, not_true_eq_false, decide_false, Bool.false_or] at h ⊢
    exact h

def wReq (payload : List Byte) : Req := ⟨1, 0, 7, 1, payload.length, [], 0, numDefault O.netMgmtVlan, numDefault O.dictUdpPort, 0, 0, 0⟩

/-- A write of `v` to `ref` that is executed in `s`, in the state in which its action runs. -/
def wWrite (s : State) (ref : Nat) (v : List Byte) (p : State → Bool) : Bool :=
  match wTakes (s.at 0) (wReq (valueForm ref v)) 0x02 (valueForm ref v) (fastWrite ref) with
  | some (x, s1) => s1.writable x ref v && p s1
  | none => false

theorem wWrite_witness {s : State} {ref : Nat} {v : List Byte} {p : State → Bool} (h : wWrite s ref v p = true) :
    ∃ t q s1 x, (s.at t).takesWrite q ref v = some (x, s1) ∧ s1.writable x ref v = true ∧ p s1 = true := by
  unfold wWrite at h
  split at h
  · rename_i x s1 hr
    obtain ⟨q, hq⟩ := wTakes_takes hr
    simp only [Bool.and_eq_true] at h
    exact ⟨0, q, s1, x, hq, h.1, h.2⟩
  · cases h

/-- A session of every right, and the header of its next request. -/
def wSess : Session := ⟨0, 5, 0, 0, false, [], 0, [], [], [], 0, false, 0, false, false, 0, [], 0, []⟩

/-- The device in NORMAL with that session, and some objects at other values. -/
def wState (objs : List (Nat × Nat)) : State :=
  ({ (State.reset.setObj O.ptlState normal) with resil := { sessions := [(7, wSess)] } }).setObjs objs


/-- The same for a COMMIT. -/
def wCommit (s : State) (owner : Nat) (treq : Option Nat) (p : State → Bool) : Bool :=
  let payload := beBytes 2 owner ++ [0, 0] ++ beBytes 12 (whenCode treq)
  match wTakes (s.at 0) (wReq payload) 0x08 payload false with
  | some (x, s1) => decide (writeLevel (owner * 256) ≤ x.level) && treq.all stimeOk && p s1
  | none => false

theorem wCommit_witness {s : State} {owner : Nat} {treq : Option Nat} {p : State → Bool} (h : wCommit s owner treq p = true) :
    ∃ t q s1 x, (s.at t).takesCommit q owner treq = some (x, s1) ∧ p s1 = true := by
  unfold wCommit at h
  dsimp only at h
  split at h
  · rename_i x s1 hr
    obtain ⟨q, hq⟩ := wTakes_takes hr
    simp only [Bool.and_eq_true, decide_eq_true_eq] at h
    refine ⟨0, q, s1, x, ?_, h.2⟩
    unfold State.takesCommit
    rw [hq]
    simp [h.1.1, h.1.2]
  · cases h

/-! ### Witnesses: for each clause of each statement, a state and operands that meet its hypotheses together -/

def wTime (objs : List (Nat × Nat)) : State :=
  { wState objs with time := { pllLocked := true, tenOk := true, qualified := [5, 6] } }
def wPtp : State := wState [(O.netPortEnable 0, 1), (O.netPortPtp 0, 1), (O.timePtpRole, 3), (O.timePtpSlavePort, 0xFF)]

theorem witness_RootClockAndSources :
    (wTime []).time.pllLocked = true ∧ (wState []).time.pllLocked = false ∧ (wState []).opState ∉ [0, 1, 6] ∧ 5 ∈ (wTime []).time.qualified ∧
      (wTime [(O.timeSrcActive, 5)]).obj O.timeSrcActive = 5 ∧ (wTime []).time.tenOk = true ∧
      (wTime [(O.timeState, 3)]).obj O.timeState = 3 := by decide +kernel
theorem witness_HoldoverExpired : ∃ s : State, s.obj O.timeState = 3 ∧ (s.at 0).holdoverOver = true :=
  ⟨{ wState [(O.timeState, 3)] with time := { e0 := 1000000000000 } }, by decide, by decide⟩
theorem witness_MeasurementsAndTimeSet_1 :
    let s := wTime [(O.timeState, 1), (O.timeSrcActive, 5), (O.timeStepPolicy, 0)]
    s.obj O.timeSrcActive = 5 ∧ s.obj O.timeState = 1 ∧ s.time.pllLocked = true ∧ s.obj O.timeStepPolicy = 0 := by decide +kernel
theorem witness_MeasurementsAndTimeSet_2 :
    let s := wTime [(O.timeState, 2), (O.timeSrcActive, 5), (O.timeStepPolicy, 1)]
    s.obj O.timeSrcActive = 5 ∧ s.obj O.timeState = 2 ∧ s.time.pllLocked = true ∧ s.obj O.timeStepPolicy = 1 ∧
      s.obj O.timeStepThresh * 1000 < (s.offsetErr 5 1000000000000).natAbs := by decide +kernel
theorem witness_MeasurementsAndTimeSet_3 : ((wState []).obj O.timePpsEdge == 0) = true ∧ (wState []).time.lastPps = none := by decide +kernel
theorem witness_MeasurementsAndTimeSet_4 : wWrite (wState [(O.timeState, 0)]) O.timeSet (fill 12 0) (fun s => s.obj O.timeState == 0) = true := by decide +kernel
theorem witness_MeasurementsAndTimeSet_5 : wWrite (wState [(O.timeState, 1), (O.timeSrcActive, 5)]) O.timeSet (fill 12 0)
    (fun s => s.obj O.timeState == 1 && s.obj O.timeSrcActive == 5) = true := by decide +kernel
theorem witness_MeasurementsAndTimeSet_6 : wWrite (wState [(O.timeState, 2)]) O.timeSet (fill 12 0) (fun s => s.obj O.timeState == 2) = true := by decide +kernel
theorem witness_PtpMessages : (wPtp.at 0).ptpOn 0 = true ∧ (wPtp.ptpPort 0).foreign = none ∧ (wPtp.at 0).ptpMaster 0 = true ∧ (wPtp.at 0).bmca = none ∧
    ((wPtp.setObj O.timePtpSlavePort 0).at 0).ptpOn 0 = true ∧ (wPtp.setObj O.timePtpSlavePort 0).obj O.timePtpSlavePort = 0 := by decide +kernel

/-- Output 0 with frames of 1/60 s, in frame 4, at the boundary of frame 5. -/
def wFrame (g : TgSt) (m : SlmSt) (objs : List (Nat × Nat)) : State :=
  (((wState ((O.tgPeriod 0, 2 ^ 32 + 60) :: objs)).setTg 0 g).setSlm 0 m).at (ticksPerSec / 12 + 1)
def wCommitSt (b : Option (Instant × Nat)) : TgCommit := ⟨true, [], true, false, false, false, none, tickInstant 100, b, false, [], [], []⟩

theorem witness_TimingCommitRequests_1 : wCommit (wState []) 0x2110 none (fun s => (s.tgCommit 0 none).status == St.ok) = true := by decide +kernel
theorem witness_TimingCommitRequests_2 : wCommit (wState [(staged (O.tgEnable 0), 1)]) 0x2110 none
    (fun s => (s.tg 0).commit.isNone && (s.tgCommit 0 none).status != St.ok) = true := by decide +kernel
theorem witness_TimingCommitRequests_3 : wCommit ((wState []).setTg 0 { commit := some (wCommitSt none) }) 0x2110 none (fun s => (s.tg 0).commit.isSome) = true := by decide +kernel
theorem witness_TimingCommitRequests_4 : wWrite ((wState []).setTg 0 { commit := some (wCommitSt none) }) (O.tgCancel 0) [1]
    (fun s => (s.tg 0).commit == some (wCommitSt none) && !s.reached (s.commitPoint 0 (wCommitSt none))) = true := by decide +kernel
theorem witness_TimingCommitRequests_5 : wWrite (wState []) (O.tgCancel 0) [1] (fun s => (s.tg 0).commit.isNone) = true := by decide +kernel
theorem witness_FramesAndTimingCommits_1 : (((wFrame { running := true, frame := 4 } {} []).at 0).boundaryDue 0).isSome = true := by decide +kernel
theorem witness_FramesAndTimingCommits_2 : ((((wFrame { running := true, frame := 4 } {} []).at 0).tgCommitPoint 0).composeDue 0).isSome = true := by decide +kernel
theorem witness_FramesAndTimingCommits_3 :
    let s := wFrame { running := true, frame := 4 } { composing := some 5 } [(O.slmDepth 0, 0)]
    s.producing 0 = some 5 ∧ ∀ m ∈ s.group 0, s.imagesDone m (!s.frontHalf m) = true := by decide +kernel
theorem witness_FramesAndTimingCommits_4 :
    let s := wFrame { commit := some (wCommitSt none) } {} []
    (s.tg 0).commit = some (wCommitSt none) ∧ (wCommitSt none).passed = false ∧ (s.at 0).reached (s.commitPoint 0 (wCommitSt none)) = true ∧ (s.tg 0).dark = false := by decide +kernel
theorem witness_FramesAndTimingCommits_5 :
    let c := wCommitSt (some (tickInstant 200, 7))
    let s := wFrame { commit := some c, dark := true } {} []
    (s.tg 0).commit = some c ∧ c.bNew = some (tickInstant 200, 7) ∧ (s.tg 0).dark = true ∧ (s.at 0).reached (tickInstant 200) = true := by decide +kernel
theorem witness_PlansAndCredit_1 :
    let s := wFrame { running := true, frame := 4 } {} []
    (s.tg 0).running = true ∧ s.leadOf 0 = 0 ∧ s.obj (O.slmPlanMode 0) = 0 ∧ (s.slm 0).planning ≠ some 5 := by decide +kernel
theorem witness_PlansAndCredit_2 :
    let s := wFrame { running := true, frame := 4 } { planning := some 6 } []
    s.plannerAt 0 = some 6 ∧ (tickInstant (s.at 0).studio).le (s.halfAfter 0 5) = true := by decide +kernel
theorem witness_PlansAndCredit_3 :
    let s := wFrame { running := true, frame := 4 } { planning := some 5 } []
    s.plannerAt 0 = some 5 ∧ ((s.at (ticksPerSec / 10)).reached (s.halfAfter 0 4) = true) := by decide +kernel
theorem witness_PlansAndCredit_4 : wWrite (wState [(O.netJumbo, 1)]) (O.slmPlanStage 0) (fill 8192 0) (fun _ => true) = true := by decide +kernel
theorem witness_PlansAndCredit_5 : wWrite (wFrame {} {} [(O.slmPlanMode 0, 2)]) (O.slmPlanSwap 0) (beBytes 8 9)
    (fun s => !(s.halfBefore 0 9).lt (tickInstant s.studio)) = true := by decide +kernel
theorem witness_PlansAndCredit_6 : wWrite (wFrame {} {} [(O.slmPlanMode 0, 2)]) (O.slmPlanSwap 0) (beBytes 8 1)
    (fun s => (s.halfBefore 0 1).lt (tickInstant s.studio)) = true := by decide +kernel
theorem witness_PlansAndCredit_7 :
    let s := wFrame {} { swapReq := some 5 } [(O.slmPlanMode 0, 2)]
    (s.slm 0).swapReq = some 5 ∧ s.obj (O.slmPlanMode 0) = 2 ∧ (s.at 0).reached (s.halfBefore 0 5) = true := by decide +kernel
theorem witness_PlansAndCredit_8 : wWrite (wState []) O.slmCompressionCredit [1] (fun _ => true) = true := by decide +kernel
theorem witness_PlansAndCredit_9 : wWrite (wState [(O.slmBwAdmittedRaw, 9), (O.slmBwCeiling, 8)]) O.slmCompressionCredit [0]
    (fun s => decide (s.obj O.slmBwCeiling < s.obj O.slmBwAdmittedRaw)) = true := by decide +kernel

def wIntlk (low latched : Bool) : State := { wState [] with intlk := { low := low, latched := latched } }
/-- Slot 1 of a wire's initialisation, at the tick it starts. -/
def wSlot (m : Nat) (objs : List (Nat × Nat)) : State := ((wState ([(O.lwPeriod, 100), (O.lwLoadState 0, 1)] ++ objs)).setWire 0 { initSlot := some m }).at 4125000
def wEntry : Entry := ⟨1000, 100, 20, 1, 0, 0, 0, 0, 0, 0, 0, false, true, false⟩
/-- Output 0 shows one entry to bank 0, whose header starts now. -/
def wGate : State :=
  (((wState [(O.tgPeriod 0, 2 ^ 32 + 60), (O.gateForceCause 0, 0), (O.gateDrvLatency 0, 0), (O.gateOutput 0, 0), (O.gatePrimary 0, 0)]).setTg 0 { running := true }).setSlm 0 { active := [wEntry] }).at 781

theorem witness_Interlock_1 : (wIntlk false false).intlk.low = false ∧ (wIntlk false false).opState ≠ 6 ∧ (wIntlk true true).intlk.low = true := by decide +kernel
theorem witness_Interlock_2 : wWrite (wIntlk true true) O.gateIntlkRearm [1] (fun s => s.intlk.low) = true := by decide +kernel
theorem witness_Interlock_3 : wWrite (wIntlk false false) O.gateIntlkRearm [1] (fun s => !s.intlk.low && !s.intlk.latched) = true := by decide +kernel
theorem witness_Interlock_4 : wWrite (wIntlk false true) O.gateIntlkRearm [1] (fun s => !s.intlk.low && s.intlk.latched) = true := by decide +kernel
theorem witness_BanksAndLanes_1 : wWrite (wState []) (O.gateEnable 3) [1] (fun _ => true) = true := by decide +kernel
theorem witness_BanksAndLanes_2 : wWrite (wState []) (O.gateEnable 15) [0] (fun s => s.bankTg 15 == none) = true := by decide +kernel
theorem witness_BanksAndLanes_3 : wWrite (wState []) (O.gateRearm 0) [1] (fun s => s.obj (O.lwLoadState 0) != 2) = true := by decide +kernel
theorem witness_BanksAndLanes_4 : wWrite (wState [(O.lwLoadState 0, 2)]) (O.gateRearm 0) [1]
    (fun s => s.obj (O.lwLoadState 0) == 2 && !bit (s.obj (O.gateForceLatch 0)) 3) = true := by decide +kernel
theorem witness_BanksAndLanes_5 : wWrite (wState [(O.lwLoadState 0, 2), (O.gateForceLatch 0, 8)]) (O.gateRearm 0) [1]
    (fun s => s.obj (O.lwLoadState 0) == 2 && bit (s.obj (O.gateForceLatch 0)) 3) = true := by decide +kernel
theorem witness_BanksAndLanes_6 : wWrite (wState []) (O.gateFadeLevel 0) [0, 0] (fun _ => true) = true := by decide +kernel
theorem witness_BanksAndLanes_7 :
    let s := (wState []).setBank 0 { vernierFrom := some 4 }
    (s.bank 0).vernierFrom = some 4 ∧ 4 ≤ (s.at 20).tick ∧ (s.at 20).laneLowSince 0 = some 0 ∧ 0 + 8 ≤ (s.at 20).tick := by decide +kernel
theorem witness_BanksAndLanes_8 :
    let s0 := ((wGate.at 0).settleWin 0).hostDue 0
    s0.headerNow 0 0 = some (0, 0, wEntry) ∧ s0.laneEmits 0 0 0 = true ∧ (s0.tg 0).dark = false := by decide +kernel
theorem witness_LampWires_1 : wWrite (wState [(O.lwEnable 0, 0)]) (O.lwEnable 0) [1] (fun s => s.obj (O.lwEnable 0) == 0) = true := by decide +kernel
theorem witness_LampWires_2 : wWrite (wState [(O.lwEnable 0, 1)]) (O.lwRearm 0) [1] (fun s => s.obj (O.lwEnable 0) == 1) = true := by decide +kernel
theorem witness_LampWires_3 : wWrite (wState [(O.lwEnable 0, 1), (O.netJumbo, 1)]) (O.lwLimits 0) (fill 2048 0) (fun s => s.obj (O.lwEnable 0) == 1) = true := by decide +kernel
theorem witness_LampWires_4 : wWrite (wState []) O.lwPeriod (beBytes 4 1000) (fun s => (List.range 16).all fun w => slotFits 1000 (s.obj (O.lwDrivers w))) = true := by decide +kernel
theorem witness_LampWires_5 : wWrite (wState [(O.lwDrivers 3, 64)]) O.lwPeriod (beBytes 4 500) (fun s => !slotFits 500 (s.obj (O.lwDrivers 3))) = true := by decide +kernel
theorem witness_LampWires_6 : wWrite (wState []) (O.lwDrivers 3) [1] (fun s => slotFits (s.obj O.lwPeriod) 1) = true := by decide +kernel
theorem witness_LampWires_7 : wWrite (wState [(O.lwPeriod, 500)]) (O.lwDrivers 3) [64] (fun s => !slotFits (s.obj O.lwPeriod) 64) = true := by decide +kernel
theorem witness_LampWires_8 : ((wSlot 1 []).at 0).initWait 0 = some (1, 4) ∧ (wSlot 1 []).obj (O.lwFaultState 0) = 0 ∧
    ((wSlot 1 [(O.lwFaultState 0, 1)]).at 0).initWait 0 = some (1, 4) ∧ (wSlot 1 [(O.lwFaultState 0, 1)]).obj (O.lwFaultState 0) ≠ 0 := by decide +kernel
theorem witness_LampWires_9 : (wState []).obj (O.lwFaultState 0) = 0 ∧ (wState []).obj (O.lwFaultAction 0) ≤ 1 ∧ (wSlot 1 [(O.lwFaultState 0, 1)]).obj (O.lwFaultState 0) = 1 := by decide +kernel
theorem witness_LampWires_10 :
    let s := (wState [(O.lwPeriod, 100)]).at 4125000
    (s.at 0).slotsRun = true ∧ (s.at 0).slotStart (s.at 0).nextSlot ≤ (s.at 0).tick ∧ s.jtagDrives = false := by decide +kernel

/-- Output 0 shows frame 4, with an output's state and objects. -/
def wOut (m : MoutSt) (objs : List (Nat × Nat)) : State :=
  ((wFrame { running := true, frame := 4 } { active := [wEntry] } ([(O.moutState 0, 3), (O.moutWidth 0, 640), (O.moutHeight 0, 480)] ++ objs)).setMout 0 m)
def wFetch : Fetch := ⟨4, 0, wEntry, false, 0, [], []⟩
def wXfer (ref : Nat) (data : List Byte) : Xfer := ⟨7, ref, false, 1024, 0, 0, data.length, 1, 1, 0, 0, 0, data, [], true⟩
def wStaged (ref : Nat) (data : List Byte) : State := let s := wState []; { s with resil := { s.resil with xfers := [(1, wXfer ref data)] } }
def wCam (x : CamSt) (objs : List (Nat × Nat)) : State := (wFrame { running := true, frame := 4 } {} ([(O.camOutput 0, 0), (O.camDivider 0, 1)] ++ objs)).setCam 0 x

theorem witness_OutputReadout_1 :
    let tr : Transfer := ⟨4, 0, wEntry, false, 0, 1, 0⟩
    let s := wOut { transfer := some tr } []
    (s.mout 0).transfer = some tr ∧ (s.tg (s.leadOf 0)).running = true ∧ ((s.slm (s.leadOf 0)).active.head?).getD tr.entry = wEntry ∧
      s.emittedFlip 0 4 wEntry ≤ (s.at 0).tick ∧ s.laneOn 0 = true := by decide +kernel
theorem witness_OutputReadout_2 :
    let s := wOut { fetches := [wFetch] } []
    (s.mout 0).fetches = [] ++ [wFetch] ∧ (s.at 0).fifoFill 0 + ([] ++ [wFetch]).foldl (fun a (f : Fetch) => a + f.coded.length * 4096) 0 + 4096 ≤ 524288 ∧
      wFetch.next < s.imageBlocks 0 ∧ kvGet (fun _ => 0) (s.half 0 false).index (blockKey wEntry.plane 0) = 0 := by decide +kernel
theorem witness_OutputReadout_3 :
    let s := (wOut { lastPark := some 0 } []).setTg 0 {}
    (s.at 20000000).showing 0 = false ∧ s.laneOn 0 = true ∧ (s.mout 0).lastPark = some 0 ∧ (0 : Int) + 10312500 ≤ (s.at 20000000).tick ∧ (s.mout 0).transfer = none := by decide +kernel
theorem witness_OutputReadout_4 :
    let s := wOut { vernierFrom := some 3 } []
    (s.mout 0).vernierFrom = some 3 ∧ 3 ≤ (s.at 0).tick ∧ (s.mout 0).lowSince + 8 ≤ (s.at 0).tick := by decide +kernel
theorem witness_OutputReadout_5 (data : List Byte) (h : data.length = lutBytes) :
    (wStaged (O.colLutStage 2) data).wholeOf (O.colLutStage 2) = some (1, wXfer (O.colLutStage 2) data) ∧
      ((wStaged (O.colLutStage 2) data).xferValue (wXfer (O.colLutStage 2) data)).length = lutBytes ∧
      (((wStaged (O.colLutStage 2) data).at 0).showingView 2).any (fun m => ((wStaged (O.colLutStage 2) data).col m).lutPend.contains 2) = false :=
  ⟨rfl, h, rfl⟩
theorem witness_OutputReadout_6 : ∃ data : List Byte, data.length = lutBytes := ⟨fill lutBytes 0, by simp [fill]⟩
theorem witness_OutputReadout_7 : (wStaged (O.colLutStage 2) [1]).wholeOf (O.colLutStage 2) = some (1, wXfer (O.colLutStage 2) [1]) ∧
    ((wStaged (O.colLutStage 2) [1]).xferValue (wXfer (O.colLutStage 2) [1])).length ≠ lutBytes := by decide +kernel
theorem witness_OutputReadout_8 :
    let s := wOut {} [(O.colCompMode 0, 1)]
    (s.at 0).nextComposed (s.leadOf 0) = some 5 ∧ s.obj (O.colCompMode 0) = 1 ∧ s.resil.procDown = false := by decide +kernel
theorem witness_Shutters_1 :
    let s := wCam { measuring := true } [(O.camShutPolarity 0, 0)]
    (s.cam 0).measuring = true ∧ s.leadOf (s.obj (O.camOutput 0)) = 0 ∧ s.obj (O.camShutPolarity 0) = 0 ∧
      s.frameAround 0 (((s.at 0).tick : Int) - s.objI (O.camShutDelay 0)) (s.obj (O.camOpen 0)) = (5 : Nat) ∧ s.exposure 0 5 = true ∧ ((s.cam 0).at 5).open_ = none := by decide +kernel
theorem witness_Shutters_2 :
    let s := wCam { measuring := true, meas := [⟨5, some 0, none⟩] } [(O.camShutPolarity 0, 0)]
    s.frameAround 0 (((s.at 0).tick : Int) - s.objI (O.camShutDelay 0)) (s.obj (O.camOpen 0) + s.obj (O.camLength 0) : Nat) = (5 : Nat) ∧ s.exposure 0 5 = true ∧
      ((s.cam 0).at 5).open_ = some 0 ∧ ((s.cam 0).at 5).close = none ∧ 0 < ((s.at 0).tick : Int) - s.objI (O.camShutDelay 0) - s.boundaryTick 0 5 := by decide +kernel
theorem witness_Shutters_3 :
    let s := wCam { measuring := true, next := 3, meas := [⟨3, some 0, some 5⟩] } [(O.camShutState 0, 1), (O.camGuard 0, 10), (O.camOpen 0, 0), (O.camLength 0, 5)]
    3 = s.nextExposure 0 8 (s.cam 0).next ∧
      (s.at 0).reached ((((s.timing 0).boundary 3).plus (s.obj (O.camOpen 0) + s.obj (O.camLength 0) : Nat)).plusFrac (s.timing 0).pNum (2 * (s.timing 0).den)) = true ∧
      ((s.cam 0).at 3).open_ = some 0 ∧ ((s.cam 0).at 3).close = some 5 ∧ s.obj (O.camShutState 0) = 1 := by decide +kernel
theorem witness_ArrayLinks_1 : wWrite (wState []) (O.moutEnable 0) [0] (fun _ => true) = true ∧
    wWrite (wState [(O.moutEnable 0, 0)]) (O.moutEnable 0) [1] (fun s => s.obj (O.moutEnable 0) == 0) = true := by decide +kernel
theorem witness_ArrayLinks_2 :
    let s := wOut {} [(O.moutState 0, 1), (O.moutLanesActive 0, 5)]
    s.obj (O.moutState 0) = 1 ∧ s.opState ≠ startup ∧ (s.mout 0).rejoin = false ∧ bit (s.obj (O.moutLanesActive 0)) 2 = true ∧ s.obj (O.moutLanesActive 0) < 2 ^ 23 ∧
      (s.mout 0).bringupAt + msTicks (s.obj (O.moutBringupTimeout 0)) ≤ (s.at 100000000000).tick := by decide +kernel
theorem witness_ArrayLinks_3 :
    let s := wOut { pollAsked := true } [(O.moutState 0, 2)]
    s.obj (O.moutState 0) = 2 ∧ (s.mout 0).pollAsked = true := by decide +kernel
theorem witness_ArrayLinks_4 : wWrite (wOut {} [(O.moutLanesDown 0, 6)]) (O.moutLaneRestore 0) [0, 0, 0, 2] (fun s => bit (s.obj (O.moutLanesDown 0)) 1) = true := by decide +kernel
theorem witness_ArrayLinks_5 : wWrite (wState []) (O.moutFreezeClear 3) [1] (fun _ => true) = true := by decide +kernel

/-- Buffer 5 and clip 6 in some state, and layer 1 enabled for content of their format. -/
def wBufs (st : Nat) (objs : List (Nat × Nat)) : State :=
  { wState ([(O.layBufState 5, st), (O.layBufHandle 5, 1311808), (O.layBufFormat 5, 3), (O.layBufWidth 5, 64), (O.layBufHeight 5, 64), (O.layBufStride 5, 256), (O.layBufFrames 5, 1),
    (O.layBufState 6, st), (O.layBufHandle 6, 1574016), (O.layBufFormat 6, 3), (O.layBufWidth 6, 64), (O.layBufHeight 6, 64), (O.layBufStride 6, 256), (O.layBufFrames 6, 9),
    (O.layEnable 1, 1), (O.layKind 1, 0), (O.layFormat 1, 3), (O.laySrcW 1, 64), (O.laySrcH 1, 64)] ++ objs) with
    bufs := [(5, { extents := [(0x10000, 16384)] }), (6, { extents := [(0x20000, 147456)] })] }
def wHandle : List Byte := beBytes 4 1311808
def wFlip : List Byte := leBytes 4 1311808 ++ leBytes 4 9 ++ leBytes 4 1 ++ leBytes 4 0 ++ leBytes 8 0
def wPlay : List Byte := leBytes 4 1574016 ++ leBytes 4 0 ++ leBytes 4 9 ++ leBytes 2 1 ++ leBytes 2 0
def wAlloc (type w h frames per : Nat) : List Byte :=
  leBytes 1 type ++ leBytes 1 0x30 ++ leBytes 1 1 ++ [0] ++ leBytes 2 w ++ leBytes 2 h ++ leBytes 4 frames ++ leBytes 4 0 ++ leBytes 4 1 ++ leBytes 4 per
def wDram (objs : List (Nat × Nat)) : State := { wState ((O.memChSize 0, 2 ^ 34) :: objs) with memc := { n := 8 } }
def wLayCommit (taken : Bool) : LayCommit := ⟨tickInstant 0, none, [], [], [0], taken, [], [], []⟩

theorem witness_BufferAllocation_1 :
    let v := wAlloc tyBuffer 64 1 1 0
    (leAt v 0 1 = tyBuffer ∧ leAt v 8 4 = 1) ∧ leAt v 3 1 = 0 ∧ leAt v 12 4 = 0 ∧ leAt v 2 1 ≤ 1 ∧ 64 ≤ leAt v 4 2 ∧ leAt v 4 2 ≤ 16384 ∧ 1 ≤ leAt v 6 2 ∧ leAt v 6 2 ≤ 16384 ∧
      fmtOk (leAt v 1 1) = true := by decide +kernel
theorem witness_BufferAllocation_2 :
    let v := wAlloc tyClip 16384 16384 1048576 240
    (leAt v 0 1 = tyClip ∧ 1 ≤ leAt v 8 4 ∧ leAt v 8 4 ≤ 1048576 ∧ clipPeriodOk (leAt v 16 4 * 4294967296 + leAt v 20 4) = true) ∧ leAt v 4 2 = 16384 ∧ leAt v 6 2 = 16384 := by decide +kernel
theorem witness_BufferAllocation_3 : wWrite (wDram []) O.layAlloc (wAlloc tyBuffer 64 1 1 0) (fun s => (s.took.alloc (frameSize 0x30 64 1) true).isSome) = true := by decide +kernel
theorem witness_BufferAllocation_4 : wWrite (wState []) O.layAlloc (wAlloc tyBuffer 64 64 1 0) (fun s => (s.took.alloc (frameSize 0x30 64 64) true).isNone) = true := by decide +kernel
theorem witness_BufferAllocation_5 : handleIndex (beNat wHandle) = 5 ∧ wWrite (wBufs bufFree []) (O.layBufFree 5) wHandle (fun s => (s.handleFault 1311808).isSome) = true := by decide +kernel
theorem witness_BufferAllocation_6 : wWrite (wBufs bufWriting []) (O.layBufFree 5) wHandle (fun s => (s.handleFault 1311808).isNone && s.bufState 5 == bufWriting) = true := by decide +kernel
theorem witness_BufferAllocation_7 : wWrite (wBufs bufReady []) (O.layBufFree 5) wHandle
    (fun s => (s.handleFault 1311808).isNone && s.bufState 5 != bufWriting && s.bufRefs 5 == 0) = true := by decide +kernel
theorem witness_BufferAllocation_8 : wWrite ((wBufs bufReady []).setLay 1 { queue := [flipOf wFlip] }) (O.layBufFree 5) wHandle
    (fun s => (s.handleFault 1311808).isNone && s.bufState 5 != bufWriting && s.bufRefs 5 != 0) = true := by decide +kernel
theorem witness_LayerRequests_1 : wWrite (wBufs bufReady []) (O.layFlip 1) wFlip (fun s => (s.flipFault 1 (flipOf wFlip)).isNone) = true := by decide +kernel
theorem witness_LayerRequests_2 : wWrite (wBufs bufFree []) (O.layFlip 1) wFlip (fun s => (s.flipFault 1 (flipOf wFlip)).isSome) = true := by decide +kernel
theorem witness_LayerRequests_3 :
    let f := flipOf wFlip
    let q := wBufs bufReady []
    f.flags < 4 ∧ (wState []).obj (O.layEnable 1) = 0 ∧ q.obj (O.layEnable 1) ≠ 0 ∧ q.obj (O.layKind 1) = 0 ∧ 4 ≤ ((q.setLay 1 { queue := [f, f, f, f] }).lay 1).queue.length ∧
      (q.lay 1).queue.length < 4 ∧ (wBufs bufFree []).handleFault f.handle = some St.staleHandle ∧
      (wBufs bufRelease []).handleFault f.handle = none ∧ (wBufs bufRelease []).bufState (handleIndex f.handle) = bufRelease := by decide +kernel
theorem witness_LayerRequests_4 : wWrite (wState []) (O.layFenceDone 63) (beBytes 4 7) (fun _ => true) = true := by decide +kernel
theorem witness_LayerRequests_5 : wWrite (wBufs bufReady []) (O.layPlaylist 1) wPlay (fun s => (playEntries wPlay).all (s.playOk 1)) = true := by decide +kernel
theorem witness_LayerRequests_6 : wWrite (wBufs bufFree []) (O.layPlaylist 1) wPlay (fun s => (playEntries wPlay).any fun e => !s.playOk 1 e) = true ∧
    wPlay.length % 16 = 0 ∧ 16 ≤ wPlay.length ∧ wPlay.length ≤ 512 := by decide +kernel
theorem witness_LayerRequests_7 : wWrite ((wBufs bufReady []).setBlob (O.layPlaylist 1) wPlay) (O.layPlay 1) (fill 12 0)
    (fun s => let es := playEntries (s.blob (O.layPlaylist 1)); !es.isEmpty && es.all fun e => s.playOk 1 e && s.bufState (handleIndex e.handle) != bufRelease) = true := by decide +kernel
def wKernel (id cls inF outF : Nat) : Kernel := ⟨id, 1, 1000, inF, outF, cls, 1, 0, 0, 0, [], 0, []⟩
/-- Two kernels that make the chains, and four small outputs. -/
def wChains (more : List (Nat × Nat)) : State :=
  let s := wState (((List.range 4).flatMap fun m => [(O.moutWidth m, 64), (O.moutHeight m, 64)]) ++ more)
  let s := { s with carve := { kernels := [wKernel 1 2 fmtLayer fmtWork, wKernel 2 1 fmtPatch fmtFrag] } }
  (List.range 4).foldl (fun s m => (s.setBlob (O.crvChain m) [2, 0]).setBlob (staged (O.crvChain m)) [2, 0]) ((s.setBlob O.crvChainIngest [1, 0]).setBlob (staged O.crvChainIngest) [1, 0])

theorem witness_CompositorCommits_1 : wCommit (wChains []) 0x2600 none (fun s => s.layCommit.isNone && (s.compositorCommit none).status == St.ok) = true := by decide +kernel
theorem witness_CompositorCommits_2 : wCommit (wState [(staged (O.layFormat 0), 0)]) 0x2600 none (fun s => s.layCommit.isNone && (s.compositorCommit none).status == St.badFormat) = true := by decide +kernel
theorem witness_CompositorCommits_3 : wCommit ({ wState [] with layCommit := some (wLayCommit false) }) 0x2600 none (fun s => s.layCommit.isSome) = true := by decide +kernel
theorem witness_CompositorCommits_4 : wWrite ({ wFrame { running := true, frame := 4 } {} [] with layCommit := some (wLayCommit true) }) O.layCancel [1]
    (fun s => s.layCommit == some (wLayCommit true)) = true := by decide +kernel
theorem witness_CompositorCommits_5 : wWrite (wState []) O.layCancel [1] (fun s => s.layCommit.isNone) = true := by decide +kernel
theorem witness_CompositorCommits_6 : wWrite ({ wFrame { running := true, frame := 4 } {} [] with layCommit := some { wLayCommit false with treq := some (2 ^ 48 * 9), accAt := tickInstant 900000000 } }) O.layCancel [1]
    (fun s => match s.layCommit with | some c => (match s.layPoint c with | some i => !s.reached i | none => false) | none => false) = true := by decide +kernel

def wTile : Tile := ⟨5, 5, 0, 0, false, false, false, 0, 0, 0, 0, 0, 0, fmtPatch, 0, 0, 0, 0, 0, 0, 0, false, 0, 1, []⟩
def wRun (chain : List Nat) (stage : Nat) : Run := ⟨{ wTile with stage := stage }, chain, 0, none, 0⟩
/-- Engine 0 at its first instruction `w`, in the first or in the last stage of a chain of two kernels. -/
def wEng (w : Nat) (stage : Nat) (g : Eng) : State :=
  { wState [] with carve := { kernels := [{ wKernel 1 2 fmtLayer fmtWork with code := leBytes 8 w }, { wKernel 2 0 fmtWork fmtWork with code := leBytes 8 w }],
                              engines := [(0, { g with pc := 0x01000000, run := some (wRun [1, 2] stage) })], nextTile := 9 } }
def wIssues (w stage n : Nat) (g : Eng) : Bool :=
  let s := (wEng w stage g).at 0
  match (s.engine 0).run with
  | some r => r == wRun [1, 2] stage && r.out.isNone && pcOk (s.engine 0).pc && s.codeWord (s.engine 0).pc == w && decide (r.cycles + n ≤ s.stageLimit r)
  | none => false
/-- What `wIssues` says: the premise of the statements about instructions. -/
theorem wIssues_issues {w stage n : Nat} {g : Eng} (h : wIssues w stage n g = true) : ((wEng w stage g).at 0).issues 0 (opcodeOf w) n w (wRun [1, 2] stage) := by
  unfold wIssues at h
  dsimp only at h
  split at h
  · rename_i r hr
    simp only [Bool.and_eq_true, beq_iff_eq, decide_eq_true_eq, Option.isNone_iff_eq_none] at h
    obtain ⟨⟨⟨⟨rfl, h2⟩, h3⟩, h4⟩, h5⟩ := h
    exact ⟨hr, h2, h3, h4, rfl, h5⟩
  · cases h
def wOp (op low : Nat) : Nat := op * 2 ^ 56 + low
/-- The instructions of a list of opcode, cycles and low bits are issued and are well formed. -/
def wAll (ok : Nat → Bool) (l : List (Nat × Nat × Nat)) : Bool := l.all fun x => wIssues (wOp x.1 x.2.2) 0 x.2.1 {} && opcodeOf (wOp x.1 x.2.2) == x.1 && ok (wOp x.1 x.2.2)

theorem witness_CarveScalars_1 : wAll (scalarV 7) [(0x10, 1, 0), (0x11, 1, 0), (0x12, 1, 0), (0x13, 1, 0), (0x14, 1, 0), (0x15, 1, 15 * 2 ^ 47)] = true := by decide +kernel
theorem witness_CarveScalars_2 : wAll (scalarV 3) [(0x16, 1, 31 * 2 ^ 25), (0x17, 1, 2 ^ 30)] = true := by decide +kernel
theorem witness_CarveScalars_3 : wAll (fun w => iOk w && noGuard w && decide (bits w 51 47 < 16) && decide (bits w 46 42 < 16) && decide (bits w 31 0 ≤ 7)) [(0x18, 1, 15 * 2 ^ 47), (0x19, 1, 7), (0x05, 1, 7)] = true := by
  decide +kernel
theorem witness_CarveScalars_4 : wAll (fun w => vOk w && decide (bits w 51 47 < 16) && decide (bits w 41 37 < 16)) [(0x34, 1, 31 * 2 ^ 42)] = true := by decide +kernel
theorem witness_CarveControl_1 : wAll bOk [(0x00, 1, 0), (0x02, 2, 5), (0x03, 2, 6 * 2 ^ 40), (0x03, 1, 2 ^ 40), (0x04, 1, 0)] = true := by decide +kernel
theorem witness_CarveControl_2 : wIssues (wOp 1 0) 1 1 {} = true ∧ bOk (wOp 1 0) = true ∧ ((wEng 0 1 {}).kernel? (wRun [1, 2] 1).kernel).isSome = true ∧
    (((wEng 0 1 {}).engine 0).sreg 2).toNat + (wEng 0 1 {}).outBytes (wRun [1, 2] 1).tile fmtWork ≤ 0x10000 ∧ (wRun [1, 2] 1).chain.length ≤ (wRun [1, 2] 1).tile.stage + 1 := by decide +kernel
theorem witness_CarveControl_3 : wIssues (wOp 1 0) 0 1 {} = true ∧ ((wEng 0 0 {}).kernel? (wRun [1, 2] 0).kernel).isSome = true ∧
    (((wEng 0 0 {}).engine 0).sreg 2).toNat + (wEng 0 0 {}).outBytes (wRun [1, 2] 0).tile fmtWork ≤ 0x10000 ∧
    (wRun [1, 2] 0).chain[(wRun [1, 2] 0).tile.stage + 1]? = some 2 ∧ ((wEng 0 0 {}).kernel? 2).isSome = true := by decide +kernel
theorem witness_CarveControl_4 : wAll (fun w => bits w 17 0 != 0) [(0x10, 0, 1)] = true ∧ wAll (fun w => decide (6 < bits w 21 18)) [(0x10, 0, 7 * 2 ^ 18)] = true ∧
    wAll (fun w => bits w 55 52 != 0) [(0x10, 0, 2 ^ 52)] = true ∧ wAll (fun w => decide (16 ≤ bits w 51 47)) [(0x10, 0, 2 ^ 51)] = true := by decide +kernel
theorem witness_CarveMemory_1 : wAll (fun w => mOk w && noGuard w && decide (bits w 51 47 < 16)) [(0x1A, 1, 0), (0x1B, 1, 15 * 2 ^ 47)] = true ∧
    wIssues (wOp 0x1A (2 ^ 43)) 0 2 { s := [(1, 0x013FFFFC)] } = true ∧
    ((((wEng 0 0 { s := [(1, 0x013FFFFC)] }).engine 0).sreg 1) + BitVec.ofNat 32 (wOp 0x1A (2 ^ 43))).toNat = 0x013FFFFC := by decide +kernel
theorem witness_CarveMemory_2 : wAll mOk [(0x40, 1, 64), (0x41, 1, 0xFFC0)] = true ∧ wIssues (wOp 0x40 (2 ^ 43)) 0 2 { s := [(1, 0x01040000)] } = true ∧ (0xFFC0 + 64 ≤ 0x10000 ∧ 0xFFC0 % 64 = 0) := by
  decide +kernel
theorem witness_CarveMemory_3 :
    let at_ (w l : Nat) : Nat := (((wEng 0 0 {}).engine 0).sreg (bits w 46 43) + ((wEng 0 0 {}).engine 0).lane (bits w 42 38) l <<< bits w 35 33 + BitVec.ofNat 32 w).toNat
    wAll (fun w => mOk w && decide (bits w 37 36 = 2) && (List.range 16).all fun l => at_ w l % 4 == 0 && decide (at_ w l + 4 ≤ 0x10000)) [(0x42, 2, 2 * 2 ^ 36 + 12)] = true ∧
    wAll (fun w => mOk w && decide (bits w 37 36 = 3) && decide (bits w 51 47 ≠ 31) && (List.range 16).all fun l => at_ w l % 8 == 0 && decide (at_ w l + 8 ≤ 0x10000)) [(0x42, 4, 3 * 2 ^ 36 + 16)] = true := by
  decide +kernel
theorem witness_CarveVectors_1 : wAll vOk (([0x20, 0x21, 0x22, 0x23, 0x24, 0x25, 0x26, 0x27, 0x28, 0x29, 0x2A, 0x2B, 0x2C, 0x2D].map fun c => (c, 1, 3 * 2 ^ 30)) ++
    [(0x20, 1, 31 * 2 ^ 47 + 15 * 2 ^ 52), (0x2D, 1, 2 ^ 25)]) = true := by decide +kernel
theorem witness_CarveVectors_2 : wAll (fun w => vOk w && bit w 31) [(0x2E, 1, 2 ^ 31)] = true ∧ wAll (fun w => vOk w && !bit w 31) [(0x2F, 1, 6 * 2 ^ 18 + 7 * 2 ^ 22)] = true := by decide +kernel
theorem witness_CarveMoves_1 : wAll (fun w => vOk w && decide (bits w 46 42 < 16) && decide (bits w 41 37 < 16)) [(0x30, 1, 0), (0x31, 1, 15 * 2 ^ 42), (0x33, 1, 15 * 2 ^ 37), (0x35, 1, 0), (0x36, 1, 2 ^ 25)] = true ∧
    wAll iOk [(0x32, 1, 2 ^ 41 + 65535)] = true := by decide +kernel
theorem witness_CarvePixels_1 : wIssues (wOp 0x50 (2 ^ 25 + 2 ^ 32)) 0 8 { s := [(1, 0x01040000)] } = true ∧
    (let w := wOp 0x50 (2 ^ 25 + 2 ^ 32)
     let g := (wEng w 0 { s := [(1, 0x01040000)] }).engine 0
     vOk w = true ∧ bits w 29 25 ≤ 2 ∧ bits w 36 32 < 16 ∧ (∀ l < 16, g.lane (bits w 46 42) l = 0 ∧ loHalf (g.lane (bits w 41 37) l) = 0) ∧
      (g.sreg (bits w 36 32)).toNat % 4 = 0 ∧ 0x01040000 ≤ (g.sreg (bits w 36 32)).toNat ∧ (g.sreg (bits w 36 32)).toNat + 431244 ≤ 0x01400000) := by decide +kernel
theorem witness_CarvePixels_2 : wAll (fun w => vOk w && bit w 31) [(0x51, 2, 2 ^ 31)] = true := by decide +kernel
theorem witness_CarvePixels_3 : wAll (fun w => vOk w && bit w 31 && decide (1 ≤ bits w 29 25) && decide (bits w 29 25 ≤ 16) && decide (bits w 36 32 < 16) && decide (bits w 51 47 ≠ 31))
    [(0x52, 1, 2 ^ 31 + 2 ^ 25), (0x52, 1, 2 ^ 31 + 16 * 2 ^ 25), (0x53, 32, 2 ^ 31 + 2 ^ 25), (0x53, 32, 2 ^ 31 + 16 * 2 ^ 25)] = true ∧
    (let g := (wEng 0 0 {}).engine 0
     ∀ k < 32, (g.sreg 3).toNat + 16 * ((g.sreg 0).toNat % 16) + g.elem16 0 k % 16 < 0x10000) := by decide +kernel

/-- A tile with its format and a chain, queued on cluster 0 or on engine 0. -/
def wQueue (st : Nat) (queue : List Tile) (run : Option Run) (objs : List (Nat × Nat)) : State :=
  { wState ((O.crvClState 0, st) :: objs) with
    carve := { kernels := [wKernel 1 2 fmtLayer fmtWork], clusters := [(0, { queue := queue })], engines := [(0, { run := run })], nextTile := 9 },
    slms := [(0, { composing := some 4 })], comps := [(0, { chain := [1], streams := [(0, {})] })] }

theorem witness_TilesAndClusters_1 :
    let s := (wQueue clOnline [] none []).setBlob (O.crvMesh 0) (fill 32 0)
    let s0 := s.at 0
    s.producing 0 = some 4 ∧ (s.cfg (s.leadOf 0)).views.contains 0 = true ∧ 0 < s.tilesX 0 * s.tilesY 0 ∧
      (match s0.frameTile 0 0 4 0 0 [] with | some (t, _) => (s0.placeTile t).isSome | none => false) = true ∧ s.unservedView 0 = false := by decide +kernel
theorem witness_TilesAndClusters_2 :
    let s := wQueue clOnline [wTile] none []
    (s.engine 0).run = none ∧ s.clState 0 = clOnline ∧ firstTile (s.cluster 0).queue = some wTile ∧ (s.kernel? ((s.tileChain { wTile with engine := 0 }).headD 0)).isSome = true := by decide +kernel
theorem witness_TilesAndClusters_3 :
    let s := wQueue clOnline [] (some { wRun [1] 0 with cycles := 1000 }) []
    (s.engine 0).run = some { wRun [1] 0 with cycles := 1000 } ∧ s.stageLimit { wRun [1] 0 with cycles := 1000 } ≤ 1000 ∧
      ((wQueue clOnline [] (some { wRun [1] 0 with out := some [0, 0] }) []).engine 0).run = some { wRun [1] 0 with out := some [0, 0] } := by decide +kernel

theorem witness_TilesAndClusters_4 : wWrite (wState []) (O.crvClOnline 0) [0] (fun s => s.clState 0 == clOnline && (s.computeFits s.carve.demand (64 * (s.onlineClusters.length - 1)) &&
    decide (s.viewWeights.length ≤ s.onlineClusters.length - 1))) = true := by decide +kernel
theorem witness_TilesAndClusters_5 : wWrite ({ wState [] with carve := { demand := (2 ^ 60, 1) } }) (O.crvClOnline 15) [0] (fun s => s.clState 15 == clOnline &&
    (!s.computeFits s.carve.demand (64 * (s.onlineClusters.length - 1)))) = true := by decide +kernel
theorem witness_TilesAndClusters_6 : wWrite (wState ((List.range 15).map fun c => (O.crvClState (c + 1), clOffline))) (O.crvClOnline 0) [0] (fun s => s.clState 0 == clOnline &&
    decide (s.onlineClusters.length - 1 < s.viewWeights.length)) = true := by decide +kernel
theorem witness_TilesAndClusters_7 : (wQueue clDraining [] none []).clState 0 = clDraining ∧ (wQueue clDraining [] none []).held 0 = [] ∧ (wQueue clTesting [] none []).clState 0 = clTesting := by decide +kernel
theorem witness_TilesAndClusters_8 : [clOffline, clFaulted, clOnline, clTesting].all (fun x => wWrite (wState [(O.crvClState 3, x)]) (O.crvClOnline 3) [1] (fun s => s.clState 3 == x)) = true := by decide +kernel

def wJob (_ : Nat) : Job := ⟨7, 0, 1311808, 1574016, 0, 0, 64, 64, 0, [], none⟩
/-- Kernel 7 of class JOB, and buffers 5 and 6 for it. -/
def wJobs (jobs : List (Nat × Job)) (chained : Bool) : State :=
  let s := wBufs bufReady []
  { (if chained then s.setBlob O.crvChainIngest [7, 0] else s) with carve := { kernels := [{ wKernel 7 4 fmtLayer fmtLayer with jobScale := 1 }], jobs := jobs, nextTile := 9 } }
def wJobV : List Byte := leBytes 2 7 ++ [0, 0] ++ leBytes 4 1311808 ++ leBytes 4 1574016 ++ leBytes 2 0 ++ leBytes 2 0 ++ leBytes 2 64 ++ leBytes 2 64 ++ fill 12 0

theorem witness_KernelRemoval_1 : wWrite (wJobs [] false) O.crvKernelRemove (beBytes 2 7) (fun s => (s.kernel? 7).isSome && !s.chainsNamed.contains 7) = true ∧
    wWrite (wJobs [] true) O.crvKernelRemove (beBytes 2 7) (fun s => (s.kernel? 7).isSome && s.chainsNamed.contains 7) = true ∧
    wWrite (wJobs [(2, wJob 2)] false) O.crvKernelRemove (beBytes 2 7) (fun s => (s.kernel? 7).isSome && s.carve.jobs == [(2, wJob 2)]) = true := by decide +kernel
theorem witness_Jobs_1 : wWrite (wJobs [] false) O.crvJob wJobV (fun s => kvFind s.carve.jobs 0 == none && (s.handleFault 1311808).isNone && (s.handleFault 1574016).isNone &&
    s.bufState 5 != bufWriting && s.bufState 6 != bufRelease && s.bufRefs 6 == 0 && (match s.kernel? 7 with | some k => k.id == 7 && bit k.cls 2 && k.jobScale == 1 | none => false) &&
    s.obj (O.layBufFormat 6) == s.obj (O.layBufFormat 5) && s.obj (O.layBufWidth 6) == 64 && s.obj (O.layBufHeight 6) == 64 && s.obj (O.layBufWidth 5) == 64 && s.obj (O.layBufHeight 5) == 64) = true ∧
    handleIndex (leAt wJobV 4 4) = 5 ∧ handleIndex (leAt wJobV 8 4) = 6 ∧ leAt wJobV 0 2 = 7 ∧ leAt wJobV 2 1 ≤ 1 ∧ leAt wJobV 3 1 = 0 ∧ (∀ b ∈ slice wJobV 20 12, b = 0) ∧
    leAt wJobV 16 2 = 64 ∧ leAt wJobV 18 2 = 64 ∧ leAt wJobV 12 2 = 0 ∧ leAt wJobV 14 2 = 0 := by decide +kernel
theorem witness_Jobs_2 : wWrite (wJobs [(0, wJob 0), (1, wJob 1), (2, wJob 2), (3, wJob 3)] false) O.crvJob wJobV
    (fun s => (List.range 4).all fun m => kvFind s.carve.jobs m != none) = true := by decide +kernel
theorem witness_Jobs_3 : wWrite (wJobs [(2, wJob 2)] false) O.crvJobCancel [2] (fun s => kvFind s.carve.jobs 2 == some (wJob 2) && !s.jobWritten (wJob 2)) = true ∧
    wWrite (wJobs [] false) O.crvJobCancel [2] (fun s => kvFind s.carve.jobs 2 == none) = true := by decide +kernel
theorem witness_Jobs_4 :
    let j : Job := { wJob 3 with written := [(0, 0), (0, 1)] }
    kvFind (wJobs [(3, j)] false).carve.jobs 3 = some j ∧ j.failed = none ∧ (wJobs [(3, j)] false).jobWritten j = true ∧
      kvFind (wJobs [(3, { j with failed := some 4 })] false).carve.jobs 3 = some { j with failed := some 4 } := by decide +kernel
theorem witness_Jobs_5 : wWrite (wJobs [] false) O.crvKernelRemove (beBytes 2 9) (fun s => (s.kernel? 9).isNone) = true := by decide +kernel

/-- CRCs of 64, 128, … bytes of ones. -/
def wCrcs : List Nat := [65535, 61780, 7587, 4803, 23343, 39520, 31199, 65393, 27029, 52320, 31432, 55731, 4724, 16337, 16131, 59319, 30699,  46938, 56785, 40161, 57508, 22514, 32189, 29156, 46816, 42129, 57538, 57276, 5070, 18065, 17184, 55471, 13271, 35958,  61205, 62126, 30690, 15174, 19732, 36996, 34707, 56567, 30073, 31983, 6187, 30067, 50423, 54178, 4282, 46097, 47974,  42655, 48047, 64046, 35485, 11824, 18767, 57902, 11334, 16997, 58741, 11323, 20014, 10856, 4065] 
theorem wCrcs_step : ∀ i < 64, crc 16 0x1021 (wCrcs.getD i 0) (fill 64 255) = wCrcs.getD (i + 1) 0 := by decide +kernel
theorem wCrcs_crc (n : Nat) (h : n ≤ 64) : crc 16 0x1021 0xFFFF (fill (64 * n) 255) = wCrcs.getD n 0 := by
  induction n with
  | zero => rfl
  | succ n ih =>
    have e : fill (64 * (n + 1)) 255 = fill (64 * n) 255 ++ fill 64 255 := by unfold fill; rw [List.replicate_append_replicate]; rfl
    rw [e, ← wCrcs_step n h, ← ih (by omega)]
    unfold crc
    exact List.foldl_append
theorem bytesOfBits_ones (n : Nat) : bytesOfBits n (List.replicate (8 * n) true) = fill n 255 := by
  induction n with
  | zero => rfl
  | succ n ih =>
    have e : List.replicate (8 * (n + 1)) true = List.replicate 8 true ++ List.replicate (8 * n) true := by
      rw [List.replicate_append_replicate]; congr 1; omega
    have t : (List.replicate 8 true ++ List.replicate (8 * n) true).take 8 = List.replicate 8 true := rfl
    have d : (List.replicate 8 true ++ List.replicate (8 * n) true).drop 8 = List.replicate (8 * n) true := rfl
    rw [e]
    unfold bytesOfBits
    rw [t, d, ih]
    rfl
/-- A block of ones, and its stream in mode PLANE: no zeros, 32,768 ones, the CRC. -/
def wOnes : List Byte := fill 4096 255
def wOnesStream : List Byte := [0x40, 0, 0, 0, 0x07, 0xFF, 0xFF, 0xFC, 0, 0, 0x0F, 0xE1]
theorem planeRuns_zero {f : Nat} {cz co : Ctx} {l l' : List Bool} (h : takeRice cz 16 l = some (0, l')) :
    planeRuns (f + 1) cz co false 0 [] l = planeRuns f (cz.next 0) co true 0 [] l' := by
  rw [planeRuns]
  simp [h]
theorem planeRuns_last {f n : Nat} {cz co : Ctx} {l l' : List Bool} (h : takeRice co 16 l = some (n, l')) (h0 : n ≠ 0) (hn : n = 32768) :
    planeRuns (f + 1) cz co true 0 [] l = some (List.replicate n true, l') := by
  rw [planeRuns]
  simp [h, h0]
  omega
theorem wOnes_runs : decodePlane ((bitStream wOnesStream).drop 32) = some (wOnes, (bitStream wOnesStream).drop 77) := by
  have h1 : takeRice ⟨16, 1⟩ 16 ((bitStream wOnesStream).drop 32) = some (0, (bitStream wOnesStream).drop 37) := by decide +kernel
  have h2 : takeRice ⟨16, 1⟩ 16 ((bitStream wOnesStream).drop 37) = some (8 * 4096, (bitStream wOnesStream).drop 77) := by decide +kernel
  unfold decodePlane
  rw [planeRuns_zero h1, planeRuns_last h2 (by decide) (by decide), Option.map_some, bytesOfBits_ones]
  rfl
theorem wOnes_encodes : encodes 1 wOnes wOnesStream = true := by
  have h0 : takeNum 32 (bitStream wOnesStream) 0 = some (0x40000000, (bitStream wOnesStream).drop 32) := by decide +kernel
  have h1 : headerMode 0x40000000 = some 1 := by decide +kernel
  have h2 : takeNum (((bitStream wOnesStream).drop 77).length % 8) ((bitStream wOnesStream).drop 77) 0 = some (0, (bitStream wOnesStream).drop 80) := by decide +kernel
  have h3 : takeNum 16 ((bitStream wOnesStream).drop 80) 0 = some (4065, []) := by decide +kernel
  have h4 : crc 16 0x1021 0xFFFF wOnes = 4065 := wCrcs_crc 64 (by omega)
  have h5 : wOnes.length = 4096 := List.length_replicate
  have h6 : decodeStream wOnesStream = some wOnes := by
    unfold decodeStream
    simp only [h0, h1, wOnes_runs, h2, h3, h4, h5]
    simp
  unfold encodes
  rw [h6]
  have h7 : streamMode wOnesStream = 1 := by decide +kernel
  simp [h7]

/-- Output 0 with a block on its way to its plane buffer, or with coded blocks at its unit. -/
def wCodeOut (l : List Byte) : State := (wState []).setSlm 0 { outQ := [(3, 9, l)] }
def wCodeIn (idx : Nat) (l : List Byte) : State := wOut { fetches := [{ wFetch with coded := [(0, idx, l)] }] } []

theorem witness_Codec_1 : ((wCodeOut [0, 0]).slm 0).outQ = (3, 9, [0, 0]) :: [] ∧ allZero [0, 0] = true := by decide +kernel
theorem witness_Codec_2 : ((wCodeOut wOnes).slm 0).outQ = (3, 9, wOnes) :: [] ∧ allZero wOnes = false ∧ encodes 1 wOnes wOnesStream = true ∧ wOnesStream.length < 4032 := by
  refine ⟨rfl, by decide +kernel, wOnes_encodes, by decide +kernel⟩
theorem witness_Codec_3 : ((wCodeOut [1]).slm 0).bypassed = false ∧ ((wCodeOut [1]).slm 0).outQ = (3, 9, [1]) :: [] := by decide +kernel
theorem witness_Codec_4 :
    ((wCodeIn 0x40 []).mout 0).fetches = [{ wFetch with coded := [(0, 0x40, [])] }] ∧ decodeBlock 0x40 [] = none ∧ decodeBlock 0xFE [] = none ∧
      ((wCodeIn 1 wOnesStream).mout 0).fetches = [{ wFetch with coded := [(0, 1, wOnesStream)] }] := by decide +kernel
theorem witness_Codec_5 : decodeBlock 1 wOnesStream = some wOnes ∧ decodeBlock 0x3F wOnesStream = some wOnes ∧ wOnes.length = 4096 := by
  have h : decodeStream wOnesStream = some wOnes := by
    have := wOnes_encodes
    unfold encodes at this
    simp only [Bool.and_eq_true, beq_iff_eq] at this
    exact this.2
  have h1 : wOnesStream.take (64 * 1) = wOnesStream := by decide +kernel
  have h2 : wOnesStream.take (64 * 0x3F) = wOnesStream := by decide +kernel
  refine ⟨?_, ?_, List.length_replicate⟩
  · rw [decodeBlock, if_neg (by decide), if_neg (by decide), if_neg (by decide), h1, h]
  · rw [decodeBlock, if_neg (by decide), if_neg (by decide), if_neg (by decide), h2, h]

def wCodecV (op mode : Nat) (count : Nat) : List Byte :=
  leBytes 1 op ++ leBytes 1 mode ++ ([0, 0] ++ leBytes 4 1574016 ++ leBytes 4 1311808 ++ leBytes 4 0 ++ leBytes 4 count ++ fill 12 0)
def wCodec (jobs : List (Nat × CodecJob)) : State := { wBufs bufReady [] with codecJobs := jobs }
def wCodecJob (op count : Nat) : CodecJob := codecJobOf (wCodecV op (if op = 1 then 1 else 0) count)
theorem witness_Codec_6 : wWrite (wCodec [(0, wCodecJob 1 1), (1, wCodecJob 1 1)]) O.codecJob (wCodecV 1 1 1)
    (fun s => (kvFind s.codecJobs 0).isSome && (kvFind s.codecJobs 1).isSome) = true := by decide +kernel
theorem witness_Codec_7 : wWrite (wCodec [(0, wCodecJob 1 1)]) O.codecJob (wCodecV 1 3 1)
    (fun s => kvFind s.codecJobs 1 == none && (kvFind s.codecJobs 0).isSome && (s.handleFault 1574016).isNone && (s.handleFault 1311808).isNone && s.bufState 6 != bufWriting &&
      s.bufState 5 != bufRelease && s.codecOk (codecJobOf (wCodecV 1 3 1)) (wCodecV 1 3 1)) = true := by decide +kernel
theorem witness_Codec_8 : wWrite (wCodec []) O.codecJob (wCodecV 2 0 4)
    (fun s => s.codecJobs == [] && s.bufRefs 5 == 0 && s.codecOk (codecJobOf (wCodecV 2 0 4)) (wCodecV 2 0 4)) = true := by decide +kernel
theorem witness_Codec_9 : wWrite (wCodec []) O.codecJob (wCodecV 2 0 5)
    (fun s => s.codecJobs == [] && s.bufRefs 5 == 0 && (s.handleFault 1574016).isNone && (s.handleFault 1311808).isNone && !s.codecOk (codecJobOf (wCodecV 2 0 5)) (wCodecV 2 0 5)) = true := by decide +kernel
theorem witness_Codec_10 : handleIndex (codecJobOf (wCodecV 2 0 4)).src = 6 ∧ handleIndex (codecJobOf (wCodecV 2 0 4)).dst = 5 := by decide +kernel
theorem witness_Codec_11 : wWrite (wCodec [(1, wCodecJob 1 1)]) O.codecJobCancel [1] (fun s => (kvFind s.codecJobs 1).isSome) = true ∧
    wWrite (wCodec [(1, wCodecJob 1 1)]) O.codecJobCancel [0] (fun s => kvFind s.codecJobs 0 == none) = true := by decide +kernel
theorem witness_Codec_12 :
    let s (op : Nat) (b : Byte) : State := { wCodec [(1, wCodecJob op 1)] with mem := if b = 0 then [] else [(0x20000, b)] }
    let j := wCodecJob 2 1
    kvFind (s 2 0x50).codecJobs 1 = some j ∧ ((s 2 0x50).at 0).codecBad j = none ∧ (((s 2 0x50).at 0).decompressFrom 1 j 1 0).1 = false ∧
      ((s 2 0xFF).at 0).codecBad j = none ∧ (((s 2 0xFF).at 0).decompressFrom 1 j 1 0).1 = true ∧ ((s 1 0).at 0).codecBad (wCodecJob 1 1) = none := by decide +kernel
theorem witness_Codec_13 : let j := wCodecJob 1 1
    ((({ wCodec [(1, j)] with mem := [] }).at 0).compressFrom 1 j 1 0 []).isSome = true := by decide +kernel

/-- Eight channels in service, each with two ranks. -/
def wMem (m : MemSt) (objs : List (Nat × Nat)) : State :=
  { wState ((List.range 8).flatMap (fun c => [(O.memChSize c, 2 ^ 34), (O.memChState c, 2), (O.memChOrg c, 0x200)]) ++ objs) with memc := { m with n := 8 } }
def wWr (id addr len : Nat) (data : List Byte) : MemReq := { id := id, port := 3, write := true, addr := addr, len := len, data := data, since := 0 }
def wRd (id addr len : Nat) : MemReq := { id := id, port := 3, write := false, addr := addr, len := len, data := [], since := 0 }
/-- Subchannel 0 of channel 0 holds a queue; a row of a bank is open. -/
def wQueued (q : List MemReq) (rows : List (Nat × (Nat × Nat))) : State := wMem { subs := [(0, { queue := q })], rows := rows, nextId := 20 } []

theorem witness_MemoryRequests_1 : (wMem {} []).dpaSize = 8 * 2 ^ 34 ∧ (wMem {} []).dpaSize < 8 * 2 ^ 34 - 63 + 64 ∧ 8 * 2 ^ 34 - 64 + 64 ≤ (wMem {} []).dpaSize := by decide +kernel
theorem witness_MemoryRequests_2 : (wMem {} []).queueRoom (wWr 0 63 1 [5]) = true ∧ 63 % 64 + 1 ≤ 64 ∧ (wMem {} []).queueRoom (wWr 0 (8 * 2 ^ 34 - 64) 64 (fill 64 1)) = true ∧
    (wMem {} []).obj (O.memPortInorder 3) = 0 := by decide +kernel
theorem witness_MemoryRequests_3 :
    let s := wQueued [wWr 11 128 64 (fill 64 1)] []
    s.queueRoom (wRd 20 136 8) = true ∧ s.obj (O.memPortInorder 3) = 0 ∧ (s.mport 3).waiting = [] ∧
      (((s.subch (s.reqPos (wRd 20 136 8)).1 (s.reqPos (wRd 20 136 8)).2.sub).queue.filter fun w => w.write && w.addr / 64 == 136 / 64).getLast?) = some (wWr 11 128 64 (fill 64 1)) ∧
      128 ≤ 136 ∧ 136 + 8 ≤ 128 + 64 := by decide +kernel
theorem witness_RefreshAndScheduler_1 :
    let s := wMem { ranks := [(5, { nextRef := 100 })] } [(refOwed 2 1, 3)]
    s.rankOn 2 1 = true ∧ (s.rank 2 1).conv = false ∧ (s.rank 2 1).nextRef ≤ (s.at 100).tick ∧ s.refCap 2 1 ≤ s.obj (refOwed 2 1) + 1 := by decide +kernel
theorem witness_RefreshAndScheduler_2 :
    let s (z o : Nat) : State := wMem {} [(refZone 2 1, z), (refOwed 2 1, o)]
    (s 0 2).rankOn 2 1 = true ∧ ((s 0 2).rank 2 1).lastMr4 + usTicks 32 ≤ ((s 0 2).at 800000).tick ∧ (s 0 2).obj (refZone 2 1) ≠ 1 ∧ 0 < (s 0 2).obj (refOwed 2 1) ∧
      (s 0 0).obj (refOwed 2 1) = 0 ∧ (s 1 3).obj (refZone 2 1) = 1 := by decide +kernel
theorem witness_RefreshAndScheduler_3 :
    let s := wMem { ranks := [(5, { forced := true })] } [(refOwed 2 1, 4)]
    s.memc.freqRun = none ∧ (s.rank 2 1).forced = true ∧ (s.rank 2 1).conv = false := by decide +kernel
theorem witness_RefreshAndScheduler_4 :
    let x := wRd 11 128 64
    let k := bankKey 0 ((wMem {} []).reqPos x).2
    let c := ((wMem {} []).reqPos x).1
    let s (rows : List (Nat × (Nat × Nat))) : State := wMem { subs := [(2 * c + ((wMem {} []).reqPos x).2.sub, { queue := [x] })], rows := rows } []
    c = 0 ∧ ((wMem {} []).reqPos x).2.sub < 2 ∧ ((s []).subch 0 ((wMem {} []).reqPos x).2.sub).queue = [x] ∧ ((s []).rank 0 ((s []).reqPos x).2.rank).forced = false ∧
      ((s []).rank 0 ((s []).reqPos x).2.rank).conv = false ∧ (s []).memc.freqRun = none ∧ kvFind (s []).memc.rows k = none ∧
      kvFind (s [(k, (5, 0))]).memc.rows k = some (5, 0) ∧ 5 ≠ ((s []).reqPos x).2.row := by decide +kernel
theorem witness_RefreshAndScheduler_5 :
    let s := wMem { rows := [(bankKey 7 ⟨1, 1, 7, 3, 0, 0⟩, (9, 40))] } []
    kvFind s.memc.rows (bankKey 7 ⟨1, 1, 7, 3, 0, 0⟩) = some (9, 40) ∧ 40 + 64 * dctlTicks (s.obj O.memSetpoint) ≤ (s.at 1000).tick := by decide +kernel
theorem witness_RefreshAndScheduler_6 :
    let s := wMem {} []
    (s.rank 7 1).pd = false ∧ (∀ b < 2, ∀ y ∈ (s.subch 7 b).queue, (s.reqPos y).2.rank ≠ 1) ∧ (s.rank 7 1).lastReq + 64 * dctlTicks (s.obj O.memSetpoint) ≤ (s.at 1000).tick ∧
      s.obj O.memPdEnable ≠ 0 ∧ ceilDiv (s.tsetNow 34 * dckTicks (s.obj O.memSetpoint) * 16) 165 + 2000 < (s.at 1000).tolMin := by decide +kernel
/-- Timing sets of which that of setpoint 1 is valid. -/
def wTsets : List Byte := fill 130 0 ++ [1] ++ fill 253 0
def wFreq (m : MemSt) (objs : List (Nat × Nat)) : State := (wMem m objs).setBlob O.memTset wTsets
theorem witness_FrequencyChanges_1 : wWrite (wFreq {} []) O.memFreqTarget [2] (fun s => s.memc.freqRun.isNone && s.memc.freqReq.isNone && s.tsetField 2 (s.setChosen 2) 2 % 2 != 1) = true ∧
    wWrite (wFreq {} [(O.memChOrg 7, 0x202)]) O.memFreqTarget [1] (fun s => decide (1 < bits (s.obj (O.memChOrg 7)) 7 0)) = true := by decide +kernel
theorem witness_FrequencyChanges_2 : wWrite (wFreq {} [(O.slmBwAdmitted, 264001)]) O.memFreqTarget [1] (fun s => s.memc.freqRun.isNone && s.memc.freqReq.isNone &&
    (List.range s.memc.n).all (fun c => decide (bits (s.obj (O.memChOrg c)) 7 0 ≤ 1)) && s.tsetField 1 (s.setChosen 1) 2 % 2 == 1 && decide (ceilingOf 1 s.memc.n < s.obj O.slmBwAdmitted)) = true := by decide +kernel
theorem witness_FrequencyChanges_3 : wWrite (wFreq {} [(O.slmBwAdmitted, 264000)]) O.memFreqTarget [1] (fun s => s.memc.freqRun.isNone && s.memc.freqReq.isNone &&
    (List.range s.memc.n).all (fun c => decide (bits (s.obj (O.memChOrg c)) 7 0 ≤ 1)) && s.tsetField 1 (s.setChosen 1) 2 % 2 == 1 && decide (s.obj O.slmBwAdmitted ≤ ceilingOf 1 s.memc.n)) = true := by decide +kernel
theorem witness_FrequencyChanges_4 : wWrite (wFreq {} []) O.memTsetSel [2] (fun s => s.memc.freqRun.isNone && s.memc.freqReq.isNone) = true ∧
    wWrite (wFreq { freqReq := some 0 } []) O.memTsetSel [2] (fun s => s.memc.freqRun.isNone && s.memc.freqReq.isSome) = true ∧
    wWrite (wFreq { freqRun := some (0, 1, 0) } []) O.memTsetSel [2] (fun s => s.memc.freqRun == some (0, 1, 0) && s.memc.freqReq.isNone) = true := by decide +kernel
theorem witness_FrequencyChanges_5 :
    let s := wFreq { freqReq := some 0 } [(O.memFreqTarget, 1)]
    s.memc.freqReq ≠ none ∧ (∀ n < 4, (s.at 5).tolerance n = 0xFFFFFFFF) ∧ (∀ x ∈ s.ranksOn, (s.rank x.1 x.2).forced = false ∧ (s.rank x.1 x.2).conv = false) := by decide +kernel
theorem witness_FrequencyChanges_6 :
    let s := wFreq { freqRun := some (10, 1, 12) } [(O.memFreqBlackout, 10350)]
    s.memc.freqRun = some (10, 1, 12) ∧ 10 + nsTicks (s.obj O.memFreqBlackout) ≤ (s.at 1000000).tick := by decide +kernel
theorem witness_FrequencyChanges_7 :
    let s := wFreq { freqReq := some 10 } []
    s.memc.freqReq = some 10 ∧ 10 + msTicks (s.obj O.memFreqWait) ≤ (s.at (10 + msTicks (s.obj O.memFreqWait))).tick := by decide +kernel
theorem witness_MemoryMaintenance_1 : wWrite (wMem {} [(O.ptlState, startup)]) O.memInterleave [8] (fun _ => true) = true ∧ wWrite (wMem {} [(O.ptlState, startup)]) O.memHash [1] (fun _ => true) = true ∧
    wWrite (wMem {} [(O.ptlState, startup)]) O.memBankHash [0] (fun _ => true) = true := by decide +kernel
theorem witness_MemoryMaintenance_2 : (wMem { clearing := some 4 } []).memc.clearing = some 4 ∧
    (wMem { allocs := [⟨4096, 4096, true, true⟩] } []).memc.allocs.find? (fun x => x.addr == 4096 && x.clearing) = some ⟨4096, 4096, true, true⟩ := by decide +kernel

/-- Stored-data state over one allocation of class GROOMED, or of none. -/
def wIntg (groomed : Bool) (m : MemSt) (y : IntgSt) (objs : List (Nat × Nat)) : State :=
  { wMem { m with allocs := [⟨0, 2 ^ 24, groomed, false⟩] } objs with intg := y }
def wBlock (a : Nat) : List (Nat × Bool) := [(a / 64, true)]
def wRead (groomed : Bool) (y : IntgSt) (objs : List (Nat × Nat)) : State := wIntg groomed { back := [wRd 11 128 8] } { y with valid := wBlock 128 } objs
def wPage : Nat := (wRead true {} []).pageOf 128

theorem witness_StoredDataReads_1 : let s := wIntg true { back := [wRd 11 128 8] } {} []
    s.memc.back.find? (fun r => r.port == 3) = some (wRd 11 128 8) ∧ s.blockValid 128 = false ∧ (wRead true {} []).blockValid 128 = true := by decide +kernel
theorem witness_StoredDataReads_2 :
    let a := wRead true { current := [(wPage, true)] } []
    let b := wRead false {} []
    a.memc.back.find? (fun r => r.port == 3) = some (wRd 11 128 8) ∧ a.blockValid 128 = true ∧ a.wordPoisoned 128 = false ∧ a.pageGroomed (a.pageOf 128) = true ∧ a.pageCurrent (a.pageOf 128) = true ∧
      b.memc.back.find? (fun r => r.port == 3) = some (wRd 11 128 8) ∧ b.blockValid 128 = true ∧ b.wordPoisoned 128 = false ∧ b.pageGroomed (b.pageOf 128) = false ∧ b.writtenSince (wRd 11 128 8) 128 = false := by decide +kernel
theorem witness_StoredDataReads_3 :
    let c := wIntg false { back := [wRd 11 128 8], subs := [(2 * ((wMem {} []).reqPos (wRd 11 128 8)).1 + ((wMem {} []).reqPos (wRd 11 128 8)).2.sub, { queue := [wWr 12 128 8 (fill 8 1)] })] }
      { valid := wBlock 128 } []
    c.memc.back.find? (fun r => r.port == 3) = some (wRd 11 128 8) ∧ c.wordPoisoned 128 = false ∧ c.pageGroomed (c.pageOf 128) = false ∧ c.writtenSince (wRd 11 128 8) 128 = true := by decide +kernel
theorem witness_StoredDataReads_4 :
    let s (cur : Bool) : State := wIntg true {} { repairs := [(wPage, wRd 11 128 8, [], [])], current := if cur then [(wPage, true)] else [] } []
    (s true).intg.repairs = (wPage, wRd 11 128 8, [], []) :: [] ∧ (s true).pageCurrent wPage = true ∧ (s false).pageCurrent wPage = false ∧
      (s true).writtenSince (wRd 11 128 8) ((s true).wordAddr wPage 511) = false := by decide +kernel
theorem witness_GroomerCoding_1 :
    let s := wIntg true {} { stale := [(wPage, 1000)] } []
    s.obj O.intgGroomEnable ≠ 0 ∧ pageChan wPage = 0 ∧ 999 ≤ (s.at 999).tick ∧ 999 < 1000 ∧
      1000 + msTicks (s.obj O.intgSettle) ≤ (s.at (1000 + msTicks (s.obj O.intgSettle))).tick ∧ s.intg.stale = [(wPage, 1000)] := by decide +kernel
theorem witness_GroomerCoding_2 :
    let s := wIntg true {} { scan := [(0, true)], valid := wBlock 128 } []
    kvGet (fun _ => false) s.intg.scan 0 = true ∧ (s.intg.stale.filter fun e => pageChan e.1 == 0) = [] ∧ (s.stalePages.filter fun p => pageChan p == 0) = [wPage] := by decide +kernel
theorem witness_GroomerCoding_3 :
    let s (cur : Bool) (l : List (Nat × Nat)) : State := wIntg true {} { valid := wBlock 128, current := if cur then [(wPage, true)] else [], stale := l } []
    (s true []).obj O.intgGroomEnable ≠ 0 ∧ (s true []).intg.roundDone = false ∧
      (s true []).groomPages.find? (fun p => match (s true []).intg.roundPos with | none => true | some q => decide (q < p)) = some wPage ∧
      (s false [(wPage, 4)]).groomPages = [wPage] ∧ (s false []).groomPages = [wPage] ∧ (s true []).pageCurrent wPage = true ∧ (s false []).pageCurrent wPage = false ∧
      ((s false [(wPage, 4)]).intg.stale.any fun e => e.1 == wPage) = true ∧ ((s false []).intg.stale.any fun e => e.1 == wPage) = false ∧
      (s true []).wordPoisoned ((s true []).wordAddr wPage 511) = false := by decide +kernel
theorem witness_GroomerCoding_4 :
    let s := wIntg true {} { valid := wBlock 128, roundPos := some wPage } []
    s.obj O.intgGroomEnable ≠ 0 ∧ s.intg.roundDone = false ∧ s.intg.roundOver = false ∧
      s.groomPages.find? (fun p => match s.intg.roundPos with | none => true | some q => decide (q < p)) = none := by decide +kernel
theorem witness_GroomerCoding_5 :
    let s (d : Bool) : State := wIntg true {} { roundDone := d, roundAt := 7 } []
    (s true).intg.roundAt + secTicks ((s true).obj O.intgRound) ≤ ((s true).at (7 + secTicks ((s true).obj O.intgRound))).tick ∧ (s true).intg.roundOver = false ∧ (s true).intg.roundDone = true ∧
      (s false).intg.roundDone = false := by decide +kernel
def wTrack (state count post : Nat) : List (Nat × TrackEnt) := [(((wRead true {} []).chan 128).1 * 256 + 9, ⟨((wRead true {} []).chan 128).2 / 8 * 8, count, post, state, 0, 0⟩)]
theorem witness_WriteBackAndRetirement_1 :
    let s (l : List (Nat × TrackEnt)) : State := wRead true { track := l } []
    (s []).memc.back.find? (fun r => r.port == 3) = some (wRd 11 128 8) ∧ (s []).blockValid 128 = true ∧ (s []).wordPoisoned 128 = false ∧ (s []).intg.track = [] ∧ 2 ≤ (s []).obj O.intgWbThresh ∧
      (s (wTrack 1 3 0)).intg.track = wTrack 1 3 0 ∧ 3 + 1 = (s []).obj O.intgWbThresh ∧ (s (wTrack 3 4 0)).intg.track = wTrack 3 4 0 ∧ 0 + 1 < (s []).obj O.intgRetireAfter ∧
      (s (wTrack 3 4 254)).intg.track = wTrack 3 4 254 ∧ (s []).obj O.intgRetireAfter ≤ 254 + 1 ∧
      (∀ x ∈ wTrack 1 3 0, x.1 / 256 = ((s []).chan 128).1 ∧ x.2.addr = ((s []).chan 128).2 / 8 * 8) := by decide +kernel
theorem witness_WriteBackAndRetirement_2 :
    let s := wIntg true {} { wbQ := [128], track := wTrack 2 4 0 } []
    s.intg.wbQ = 128 :: [] ∧ s.intg.track = wTrack 2 4 0 ∧ (∀ x ∈ wTrack 2 4 0, x.1 / 256 = (s.chan 128).1 ∧ x.2.addr / 64 = (s.chan 128).2 / 64 ∧ x.2.state = 2) := by decide +kernel
theorem witness_WriteBackAndRetirement_3 :
    let s (used : Nat) (gone : List Nat) (b : Bool) : State := wIntg true {} { retireQ := [(wPage, 5, b)], sparesUsed := [(0, used)], noSpare := gone } []
    (s 1023 [] false).intg.retireQ = [(wPage, 5, false)] ∧ kvGet (fun _ => 0) (s 1023 [] false).intg.sparesUsed (pageChan wPage) < 1024 ∧
      1024 ≤ kvGet (fun _ => 0) (s 1024 [] false).intg.sparesUsed (pageChan wPage) ∧ wPage ∉ (s 1024 [] false).intg.noSpare ∧ wPage ∈ (s 1024 [wPage] false).intg.noSpare ∧
      (s 1023 [] true).intg.retireQ = [(wPage, 5, true)] ∧ 5 ≤ ((s 1023 [] true).at 5).tick := by decide +kernel
def wSweepV (rsvd : Nat) (h : Nat) : List Byte := leBytes 1 rsvd ++ fill 3 0 ++ leBytes 4 h ++ leBytes 4 0 ++ leBytes 4 0
theorem witness_SweepsAndRetireList_1 : wWrite (wState []) O.intgSweep (wSweepV 2 0) (fun s => leAt (wSweepV 2 0) 0 1 != 1 && s.intg.sweep == none) = true ∧
    wWrite ({ wState [] with intg := { sweep := some { pages := [], since := 0 } } }) O.intgSweep (wSweepV 1 0) (fun s => s.intg.sweep.isSome) = true ∧
    wWrite (wState []) O.intgSweep (wSweepV 1 1311808) (fun s => s.intg.sweep.isNone && (s.handleFault (leAt (wSweepV 1 1311808) 4 4)).isSome) = true ∧
    wWrite (wState []) O.intgSweep (wSweepV 1 0) (fun s => s.intg.sweep.isNone) = true ∧
    wWrite (wBufs bufReady []) O.intgSweep (wSweepV 1 1311808) (fun s => s.intg.sweep.isNone && (s.handleFault (leAt (wSweepV 1 1311808) 4 4)).isNone) = true := by decide +kernel
theorem witness_SweepsAndRetireList_2 : wWrite (wState []) O.intgSweepCancel [1] (fun s => s.intg.sweep.isNone) = true ∧
    wWrite ({ wState [] with intg := { sweep := some { pages := [], since := 0 } } }) O.intgSweepCancel [1] (fun s => s.intg.sweep.isSome) = true := by decide +kernel
theorem witness_SweepsAndRetireList_3 :
    let x : SweepSt := { pages := [wPage], since := 0 }
    let s (g : Bool) : State := wIntg g {} { sweep := some x } []
    (s true).obj O.intgGroomEnable ≠ 0 ∧ (s true).intg.sweep = some x ∧ x.visited = 0 ∧ x.skipped = 0 ∧ (s true).pageUsed wPage = false ∧ (s false).pageGroomed wPage = false := by decide +kernel
def wRetire (p : Nat) : List Byte := leBytes 8 p
theorem witness_SweepsAndRetireList_4 : wWrite (wMem {} [(O.ptlState, startup)]) O.intgRetireList (wRetire (9 * 2 ^ 56)) (fun s => s.retireEntries (wRetire (9 * 2 ^ 56)) 1 == none) = true ∧
    wWrite ({ wMem {} [(O.ptlState, startup)] with intg := { sparesUsed := [(7, 1024)] } }) O.intgRetireList (wRetire (7 * 2 ^ 56))
      (fun s => s.retireEntries (wRetire (7 * 2 ^ 56)) 1 == some [7 * 2 ^ 28] && decide (1024 < kvGet (fun _ => 0) s.intg.sparesUsed 7 + 1)) = true ∧
    wWrite ({ wMem {} [(O.ptlState, startup)] with intg := { sparesUsed := [(7, 1023)] } }) O.intgRetireList (wRetire (7 * 2 ^ 56))
      (fun s => s.retireEntries (wRetire (7 * 2 ^ 56)) 1 == some [7 * 2 ^ 28] && (List.range 8).all fun c => decide (kvGet (fun _ => 0) s.intg.sparesUsed c + (if c = 7 then 1 else 0) ≤ 1024)) = true := by decide +kernel

/-- Four ports up, an address, one VLAN of all ports and the endpoint, and flow 0 with a leg of IPv4 and one of IPv6 on it. -/
def wNet (n : NetSt) (x : FlowSt) (objs : List (Nat × Nat)) : State :=
  let leg (fam : Nat) (dst : List Byte) : List Byte := leBytes 1 fam ++ leBytes 1 3 ++ leBytes 2 5004 ++ dst ++ fill 16 0 ++ leBytes 2 1 ++ [0, 0]
  let s := wState ((List.range 4).map (fun p => (O.netPortState p, 1)) ++
    [(O.netMgmtVlan, 1), (O.netIpv4Addr, 0x0A000001), (O.netFlowEnable 0, 1), (O.netFlowState 0, 2), (O.netFlowWidth 0, 1), (O.netFlowHeight 0, 1)] ++ objs)
  let s := (s.setBlob (O.netFlowLegA 0) (leg 4 ([0xEF, 0, 0, 1] ++ fill 12 0))).setBlob (O.netFlowLegB 0) (leg 6 ([0xFF, 2] ++ fill 13 0 ++ [9]))
  { (s.setBlob O.netVlanTable ([1, 0, 0x1F, 0] ++ fill 4 0)).setBlob O.netIpv6Addr (fill 16 5) with net := { n with flows := [(0, x)] } }
/-- A frame to one station from another. -/
def wEth (dst src type : Nat) (n : Nat) : List Byte := beBytes 6 dst ++ beBytes 6 src ++ beBytes 2 type ++ fill n 0

theorem witness_PortsAndSwitch_1 : (wState [(O.netPortEnable 3, 1)]).portUp 3 = false ∧ (wState [(O.netPortEnable 3, 1)]).obj (O.netPortEnable 3) ≠ 0 ∧
    (wState [(O.netPortEnable 3, 1)]).portAwake 3 = true ∧ (wNet {} {} []).portUp 3 = true := by decide +kernel
theorem witness_PortsAndSwitch_2 :
    let s (j : Nat) : State := wNet {} {} [(O.netPortEnable 3, 1), (O.netPortFec 3, 1), (O.netJumbo, j), (O.netPortPvid 3, 1)]
    (s 0).obj (O.netPortEnable 3) ≠ 0 ∧ (s 0).portUp 3 = true ∧ (s 0).portAwake 3 = true ∧ (s 0).opState ≠ standby ∧ (∀ k < 4, ((s 0).netPort k).queue = []) ∧
      (s 0).obj (O.netPortFec 3) ≠ 0 ∧ (if (s 0).obj O.netJumbo ≠ 0 then 9216 else 1522) < (wEth 2 4 0x88B5 1505).length + 4 ∧
      (wEth 2 4 0x88B5 1504).length + 4 ≤ (if (s 0).obj O.netJumbo ≠ 0 then 9216 else 1522) ∧ (wEth 2 4 0x88B5 9198).length + 4 ≤ (if (s 1).obj O.netJumbo ≠ 0 then 9216 else 1522) ∧
      ethType (wEth 2 4 0x8808 46) = 0x8808 ∧ ethType (wEth 2 4 0x88B5 46) = 0x88B5 ∧ (wNet {} {} [(O.netPortPvid 3, 9)]).vlan 9 = none := by decide +kernel
theorem witness_PortsAndSwitch_3 :
    let s (macs : List (Nat × (Nat × Nat))) : State := wNet { macs := macs } {} [(O.netPortEnable 3, 1), (O.netPortPvid 3, 1)]
    ∀ b ∈ [wEth 0x020000000002 0x020000000004 0x88B5 1504, wEth 0x020000000006 0x020000000004 0x88B5 1504],
    (s []).obj (O.netPortEnable 3) ≠ 0 ∧ (s []).portUp 3 = true ∧ (s []).portAwake 3 = true ∧ b.length + 4 ≤ 1522 ∧ ethType b ∉ [0x8808, 0x8100, 0x0800, 0x86DD, 0x0806] ∧
      (s []).vlan ((s []).obj (O.netPortPvid 3)) = some (0x1F, 0) ∧ bit 0x1F 3 = true ∧ ethDst b / 2 ^ 40 % 2 = 0 ∧ ethSrc b ≠ ethDst b ∧
      ethSrc b / 2 ^ 40 % 2 = 0 ∧ (s []).net.macs.length < 4096 := by decide +kernel
/-- One of the two is not the device's own address. -/
theorem witness_PortsAndSwitch_5 (s : State) : ∃ b ∈ [wEth 0x020000000002 0x020000000004 0x88B5 1504, wEth 0x020000000006 0x020000000004 0x88B5 1504], ethDst b ≠ s.obj O.netMac := by
  have h1 : ethDst (wEth 0x020000000002 0x020000000004 0x88B5 1504) = 0x020000000002 := by decide +kernel
  have h2 : ethDst (wEth 0x020000000006 0x020000000004 0x88B5 1504) = 0x020000000006 := by decide +kernel
  by_cases h : s.obj O.netMac = 0x020000000002
  · exact ⟨_, .tail _ (.head _), by rw [h, h2]; decide⟩
  · exact ⟨_, .head _, by rw [h1]; exact fun e => h e.symm⟩
theorem witness_PortsAndSwitch_4 : ∃ macs : List (Nat × (Nat × Nat)), 4096 ≤ (wNet { macs := macs } {} []).net.macs.length ∧
    kvFind (wNet { macs := macs } {} []).net.macs (1 * 2 ^ 48 + 4) = none := by
  refine ⟨List.replicate 4096 (0, (0, 0)), Nat.le_of_eq List.length_replicate.symm, ?_⟩
  have h (n : Nat) : kvFind (List.replicate n (0, ((0, 0) : Nat × Nat))) (1 * 2 ^ 48 + 4) = none := by
    induction n with
    | zero => rfl
    | succ n ih => rw [List.replicate_succ]; unfold kvFind; rw [ih]; rfl
  exact h 4096
theorem witness_EndpointAnswers_1 : (wNet {} {} []).heard 3 1 = true ∧ (wNet {} {} []).ownAddress (beBytes 4 0x0A000001) = true ∧ (wNet {} {} []).heard 3 2 = false ∧
    (wNet {} {} []).ownAddress (beBytes 4 0x0A000002) = false ∧ (wNet {} {} []).ownAddress (fill 16 5) = true ∧ (fill 16 5).length = 16 ∧ (wNet {} {} []).opState ≠ standby := by
  decide +kernel
theorem witness_EndpointAnswers_2 :
    let s := (wNet {} {} []).setBlob (O.netFlowLegB 0) []
    s.opState ≠ standby ∧ s.heard 3 1 = true ∧ s.legsOn = [(0, 0)] ∧ leAt (s.leg 0 0) 1 1 = 3 ∧ leAt (s.leg 0 0) 0 1 = 4 ∧ s.legVid 0 0 = 1 ∧ ipMulticast (groupOf (s.leg 0 0)) = true := by decide +kernel
theorem witness_EndpointAnswers_3 :
    let s := (wNet {} {} []).setBlob (O.netFlowLegA 0) []
    s.legsOn = [(0, 1)] ∧ leAt (s.leg 0 1) 1 1 = 3 ∧ leAt (s.leg 0 1) 0 1 = 6 ∧ s.legVid 0 1 = 1 ∧ ipMulticast (groupOf (s.leg 0 1)) = true := by decide +kernel
theorem witness_EndpointAnswers_4 :
    let s := wNet {} { repeats := [1], since := 5 } []
    (s.flow 0).repeats = [1] ∧ (∀ k < 8, k ≠ 0 → (s.flow k).repeats = []) ∧ s.legOn 0 1 = true ∧ ipMulticast (groupOf (s.leg 0 1)) = true ∧
      (s.flow 0).since + ticksPerSec ≤ (s.at (5 + ticksPerSec)).tick ∧ (s.at (4 + ticksPerSec)).tick < (s.flow 0).since + ticksPerSec := by decide +kernel
theorem witness_EndpointAnswers_5 :
    let s (k : Nat) : State := wNet {} {} [(O.ptlState, standby), (O.netWakeToken, k)]
    (s 5).opState = standby ∧ (s 5).portUp 0 = true ∧ (s 5).obj O.netMgmtVlan = 1 ∧ (s 5).ownAddress (beBytes 4 0x0A000001) = true ∧ 8 ≤ (beBytes 8 5).length ∧ (s 5).obj O.netWakeToken ≠ 0 ∧
      beAt (beBytes 8 5) 0 8 = (s 5).obj O.netWakeToken ∧ (s 0).obj O.netWakeToken = 0 ∧ beAt (beBytes 8 6) 0 8 ≠ (s 5).obj O.netWakeToken := by decide +kernel

def wPkt (pt seq : Nat) : MediaPkt := ⟨3, 1, 4, [0xEF, 0, 0, 1], [10, 0, 0, 7], 5004, 14, pt, false, seq, 90, [], [], 0, false⟩
/-- Flow 0 with a pool of one buffer that is READY, or of none. -/
def wPool (x : FlowSt) (ready : Bool) : State :=
  let s := wNet {} { x with holds := if ready then [1311808] else [] } [(O.layBufState 5, bufReady), (O.layBufHandle 5, 1311808), (O.layBufFormat 5, 3), (O.layBufWidth 5, 64), (O.layBufHeight 5, 64),
    (O.layBufStride 5, 256), (O.layBufFrames 5, 1)]
  { s with bufs := [(5, { extents := [(0x10000, 16384)] })] }
theorem witness_MediaReception_1 :
    let s := wPool {} true
    let p := wPkt (numDefault (O.netFlowPt 0)) (2 ^ 32 - 1)
    s.opState ≠ standby ∧ s.heard p.port p.vlan = true ∧ s.legsOn.find? (fun x => s.legMatches p x.1 x.2) = some (0, 0) ∧ bit (s.flow 0).down 0 = false ∧
      s.packetOk 0 (wPkt (numDefault (O.netFlowPt 0) + 1) 0) = false ∧ s.packetOk 0 p = true ∧ s.flowVals.lead 0 = 0 ∧ (s.flow 0).floor = none ∧ (s.flow 0).frames = [] ∧
      (s.flow 0).newest = none ∧ (s.flow 0).seen = [] ∧ p.seq < 2 ^ 32 ∧ (s.flow 0).holds = [1311808] ∧ s.bufState (handleIndex 1311808) = bufReady ∧ s.bufRefs (handleIndex 1311808) = 1 := by decide +kernel
theorem witness_MediaReception_2 :
    let s := wPool { floor := some 9 } false
    let p := wPkt (numDefault (O.netFlowPt 0)) 9
    s.legsOn.find? (fun x => s.legMatches p x.1 x.2) = some (0, 0) ∧ s.packetOk 0 p = true ∧ (s.flow 0).floor = some 9 ∧ (s.flow 0).seen = [] ∧ serialAbove 9 9 = false ∧
      ((wPool {} false).flow 0).holds = [] ∧ bit ((wPool {} false).flow 0).episodes 1 = false := by decide +kernel
def wFlowFrame (whole : Bool) : FlowFrame := ⟨90, some 5, 0, tickInstant 0, some 7, if whole then [(0, (1, 2, 3))] else [], [0], false⟩
theorem witness_MediaReception_3 :
    let s (w : Bool) : State := wPool { frames := [wFlowFrame w] } true
    ((s true).flow 0).frames = [wFlowFrame true] ∧ (s true).frameWhole 0 (wFlowFrame true) = true ∧ (s true).flowVals.parts 0 = [0] ∧ ((s true).flow 0).fresh = true ∧
      (s false).frameWhole 0 (wFlowFrame false) = false ∧ bit ((s false).flow 0).episodes 2 = false ∧
      7 + max (msTicks 1) (usTicks ((s false).obj (O.netFlowSkew 0))) ≤ ((s false).at (7 + max (msTicks 1) (usTicks ((s false).obj (O.netFlowSkew 0))))).tick := by decide +kernel
theorem witness_MediaReception_4 :
    let s := wPool { floor := some (2 ^ 32 - 3), seen := [⟨2 ^ 32 - 1, 4, 0, some 4, none⟩] } true
    (s.flow 0).floor = some (2 ^ 32 - 3) ∧ (s.flow 0).seen = [⟨2 ^ 32 - 1, 4, 0, some 4, none⟩] ∧ 4 + usTicks (s.obj (O.netFlowSkew 0)) ≤ (s.at (4 + usTicks (s.obj (O.netFlowSkew 0)))).tick := by decide +kernel
theorem witness_MediaReception_5 :
    let s (l : List (Nat × Nat)) : State := wPool { last := l } true
    (s []).legOn 0 0 = true ∧ (s []).legOn 0 1 = true ∧ bit ((s []).flow 0).down 1 = false ∧ ((s []).at (msTicks 100)).legSilent 0 1 = true ∧ ((s [(1, 5)]).at (msTicks 100)).legSilent 0 1 = false ∧
      (s []).obj (O.netFlowState 0) = 2 ∧ ((s []).at (msTicks 100)).legSilent 0 0 = true ∧ ((s [(0, 5), (1, 5)]).at (msTicks 100)).legSilent 0 0 = false := by decide +kernel

/-- A request that is executed, and the premise it meets. -/
def wTake (s : State) (op : Nat) (payload : List Byte) (fast : Bool) (p : Session → State → Bool) : Bool :=
  match wTakes (s.at 0) (wReq payload) op payload fast with
  | some (x, s1) => p x s1
  | none => false
theorem wTake_witness {s : State} {op : Nat} {payload : List Byte} {fast : Bool} {p : Session → State → Bool} (h : wTake s op payload fast p = true) :
    ∃ q s1 x, (s.at 0).takes q op payload fast = some (x, s1) ∧ p x s1 = true := by
  unfold wTake at h
  split at h
  · rename_i x s1 hr
    obtain ⟨q, hq⟩ := wTakes_takes hr
    exact ⟨q, s1, x, hq, h⟩
  · cases h
/-- A request of some SEQ and node that reaches its session. -/
def wReaches (s : State) (seq node : Nat) (payload : List Byte) (p : Session → Bool) : Bool :=
  let q := { wReq payload with seq := seq, node := node }
  (s.at 0).serves q && decide (payload.length + 32 ≤ (s.at 0).maxMessage) &&
    match (s.at 0).session? 7 with | some x => !x.expired && decide (x.requests < 2147483647) && p x | none => false
theorem wReaches_reaches {s : State} {seq node : Nat} {payload : List Byte} {p : Session → Bool} (op : Nat) (h : wReaches s seq node payload p = true) :
    ∃ q x, (s.at 0).reaches q op payload x ∧ p x = true ∧ q.seq = seq ∧ q.node = node := by
  cases hx : (s.at 0).session? 7 with
  | none => simp [wReaches, hx] at h
  | some x =>
    simp only [wReaches, hx, Bool.and_eq_true, decide_eq_true_eq, Bool.not_eq_true'] at h
    obtain ⟨⟨h1, h2⟩, ⟨h3, h4⟩, h5⟩ := h
    exact ⟨{ wReq payload with seq := seq, node := node, tag := tagOf x.key (reqMsg { wReq payload with seq := seq, node := node } op payload) }, x,
      ⟨h1, rfl, rfl, h2, hx, rfl, h3, h4⟩, h5, rfl, rfl⟩
/-- The device in NORMAL with one session in some state. -/
def wSessState (x : Session) (objs : List (Nat × Nat)) : State := let s := wState objs; { s with resil := { s.resil with sessions := [(7, x)] } }
def wMsg : Msg := ⟨1, 0x80, 0, 7, 3, 0, [], []⟩

theorem witness_RequestWindow_1 : wReaches (wSessState { wSess with high := 66, cache := [(3, wMsg)] } []) 3 0 (refBytes O.timeNow)
    (fun x => x.inflight == [] && x.fences == [] && x.busied == [] && !serialAbove 3 x.high && inWindow 3 x.high && kvFind x.cache 3 == some wMsg) = true := by decide +kernel
theorem witness_RequestWindow_2 : wReaches (wSessState { wSess with high := 67, cache := [(3, wMsg)] } []) 3 0 (valueForm O.timeNow [0])
    (fun x => x.inflight == [] && x.fences == [] && x.busied == [] && !serialAbove 3 x.high && !inWindow 3 x.high && !x.stale) = true := by decide +kernel
theorem witness_RequestWindow_3 : wReaches (wState []) 1 9 (refBytes O.timeNow) (fun x => x.inflight == [] && x.fences == [] && serialAbove 1 x.high) = true ∧
    (wState []).sec.rescue = false ∧ 9 ≠ (wState []).obj O.dictNodeId ∧ (wState []).obj O.hierRoleNow ≠ 1 := by decide +kernel
theorem witness_RequestWindow_4 :
    let q := wReq (refBytes O.timeNow)
    let s := wState []
    (s.at 0).serves q = true ∧ q.ver = 1 ∧ q.length = (refBytes O.timeNow).length ∧ (refBytes O.timeNow).length + 32 ≤ s.maxMessage ∧ (s.session? q.session) = some wSess ∧
      (s.session? ({ q with session := 8 } : Req).session) = none := by decide +kernel
/-- Some tag differs from any. -/
theorem witness_RequestWindow_5 (l : List Byte) : ∃ tag : List Byte, tag ≠ l := ⟨l ++ [0], fun h => by have := congrArg List.length h; simp at this⟩

theorem witness_Reads_1 : findRef 0x400000 = none ∧ wTake (wState []) 1 (refBytes 0x400000) (readFast 0x400000) (fun _ _ => true) = true ∧ (match findRef O.dictRestore with | some (r, _) => r.acc == .wo | none => false) = true ∧
    wTake (wState []) 1 (refBytes O.dictRestore) (readFast O.dictRestore) (fun _ _ => true) = true := by decide +kernel
theorem witness_Reads_2 : (match findRef O.timeNow with | some (r, _) => r.acc != .wo | none => false) = true ∧ ¬ (isBufData O.timeNow = true) ∧
    wTake (wState []) 1 (refBytes O.timeNow) (readFast O.timeNow) (fun x s => match findRef O.timeNow with | some (r, _) => decide ((s.readValue x r O.timeNow).1.length ≤ s.valueRoom 0) | none => false) = true ∧
    wTake (wState []) 1 (refBytes O.dictUdpPort) (readFast O.dictUdpPort) (fun _ _ => true) = true := by decide +kernel
theorem witness_Reads_3 : wTake ((wState []).setBlob (O.crvMesh 0) (fill 1500 0)) 1 (refBytes (O.crvMesh 0)) (readFast (O.crvMesh 0))
    (fun x s => match findRef (O.crvMesh 0) with | some (r, _) => decide (s.valueRoom 0 < (s.readValue x r (O.crvMesh 0)).1.length) | none => false) = true := by decide +kernel
theorem witness_Reads_4 : wTake (wState []) 3 (refBytes O.dictUdpPort ++ refBytes 0x400000) false (fun _ _ => true) = true ∧
    wTake (wState []) 3 ((List.replicate 65 O.dictUdpPort).flatMap refBytes) ((List.replicate 65 O.dictUdpPort).all readFast) (fun _ _ => true) = true ∧ (wReq []).node = (wState []).obj O.dictNodeId := by decide +kernel
theorem witness_Reads_5 : wTake (wState []) 5 (refBytes 0x400000) false (fun _ _ => true) = true ∧ wTake (wState []) 5 (refBytes (O.tgPeriod 3)) false (fun _ _ => true) = true ∧ (findRef (O.tgPeriod 3)).isSome = true := by decide +kernel
theorem witness_Reads_6 : wTake (wState []) 9 [] true (fun x _ => x.inflight == []) = true ∧ wTake (wSessState { wSess with inflight := [9] } []) 9 [] true (fun x _ => x.inflight != []) = true := by decide +kernel

/-- A write that is taken, and what it finds. -/
def wTaken (s : State) (ref : Nat) (v : List Byte) (p : ObjRow → Session → State → Bool) : Bool :=
  wTake s 2 (valueForm ref v) (fastWrite ref) (fun x s1 => match findRef ref with | some (r, _) => p r x s1 | none => false)
theorem witness_Writes_1 : wTake (wState []) 2 (valueForm 0x400000 [1]) (fastWrite 0x400000) (fun _ _ => true) = true ∧
    wTaken (wSessState { wSess with level := levelObserver } []) (O.tgPeriod 0) (fill 8 0) (fun _ x _ => decide (x.level < writeLevel (O.tgPeriod 0))) = true := by decide +kernel
theorem witness_Writes_2 : wTaken (wState []) O.timeNow (fill 12 0) (fun r x _ => decide (writeLevel O.timeNow ≤ x.level) && !isBufData O.timeNow && !r.ctr && r.acc == .ro) = true ∧
    wTaken (wState []) O.memHash [1] (fun r x s => decide (writeLevel O.memHash ≤ x.level) && !isBufData O.memHash && !r.ctr && r.acc == .rwi && !s.idle O.memHash) = true := by decide +kernel
theorem witness_Writes_3 : wTaken (wState []) (O.netMacAge) [1] (fun r x _ => decide (writeLevel O.netMacAge ≤ x.level) && !isBufData O.netMacAge && !r.ctr && r.acc == .rw && !r.ty.isBlob &&
    r.ty.size != 1) = true := by decide +kernel
theorem witness_Writes_4 : wTaken (wState []) (O.netFlowSkew 0) (beBytes 2 1) (fun r x s => s.writable x (O.netFlowSkew 0) (beBytes 2 1) && plainObject (O.netFlowSkew 0) && !r.ty.isBlob && r.acc == .rws) = true ∧
    wTaken (wState []) O.netMacAge (beBytes 2 300) (fun r x s => s.writable x O.netMacAge (beBytes 2 300) && plainObject O.netMacAge && !r.ty.isBlob && r.acc == .rw) = true := by decide +kernel
theorem witness_Writes_5 : wTake (wState []) 4 (valueForm O.timeNow (fill 12 0) ++ valueForm O.netMacAge (beBytes 2 300)) (fastWrite O.timeNow && fastWrite O.netMacAge)
    (fun x s => match findRef O.timeNow with | some (r, _) => r.acc == .ro && !r.ctr && decide (writeLevel O.timeNow ≤ x.level) && s.writable x O.netMacAge (beBytes 2 300) | none => false) = true := by decide +kernel
theorem witness_Writes_6 : wTaken (wState [(O.crvFaults, 9)]) O.crvFaults (fill 4 0) (fun r x s => r.ctr && decide (writeLevel O.crvFaults ≤ x.level) && r.ty.size == 4 && s.obj O.crvFaults == 9) = true := by decide +kernel
theorem witness_Writes_7 : wWrite ({ wState [] with layCommit := some (wLayCommit false) }) O.dictRestore (beBytes 4 0x26002600) (fun s => s.commitIn 0x2600 0x2600) = true ∧
    wWrite (wState []) O.dictRestore (beBytes 4 0x33003300) (fun s => !s.commitIn 0x3300 0x3300) = true ∧ neverRestored 0x3300 = true ∧
    wWrite (wState []) O.dictRestore (beBytes 4 0x21132113) (fun s => !s.commitIn 0x2113 0x2113) = true ∧ levelEngineer ≤ wSess.level := by decide +kernel
theorem witness_Writes_8 : let s := wState []
    ({ s with resil := { s.resil with oldPort := some 4840, portAt := 3 } } : State).resil.oldPort = some 4840 ∧ 3 + secTicks 1 ≤ (s.at (3 + secTicks 1)).tick := by decide +kernel

def wOpen (ref dir block handle off len : Nat) : List Byte := refBytes ref ++ beBytes 1 dir ++ [0] ++ beBytes 2 block ++ beBytes 4 handle ++ fill 4 0 ++ beBytes 8 off ++ beBytes 8 len
theorem witness_BlockTransfers_1 : wTake (wState []) 0x10 (wOpen (O.crvMesh 0) 0 1000 0 0 64) (isBufData (O.crvMesh 0))
    (fun x s => objectCheck x (O.crvMesh 0) true == none && (s.openFault 7 (O.crvMesh 0) 0 1000 0 0 64 0).isSome && s.resil.xfers == []) = true := by decide +kernel
theorem witness_BlockTransfers_2 : wTake (wState []) 0x10 (wOpen (O.crvMesh 0) 0 1024 0 0 64) (isBufData (O.crvMesh 0))
    (fun x s => objectCheck x (O.crvMesh 0) true == none && (s.openFault 7 (O.crvMesh 0) 0 1024 0 0 64 0).isNone && s.resil.xfers == []) = true := by decide +kernel
/-- With no transfer open a number is free. -/
theorem witness_BlockTransfers_3 (s : State) (h : s.resil.xfers = []) : ∃ tid, (s.pick (fun n => (s.xfer? n).isSome) 0 65536).1 = some tid := by
  have hx (n : Nat) : (s.xfer? n).isSome = false := by unfold State.xfer?; rw [h]; rfl
  exact ⟨_, by unfold State.pick pickFrom; simp only [hx]; rfl⟩
/-- A transfer of two blocks to or from buffer 5. -/
def wBufXfer (toHost : Bool) (held cum fresh : Nat) (sent : List (Nat × Nat)) : Xfer := ⟨7, O.layBufData 5, toHost, 64, 1311808, 0, 128, held, cum, fresh, 0, 0, [], sent, false⟩
def wXfers (y : Xfer) : State := let s := wBufs bufReady []; { s with resil := { s.resil with xfers := [(9, y)] } }
theorem witness_BlockTransfers_4 :
    let d (n : Nat) : List Byte := beBytes 2 9 ++ [0, 0] ++ beBytes 4 n ++ fill 64 1
    let y := wBufXfer false 0 0 15 []
    wReaches (wXfers y) 1 0 (d 1) (fun _ => true) = true ∧ (wXfers y).xfer? 9 = some y ∧ isBufData y.ref = true ∧ y.whole = false ∧ 1 < y.blocks ∧ 1 < y.cum + 64 ∧ bit y.held 1 = false ∧ (fill 64 1).length = y.size 1 ∧
      cumFrom (setBit y.held 1) y.cum (y.blocks - y.cum) ≠ y.blocks ∧ 16 ≤ y.fresh + 1 ∧
      wReaches (wXfers (wBufXfer false 2 0 0 [])) 1 0 (d 0) (fun _ => true) = true ∧ cumFrom (setBit 2 0) 0 2 = (wBufXfer false 2 0 0 []).blocks ∧ bit 2 0 = false ∧
      wReaches (wXfers y) 1 0 (d 2) (fun _ => true) = true ∧ y.blocks ≤ 2 := by decide +kernel
theorem witness_BlockTransfers_5 :
    let y := wBufXfer true 0 0 0 [(0, 5), (1, 6)]
    wReaches (wXfers y) 1 0 (ackPayload 9 2 0) (fun _ => true) = true ∧ (wXfers y).xfer? 9 = some y ∧ y.toHost = true ∧ y.cum < y.blocks ∧ y.blocks ≤ 2 ∧ (∀ n < y.blocks, n ∈ y.sentAt.map (·.1)) := by decide +kernel
theorem witness_BlockTransfers_6 :
    let y := wBufXfer false 1 1 1 []
    (wXfers y).xfer? 9 = some y ∧ y.toHost = false ∧ y.whole = false ∧ y.fresh ≠ 0 ∧ ((wXfers y).session? y.session) = some wSess ∧ y.lastNew + msTicks 1 ≤ ((wXfers y).at (msTicks 1)).tick ∧
      y.lastBlock + msTicks ((wXfers y).obj O.dictXferIdle) ≤ ((wXfers y).at (msTicks ((wXfers y).obj O.dictXferIdle))).tick := by decide +kernel
theorem witness_BlockTransfers_7 :
    let y : Xfer := ⟨7, O.crvMesh 0, true, 64, 0, 0, 128, 0, 0, 0, 0, 0, fill 128 7, [(1, 5)], false⟩
    (wXfers y).xfer? 9 = some y ∧ y.sentAt = [(1, 5)] ∧ isBufData y.ref = false ∧ ((wXfers y).session? y.session) = some wSess ∧ 5 + msTicks 10 ≤ ((wXfers y).at (5 + msTicks 10)).tick := by decide +kernel
theorem witness_BlockTransfers_8 : wTake (wState []) 0x13 (beBytes 2 9 ++ [0, 0]) true (fun _ s => s.xfer? 9 == none) = true ∧
    wTake (wXfers (wBufXfer true 0 0 0 [])) 0x13 (beBytes 2 9 ++ [0, 0]) true (fun _ s => s.xfer? 9 == some (wBufXfer true 0 0 0 [])) = true ∧
    wTake (wXfers { wBufXfer true 0 0 0 [] with session := 8 }) 0x13 (beBytes 2 9 ++ [0, 0]) true (fun _ s => (s.xfer? 9).isSome) = true := by decide +kernel
/-- A kernel image with one instruction, in a key slot, with some identifier. -/
def wImage (id slot : Nat) : List Byte :=
  leBytes 4 0x4B565243 ++ leBytes 2 id ++ leBytes 2 1 ++ leBytes 4 8 ++ leBytes 4 0 ++ leBytes 4 100 ++ [3, 3, 1] ++ leBytes 1 slot ++ [0, 0] ++ fill 38 0 ++ fill 8 0 ++ fill 1280 0
theorem witness_BlockTransfers_9 :
    let s (img : List Byte) : State := { wStaged O.crvKernelStage img with carve := {} }
    kernelHeaderOk [0] = false ∧ kernelHeaderOk (wImage 0x8000 4) = true ∧ (s (wImage 0x8000 4)).keyEnrolled (kernelOf (wImage 0x8000 4)).keySlot = false ∧ kernelHeaderOk (wImage 5 0) = true ∧
      (s (wImage 5 0)).keyEnrolled (kernelOf (wImage 5 0)).keySlot = true ∧ ((kernelOf (wImage 5 0)).keySlot = 0 ↔ (kernelOf (wImage 5 0)).id ≤ 0x7FFF) ∧
      ((s (wImage 5 0)).kernel? (kernelOf (wImage 5 0)).id).isNone = true ∧ ((s (wImage 5 0)).placeKernel (kernelOf (wImage 5 0))).isSome = true ∧
      (s [0]).wholeOf O.crvKernelStage = some (1, wXfer O.crvKernelStage [0]) ∧ (s [0]).xferValue (wXfer O.crvKernelStage [0]) = [0] := by decide +kernel

theorem witness_SessionLife_1 :
    let q : Req := { wReq (fill 1220 0) with session := 0 }
    let s (sess : List (Nat × Session)) (p : List Byte) : State := let s := (wState []).setBlob (O.dictPrincipal 3) p; { s with resil := { s.resil with sessions := sess } }
    ((s [] []).at 0).serves q = true ∧ q.ver = 1 ∧ q.length = 1220 ∧ q.session = 0 ∧ q.node = (s [] []).obj O.dictNodeId ∧ (s [] []).resil.procDown = false ∧ q.depth < 480 ∧ (s [] []).principal? 3 = none ∧
      ((s [] ([1, 1] ++ fill 6 0 ++ fill 4 9)).principal? 3).map (·.1) = some 1 ∧ ((s [] ([5, 1] ++ fill 6 0 ++ fill 4 9)).principal? 3).map (·.1) = some 5 ∧
      32 ≤ (s ((List.range 32).map fun k => (k + 1, wSess)) ([5, 1] ++ fill 6 0 ++ fill 4 9)).openSessions ∧ (s [] ([5, 1] ++ fill 6 0 ++ fill 4 9)).openSessions < 32 := by decide +kernel
/-- With no session and no handshake a session number is free. -/
theorem witness_SessionLife_2 (s : State) (h : s.resil.sessions = []) (h' : s.resil.attempts = []) :
    ∃ num, (s.pick (fun n => (s.session? n).isSome || (kvFind s.resil.attempts n).isSome) 1 65535).1 = some num := by
  have hx (n : Nat) : ((s.session? n).isSome || (kvFind s.resil.attempts n).isSome) = false := by unfold State.session?; rw [h, h']; rfl
  exact ⟨_, by unfold State.pick pickFrom; simp only [hx]; rfl⟩
theorem witness_SessionLife_3 :
    let a : Attempt := ⟨3, 2, 0, 0, [], [], [], 5⟩
    let s : State := let s := wState []; { s with resil := { s.resil with attempts := [(8, a)], sessions := [] } }
    let q : Req := { wReq (fill 1280 0) with session := 8 }
    (s.at 0).serves q = true ∧ q.length = 1280 ∧ kvFind s.resil.attempts q.session = some a ∧ (s.at (4 + secTicks 5)).tick < a.since + secTicks 5 ∧ q.node = s.obj O.dictNodeId ∧ s.resil.procDown = false ∧
      q.depth < 480 ∧ s.openSessions < 32 ∧ s.replaced a = [] ∧ a.since + secTicks 5 ≤ (s.at (5 + secTicks 5)).tick := by decide +kernel
theorem witness_SessionLife_4 : wTake (wState []) 0x24 [] true (fun _ _ => true) = true ∧ (wState []).session? 7 = some wSess ∧ wSess.expired = false ∧
    wSess.lastAuth + secTicks ((wState []).obj O.dictSessionIdle) ≤ ((wState []).at (secTicks ((wState []).obj O.dictSessionIdle))).tick := by decide +kernel

def wSub (object : Bool) (last : Option Nat) (records : List (Nat × List Byte)) : Sub := ⟨7, object, false, 100, refBytes O.timeNow ++ fill 28 0, last, [], records, false, false⟩
def wSubs (l : List (Nat × Sub)) : State := let s := wState []; { s with resil := { s.resil with subs := l } }
def wSubscribe (mode interval : Nat) : List Byte := [0] ++ beBytes 1 mode ++ beBytes 2 interval ++ fill 32 0
theorem witness_Subscriptions_1 : wTake (wSubs ((List.range 256).map fun k => (k, { wSub false none [] with session := 8 }))) 0x18 (wSubscribe 0 10) false (fun _ s => decide (256 ≤ s.resil.subs.length)) = true ∧
    wTake (wSubs ((List.range 64).map fun k => (k, wSub false none []))) 0x18 (wSubscribe 0 10) false (fun _ s => decide (64 ≤ (s.resil.subs.filter fun p => p.2.session == 7).length)) = true ∧
    wTake (wSubs []) 0x18 (wSubscribe 0 0) false (fun _ s => s.resil.subs == []) = true ∧ wTake (wSubs []) 0x18 (wSubscribe 1 10) false (fun _ s => s.resil.subs == []) = true ∧
    wTake (wSubs []) 0x18 (wSubscribe 0 10) false (fun _ s => s.resil.subs == []) = true := by decide +kernel
theorem witness_Subscriptions_2 (s : State) (h : s.resil.subs = []) : ∃ id, (s.pick (fun n => (kvFind s.resil.subs n).isSome) 0 65536).1 = some id := by
  have hx (n : Nat) : (kvFind s.resil.subs n).isSome = false := by rw [h]; rfl
  exact ⟨_, by unfold State.pick pickFrom; simp only [hx]; rfl⟩
theorem witness_Subscriptions_3 : wTake (wSubs [(4, wSub false none [])]) 0x19 (beBytes 2 4 ++ [0, 0]) false (fun _ s => kvFind s.resil.subs 4 == some (wSub false none [])) = true ∧
    wTake (wSubs []) 0x19 (beBytes 2 4 ++ [0, 0]) false (fun _ s => kvFind s.resil.subs 4 == none) = true := by decide +kernel
theorem witness_Subscriptions_4 :
    let y := wSub false none [(5, fill 32 1)]
    let s := wSubs [(4, y)]
    kvFind s.resil.subs 4 = some y ∧ s.session? y.session = some wSess ∧ y.suspended = false ∧ s.servesAt wSess.port = true ∧ y.object = false ∧ y.records = [(5, fill 32 1)] ∧ 5 + msTicks 1 ≤ (s.at (5 + msTicks 1)).tick := by decide +kernel
theorem witness_Subscriptions_5 :
    let y := wSub true (some 5) []
    let s := wSubs [(4, y)]
    kvFind s.resil.subs 4 = some y ∧ s.session? y.session = some wSess ∧ y.suspended = false ∧ s.servesAt wSess.port = true ∧ y.object = true ∧ y.periodic = false ∧ y.owed = false ∧ y.lastAt = some 5 ∧
      (match findRef (refOf y.target) with | some (r, _) => ((s.at (5 + msTicks 100)).readValue wSess r (refOf y.target)).1 != y.lastVal | none => false) = true ∧ 5 + msTicks y.interval ≤ (s.at (5 + msTicks 100)).tick := by decide +kernel
theorem witness_Subscriptions_6 :
    let e (n : Nat) : SentEvent := ⟨11, 5, n, 4, wMsg⟩
    let s (n : Nat) : State := let s := wSessState { wSess with sent := [e n] } []; { s with resil := { s.resil with subs := [(4, wSub false none [])] } }
    (s 3).session? 7 = some { wSess with sent := [e 3] } ∧ (s 3).servesAt wSess.port = true ∧ (e 3).at_ + msTicks 100 ≤ ((s 3).at (5 + msTicks 100)).tick ∧ (e 3).tries < 4 ∧
      (s 4).session? 7 = some { wSess with sent := [e 4] } ∧ 4 ≤ (e 4).tries ∧ kvFind (s 4).resil.subs (e 4).sub = some (wSub false none []) ∧
      wReaches (wState []) 1 0 (beBytes 4 11) (fun _ => true) = true := by decide +kernel

theorem length_leBytes (n v : Nat) : (leBytes n v).length = n := by
  induction n generalizing v with
  | zero => rfl
  | succ n ih => simp [leBytes, ih]
theorem keccakRound_length (a : List (BitVec 64)) (rc : BitVec 64) : (keccakRound a rc).length = 25 := by simp [keccakRound]
theorem keccakF_length (a : List (BitVec 64)) : (keccakF a).length = 25 := by
  unfold keccakF keccakRC
  simp only [List.foldl_cons, List.foldl_nil]
  exact keccakRound_length _ _
theorem keccakAbsorb_length (n : Nat) (a : List (BitVec 64)) (l : List Byte) (h : a.length = 25) : (keccakAbsorb n a l).length = 25 := by
  induction n generalizing a l with
  | zero => exact h
  | succ n ih => exact ih _ _ (keccakF_length _)
theorem lanes_length (a : List (BitVec 64)) : (a.flatMap fun w => leBytes 8 w.toNat).length = 8 * a.length := by
  induction a with
  | nil => rfl
  | cons x a ih => simp only [List.flatMap_cons, List.length_append, ih, length_leBytes, List.length_cons]; omega
theorem sponge_length (m : List Byte) (b : Byte) : (sponge m b 16).length = 16 := by
  unfold sponge
  dsimp only
  rw [show 16 / 136 + 1 = 1 from rfl, keccakSqueeze, keccakSqueeze, List.append_nil, List.length_take, List.length_take, lanes_length, keccakAbsorb_length]
  · rfl
  · rfl
theorem sysTag_length (key head : List Byte) : (sysTag key head).length = 16 := sponge_length _ _
theorem beAt_append (h t : List Byte) (o n : Nat) (hb : o + n ≤ h.length) : beAt (h ++ t) o n = beAt h o n := by
  unfold beAt slice
  rw [List.drop_append_of_le_length (by omega), List.take_append_of_le_length (by rw [List.length_drop]; omega)]
theorem readDgram_append (h t : List Byte) (hl : h.length = 48) : readDgram (h ++ t) = readDgram h := by
  unfold readDgram
  congr 1 <;> exact beAt_append _ _ _ _ (by omega)
/-- Every datagram is received that the device forms itself. -/
theorem wDgram_taken (s : State) (h : Dgram) (hl : h.head.length = 48) (hv : beAt h.head 0 1 = 1) (ht : (readDgram h.head).type = h.type) (hs : s.hierServes = true) :
    s.takeDgram h.type (s.dgramBytes h) = (some (readDgram h.head), s) := by
  have hlen : (s.dgramBytes h).length = 64 := by
    unfold State.dgramBytes
    split
    · rw [List.length_append, hl, sysTag_length]
    · rw [List.length_append, hl]; rfl
  have hr : readDgram (s.dgramBytes h) = readDgram h.head := readDgram_append _ _ hl
  have hz : beAt (s.dgramBytes h) 0 1 = 1 := by rw [← hv]; exact beAt_append _ _ _ _ (by omega)
  have htag : 3 ≤ h.type → (s.dgramBytes h).drop 48 = sysTag (s.blob O.hierSysKey) ((s.dgramBytes h).take 48) := by
    intro h3
    unfold State.dgramBytes
    rw [if_pos h3, ← hl, List.drop_left, List.take_left]
  unfold State.takeDgram
  simp only [hlen, hr, hz, hs, ht]
  by_cases h3 : 3 ≤ h.type
  · simp [htag h3]
  · simp [h3]

/-- A node of the hierarchy. -/
def wHier (role state : Nat) (h : HierSt) (objs : List (Nat × Nat)) : State :=
  { wState ([(O.hierSysPeriod, 2 ^ 32 + 60), (O.hierRoleNow, role), (O.hierState, state)] ++ objs) with hier := h }
def wNode (state : Nat) : HierNode := { state := state, serial := 41, path := 0x1000, segment := 6, sess := 77 }
def wDg (type state value : Nat) : Dgram := { type := type, hops := 1, state := state, mgr := 5, value := value, path := 0x1000, serial := 41, slot := 2, node := 3, segment := 6 }

theorem witness_Hierarchy_1 : (wHier 1 2 {} []).isManager = true ∧ (wHier 1 2 {} []).hierServes = true ∧
    5 + msTicks ((wHier 1 2 { lastDiscover := some 5 } []).obj O.hierDiscoverPeriod) ≤ ((wHier 1 2 {} []).at (5 + msTicks (numDefault O.hierDiscoverPeriod))).tick := by decide +kernel
/-- Datagrams of every type are received. -/
theorem wDg_taken (s : State) (type state value : Nat) (h : ((wDg type state value).head.length = 48 ∧ beAt (wDg type state value).head 0 1 = 1 ∧ (readDgram (wDg type state value).head).type = type)) (hs : s.hierServes = true) :
    ∃ l, s.takeDgram type l = (some (readDgram (wDg type state value).head), s) := ⟨_, wDgram_taken s (wDg type state value) h.1 h.2.1 h.2.2 hs⟩
theorem witness_Hierarchy_2 : ∃ l, ((wHier 2 1 {} []).at 0).takeDgram 1 l = (some (readDgram (wDg 1 0 9).head), (wHier 2 1 {} []).at 0) := wDg_taken _ 1 0 9 (by decide +kernel) (by decide +kernel)
/-- A device of serial 5. -/
def wSerial (s : State) : State := s.setObj O.dictSerial 5
theorem wSerial_obj (s : State) (r : Nat) (h : r ≠ O.dictSerial) : (wSerial s).obj r = s.obj r := State.obj_setObj_ne s 5 h
theorem witness_Hierarchy_3 :
    let d := readDgram (wDg 1 0 9).head
    d.mgr = 5 ∧ d.value = 9 ∧ d.hops = 1 ∧ (wHier 2 2 { manager := some 6 } []).obj O.hierState = 2 ∧
      (wHier 2 2 { manager := some 6, relayed := [(5, 9)] } []).hier.manager ≠ some d.mgr ∧ kvFind (wHier 2 2 { relayed := [(5, 9)] } []).hier.relayed d.mgr = some d.value ∧
      kvFind (wHier 2 2 {} []).hier.relayed d.mgr ≠ some d.value := by decide +kernel
theorem witness_Hierarchy_3a (s : State) : (s.setObj O.dictSerial 6).obj O.dictSerial ≠ 5 := by rw [State.obj_setObj]; decide
theorem witness_Hierarchy_4 : ∃ l, (wSerial ((wHier 1 2 {} []).at 0)).takeDgram 2 l = (some (readDgram (wDg 2 1 9).head), wSerial ((wHier 1 2 {} []).at 0)) := by
  refine wDg_taken _ 2 1 9 (by decide +kernel) ?_
  unfold State.hierServes State.opState
  rw [wSerial_obj _ _ (by decide)]
  decide +kernel
theorem witness_Hierarchy_5 :
    let d := readDgram (wDg 2 1 9).head
    let s (l : List (Nat × HierNode)) : State := wHier 1 2 { nodes := l } []
    (s []).isManager = true ∧ d.mgr = 5 ∧ (s []).hier.answers = [] ∧ (s []).serialNode d.serial = none ∧ (s []).keyNode d.path d.slot = none ∧ d.state = 1 ∧
      (s []).freeNode 1 ((s []).obj O.hierNodeLimit) = some 1 ∧
      (∀ st ∈ [1, 2, 3, 4], let y : HierNode := { wNode st with slot := 2, serial := 99 }
        (s [(1, y)]).keyNode d.path d.slot = some 1 ∧ ((s [(1, y)]).node 1).serial ≠ d.serial ∧ ((s [(1, y)]).node 1).state = st ∧ (s [(1, y)]).serialNode d.serial = none ∧
          ((s [(1, y)]).node 1).adopt ≠ d.serial ∧ ((s [(1, y)]).node 1).repl ≠ d.serial) := by decide +kernel
/-- Of what the statement asks of such a state, only the role is an object, and it is the same with the serial 5. -/
theorem witness_Hierarchy_5a (s : State) : (wSerial s).isManager = s.isManager ∧ (wSerial s).obj O.dictSerial = 5 ∧ (wSerial s).obj O.hierNodeLimit = s.obj O.hierNodeLimit ∧
    (wSerial s).hier = s.hier ∧ (wSerial s).obj O.hierAutoAdopt = s.obj O.hierAutoAdopt := by
  refine ⟨?_, State.obj_setObj s _ _, wSerial_obj _ _ (by decide), rfl, wSerial_obj _ _ (by decide)⟩
  unfold State.isManager
  rw [wSerial_obj _ _ (by decide)]
/-- A number that is free is found. -/
theorem pickFrom_none (used : Nat → Bool) (lo n start k : Nat) (hk : k ≤ n) (h : pickFrom used lo n start k = none) (j : Nat) (h1 : n - k ≤ j) (h2 : j < n) :
    used (lo + (start + j) % n) = true := by
  induction k with
  | zero => omega
  | succ k ih =>
    unfold pickFrom at h
    dsimp only at h
    split at h
    · rename_i hu
      by_cases e : j = n - (k + 1)
      · rw [e]; exact hu
      · exact ih (by omega) h (by omega)
    · cases h
theorem pick_some (s : State) (used : Nat → Bool) (lo n v : Nat) (hv : v < n) (h : used (lo + v) = false) : ∃ x, (s.pick used lo n).1 = some x := by
  cases hp : (s.pick used lo n).1 with
  | some x => exact ⟨x, rfl⟩
  | none =>
    have hn : 0 < n := by omega
    have := pickFrom_none used lo n s.fresh n (Nat.le_refl _) hp ((v + n - s.fresh % n) % n) (by omega) (Nat.mod_lt _ hn)
    have e : (s.fresh + (v + n - s.fresh % n) % n) % n = v := by
      have hm := Nat.mod_lt s.fresh hn
      rw [Nat.add_mod, Nat.mod_mod, ← Nat.add_mod, Nat.add_mod]
      by_cases hle : s.fresh % n ≤ v
      · rw [show v + n - s.fresh % n = (v - s.fresh % n) + n by omega, Nat.add_mod_right, Nat.mod_eq_of_lt (by omega : v - s.fresh % n < n),
          show s.fresh % n + (v - s.fresh % n) = v by omega, Nat.mod_eq_of_lt hv]
      · rw [Nat.mod_eq_of_lt (by omega : v + n - s.fresh % n < n), show s.fresh % n + (v + n - s.fresh % n) = v + n by omega, Nat.add_mod_right, Nat.mod_eq_of_lt hv]
    rw [e, h] at this
    cases this
theorem wCapture (s : State) (n : Nat) (image : List Byte) (h0 : (s.node n).config = 0) (h1 : s.bufState 1 = bufFree) (h2 : (s.took.alloc (max 1 image.length) true).isSome = true) :
    (s.captureConfig n image).isSome = true := by
  obtain ⟨i, hi⟩ := pick_some s (fun i => s.bufState i != bufFree) 1 16383 0 (by decide) (by simp [h1])
  unfold State.captureConfig State.keepImage
  rw [Option.isSome_map, h0, if_pos rfl]
  have e : s.pick (fun i => s.bufState i != bufFree) 1 16383 = (some i, s.took) := by rw [← hi]; rfl
  simp only [e]
  cases ha : s.took.alloc (max 1 image.length) true with
  | none => rw [ha] at h2; cases h2
  | some r => rfl
def wHierSess (h : HierSt) (objs : List (Nat × Nat)) : State := { wSessState { wSess with hier := true, nodeSel := 3 } objs with hier := h }
theorem witness_Hierarchy_6 : wWrite (wHier 1 1 {} []) O.hierNodeId (beBytes 2 9) (fun s => !s.isWorker) = true ∧
    wWrite (wHierSess {} [(O.hierRoleNow, 2), (O.hierState, 1)]) O.hierNodeId (beBytes 2 9) (fun s => s.isWorker && s.obj O.hierState == 1) = true ∧
    ((wHierSess {} []).session? 7).map (·.hier) = some true := by decide +kernel
theorem witness_Hierarchy_7 :
    let s (st n : Nat) : State := wHier 1 2 { nodes := [(3, { wNode st with beats := (List.range n) })] } []
    (s 2 0).isManager = true ∧ ((s 2 0).node 3).state = 2 ∧ (s 2 0).hier.nodes = [(3, { wNode 2 with beats := [] })] ∧ (s 3 3).liveNodes = [3] ∧ (s 3 3).hierServes = true ∧ (s 3 3).hier.lastBeat = none ∧
      ((s 3 3).node 3).beats.length < 4 ∧ 4 ≤ ((s 3 4).node 3).beats.length := by decide +kernel
theorem witness_Hierarchy_8 :
    let s := wHierSess {} [(O.hierRoleNow, 2), (O.hierState, 2)]
    s.isWorker = true ∧ s.obj O.hierState = 2 ∧ s.hierSession = some (7, { wSess with hier := true, nodeSel := 3 }) ∧ (wHier 2 2 {} []).hierSession = none ∧
      0 + 4 * msTicks (s.obj O.hierHeartbeat) ≤ (s.at (4 * msTicks (s.obj O.hierHeartbeat))).tick := by decide +kernel
theorem witness_Hierarchy_9 :
    let x : HierNode := { wNode 4 with leader := true, lostAt := 5 }
    let s := wHier 1 2 { nodes := [(2, x), (3, wNode 3)] } []
    s.isManager = true ∧ s.hier.nodes = [(2, x), (3, wNode 3)] ∧ x.leader = true ∧ x.segment = 6 ∧ (wNode 3).segment = 6 ∧ (wNode 3).leader = false ∧
      x.lostAt + 4 * msTicks (s.obj O.hierHeartbeat) ≤ (s.at (5 + 4 * msTicks (s.obj O.hierHeartbeat))).tick := by decide +kernel
theorem witness_Hierarchy_10 : wWrite (wHierSess {} [(O.hierRoleNow, 2)]) O.hierNodeCapture [1] (fun s => !s.isManager) = true ∧
    wWrite (wHierSess {} [(O.hierRoleNow, 1)]) O.hierNodeCapture [1] (fun s => s.isManager && (s.node 3).absent.isSome) = true ∧
    wWrite ({ wHierSess { nodes := [(3, wNode 3)] } ([(O.hierRoleNow, 1)] ++ [(O.memChSize 0, 2 ^ 34)]) with memc := { n := 8 } }) O.hierNodeCapture [1]
      (fun s => s.isManager && (s.node 3).state == 3 && (s.node 3).config == 0 && s.bufState 1 == bufFree && (s.took.alloc 2 true).isSome) = true := by decide +kernel
theorem witness_Hierarchy_11 : wWrite (wHierSess { nodes := [(3, wNode 4)] } [(O.hierRoleNow, 1)]) O.hierNodeRelease [1] (fun s => s.isManager && (s.node 3).state == 4) = true ∧
    wWrite (wHierSess {} [(O.hierRoleNow, 0)]) O.hierNodeRelease [1] (fun s => !s.isManager) = true ∧
    wWrite (wHierSess { nodes := [(3, wNode 1)] } [(O.hierRoleNow, 1)]) O.hierNodeAdopt (beBytes 8 55) (fun s => s.isManager && (s.node 3).state == 1 && s.hier.answers == []) = true := by decide +kernel
theorem witness_Hierarchy_12 :
    let a : Announced := { serial := 55, path := 0x1000, slot := 0, state := 1, node := 0, fw := 0 }
    wWrite (wHierSess { nodes := [(3, { wNode 1 with repl := 55 })], answers := [a] } [(O.hierRoleNow, 1)]) O.hierNodeAdopt (beBytes 8 55)
      (fun s => s.isManager && s.hier.answers == [a] && a.path == (s.node 3).path && a.slot == (s.node 3).slot && (s.node 3).repl == 55 && (s.node 3).state == 1) = true := by decide +kernel

theorem witness_ProxiedAccess_1 : [0, 1, 2, 3, 4, 5].all (fun st =>
    let s := wHier 1 2 { nodes := if st = 0 then [] else [(3, wNode st)] } []
    wReaches s 1 3 (refBytes O.timeNow) (fun x => x.inflight == [] && x.fences == [] && serialAbove 1 x.high) && !s.sec.rescue && 3 != s.obj O.dictNodeId && s.obj O.hierRoleNow == 1 && (s.node 3).state == st &&
      decide ((s.node 3).used 0 + 1 ≤ 64)) = true ∧ (findRef O.timeNow).isSome = true ∧
    64 < ((wHier 1 2 { nodes := [(3, { wNode 3 with prod := [64, 0, 0, 0] })] } []).node 3).used 0 + 1 := by decide +kernel
def wCmd : ProxyCmd := { seq := 12, hostSession := 7, hostSeq := 1, op := 1, payload := [], src := 0, port := 0, entries := 1, sentAt := 5 }
theorem witness_ProxiedAccess_2 :
    let s := wHier 1 2 { nodes := [(3, { wNode 3 with cmds := [wCmd], beats := [11] })] } []
    s.isManager = true ∧ s.hierServes = true ∧ (s.node 3).state = 3 ∧ 11 ∈ (s.node 3).beats ∧ 12 ∉ (s.node 3).beats ∧ (s.node 3).cmds.find? (fun c => c.seq == 12) = some wCmd ∧ (s.node 3).cmds = [wCmd] ∧
      s.session? wCmd.hostSession = some wSess ∧ wSess.fences = [] ∧ wCmd.sentAt + 4 * msTicks (s.obj O.hierHeartbeat) ≤ (s.at (5 + 4 * msTicks (s.obj O.hierHeartbeat))).tick := by decide +kernel
theorem witness_ProxiedAccess_3 : wWrite (wHier 2 2 {} []) O.hierFence (beBytes 8 5) (fun s => !s.isManager) = true ∧ wWrite (wHier 1 2 {} []) O.hierFence (beBytes 8 5) (fun s => s.isManager) = true := by decide +kernel
theorem witness_ProxiedAccess_4 : ∃ l, ((wHier 2 2 {} []).at 0).takeDgram 5 l = (some (readDgram (wDg 5 0 (63 * 2 ^ 32 + 4)).head), (wHier 2 2 {} []).at 0) := wDg_taken _ 5 0 _ (by decide +kernel) (by decide +kernel)
theorem witness_ProxiedAccess_5 :
    let d := readDgram (wDg 5 0 (63 * 2 ^ 32 + 4)).head
    (wHier 2 2 {} []).isWorker = true ∧ bits d.value 37 32 = 63 ∧ serialAbove (bits d.value 31 0) ((wHier 2 2 {} []).obj (O.layFenceDone (bits d.value 37 32))) = true ∧
      serialAbove (bits d.value 31 0) ((wHier 2 2 {} [(O.layFenceDone 63, 4)]).obj (O.layFenceDone (bits d.value 37 32))) = false := by decide +kernel

theorem witness_StrobeBus_1 : wWrite (wHier 2 2 {} []) O.hierStbProbe [1] (fun _ => true) = true := by decide +kernel
theorem witness_StrobeBus_2 :
    let at_ (u : Nat) (h : HierSt) : State := (wHier 2 2 h [(O.hierStbState, 1)]).at (171875000 - u * 20625 / 2)
    let w (s : State) : Nat := (s.sysWindow (roundDiv s.studio 200 * 200)).1
    w (at_ 9000 {}) = 0 ∧ w (at_ 500 {}) = 1 ∧ w (at_ 290 {}) = 2 := by decide +kernel
theorem witness_StrobeBus_3 :
    let s (b : Bool) (c : Int) (scope : Nat) : State := wHier 2 2 { cycle := c, lastEdge := some 5, bus := b, stbFrom := some 0 } [(O.hierStbState, 1), (O.hierSysScope, scope)]
    (s false 833600 1).sampledIn 1 = some 2 ∧ (s true 833600 1).sampledIn 1 = some 2 ∧ (s false 844500 1).sampledIn 2 = some 2 ∧ (s true 844500 1).sampledIn 2 = some 2 ∧
      (s false 833600 1).onNetwork = false ∧ (s false 833600 1).obj O.hierStbState = 1 ∧ (s false 833600 1).speaks = true ∧ (s false 833600 0).speaks = false ∧ (s false 0 1).hier.consensus = none := by
  decide +kernel
theorem witness_StrobeBus_4 (state : Nat) (h : state = 1 ∨ state = 3) (s : State) (hs : s.hierServes = true) : ∃ l, s.takeDgram 3 l = (some (readDgram (wDg 3 state 2).head), s) := by
  rcases h with rfl | rfl
  · exact wDg_taken s 3 1 2 (by decide +kernel) hs
  · exact wDg_taken s 3 3 2 (by decide +kernel) hs
theorem witness_StrobeBus_5 :
    let d := readDgram (wDg 3 1 2).head
    let x : HierNode := { wNode 3 with leader := true }
    let s (h : HierSt) : State := (wHier 1 2 { h with nodes := [(3, x)] } []).setBlob O.hierSegMap (fill 8 0 ++ [0, 0] ++ leBytes 2 6 ++ fill 4 0)
    (s {}).isManager = true ∧ (s {}).hier.nodes = [(d.node, x)] ∧ d.node ≠ 0 ∧ x.segment = d.segment ∧ x.alone = none ∧ d.state = 1 ∧ (s {}).segmentList = [d.segment] ∧ (s {}).hier.flipSent ≠ some d.value ∧
      (tickInstant ((s {}).at 0).studio).lt (usInstant ((s {}).sysTiming.boundary ((d.value : Int) - 1)) ((s {}).obj O.hierWinEnd)) = true ∧
      (readDgram (wDg 3 3 2).head).state = 3 ∧ (2, 6, 2) ∈ (s { reports := [(2, 6, 2)] }).hier.reports ∧ 2 ∉ (s {}).hier.splits := by decide +kernel
theorem witness_StrobeBus_6 : (∃ l, ((wHier 2 2 { stbFrom := some 0 } []).at 0).takeDgram 4 l = (some (readDgram (wDg 4 0 2).head), (wHier 2 2 { stbFrom := some 0 } []).at 0)) ∧
    (wHier 2 2 { stbFrom := some 0 } []).isLeader = true ∧ (wHier 2 2 { stbFrom := some 0 } []).obj O.hierState ≠ 3 ∧ (wHier 2 3 {} []).obj O.hierState = 3 :=
  ⟨wDg_taken _ 4 0 2 (by decide +kernel) (by decide +kernel), by decide +kernel⟩
theorem witness_StrobeBus_7 :
    let s := wHier 2 2 { lastEdge := some 5, stuckRun := 1024 } [(O.hierStbState, 1)]
    s.hier.lastEdge = some 5 ∧ s.obj O.hierStbState = 1 ∧ 5 + 3200 ≤ (s.at 3205).tick ∧ 1024 ≤ s.hier.stuckRun := by decide +kernel

def wSample (y target : Int) : LoopSample := ⟨some y, none, none, target, 500, 500, false, false⟩
def wNext (region : Nat) : LoopNext := ⟨7, 8, 9, 10, 11, none, region, 0⟩
/-- Set 2 at a boundary, with loop 17 in it. -/
def wSet (x : LoopSetSt) (l : LoopSt) (objs : List (Nat × Nat)) : State :=
  { wState ([(O.loopSet 17, 2), (O.loopActuator 17, 3), (O.loopMeasSrc 17, 4), (O.loopMode 17, 1)] ++ objs) with loopSets := [(2, x)], loops := [(17, l)] }

theorem witness_ControlLoops_1 : ((wSet { boundary := some 5 } {} []).loopSet 2).boundary = some 5 ∧ ((wSet { boundary := some 5 } {} []).loopSet 2).shadow = none ∧ ((wSet {} {} []).loopSet 2).boundary = none := by decide +kernel
/-- The law with KP = 1 and the integral at 40,000: e = 100 stays within 0 … 65,535, e = 40,000 does not. -/
theorem witness_ControlLoops_2 : ∀ e ∈ [100, 40000],
    let s := wSet { boundary := some 5, samples := [(17, wSample 0 e)] } {} [(O.loopKp 17 0, 32), (O.loopInt 17, 40000)]
    let mul (w : Nat) (x : Int) : Int := (toSigned 27 (w / 32) * x + if w % 32 = 0 then 0 else 2 ^ (w % 32 - 1)) / 2 ^ (w % 32)
    (s.loopSet 2).samples = [(17, wSample 0 e)] ∧ (wSample 0 e).c ≤ (wSample 0 e).a ∧ s.obj (O.loopPolarity 17) = 0 ∧ s.obj (O.loopFfSrc 17) = 0xFF ∧ s.obj (O.loopSchedSrc 17) = 0xFF ∧ (s.loop 17).ramp = none ∧
      s.obj (O.loopRampRate 17) = 0 ∧ s.obj (O.loopRegion 17) = 0 ∧ mul (s.obj (O.loopKp 17 0)) e = e ∧ s.objI (O.loopInt 17) + mul (s.obj (O.loopKi 17 0)) e = 40000 ∧
      mul (s.obj (O.loopAd 17 0)) (s.objI (O.loopDer 17)) + mul (s.obj (O.loopKd 17 0)) ((s.loop 17).yPrev - 0) = 0 ∧ s.objI (O.loopBias 17) = 0 ∧ s.objI (O.loopOutMin 17) = 0 ∧ s.objI (O.loopOutMax 17) = 65535 ∧
      0 ≤ (40000 : Int) - (e + 40000 - 65535) := by decide +kernel
theorem witness_ControlLoops_3 :
    let m : LoopSample := { wSample 3 100 with hand := true }
    let s := wSet { boundary := some 5, samples := [(17, m)] } {} []
    (s.loopSet 2).samples = [(17, m)] ∧ m.hand = true ∧ s.obj (O.loopSchedSrc 17) = 0xFF ∧ s.objI (O.loopBias 17) = 0 ∧ s.obj (O.loopKp 17 (s.obj (O.loopRegion 17))) = 0 ∧
      s.objI (O.loopOutMin 17) ≤ m.a ∧ m.a ≤ s.objI (O.loopOutMax 17) := by decide +kernel
theorem witness_ControlLoops_4 :
    let s := wSet {} { offers := true, own := -5 } []
    s.offer 17 = some (-5) ∧ (∀ l < 256, s.obj (O.loopActuator l) = 3 → l = 17) ∧ (∀ l < 256, s.obj (O.loopActuator l) = 9 → s.offer l = none) ∧ s.obj (O.loopMode 17) ≠ 0 ∧
      s.obj (O.loopSetState (s.obj (O.loopSet 17))) ≠ 1 ∧ (s.loopSet (s.obj (O.loopSet 17))).clearing = false ∧ (s.loop 17).safeMiss = false ∧ s.obj (O.loopMode 18) = 0 ∧
      (wSet {} { safeMiss := true } []).obj (O.loopMode 17) ≠ 0 ∧ ((wSet {} { safeMiss := true } []).loop 17).safeMiss = true := by decide +kernel
theorem witness_ControlLoops_5 :
    let s := wSet { boundary := some 5, shadow := some [(17, wNext 2)] } {} []
    (s.loopSet 2).boundary = some 5 ∧ (s.loopSet 2).shadow = some [(17, wNext 2)] ∧ s.obj (O.loopRegion 17) ≠ (wNext 2).region := by decide +kernel
theorem witness_ControlLoops_6 :
    let s (c : Nat) (o : Bool) : State := wSet { boundary := some 5, overrun := o } {} [(O.loopSetConsec 2, c)]
    ((s 1 false).loopSet 2).shadow = none ∧ (s 1 false).obj (O.loopSetConsec 2) < 2 ∧ ((s 1 false).loopSet 2).overrun = false ∧ ((s 2 true).loopSet 2).overrun = true ∧ 2 ≤ (s 2 true).obj (O.loopSetConsec 2) ∧
      (s 2 true).obj (O.loopSetState 2) = 0 := by decide +kernel
theorem witness_ControlLoops_7 : wWrite (wState []) (O.loopMode 17) [1] (fun s => s.obj (O.loopActuator 17) == 0xFF) = true ∧
    wWrite (wSet {} {} []) (O.loopMode 17) [0] (fun s => s.obj (O.loopMode 17) != 0) = true ∧
    wWrite (wSet {} {} [(O.loopMode 17, 0)]) (O.loopMode 17) [1] (fun s => s.obj (O.loopActuator 17) != 0xFF && s.obj (O.loopMeasSrc 17) != 0xFF && s.obj (O.loopMode 17) != 1) = true ∧
    wWrite (wSet {} {} []) (O.loopMode 17) [2] (fun s => s.obj (O.loopActuator 17) != 0xFF && s.obj (O.loopMode 17) != 2) = true := by decide +kernel
theorem witness_ControlLoops_8 : wWrite (wSet {} {} []) (O.loopSetpoint 17) (beBytes 4 5) (fun _ => true) = true ∧ wWrite (wSet {} {} [(O.loopMode 17, 0)]) (O.loopSpSrc 17) [255] (fun _ => true) = true := by decide +kernel
theorem witness_ControlLoops_9 : wWrite (wSet {} {} []) (0x300000 + 256 * 17 + coefSub 5) (beBytes 4 (32 * 2 ^ 26)) (fun _ => true) = true ∧ (2 ≤ 5 ∧ (5 - 2) % 5 = 3 ∧ toSigned 27 (32 * 2 ^ 26 / 32) < 0) ∧
    wWrite (wSet {} {} []) (0x300000 + 256 * 17 + coefSub 5) (beBytes 4 0) (fun _ => true) = true ∧ (0 ≤ toSigned 27 (0 / 32) ∧ toSigned 27 (0 / 32) < 2 ^ (0 % 32)) ∧
    wWrite (wSet {} {} []) (0x300000 + 256 * 17 + coefSub 21) (beBytes 4 32) (fun _ => true) = true ∧ (21 - 2) % 5 ≠ 3 := by decide +kernel
theorem witness_ControlLoops_10 : wWrite (wSet {} {} [(O.loopFlags 17, 3)]) (O.loopFlags 17) (beBytes 2 1) (fun _ => true) = true ∧
    wWrite (wSet {} {} []) (O.loopSetClear 2) [1] (fun s => s.obj (O.loopSetState 2) == 0) = true ∧ wWrite (wSet {} {} [(O.loopSetState 2, 1)]) (O.loopSetClear 2) [1] (fun s => s.obj (O.loopSetState 2) != 0) = true := by decide +kernel

def wCal (x : CalSt) (objs : List (Nat × Nat)) : State := { wState objs with cal := x }
def wRunning (id inst : Nat) : CalRunSt := { id := id, inst := inst, asked := inst, left := [], since := 5 }
def wCalV (id inst : Nat) : List Byte := leBytes 1 id ++ leBytes 1 inst ++ fill 6 0
def wRo : List Int := (List.range 64).map Int.ofNat
def wCalIds : List (Nat × Nat) := [(1, 1), (2, 24), (3, 16), (4, 9), (5, 16), (6, 16), (0x10, 1), (0x11, 8), (0x12, 4), (0x13, 4), (0x14, 20)]
theorem witness_CalibrationAndAgeing_1 : wCalIds.all (fun p => calInstances p.1 == some p.2 && decide (p.2 < 255) &&
    wWrite (wCal {} []) O.calRun (wCalV p.1 p.2) (fun _ => true) &&
    wWrite (wCal { runs := [wRunning p.1 (p.2 - 1)] } []) O.calRun (wCalV p.1 (p.2 - 1)) (fun s => s.cal.runs.any fun r => r.id == p.1 && r.inst == p.2 - 1) &&
    wWrite (wCal { runs := [wRunning 40 0, wRunning 41 0, wRunning 42 0, wRunning 43 0] } []) O.calRun (wCalV p.1 0) (fun s => decide (4 ≤ s.cal.runs.length))) = true := by decide +kernel
theorem witness_CalibrationAndAgeing_2 : [0x10, 0x11].all (fun id => wWrite (wCal {} []) O.calRun (wCalV id 0) (fun s => s.cal.runs == [] && s.opState == normal)) = true ∧
    wWrite (wCal {} [(O.calTempRef, 255)]) O.calRun (wCalV 3 0) (fun s => s.cal.runs == [] && s.obj O.calTempRef == 0xFF) = true ∧
    wWrite (wCal {} [(O.calAllowMiss, 0), (O.loopMode 17, 1), (O.loopMeasSrc 17, 4)]) O.calRun (wCalV 2 4) (fun s => s.cal.runs == [] && s.opState == normal && s.obj O.calAllowMiss == 0 && s.ainInUse 4) = true := by decide +kernel
/-- In TEST, with everything a run of any kind needs: two banks with photodiodes on primary 0 of output 0, and a loop that controls the first. -/
def wTest : State := wCal {} [(O.ptlState, test), (O.calAllowMiss, 1), (O.calTempRef, 0), (O.gateOutput 0, 0), (O.gatePrimary 0, 0), (O.gateOutput 1, 0), (O.gatePrimary 1, 0), (O.colBankPd 1, 3), (O.colBankCeiling 1, 65535),
  (O.loopActuator 17, 0), (O.loopMeasSrc 17, 0x40), (O.loopMode 17, 1)]
theorem witness_CalibrationAndAgeing_3 : wCalIds.all (fun p => wWrite wTest O.calRun (wCalV p.1 0) (fun s => s.cal.runs == [] && s.opState == test && s.obj O.calAllowMiss != 0 && s.obj O.calTempRef != 0xFF &&
    s.sweepRoom 0 && s.brightnessLoop 0 == some 17 && s.obj (O.loopMode 17) == 1) && wWrite wTest O.calRun (wCalV p.1 255) (fun s => s.cal.runs == [])) = true := by decide +kernel
theorem witness_CalibrationAndAgeing_4 : ∀ id ∈ [1, 2, 3, 6, 0x10, 0x11, 0x12, 0x13, 0x14], (wCal { runs := [wRunning id 3] } []).cal.runs = [wRunning id 3] ∧ (wRunning id 3).left = [] ∧
    (wCal { runs := [wRunning id 3] } []).cal.startQ = [] ∧ (wRunning id 3).since + msTicks ((wCal {} []).obj (O.calLimit id)) < ((wCal {} []).at (6 + msTicks ((wCal {} []).obj (O.calLimit id)))).tick := by decide +kernel
theorem witness_CalibrationAndAgeing_5 :
    let l := (wCal {} []).obj
    (7 ≠ 8 ∧ l (O.calLimit 1) < (1000 - 0 : Int).natAbs ∧ (10 - 10 : Int).natAbs ≤ l (O.calLimit 1) ∧ (10 + 10 : Int) % 2 = 0) ∧
      (50 < (51 - 0 : Int).natAbs ∧ (50 - 0 : Int).natAbs ≤ 50 ∧ (50 + 0 : Int) % 2 = 0 ∧ l (O.calLimit 2) * 2 ^ 30 < (2 ^ 30 - 0 : Int).natAbs * 1000000 ∧ (2 - 0 : Int).natAbs * 1000000 ≤ l (O.calLimit 2) * 2 ^ 30) ∧
      (l (O.calLimit 3) < (251 : Int).natAbs ∧ (250 : Int).natAbs ≤ l (O.calLimit 3)) ∧
      (let a : List Int := [400, -150, 151, 200, 300, 400, 500, 600]
       a.length = 8 ∧ (∀ v ∈ ([151, -151, 200, 300, 400, 500, 600, 700] : List Int), 150 < v.natAbs) ∧ (∀ j < 8, (nth a 1 0).natAbs < (nth a j 0).natAbs ∨ j = 1) ∧ (nth a 1 0).natAbs ≤ 150) := by decide +kernel
theorem witness_CalibrationAndAgeing_6 : (wCal { runs := [wRunning 0x11 7] } [(O.ptlState, startup)]).opState = startup ∧ (wCal { runs := [wRunning 0x10 0] } []).opState ≠ boot ∧
    (wCal { runs := [{ wRunning 6 3 with ending := 4 }] } []).cal.runs = [{ wRunning 6 3 with ending := 4 }] := by decide +kernel
theorem witness_CalibrationAndAgeing_7 :
    let x (n : Nat) : CalRunSt := { wRunning 6 3 with nA := n, point := 5, means := [(1, 1, 1), (2, 1, 1), (3, 1, 1), (4, 1, 1), (5, 1, 1)] }
    (wCal { runs := [x 64] } []).cal.runs = [x 64] ∧ (x 64).ending = 0 ∧ (x 64).means.length < 7 ∧ (x 64).nA = 64 ∧ (x 63).nA < 64 ∧ [8, 7, 6, 5, 6, 7, 8][(x 64).point + 1]? = some 8 := by decide +kernel
theorem witness_CalibrationAndAgeing_8 : wWrite (wCal { runs := [wRunning 2 9] } []) O.calCancel [3, 0] (fun s => s.cal.runs == [wRunning 2 9]) = true ∧
    wWrite (wCal { runs := [wRunning 2 9] } []) O.calCancel (beBytes 2 (2 * 256 + 9)) (fun s => s.cal.runs == [wRunning 2 9] && s.cal.startQ == []) = true := by decide +kernel
theorem witness_CalibrationAndAgeing_9 :
    let s (r : Nat) : State := wCal {} [(O.calAutoPeriod, 3600), (O.calTempRef, r)]
    (s 0).obj O.calAutoPeriod ≠ 0 ∧ (s 0).opState = normal ∧ (s 0).cal.autoAt + secTicks 3600 ≤ ((s 0).at (secTicks 3600)).tick ∧ (s 0).cal.runs = [] ∧ (s 0).obj O.calAllowMiss ≠ 0 ∧ (s 0).obj O.calTempRef ≠ 0xFF ∧
      (s 255).obj O.calTempRef = 0xFF ∧ (wCal {} [(O.calAutoPeriod, 0)]).obj O.calAutoPeriod = 0 := by decide +kernel
theorem witness_CalibrationAndAgeing_10 :
    let s := wCal { pllFailed := some 5 } [(O.ptlState, recovery), (O.timeState, freerun)]
    s.cal.pllFailed = some 5 ∧ s.opState = recovery ∧ s.obj O.timeState = freerun ∧ s.cal.runs = [] ∧ 5 + 10312500000 ≤ (s.at 10312500005).tick := by decide +kernel
theorem witness_CalibrationAndAgeing_11 :
    let s := wCal {} []
    s.cal.ageAt + secTicks (s.obj O.agePeriod) ≤ (s.at (secTicks 3600)).tick ∧ s.opState = normal ∧ wRo.length = 64 ∧
      (∀ i ∈ wRo, -2147483648 ≤ i ∧ i ≤ 2147483647) ∧ (s.at 0).tick < s.cal.ageAt + secTicks (s.obj O.agePeriod) := by decide +kernel
theorem witness_CalibrationAndAgeing_12 : wWrite (wCal {} []) O.ageVcoreTarget (beBytes 2 750) (fun s => s.obj O.hierServiceNow == 0) = true ∧
    wWrite (wCal {} [(O.hierServiceNow, 1)]) O.ageVcoreTarget (beBytes 2 750) (fun s => s.obj O.hierServiceNow != 0) = true := by decide +kernel
theorem witness_CalibrationAndAgeing_13 : let s := wStaged O.calRestore [1, 2, 3, 4]
    s.resil.xfers = [(1, wXfer O.calRestore [1, 2, 3, 4])] ∧ (wXfer O.calRestore [1, 2, 3, 4]).ref = O.calRestore ∧ (wXfer O.calRestore [1, 2, 3, 4]).whole = true ∧
      (wXfer O.calRestore [1, 2, 3, 4]).toHost = false ∧ leAt [1, 2, 3, 4] 0 4 ≠ 0x50414E53 ∧ (∀ e ∈ (wState []).resil.xfers, e.2.ref ≠ O.calRestore) := by decide +kernel

def wPwr (p : PowerSt) (objs : List (Nat × Nat)) : State := { wState objs with power := p }
/-- A rule's entry: kind, channel, actions, states, A, B, HYST, HOLD, WINDOW, MASK, BANKS. -/
def wRule (kind chan actions a b hyst hold mask : Nat) : List Byte :=
  [BitVec.ofNat 8 kind, BitVec.ofNat 8 chan, BitVec.ofNat 8 actions, 63] ++ leBytes 4 a ++ leBytes 4 b ++ leBytes 4 hyst ++ leBytes 2 hold ++ leBytes 2 1 ++ leBytes 4 mask ++ leBytes 2 1 ++ fill 6 0
/-- Rule 3 on channel 2, which reads `x`, asserted or not after `run` evaluations. -/
def wPatrol (kind actions hold run x : Nat) (on : Bool) : State :=
  (wPwr { rules := [(3, ⟨run, on⟩)] } [(O.ptlChValid 2, 1), (O.ptlChValue 2, x)]).setBlob (O.ptlRule 3) (wRule kind 2 actions 10 20 4 hold 0)

theorem witness_Patrol_1 :
    let s := wPwr { chans := [(2, { at_ := some 5 })] } []
    (wState [(O.ptlState, cold)]).opState = cold ∧ ({ s with time := { s.time with pllLocked := true } }.chanSt 2).at_ = some 5 ∧
      ({ s with time := { s.time with pllLocked := true } }.at 0).tick < 5 + usTicks (s.obj (O.ptlChPeriod 2)) := by decide +kernel
theorem witness_Patrol_2 : ∀ f ∈ [0, 1, 2, 4], let s := wPwr { chans := [(2, { at_ := some 5, samples := [1, 2, 3, 4, 5], cand := 7, run := 9 })] } [(O.ptlChValid 2, 1), (O.ptlChFilter 2, f)]
    s.opState ≠ cold ∧ (s.chanSt 2).at_ = some 5 ∧ 5 + usTicks (s.obj (O.ptlChPeriod 2)) ≤ (s.at 100000000).tick ∧ islandMeasures (s.obj (O.ptlChSource 2)) = false ∧
      (let s := s.setObj (O.ptlChSource 2) 0x31
       islandMeasures (s.obj (O.ptlChSource 2)) = true ∧ s.obj (O.ptlChValid 2) ≠ 0 ∧ s.obj (O.ptlChFilter 2) = f ∧ (s.chanSt 2).samples = 1 :: 2 :: 3 :: 4 :: [5] ∧ (0 : Int) ≤ 1 ∧
         s.obj (O.ptlChDebounce 2) ≤ (s.chanSt 2).run + 1 ∧ ¬ s.obj (O.ptlChDebounce 2) ≤ 1) := by decide +kernel
theorem witness_Patrol_3 : ∀ k ∈ [1, 2, 3, 4],
    let s (hold run x : Nat) (on : Bool) := wPatrol k 42 hold run x on
    let x := if k = 1 then 11 else if k = 4 then 10 else 9
    let y := if k = 4 then 21 else if k = 2 then 14 else if k = 1 then 6 else 10
    ((s 2 1 x false).rule 3).kind = k ∧ (s 2 1 x false).latched 3 = false ∧ (s 2 1 x false).ruleActive 3 = true ∧ (s 2 1 x false).obj (O.ptlChValid 2) ≠ 0 ∧ ((s 2 1 x false).rule 3).chan = 2 ∧
      ((s 2 1 x false).rule 3).hold = 2 ∧ ((s 2 1 x false).ruleSt 3) = ⟨1, false⟩ ∧ (s 2 1 x false).objI (O.ptlChValue 2) = (x : Nat) ∧ (s 2 1 y true).objI (O.ptlChValue 2) = (y : Nat) ∧
      (((s 2 1 x false).rule 3).a, ((s 2 1 x false).rule 3).b, ((s 2 1 x false).rule 3).hyst) = (10, 20, 4) ∧ bit ((s 2 1 x false).rule 3).actions 5 = true ∧ bit ((s 2 1 x false).rule 3).actions 3 = true ∧
      bit ((s 2 1 x false).rule 3).actions 1 = true ∧ (s 2 1 y true).ruleSt 3 = ⟨1, true⟩ ∧ (s 3 1 x false).ruleActive 3 = true := by decide +kernel
theorem witness_Patrol_4 : ((wPatrol 1 42 2 1 11 true).setObj (O.ptlRuleState 3) 3).latched 3 = true ∧ (wPatrol 0 42 2 1 11 true).latched 3 = false ∧ (wPatrol 0 42 2 1 11 true).ruleActive 3 = false := by decide +kernel
theorem witness_Patrol_5 : let s := wPwr { lastEval := some 5 } []
    let l : State := { s with time := { s.time with pllLocked := true } }
    l.power.lastEval = some 5 ∧ (l.at 0).tick < 5 + usTicks (l.obj O.ptlEvalPeriod) ∧ s.opState ≠ cold ∧ s.power.lastEval = some 5 ∧ 5 + usTicks (s.obj O.ptlEvalPeriod) ≤ (s.at 100000000).tick := by decide +kernel
/-- Rule 3's wake is due 24 ms before one second of studio time. -/
theorem witness_Patrol_6 : let s := wState [(O.ptlWakeAt, 2 ^ 48), (O.ptlState, standby)]
    s.obj O.ptlWakeAt ≠ 0 ∧ s.opState ≠ cold ∧ s.schedTick = some 10065000000 ∧ (wState []).obj O.ptlWakeAt = 0 := by decide +kernel
theorem witness_Patrol_7 : let s := (wState []).setBlob (O.ptlRule 3) (wRule 9 1 0 0 0 0 1 0)
    (s.rule 3).kind = 9 ∧ (s.rule 3).chan = 1 := by decide +kernel
theorem witness_Patrol_8 : (wState []).opState ≠ standby ∧
    (let s := (wPatrol 1 2 2 1 11 true).setObj O.ptlState standby
     s.opState = standby ∧ (∃ r < 32, s.ruleTrue r = true ∧ bit (s.rule r).actions 1 = true)) ∧
    (let s := (wPatrol 1 1 2 1 11 true).setObj O.ptlState standby
     s.opState = standby ∧ (∀ r < 32, s.ruleTrue r = true → bit (s.rule r).actions 1 = false) ∧ s.power.wakeAt = none ∧ s.power.wakeReq = none) := by decide +kernel
theorem witness_Patrol_9 : [2 ^ 48, 0, 65536 * 1000000000, 65536].all (fun n =>
    wTake (wState []) 2 (valueForm O.ptlWakeAt (beBytes 12 n)) (fastWrite O.ptlWakeAt) (fun x s => decide (writeLevel O.ptlWakeAt ≤ x.level) && decide ((beBytes 12 n).length = 12) &&
      (if n = 65536 * 1000000000 then !stimeOk n else stimeOk n &&
        (n == 0 || (decide ((stimeInstant n).num < (s.studio + 247500000) * (stimeInstant n).den) == (n == 65536)))))) = true := by decide +kernel
def wRuleWrites : List (List Byte) := [wRule 10 2 0 10 20 4 1 0, wRule 1 16 0 10 20 4 1 0, wRule 9 6 0 10 20 4 1 0, wRule 1 2 0 10 20 4 1 8]
theorem witness_Patrol_10 : (wRuleWrites ++ [wRule 1 15 63 10 20 4 1 7, wRule 9 5 63 10 20 4 1 7]).all (fun v => wWrite (wState []) (O.ptlRule 3) v (fun _ => true)) = true ∧
    wRuleWrites.map (fun v => (leAt v 0 1, leAt v 1 1, leAt v 20 4)) = [(10, 2, 0), (1, 16, 0), (9, 6, 0), (1, 2, 8)] ∧
    ([(1, 15), (9, 5)].all fun p => let v := wRule p.1 p.2 63 10 20 4 1 7
      leAt v 0 1 == p.1 && leAt v 1 1 == p.2 && leAt v 20 4 == 7 && leAt v 2 1 == 63 && leAt v 3 1 == 63 && leAt v 16 2 == 1 && leAt v 18 2 == 1 && leAt v 26 1 == 0 && leAt v 27 5 == 0) = true := by decide +kernel
theorem witness_Patrol_11 : wWrite (wPatrol 1 42 2 1 11 true) (O.ptlRuleClear 3) [1] (fun s => s.obj (O.ptlRuleState 3) != 3) = true ∧
    wWrite ((wPatrol 1 42 2 1 11 true).setObj (O.ptlRuleState 3) 3) (O.ptlRuleClear 3) [1] (fun s => s.obj (O.ptlRuleState 3) == 3 && (List.range 32).all fun j => j == 3 || !(s.ruleSt j).asserted) = true := by decide +kernel
theorem witness_Patrol_12 : [(3, 4), (4, 3)].all (fun p =>
    wWrite (wState [(O.ptlState, p.2)]) O.pwrStateReq [BitVec.ofNat 8 p.1] (fun s => s.opState == p.2) &&
    wWrite (wState [(O.ptlState, recovery)]) O.pwrStateReq [BitVec.ofNat 8 p.1] (fun s => s.opState == recovery && s.obj O.pwrRecoveryCause == 0) &&
    wWrite (wState [(O.ptlState, recovery), (O.pwrRecoveryCause, 2)]) O.pwrStateReq [BitVec.ofNat 8 p.1] (fun s => s.opState == recovery && s.obj O.pwrRecoveryCause != 0) &&
    [startup, standby, p.1].all fun st => wWrite (wPwr { awake := true } [(O.ptlState, st)]) O.pwrStateReq [BitVec.ofNat 8 p.1] (fun s => s.opState == st)) = true := by decide +kernel
theorem witness_Patrol_13 : [startup, normal, test, recovery].all (fun st => wWrite (wState [(O.ptlState, st)]) O.pwrStateReq [6] (fun s => s.opState == st)) = true ∧
    wWrite (wPwr { wakeAt := some 5, awake := true } [(O.ptlState, standby)]) O.pwrStateReq [6] (fun s => s.opState == standby && s.power.wakeAt == some 5) = true ∧
    wWrite (wPwr { awake := true } [(O.ptlState, standby)]) O.pwrStateReq [6] (fun s => s.opState == standby && s.power.wakeAt == none && s.power.wakeReq == none) = true := by decide +kernel

def wLock (b : Bool) (s : State) : State := { s with time := { s.time with pllLocked := b } }
def wCold (p : PowerSt) : State := wPwr p [(O.ptlState, cold)]
theorem witness_PowerStates_1 : (wState []).opState ≠ cold ∧ (wState [(O.ptlState, cold), (O.ptlResetCause, 1)]).opState = cold ∧ (wState [(O.ptlState, cold), (O.ptlResetCause, 1)]).obj O.ptlResetCause = 1 ∧
    (wState [(O.ptlState, cold), (O.ptlResetCause, 0)]).opState = cold ∧ (wState [(O.ptlState, cold), (O.ptlResetCause, 0)]).obj O.ptlResetCause ≠ 1 := by decide +kernel
theorem witness_PowerStates_2 : ∀ b : Bool, (wPwr { warn := b } []).power.warn = b ∧ (wPwr { warn := !b } []).power.warn ≠ b ∧ (wPwr { warn := !b } []).opState ≠ cold := by decide +kernel
theorem witness_PowerStates_3 : (wPwr { groups := 15 } []).opState ≠ cold ∧ ∀ g < 4, bit (wPwr { groups := 15 } []).power.groups g = true := by decide +kernel
theorem witness_PowerStates_4 : ∀ g : Fin 4, let s := wPwr { step := some g, stepAt := 5 } [(O.ptlState, boot)]
    s.power.step = some g.val ∧ bit s.power.good g = false ∧ s.power.stepAt + usTicks 100 ≤ (s.at 100000000).tick ∧ (s.at 0).tick < s.power.stepAt + usTicks 100 ∧ s.power.wakeAt = none ∧
      (∀ r < 8, railGroup r = g → 19 * s.railNom r ≤ 20 * ((List.range 8).map s.railNom).getD r 0 ∧ 20 * ((List.range 8).map s.railNom).getD r 0 ≤ 21 * s.railNom r) ∧
      (wLock true s).time.pllLocked = true ∧ (wLock false s).time.pllLocked = false ∧
      (let s := wPwr { step := some g, stepAt := 5, wakeAt := some 3 } [(O.ptlState, standby)]
       s.power.step = some g.val ∧ bit s.power.good g = false ∧ s.power.wakeAt ≠ none ∧ s.opState = standby ∧ s.cal.runs = [] ∧
        (∀ r < 8, railGroup r = g → 19 * s.railNom r ≤ 20 * ((List.range 8).map s.railNom).getD r 0 ∧ 20 * ((List.range 8).map s.railNom).getD r 0 ≤ 21 * s.railNom r)) := by decide +kernel
theorem witness_PowerStates_5 : (wPwr { step := some 1 } []).power.step ≠ some 2 ∧ bit (wPwr { step := some 1, good := 2 } []).power.good 1 = true := by decide +kernel
theorem witness_PowerStates_6 : let s := wPwr { step := some 2, stepAt := 5 } [(O.ptlState, boot)]
    s.opState = boot ∧ s.power.wakeAt = none ∧ s.power.step = some 2 ∧ bit s.power.good 2 = false ∧ s.power.stepAt + msTicks (s.obj O.pwrRailTimeout) ≤ (s.at 1000000000).tick ∧ (wState []).power.step = none := by decide +kernel
theorem witness_PowerStates_7 : let s := wPwr { retryAt := some 5 } [(O.ptlState, boot)]
    s.power.retryAt = some 5 ∧ s.opState = boot ∧ 5 ≤ (s.at 6).tick ∧ (s.at 3).tick < 5 := by decide +kernel
def wStart (objs : List (Nat × Nat)) : State := { wState ([(O.ptlState, startup)] ++ objs) with memc := { n := 2 } }
theorem witness_PowerStates_8 : (∀ c ∈ [0, 2], let s := wStart [(O.pwrRecoveryCause, c)]
      s.opState = startup ∧ s.memc.n ≠ 0 ∧ s.memc.clearing = none ∧ s.cal.startQ = [] ∧ s.cal.runs = [] ∧ s.obj O.pwrRecoveryCause = c) ∧
    (wState []).opState ≠ startup ∧ (wState [(O.ptlState, startup)]).memc.n = 0 ∧ ({ wStart [] with cal := { runs := [wRunning 3 0] } } : State).cal.runs ≠ [] := by decide +kernel
theorem witness_PowerStates_9 : (wState [(O.ptlState, standby)]).opState = standby ∧
    (let s := wLock true (wPwr { lastPoll := some 5 } [])
     s.power.lastPoll = some 5 ∧ (s.at 0).tick < 5 + msTicks 10 ∧ s.time.pllLocked = true) ∧
    (∀ r < 9, 1 ≤ r → ∀ f < 2, let s := wPwr { lastPoll := some 5, faults := f * 511 } [(O.pwrRailPmbus r, 9)]
     s.opState = normal ∧ s.power.lastPoll = some 5 ∧ 5 + msTicks 10 ≤ (s.at 1000000000).tick ∧ s.obj (O.pwrRailPmbus r) ≠ 0xFF ∧ bit s.power.faults r = (f == 1)) ∧
    (∃ b ∈ [2, 6, 13, 14, 15], bit (4 : Nat) b = true) ∧ (∀ b ∈ [2, 6, 13, 14, 15], bit (8 : Nat) b = false) := by decide +kernel
theorem witness_PowerStates_10 : ∀ c ∈ [760, 780, 800], let s := wPwr { lastPoll := some 5, good := 15, vcmd := c, vcmdAt := 5 } [(O.pwrRailPmbus 0, 9), (O.pwrRailState 0, 1)]
    s.opState = normal ∧ s.power.lastPoll = some 5 ∧ 5 + msTicks 10 ≤ (s.at 1000000000).tick ∧ s.obj (O.pwrRailPmbus 0) ≠ 0xFF ∧ s.obj (O.pwrRailState 0) = 1 ∧ s.power.faults = 0 ∧ bit s.power.good 2 = true ∧
      720 ≤ s.power.vcmd ∧ s.power.vcmd ≤ 840 ∧ 720 ≤ s.obj O.ageVcoreTarget ∧ s.obj O.ageVcoreTarget ≤ 840 ∧ (c + 6 > s.power.vcmd + 5) ∧ (c ≤ s.power.vcmd + 5 ∧ s.power.vcmd ≤ c + 5) ∧
      s.power.vcmdAt + msTicks 10 ≤ (s.at 1000000000).tick ∧ (s.obj O.ageVcoreTarget = s.power.vcmd ↔ c = 760) := by decide +kernel
theorem witness_PowerStates_11 : ∀ r : Fin 8, ∀ f < 2, let s := wPwr { good := 15, faults := f * 255 } []
    s.opState ≠ cold ∧ bit s.power.good (railGroup r) = true ∧ 20 * 1 < 19 * s.railNom r ∧ 21 * s.railNom r < 20 * 65535 ∧ (19 * s.railNom r ≤ 20 * s.railNom r ∧ 20 * s.railNom r ≤ 21 * s.railNom r) ∧
      bit s.power.faults r = (f == 1) ∧ bit (wState []).power.good (railGroup r) = false := by decide +kernel
theorem witness_PowerStates_12 : (∀ st ∈ [normal, test, recovery], let s := wPwr { standbyReq := true, groups := 15 } [(O.ptlState, st)]
      s.power.standbyReq = true ∧ normal ≤ s.opState ∧ s.opState ≤ recovery) ∧ (wState []).power.standbyReq = false ∧ (wPwr { standbyReq := true } [(O.ptlState, boot)]).opState = boot ∧
    (wPwr { standbyReq := true } [(O.ptlState, boot)]).power.standbyReq = true ∧ (wPwr { standbyReq := true } [(O.ptlState, startup)]).opState = startup ∧ recovery < (wState [(O.ptlState, standby)]).opState := by decide +kernel
theorem witness_PowerStates_13 : ∀ w < 2, let s := wPwr { wakeReq := some 5 } [(O.ptlState, standby), (O.ptlWarm, w)]
    s.power.wakeReq = some 5 ∧ 5 ≤ (s.at 6).tick ∧ s.opState = standby ∧ s.power.wakeAt = none ∧ s.obj O.ptlWarm = w := by decide +kernel
theorem witness_PowerStates_14 : ∀ a : Bool, ∀ l : Bool,
    let s : State := { wPwr { wakeAt := some 5, awake := a, held := normal } [(O.ptlState, standby), (O.tgEnable 1, 1)] with intlk := { (wState []).intlk with inStandby := l } }
    s.power.wakeAt = some 5 ∧ s.opState = standby ∧ (s.at 0).tick < 5 + 247500000 ∧ 5 + 247500000 ≤ (s.at 300000000).tick ∧ s.power.awake = a ∧ s.resil.procDown = false ∧ s.power.held = normal ∧
      s.obj O.pwrRecoveryCause = 0 ∧ s.intlk.inStandby = l ∧ s.obj (O.tgEnable 1) ≠ 0 ∧ s.leadOf 1 = 1 := by decide +kernel
theorem witness_PowerStates_15 : let s := wPwr { wakeAt := some 3, step := some 2, stepAt := 5 } [(O.ptlState, standby)]
    s.power.wakeAt = some 3 ∧ s.opState = standby ∧ s.power.step = some 2 ∧ bit s.power.good 2 = false ∧ s.power.stepAt + msTicks (s.obj O.pwrRailTimeout) ≤ (s.at 1000000000).tick := by decide +kernel

def wEv (x : EvSt) (objs : List (Nat × Nat)) : State := { wState objs with ev := x }
def wRecord (src : Nat) : Record := ⟨src, [1, 2], 3, 5, 0, 0, 0, false⟩
def wRaised (src : Nat) : Raised := ⟨src, [1, 2], 5, 0, 0, false⟩
theorem witness_EventSystem_1 : (wEv {} []).ev.raised = [] ∧ (wEv { raised := [wRaised 9] } []).ev.raised = wRaised 9 :: [] ∧ ((wEv { raised := [wRaised 9] } []).at 0).tick < (wRaised 9).at_ + 60 ∧
    (wRaised 9).at_ + 60 ≤ ((wEv { raised := [wRaised 9] } []).at 65).tick := by decide +kernel
theorem witness_EventSystem_2 : (wEv { raised := [wRaised 9], fifo := [wRecord 4, wRecord 9] } []).ev.fifo = [wRecord 4] ++ [wRecord 9] ∧ (wRecord 9).src = (wRaised 9).src ∧
    (wEv {} []).obj O.evtCoalesced < 4294967294 ∧
    (∀ x ∈ (wEv { raised := [wRaised 9], fifo := List.replicate 63 (wRecord 4) } []).ev.fifo, x.src ≠ (wRaised 9).src) ∧
    (wEv { raised := [wRaised 9], fifo := List.replicate 63 (wRecord 4) } []).ev.fill + (if 12 < (wRaised 9).detail.length then 2 else 1) ≤ 64 ∧
    (∀ x ∈ (wEv { raised := [wRaised 9], fifo := List.replicate 64 (wRecord 4) } []).ev.fifo, x.src ≠ (wRaised 9).src) ∧
    (wEv { raised := [wRaised 9], fifo := List.replicate 64 (wRecord 4) } []).ev.fill = 64 ∧ (wRaised 9).src < 252 := by decide +kernel
theorem witness_EventSystem_3 : (wEv {} []).ev.lostOwed = false ∧ 64 ≤ (wEv { lostOwed := true, fifo := List.replicate 64 (wRecord 4) } []).ev.fill ∧
    (wEv { lostOwed := true } []).ev.lostOwed = true ∧ (wEv { lostOwed := true } []).ev.fill < 64 := by decide +kernel
theorem witness_EventSystem_4 : (wEv {} []).ev.ringAt = [] ∧ ((wEv { lastDrain := 1 } []).at 0).tick / 60 < (wEv { lastDrain := 1 } []).ev.lastDrain + 64 := by decide +kernel
/-- A ring with some records unread. -/
def wRing (policy full unread : Nat) : State := { wEv { ringAt := [(0, 131072)], fifo := [wRecord 4] } [(O.evtRingPolicy, policy), (O.evtRingFull, full), (O.evtLogRead, 4294967295), (O.evtLogWrite, unread - 1)] with mem := [(131041, 1)] }
theorem witness_EventSystem_5 : ∀ p ∈ [(0, 0, 4094), (1, 0, 4095), (0, 0, 4095), (0, 1, 4095), (1, 1, 4096)], let s := wRing p.1 p.2.1 p.2.2
    s.ev.lastDrain + 64 ≤ (s.at 4000).tick / 60 ∧ s.ev.ringAt = [(0, 131072)] ∧ s.ev.fifo = wRecord 4 :: [] ∧ s.ev.lostOwed = false ∧ (wRecord 4).detail.length ≤ 12 ∧ s.obj O.evtLogWrite < 4294967296 ∧
      s.obj O.evtRingPolicy = p.1 ∧ s.unread = p.2.2 ∧ s.obj O.evtRingFull = p.2.1 ∧ bit (leAt (s.ringSlot (s.obj O.evtLogRead)) 1 1) 2 = false ∧ s.obj O.evtLogRead < 4294967296 := by decide +kernel
theorem witness_LogAcknowledgement_1 : wWrite (wState [(O.evtLogWrite, 9), (O.evtLogRead, 5)]) O.evtLogRead (beBytes 4 10) (fun s => serialAbove 10 (s.obj O.evtLogWrite)) = true ∧
    wWrite (wState [(O.evtLogWrite, 9), (O.evtLogRead, 5)]) O.evtLogRead (beBytes 4 4) (fun s => !serialAbove 4 (s.obj O.evtLogWrite) && serialAbove (s.obj O.evtLogRead) 4) = true ∧
    [0, 1].all (fun p => wWrite (wState [(O.evtLogWrite, 9), (O.evtLogRead, 5), (O.evtRingPolicy, p)]) O.evtLogRead (beBytes 4 9)
      (fun s => !serialAbove 9 (s.obj O.evtLogWrite) && !serialAbove (s.obj O.evtLogRead) 9 && s.obj O.evtRingPolicy == p)) = true := by decide +kernel
theorem witness_EventSystem_7 : [O.evtLogReset].all (fun r => wWrite (wState []) r [1] (fun _ => true)) = true ∧
    [O.evtLostMap, O.evtCountClear].all (fun r => wWrite (wState []) r (fill 31 0 ++ [5]) (fun _ => true)) = true ∧ maskBit (fill 31 0 ++ [5]) 0 = true ∧ maskBit (fill 31 0 ++ [5]) 1 = false := by decide +kernel
theorem witness_EventSystem_8 : let s := (wEv { satBits := 2 ^ 9 + 2 ^ 252 } []).setBlob O.evtMask (List.replicate 32 255)
    maskBit (s.blob O.evtMask) 9 = true ∧ bit s.ev.satBits 9 = true ∧ bit s.ev.satBits 252 = true ∧ maskBit ((wState []).blob O.evtMask) 9 = false ∧ bit (wEv { satBits := 2 ^ 9 } []).ev.satBits 9 = true := by decide +kernel
theorem witness_EventSystem_9 : let r : Record := { wRecord 4 with detail := fill 20 7 }
    let s := wRing 0 0 4093
    let s : State := { s with ev := { s.ev with fifo := [r] } }
    s.ev.lastDrain + 64 ≤ (s.at 4000).tick / 60 ∧ s.ev.ringAt = [(0, 131072)] ∧ s.ev.fifo = r :: [] ∧ s.ev.lostOwed = false ∧ 12 < r.detail.length ∧ s.obj O.evtLogWrite < 4294967296 ∧ s.obj O.evtRingPolicy = 0 ∧ s.unread ≤ 4093 := by
  decide +kernel
theorem witness_LogAcknowledgement_2 : (wRing 0 0 4093).ev.ringAt = [(0, 131072)] ∧ (wRing 0 0 4093).obj O.evtLogWrite < 4294967296 ∧ (wRing 0 0 4093).obj O.evtLogRead < 4294967296 ∧ (wRecord 4).pair = false ∧
    ({ wRecord 4 with detail := fill 20 7 } : Record).pair = true := by decide +kernel

/-- Firmware state with nothing in the flash and two records. -/
def wSec0 : SecSt := { records := [[], []], slots := [[], []], keys := [[], [], [], []], configs := [(0, []), (0, [])], rollback := 3, digests := [[], [], [], []], revoked := 0 }
def wFw (x : SecSt) (objs : List (Nat × Nat)) : State := { wState objs with sec := x }
def wBoot (x : SecSt) : State := wLock true { wFw x [(O.ptlState, boot)] with power := { good := 15 } }
theorem witness_FirmwareLife_1 : (wBoot wSec0).opState = boot ∧ (wBoot wSec0).sec.rescue = false ∧ bits (wBoot wSec0).power.good 3 0 = 15 ∧ (wBoot wSec0).time.pllLocked = true ∧ (wBoot wSec0).sec.slots = [[], []] ∧
    (wState []).opState ≠ boot ∧ (wBoot { wSec0 with rescue := true }).sec.rescue = true ∧ (wFw wSec0 []).sec.records.length = 2 := by decide +kernel
def wStageFw (head : List Byte) (f : Bool) : State :=
  let s := wFw { wSec0 with rescue := false } []
  { s with resil := { s.resil with xfers := [(1, wXfer (if f then O.secStage else O.calRestore) head)] } }
theorem witness_FirmwareLife_2 : ∀ p ∈ [([1, 2, 3, 4, 5], 0x04030201, 5), ([0x46, 0x4C, 0x49, 0x4D, 5], 0x4D494C46, 5), ([0x46, 0x4C, 0x49, 0x4D, 1], 0x4D494C46, 1)],
    let s := wStageFw p.1 true
    s.resil.xfers = [(1, wXfer O.secStage p.1)] ∧ (wXfer O.secStage p.1).ref = O.secStage ∧ (wXfer O.secStage p.1).whole = true ∧ (wXfer O.secStage p.1).toHost = false ∧ s.sec.rescue = false ∧
      leAt (wXfer O.secStage p.1).data 0 4 = p.2.1 ∧ leAt (wXfer O.secStage p.1).data 4 1 = p.2.2 ∧ (∀ e ∈ (wStageFw p.1 false).resil.xfers, e.2.ref ≠ O.secStage) := by decide +kernel
theorem witness_FirmwareLife_3 : [1, 2].all (fun a => wWrite (wFw wSec0 [(O.secActivateState, a)]) O.secActivate [1] (fun s => s.obj O.secActivateState == a)) = true ∧
    wWrite (wFw wSec0 [(O.ptlState, startup)]) O.secActivate [1] (fun s => !s.activating && decide (s.opState < normal)) = true ∧
    wWrite { wFw wSec0 [(O.ptlState, standby)] with power := { awake := true } } O.secActivate [1] (fun s => !s.activating && s.opState == standby) = true ∧
    wWrite (wFw wSec0 []) O.secActivate [1] (fun s => !s.activating && s.opState == normal && s.slotState 0 != 2 && s.slotState 1 != 2) = true ∧
    [0, 1].all (fun k => [0, 1].all fun r => wWrite ((wFw wSec0 [(O.secSlotState, if k = 0 then 0x0200 else 0x0002)]).setTg 1 { running := r == 1, frame := 4 }) O.secActivate [1]
      (fun s => !s.activating && s.opState == normal && s.slotState k == 2 && s.slotState (1 - k) != 2 && s.sec.records.length == 2 && ((List.range 4).any s.showing == (r == 1)))) = true := by decide +kernel
/-- A trial from slot `k` that began 6 ticks after reset, the other slot's firmware before it. -/
def wTrial (k : Nat) (due : Bool) : State := wFw { wSec0 with target := k, old := 1 - k, started := 6, revertDue := due } [(O.secActivateState, 2), (O.secFwSlot, k)]
theorem witness_FirmwareLife_4 : ∀ k < 2, (let s := wTrial k false
      s.obj O.secActivateState = 2 ∧ s.resil.procDown = false ∧ s.sec.revertDue = false ∧ s.sec.started + secTicks (s.obj O.secConfirmTime) ≤ (s.at (6 + secTicks (s.obj O.secConfirmTime))).tick ∧
        (s.at 0).tick < s.sec.started + secTicks (s.obj O.secConfirmTime) ∧ s.obj O.secFwSlot = k ∧ s.sec.records.length = 2 ∧ s.sec.started + 10312500000 ≤ (s.at 10312500006).tick ∧ s.sec.target = k ∧
        s.sec.old = 1 - s.sec.target ∧ (s.at 0).tick < s.sec.started + 10312500000) ∧ (wTrial k true).sec.revertDue = true ∧ (wTrial k true).sec.old = 1 - (wTrial k true).sec.target ∧
      (wFw wSec0 []).obj O.secActivateState ≠ 2 := by decide +kernel
def wDown (b : Bool) (x : SecSt) (objs : List (Nat × Nat)) : State := let s := wFw x objs; { s with resil := { s.resil with procDown := b } }
theorem witness_FirmwareLife_5 : (wDown true wSec0 []).resil.procDown = true ∧ (wState [(O.ptlState, cold)]).opState = cold ∧ (wState [(O.ptlState, boot)]).opState = boot ∧
    (∀ st ∈ [startup, normal, test, recovery], let s := wDown false { wSec0 with restarts := [3, 4] } [(O.ptlState, st), (O.secActivateState, 2)]
      s.resil.procDown = false ∧ startup ≤ s.opState ∧ s.opState ≤ recovery ∧ s.obj O.secActivateState = 2 ∧ 2 ≤ (s.sec.restarts.filter fun r => decide ((s.at 9).tick < r + 618750000000)).length) ∧
    (∀ b : Bool, (wDown true { wSec0 with newCode := b } []).resil.procDown = true ∧ (wDown true { wSec0 with newCode := b } []).sec.newCode = b) ∧ (wDown false wSec0 []).resil.procDown = false := by decide +kernel
theorem witness_FirmwareLife_6 : wWrite (wFw wSec0 [(O.pwrRecoveryCause, 7)]) O.secFwClear [1] (fun s => s.obj O.pwrRecoveryCause == 7) = true := by decide +kernel

theorem witness_Security_1 : [1, 2].all (fun a => wWrite (wFw wSec0 [(O.secQuoteState, a)]) O.secQuoteReq (fill 32 7) (fun s => s.obj O.secQuoteState == a)) = true ∧ (wFw wSec0 []).sec.quote = none ∧
    (wFw { wSec0 with quote := some (fill 32 7) } []).sec.quote = some (fill 32 7) ∧ (fill 32 7).length = 32 := by decide +kernel
theorem witness_Security_2 : ∀ n ∈ [7, 4096], wWrite ((wFw wSec0 [(O.secLogCount, n)]).setBlob O.secMeas (fill 512 0)) O.secExtend (fill 64 1) (fun s => (s.blob O.secMeas).length == 512 && s.obj O.secLogCount == n) = true := by decide +kernel
/-- The public key of slot `n` as it is written. -/
def wKey (n : Nat) : List Byte := [BitVec.ofNat 8 n] ++ fill 7 0 ++ fill 1793 9 ++ fill 7 0
theorem witness_Security_3 : [0, 5].all (fun n => wWrite (wFw wSec0 [(O.netJumbo, 1)]) O.secKeyEnrol (wKey n) (fun _ => leAt (wKey n) 0 1 == n)) = true ∧
    [0, 15].all (fun m => wWrite (wFw { wSec0 with revoked := m } [(O.netJumbo, 1)]) O.secKeyEnrol (wKey 4) (fun s => leAt (wKey 4) 0 1 == 4 && slice (wKey 4) 1 7 == fill 7 0 && (wKey 4).drop 1801 == fill 7 0 &&
      (s.sec.keyState 4 == if m = 0 then 0 else 2) && s.sec.digests.length == 4 && s.sec.keys.length == 4)) = true := by decide +kernel
theorem witness_Security_4 : [1, 4].all (fun n => wWrite (wFw wSec0 []) O.secKeyRevoke (beBytes 1 n) (fun _ => true)) = true := by decide +kernel
theorem witness_Security_5 : [(3, true), (65, true), (64, false), (4, false)].all (fun p => wWrite (wFw wSec0 [(O.secRollback, 3)]) O.secRollbackAdvance (beBytes 1 p.1)
    (fun s => (decide (p.1 ≤ s.obj O.secRollback) || decide (64 < p.1)) == p.2 && [0, 1].all fun k => !([2, 3, 4].contains (s.slotState k)))) = true := by decide +kernel
/-- An unlock of a kind by a key, with a signature of zeros. -/
def wUnlock (level key : Nat) (rest : List Byte) : List Byte := [BitVec.ofNat 8 level, BitVec.ofNat 8 key] ++ fill 6 0 ++ rest
def wChallenged (c : Option (List Byte × Nat)) : State := wFw { wSec0 with challenge := c } []
theorem witness_Security_6 : [0, 1, 2].all (fun l => [none, some ([1], 5)].all fun c => wWrite (wChallenged c) O.secJtagUnlock (wUnlock l 1 (fill 1280 0)) (fun s =>
      leAt (wUnlock l 1 (fill 1280 0)) 0 1 == l && slice (wUnlock l 1 (fill 1280 0)) 2 6 == fill 6 0 && s.sec.challenge == c)) = true ∧
    wWrite (wChallenged (some ([1], 5))) O.secJtagUnlock (wUnlock 2 1 (fill 1280 0)) (fun s => leAt (wUnlock 2 1 []) 1 1 != 0 && s.sec.challenge == some ([1], 5)) = true ∧
    wWrite (wChallenged (some ([1], 5))) O.secJtagUnlock (wUnlock 1 5 (fill 1280 0)) (fun s => decide (4 < leAt (wUnlock 1 5 []) 1 1) && s.sec.challenge == some ([1], 5)) = true ∧
    5 + 618750000000 < (({ wChallenged (some ([1], 5)) with tick := 618750000006 } : State).at 0).tick := by decide +kernel
theorem witness_Security_7 : wWrite (wFw wSec0 [(O.secJtagState, 2)]) O.secJtagLock [1] (fun s => s.obj O.secJtagState == 2) = true ∧
    ∀ j < 3, (wFw wSec0 [(O.secJtagState, j)]).obj O.secJtagState = j := by decide +kernel
theorem witness_Security_8 : wWrite (wFw wSec0 [(O.secActivateState, 2)]) O.secConfigSave [1] (fun s => s.obj O.secActivateState == 2) = true ∧
    wWrite (wFw wSec0 []) O.secConfigSave [1] (fun s => !s.activating && s.resil.xfers == []) = true ∧
    wWrite (wStageFw [1] true) O.secConfigSave [1] (fun s => !s.activating && s.resil.xfers.any fun e => e.2.ref == O.secStage) = true := by decide +kernel

/-- The control objects whose writes have a frame. -/
def wRefs : List Nat := [O.timeSet, O.slmPlanStage 1, O.slmPlanSwap 1, O.slmCompressionCredit, O.gateIntlkRearm, O.gateEnable 1, O.gateRearm 1, O.gateFadeLevel 1, O.lwEnable 1, O.lwRearm 1, O.lwLimits 1, 
  O.moutEnable 1, O.moutLaneRestore 1, O.moutFreezeClear 1, O.layAlloc, O.layBufFree 1, O.layFlip 1, O.layFenceDone 1, O.layPlaylist 1, O.layPlay 1, O.crvClOnline 1, O.crvKernelRemove, 
  O.crvJob, O.crvJobCancel, O.codecJob, O.codecJobCancel, O.memFreqTarget, O.memTsetSel, O.intgSweep, O.intgSweepCancel, O.intgRetireList, O.hierNodeId, O.hierFence, O.hierStbProbe, 
  O.hierNodeCapture, O.hierNodeRelease, O.hierNodeAdopt, O.loopMode 1, O.loopFlags 1, O.loopSetClear 1, O.calRun, O.calCancel, O.ageVcoreTarget, O.ptlWakeAt, O.ptlRule 1, O.ptlRuleClear 1, 
  O.pwrStateReq, O.evtLogRead, O.evtLogReset, O.evtLostMap, O.evtCountClear, O.secActivate, O.secQuoteReq, O.secExtend, O.secKeyEnrol, O.secKeyRevoke, O.secRollbackAdvance, O.secJtagUnlock, 
  O.secJtagLock, O.secConfigSave, O.secFwClear, O.lwPeriod, O.lwDrivers 1, O.memInterleave, O.memHash, O.memBankHash, O.loopSpSrc 1, O.loopSetpoint 1, 0x300000 + 256 + coefSub 5]
theorem witness_FramesOfWrites : wRefs.all (fun r => wTake (wState []) 2 (valueForm r [1]) (fastWrite r) (fun _ _ => true)) = true := by decide +kernel
theorem witness_FramesOfEvents : ∃ s', exec (.rootPllLockLoss 5) (wState []) = .next s' := ⟨_, rfl⟩
theorem witness_FramesOfParts : ∃ s', exec (.tapInstruction 5 0 0) (wState []) = .next s' ∧ Part.hier ∉ reach (.tapInstruction 5 0 0) := ⟨_, rfl, by decide⟩

theorem witness_StoresStayCanonical : State.reset.storesOk = true ∧ ∃ s', step State.reset = .next s' := ⟨by decide +kernel, _, rfl⟩
theorem witness_RoundTrips_1 : 65535 < 256 ^ 2 ∧ stimeOk (2 ^ 96 - 1 - 2 ^ 48 + 999999999 * 65536 + 65535) = true ∧ 2 ^ 96 - 1 - 2 ^ 48 + 999999999 * 65536 + 65535 < 2 ^ 96 := by decide
theorem witness_RoundTrips_2 : wEntry.ok = true ∧ ({ wEntry with last := false } : Entry).ok = true ∧ ([{ wEntry with last := false }, wEntry] : List Entry).length ≤ 512 ∧
    (∀ e ∈ ([{ wEntry with last := false }, wEntry] : List Entry).dropLast, e.last = false) ∧ (∀ e ∈ ([{ wEntry with last := false }, wEntry] : List Entry).getLast?, e.last = true) := by decide +kernel
theorem witness_RoundTrips_3 : (∀ p ∈ [(O.dictUdpPort, beBytes 2 5)], p.1 < 2 ^ 24 ∧ 0 < p.1 ∧ p.2.length < 65536) ∧ (∀ e ∈ [(0x2110, 3, [1])], e.1 < 65536 ∧ e.2.2.length < 65536 ∧ e.2.1 < 5) := by decide +kernel
theorem witness_StepRunsFrontCommand : ({ State.reset with pending := [.vauxRelease 5] } : State).pending = .vauxRelease 5 :: [] ∧ State.reset.pending = [] := by decide +kernel

/-! ### Ill-formed requests: one for each check -/

def wGood : Req := ⟨1, 65535, 65535, 4294967295, 65535, List.replicate 16 0, 0, 0, 0, 0, 0, 0⟩
theorem test_req_good : wGood.wf = true := by decide
theorem test_req_wide_ver : ({ wGood with ver := 256 } : Req).wf = false := by decide
theorem test_req_wide_node : ({ wGood with node := 65536 } : Req).wf = false := by decide
theorem test_req_wide_session : ({ wGood with session := 65536 } : Req).wf = false := by decide
theorem test_req_wide_seq : ({ wGood with seq := 4294967296 } : Req).wf = false := by decide
theorem test_req_wide_length : ({ wGood with length := 65536 } : Req).wf = false := by decide
theorem test_req_short_tag : ({ wGood with tag := List.replicate 15 0 } : Req).wf = false := by decide

/-! ### The spec's worked examples -/

/-- R105: the CRC of the ASCII string "123456789". -/
theorem test_lamp_crc : crc 16 0x1021 0xFFFF [0x31, 0x32, 0x33, 0x34, 0x35, 0x36, 0x37, 0x38, 0x39] = 0x29B1 := by decide +kernel
/-- Table 01-9: 50 Hz to 60000/1001 Hz, accepted at 1,700,000,000.012345678 s: B_old is old boundary 85,000,000,002 and B_new is new boundary 101,898,101,901. -/
theorem test_commit_old : (⟨1, 50, 0⟩ : Timing).firstFrom ((⟨1700000000 * 82500000000 + 1018518435, 8⟩ : Instant).plusFrac (1 * ticksPerSec) 50) = 85000000002 := by decide +kernel
theorem test_commit_new : (⟨1001, 60000, 0⟩ : Timing).firstFrom (((⟨1, 50, 0⟩ : Timing).boundary 85000000002).plus darkTicks) = 101898101901 := by decide +kernel
theorem test_commit_ticks : ((⟨1001, 60000, 0⟩ : Timing).boundary 101898101901).num = (1700000000 * 10312500000 + 498609375) * 60000 := by decide +kernel
/-- Table 06-8: a 4096 × 2160 array loads in 412,434 ticks over 23 lanes and in 430,254 over 22. -/
theorem test_load_23 : 66 * withAm (stripesOf 4096 2160 23 (packetCount 2160)) + 1650 = 412434 := by decide +kernel
theorem test_load_22 : 66 * withAm (stripesOf 4096 2160 22 (packetCount 2160)) + 1650 = 430254 := by decide +kernel
/-- Table 04-3: midway between two compensation points. -/
theorem test_gain_midpoint : interp [(35000, 63570), (40000, 62587)] 37500 = 63079 := by decide
theorem test_dx_midpoint : interp [(35000, 3200), (40000, 4800)] 37500 = 4000 := by decide
/-- R195: 2-bit components widened to 16 bits. -/
theorem test_widen : [0, 1, 2, 3].map (widen16 2) = [0, 21845, 43690, 65535] := by decide
/-- Table 09-5: k after zero runs 2 and 5 and after one runs 1 and 2. -/
theorem test_rice_zero : (([0, 3096].foldl Ctx.next ⟨16, 1⟩).k, ([0, 3096, 3096, 3096, 3096].foldl Ctx.next ⟨16, 1⟩).k) = (11, 12) := by decide +kernel
theorem test_rice_one : (([1000].foldl Ctx.next ⟨16, 1⟩).k, ([1000, 1000].foldl Ctx.next ⟨16, 1⟩).k) = (9, 10) := by decide +kernel
/-- Table 16-7: the points of B0's sweep give 0.75 counts per code from code 8,000. -/
def wSweep : List (Int × Nat × Nat) := [(24000, 40000), (21000, 36000), (18000, 32000), (15000, 28000), (18000, 32000), (21000, 36000), (24000, 40000)].map fun p => ((p.1 * 256 * 64 : Int), 64, p.2 * 64)
theorem test_sweep_fit : fitSweep 100 wSweep = some (3 / 4, 8000) := by decide +kernel
/-- Table 15-3: loops 0, 1 and 2 sampled at 0.000 ms. -/
def wBank (l kp ki i : Nat) : State := wState [(O.loopKp l 0, kp), (O.loopKi l 0, ki), (O.loopInt l, i)]
theorem test_loop_0 : ((wBank 0 0x2A 0x28 39997).loopLaw 0 ⟨some 0, none, none, 3316, 40000, 40000, false, false⟩ 0).u = 40013 := by decide +kernel
theorem test_loop_1 : ((wBank 1 0 0x22 40400).loopLaw 1 ⟨some 44900, none, none, 45000, 40000, 40400, false, false⟩ 44900).u = 40025 := by decide +kernel
theorem test_loop_2 : ((wBank 2 0 0x23 40800).loopLaw 2 ⟨some 48000, none, none, 60000, 40000, 40800, false, false⟩ 48000).u = 41500 := by decide +kernel
/-- After R65: the first entry of the worked example and its bytes in memory. -/
def wFirst : Entry := { start := 0, winLen := 393216, winOff := 41250, banks := 7, plane := 96, view := 1, prim := 0, bit := 15, sub := 0, level := 0, settle := 0, sample := true, last := false, rsv := false }
theorem test_entry_word : leBytes 16 wFirst.word = [0x04, 0xE0, 0x11, 0x30, 0x07, 0x00, 0x22, 0xA1, 0x00, 0x00, 0x60, 0, 0, 0, 0, 0] := by decide +kernel
/-- The worked example of chapter 02: its base plan has 384 entries and leaves 4 × 721,106 ticks; with bit 15 split in group V1/A, entry 16 starts at 6,648,058. -/
def wPlan : State := wState ([(O.tgPeriod 0, 2 ^ 32 + 60), (O.tgSlotCount 0, 3), (O.tgSlot 0 0, 2 ^ 60 + 42968750), (O.tgSlot 0 1, 2 * 2 ^ 60 + 42968750 * 2 ^ 30 + 42968750),
  (O.tgSlot 0 2, 3 * 2 ^ 60 + 85937500 * 2 ^ 30 + 42968750), (O.slmPrimaries 0, 63)] ++
  (List.range 16).flatMap fun b => [(O.gateOutput b, 0), (O.gatePrimary b, [0, 0, 0, 1, 1, 1, 2, 2, 2, 3, 3, 3, 4, 4, 5, 5].getD b 0)])
def wCfg : PlanCfg := wPlan.planCfg wPlan.obj 0
theorem test_base_plan : (wCfg.base.map fun p => (p.length, wCfg.slack p)) = some (384, 4 * 721106) := by decide +kernel
theorem test_split_plan : ((wCfg.pack [((1, 0, 15), 2)]).bind fun p => p[16]?.map fun e => (e.bit, e.sub, e.start, e.winLen)) = some (15, 1, 6648058, 393216) := by decide +kernel

end Sys2Proof.Machine
end

section
/-! What a request that is taken leaves behind: its session record, and the answer of a write that comes to its effect (R375, R377, R381). -/

namespace Sys2Proof.Machine

variable (s : State)

/-! ### The session record -/

@[simp] theorem State.session?_setSession (n : Nat) (x : Session) : (s.setSession n x).session? n = some x :=
  kvFind_insert_self _ n x

@[simp] theorem State.session?_setCarve (c : CarveSt) (n : Nat) : (s.setCarve c).session? n = s.session? n := rfl

@[simp] theorem State.session?_emit (m : Tx) (n : Nat) : (s.emit m).session? n = s.session? n := rfl

@[simp] theorem State.session?_bump (ref n : Nat) : (s.bump ref).session? n = s.session? n := by
  simp [State.session?]

/-- The processor path changes counters, queue objects and the episode of BUSY: no session record (R383). -/
@[simp] theorem State.session?_enqueue (num n : Nat) (x : Session) (q : Req) : (s.enqueue num x q).2.session? n = s.session? n := by
  simp only [State.enqueue, State.raiseSession]
  split <;> split <;> simp [State.session?]

variable {s}

/-- A request that is taken runs with its session's own record, and is not that session's last (R377). -/
theorem takes_session {s1 : State} {q : Req} {op : Nat} {payload : List Byte} {fast : Bool} {x : Session}
    (h : s.takes q op payload fast = some (x, s1)) : s1.session? q.session = some x ∧ x.requests < 2147483648 := by
  simp only [State.takes, Option.ite_none_left_eq_some] at h
  obtain ⟨-, h⟩ := h
  split at h
  · cases h
  case h_2 y hy =>
    simp only [Option.ite_none_left_eq_some] at h
    obtain ⟨hlast, -, -, -, h⟩ := h
    have hreq : y.requests < 2147483647 := by simp at hlast; omega
    split at h
    · cases h
    case h_2 s2 hpath =>
      cases h
      have hst := congrArg Prod.snd hpath
      dsimp only at hst
      refine ⟨?_, by dsimp only; omega⟩
      rw [← hst]
      cases fast <;> simp

/-! ### The answer -/

variable (s)

@[simp] theorem respond_carve (x : Session) (q : Req) (op status : Nat) (payload : List Byte) :
    (s.respond x q op status payload).carve = s.carve := by
  simp only [State.respond]
  split
  · rfl
  · split <;> rfl

/-- A response leaves the session's count of requests as it is (R377). -/
theorem respond_requests {n : Nat} (x : Session) (q : Req) (op status : Nat) (payload : List Byte)
    (h : ∀ y, s.session? q.session = some y → y.requests < n) (y : Session)
    (hy : (s.respond x q op status payload).session? q.session = some y) : y.requests < n := by
  simp only [State.respond, State.session?_emit] at hy
  cases hs : s.session? q.session with
  | none => simp [hs] at hy
  | some z =>
    have hkept : y.requests = z.requests := by
      simp only [hs] at hy
      split at hy <;> (rw [State.session?_setSession] at hy; cases hy; rfl)
    rw [hkept]
    exact h z hs

/-- A response is the last thing emitted, with the status and bytes it was given (R371). -/
@[simp] theorem respond_answered (x : Session) (q : Req) (op status : Nat) (payload : List Byte) :
    (s.respond x q op status payload).answered q op status payload = true := by
  simp [State.respond, State.answered, Msg.tagged]

variable {s}

/-- An executed write whose effect leaves its session's record alone answers with what the effect gives, and the session goes on (R375, R377, R381). -/
theorem hostWrite_writable {s1 : State} {q : Req} {ref : Nat} {v : List Byte} {eff : Effect} {x : Session} {a : Ans}
    (h : s.takesWrite q ref v = some (x, s1)) (hw : s1.writable x ref v = true) (ha : ∀ r, eff q.session x r ref v s1 = a)
    (hs : a.st.session? q.session = s1.session? q.session) :
    s.hostWrite q ref v eff = a.st.respond x q 0x02 a.status (refBytes ref ++ a.result) := by
  obtain ⟨r, n, -, heff, hcheck⟩ := writeOne_writable (num := q.session) (eff := eff) hw
  obtain ⟨hx, hreq⟩ := takes_session h
  rw [hostWrite_takes h hcheck, heff, ha r]
  refine limitSession_eq _ _ (respond_requests _ x q _ _ _ fun y hy => ?_)
  rw [hs, hx] at hy
  cases hy
  exact hreq

/-- A refused write answers with its status and its reference, and does nothing else (R375). -/
theorem hostWrite_refused {s1 : State} {q : Req} {ref status : Nat} {v : List Byte} {eff : Effect} {x : Session}
    (h : s.takesWrite q ref v = some (x, s1)) (hw : s1.writable x ref v = true) (ha : ∀ r, eff q.session x r ref v s1 = refuse s1 status) :
    s.hostWrite q ref v eff = s1.respond x q 0x02 status (refBytes ref) := by
  rw [hostWrite_writable h hw ha rfl]
  simp [refuse]

/-- A write that is done answers OK with its reference, from the state its effect leaves (R375). -/
theorem hostWrite_done {s1 s2 : State} {q : Req} {ref : Nat} {v : List Byte} {eff : Effect} {x : Session}
    (h : s.takesWrite q ref v = some (x, s1)) (hw : s1.writable x ref v = true) (ha : ∀ r, eff q.session x r ref v s1 = done s2)
    (hs : s2.session? q.session = s1.session? q.session) :
    s.hostWrite q ref v eff = s2.respond x q 0x02 St.ok (refBytes ref) := by
  rw [hostWrite_writable h hw ha hs]
  simp [done]

end Sys2Proof.Machine
end

section
/-! The write of `CRV_KERNEL_REMOVE` (R249). -/

namespace Sys2Proof.Machine

variable {s : State}

/-- The installed kernels without those of identifier `id`. -/
def State.withoutKernel (s : State) (id : Nat) : State :=
  s.setCarve { s.carve with kernels := s.carve.kernels.filter fun k => k.id != id }

theorem kernel?_withoutKernel_self (s : State) (id : Nat) : (s.withoutKernel id).kernel? id = none := by
  simp [State.withoutKernel, State.kernel?, List.find?_filter]

theorem kernel?_withoutKernel_ne (s : State) {id i : Nat} (h : i ≠ id) : (s.withoutKernel id).kernel? i = s.kernel? i := by
  simp only [State.withoutKernel, State.kernel?, State.setCarve_self, List.find?_filter]
  congr 1
  funext k
  by_cases hk : k.id = i <;> simp [hk, h]

@[simp] theorem respond_kernel? (s : State) (x : Session) (q : Req) (op status : Nat) (payload : List Byte) (id : Nat) :
    (s.respond x q op status payload).kernel? id = s.kernel? id := by
  simp only [State.kernel?, respond_carve]

/-- A kernel that a chain or a job names stays (R249). -/
theorem effKernelRemove_inUse {num ref : Nat} {x : Session} {r : ObjRow} {v : List Byte} (hk : (s.kernel? (beNat v)).isSome = true)
    (hn : beNat v ∈ s.chainsNamed ∨ ∃ j ∈ s.carve.jobs, j.2.kernel = beNat v) :
    effKernelRemove num x r ref v s = refuse s St.kernelInUse := by
  have hused : (s.chainsNamed.contains (beNat v) || s.carve.jobs.any fun j => j.2.kernel == beNat v) = true := by
    simpa using hn
  simp only [effKernelRemove, if_pos hused, Option.isNone_eq_false_iff.mpr hk, Bool.false_eq_true, if_false]

/-- A kernel that no chain and no job names is removed (R249). -/
theorem effKernelRemove_free {num ref : Nat} {x : Session} {r : ObjRow} {v : List Byte} (hk : (s.kernel? (beNat v)).isSome = true)
    (hn : ¬(beNat v ∈ s.chainsNamed ∨ ∃ j ∈ s.carve.jobs, j.2.kernel = beNat v)) :
    effKernelRemove num x r ref v s = done (s.withoutKernel (beNat v)) := by
  have hfree : ¬(s.chainsNamed.contains (beNat v) || s.carve.jobs.any fun j => j.2.kernel == beNat v) = true := by
    simpa using hn
  simp only [effKernelRemove, if_neg hfree, Option.isNone_eq_false_iff.mpr hk, Bool.false_eq_true, if_false]
  rfl

/-- The command runs the write's effect at the time of its request. -/
theorem exec_crvKernelRemove (t : Nat) (q : Req) (v : List Byte) (s : State) :
    exec (.crvKernelRemove t q v) s = .next ((s.at t).hostWrite q O.crvKernelRemove v effKernelRemove) := rfl

/-- Settles O25, by whether a chain or a job names the kernel: the write is refused, or takes the kernel out of the list. -/
theorem kernelRemoval : Obligations.KernelRemoval := by
  unfold Obligations.KernelRemoval
  intro t q v s s1 x h hw hk
  refine ⟨_, exec_crvKernelRemove t q v s, ?_⟩
  by_cases hn : beNat v ∈ s1.chainsNamed ∨ ∃ j ∈ s1.carve.jobs, j.2.kernel = beNat v
  · rw [hostWrite_refused h hw fun r => effKernelRemove_inUse hk hn]
    refine ⟨fun hchain hjobs => ?_, fun _ => ⟨respond_carve .., respond_answered ..⟩⟩
    obtain hc | ⟨j, hj, he⟩ := hn
    · exact absurd hc hchain
    · exact absurd he (hjobs j hj)
  · rw [hostWrite_done h hw (fun r => effKernelRemove_free hk hn) (State.session?_setCarve ..)]
    refine ⟨fun _ _ => ⟨?_, fun i hi => ?_, respond_answered ..⟩, fun hin => absurd hin hn⟩
    · rw [respond_kernel?, kernel?_withoutKernel_self]
    · rw [respond_kernel?, kernel?_withoutKernel_ne s1 hi]

end Sys2Proof.Machine
end

section
/-! Byte strings: what they spell, and how memory reads back what a port wrote (R9, R322). -/

namespace Sys2Proof.Machine

/-- The low `n` bytes of a number spell it modulo 256ⁿ. -/
theorem leNat_leBytes (n v : Nat) : leNat (leBytes n v) = v % 256 ^ n := by
  induction n generalizing v with
  | zero => simp [leBytes, leNat, Nat.mod_one]
  | succ n ih =>
    have hb : (BitVec.ofNat 8 v).toNat = v % 256 := by simp
    rw [leBytes, leNat, ih, hb, Nat.pow_succ', Nat.mod_mul]

/-- A little-endian field reads at its offset. -/
theorem leAt_leBytes {l : List Byte} {off : Nat} (h : l.length = off) (n v : Nat) (l' : List Byte) :
    leAt (l ++ (leBytes n v ++ l')) off n = v % 256 ^ n := by
  rw [leAt, slice, ← h, List.drop_left, List.take_left' (length_leBytes n v), leNat_leBytes]

@[simp] theorem length_padTo (n : Nat) (l : List Byte) : (padTo n l).length = n := by
  simp only [padTo, fill, List.length_take, List.length_append, List.length_replicate]
  omega

/-- Memory that holds the bytes of `l` one by one reads as `l`. -/
theorem bytes_eq {s : State} {a : Nat} {l : List Byte} (h : ∀ i (hi : i < l.length), s.byte (a + i) = l[i]) : s.bytes a l.length = l := by
  induction l generalizing a with
  | nil => rfl
  | cons b l ih =>
    have hhead : s.byte a = b := h 0 (by simp)
    have htail : s.bytes (a + 1) l.length = l := ih fun i hi => by
      have := h (i + 1) (by simpa using hi)
      rwa [show a + (i + 1) = a + 1 + i by omega] at this
    rw [List.length_cons, State.bytes, hhead, htail]

theorem bytes_congr {s t : State} {a n : Nat} (h : ∀ z, a ≤ z → z < a + n → s.byte z = t.byte z) : s.bytes a n = t.bytes a n := by
  induction n generalizing a with
  | zero => rfl
  | succ n ih =>
    have hhead : s.byte a = t.byte a := h a (by omega) (by omega)
    have htail : s.bytes (a + 1) n = t.bytes (a + 1) n := ih fun z _ _ => h z (by omega) (by omega)
    rw [State.bytes, State.bytes, hhead, htail]

variable (s : State)

/-- What a port writes reads back. -/
theorem portWrite_bytes_self (a : Nat) (l : List Byte) : (s.portWrite a l).bytes a l.length = l :=
  bytes_eq fun _ hi => portWrite_byte_in hi

/-- Bytes apart from what a port writes read as before. -/
theorem portWrite_bytes_apart {a b n : Nat} {l : List Byte} (h : b + n ≤ a ∨ a + l.length ≤ b) : (s.portWrite a l).bytes b n = s.bytes b n :=
  bytes_congr fun _ _ _ => portWrite_byte_out (by omega)

/-- A write that fits in the one extent of an object is a port's write at its place. -/
theorem extentWrite_single {a n off : Nat} {l : List Byte} (ho : off < n) (hl : off + l.length ≤ n) :
    s.extentWrite [(a, n)] off l = s.portWrite (a + off) l := by
  rw [State.extentWrite, if_neg (by omega), if_pos (by omega)]

end Sys2Proof.Machine
end

section
/-! What a port's write leaves as it is: the place of the log ring, and the objects beside the stale trackers' counters (R332, R503, R504). -/

namespace Sys2Proof.Machine

@[simp] theorem queueRaise_ringAt (s : State) (e : Nat) (vals : List Nat) : (s.queueRaise e vals).ev.ringAt = s.ev.ringAt := by
  unfold State.queueRaise
  split <;> rfl

@[simp] theorem countUp_ringAt (s : State) (lost : Bool) (e : Nat) : (s.countUp lost e).2.ev.ringAt = s.ev.ringAt := by
  cases lost <;> simp only [State.countUp, Bool.false_eq_true, if_false, if_true] <;> split <;> rfl

@[simp] theorem countEntry_ringAt (s : State) (lost : Bool) (e : Nat) : (s.countEntry lost e).ev.ringAt = s.ev.ringAt := by
  have hfirst := countUp_ringAt s lost e
  simp only [State.countEntry]
  split
  case h_1 s1 h1 => rwa [h1] at hfirst
  case h_2 s1 h1 =>
    have hself := countUp_ringAt s1 false 254
    rw [h1] at hfirst
    split
    case h_1 s2 h2 =>
      rw [h2] at hself
      rw [queueRaise_ringAt, hself, hfirst]
    case h_2 s2 h2 =>
      rw [h2] at hself
      rw [queueRaise_ringAt, queueRaise_ringAt, hself, hfirst]

@[simp] theorem raise_ringAt (s : State) (e : Nat) (vals : List Nat) : (s.raise e vals).ev.ringAt = s.ev.ringAt := by simp [State.raise]

@[simp] theorem saturate_ringAt (s : State) (ref : Nat) : (s.saturate ref).ev.ringAt = s.ev.ringAt := by
  unfold State.saturate
  split
  · rfl
  · dsimp only
    rw [raise_ringAt]
    split <;> rfl

@[simp] theorem bump_ringAt (s : State) (ref : Nat) : (s.bump ref).ev.ringAt = s.ev.ringAt := by
  unfold State.bump State.bumpBy
  split
  · rfl
  · split
    · rfl
    · split
      · rfl
      · rw [saturate_ringAt, State.setObj_ev]

/-- The log ring lies where it lay, and every object reads as before but the counters of pages that no stale tracker took, with `EVT_SAT_OVERFLOW`. -/
structure PortFrame (s t : State) : Prop where
  ringAt : t.ev.ringAt = s.ev.ringAt
  obj : ∀ z, z ≠ O.evtSatOverflow → (∀ c, z ≠ O.intgStaleOverflow c) → t.obj z = s.obj z

theorem PortFrame.refl (s : State) : PortFrame s s := ⟨rfl, fun _ _ _ => rfl⟩

theorem PortFrame.trans {s t u : State} (h : PortFrame s t) (h' : PortFrame t u) : PortFrame s u :=
  ⟨h'.ringAt.trans h.ringAt, fun z hz hc => (h'.obj z hz hc).trans (h.obj z hz hc)⟩

theorem setIntg_frame (s : State) (x : IntgSt) : PortFrame s (s.setIntg x) := ⟨rfl, fun _ _ _ => rfl⟩

theorem staleTouch_frame (s : State) (p : Nat) : PortFrame s (s.staleTouch p) := by
  unfold State.staleTouch
  dsimp only
  split
  · exact setIntg_frame s _
  · split
    · exact setIntg_frame s _
    · exact (setIntg_frame s _).trans ⟨bump_ringAt .., fun _ hz hc => bump_obj_ne _ (hc _) hz⟩

/-- A page of class GROOMED that is written is tracked as STALE (R332). -/
theorem groomedTouch_frame (s : State) (a p : Nat) : PortFrame s (if s.groomedAt a then s.staleTouch p else s) := by
  split
  · exact staleTouch_frame s p
  · exact .refl s

theorem blockWritten_frame (s : State) (a len : Nat) : PortFrame s (s.blockWritten a len) :=
  (setIntg_frame s _).trans (groomedTouch_frame _ a _)

theorem written_frame (s : State) (fuel a len : Nat) : PortFrame s (s.written fuel a len) := by
  induction fuel generalizing s a len with
  | zero => exact .refl s
  | succ fuel ih =>
    unfold State.written
    split
    · exact .refl s
    · exact (blockWritten_frame s a _).trans (ih ..)

theorem portWrite_frame (s : State) (a : Nat) (l : List Byte) : PortFrame s (s.portWrite a l) := by
  have hbytes : PortFrame s (s.setBytes a l) := by
    rw [setBytes_eq]
    exact ⟨rfl, fun _ _ _ => rfl⟩
  exact hbytes.trans (written_frame ..)

end Sys2Proof.Machine
end

section
/-! The records of the log ring: their form and their place under a sequence number (R495, R500). -/

namespace Sys2Proof.Machine

@[simp] theorem Record.length_head (r : Record) (seq : Nat) : (r.head seq).length = 32 := by
  simp [Record.head, length_leBytes]

@[simp] theorem Record.length_ext (r : Record) (seq : Nat) : (r.ext seq).length = 32 := by
  simp [Record.ext, length_leBytes]

/-- A record's SEQ field is its sequence number. -/
theorem Record.seq_head (r : Record) {seq : Nat} (h : seq < 4294967296) : leAt (r.head seq) 4 4 = seq := by
  rw [Record.head, List.append_assoc, List.append_assoc, List.append_assoc, List.append_assoc, leAt_leBytes (by simp [length_leBytes])]
  exact Nat.mod_eq_of_lt h

/-- An extension record has a SEQ of its own (R495). -/
theorem Record.seq_ext (r : Record) {seq : Nat} (h : seq < 4294967296) : leAt (r.ext seq) 4 4 = seq := by
  rw [Record.ext, List.append_assoc, leAt_leBytes (by simp [length_leBytes])]
  exact Nat.mod_eq_of_lt h

/-- `EVT_LOG_WRITE` wraps modulo 2³². -/
theorem topOf_evtLogWrite : topOf O.evtLogWrite = 4294967295 := rfl

/-- The counters of untracked pages are the objects of sub-index 0x0A of their tables. -/
theorem ne_intgStaleOverflow {z : Nat} (h : refSub z ≠ 0x0A) (c : Nat) : z ≠ O.intgStaleOverflow c := by
  unfold refSub at h
  unfold O.intgStaleOverflow
  omega

section
variable {s : State} {a : Nat} (src : Nat) {f : Nat → List Byte} (hring : s.ev.ringAt = [(a, 131072)]) (hf : ∀ w, (f w).length = 32)
include hring hf

/-- A ring record is a port's write of 32 bytes at the slot of `EVT_LOG_WRITE`, which then moves on; subscriptions take it beside (R500, R502). -/
theorem ringRecord_eq : ∃ subs, s.ringRecord src f =
    ((s.portWrite (a + 32 * (s.obj O.evtLogWrite % 4096)) (f (s.obj O.evtLogWrite))).advance O.evtLogWrite 1).setSubs subs := by
  have hplace := extentWrite_single s (a := a) (n := 131072) (off := 32 * (s.obj O.evtLogWrite % 4096)) (l := f (s.obj O.evtLogWrite))
    (by omega) (by rw [hf]; omega)
  rw [State.ringRecord, hring, hplace]
  exact ⟨_, rfl⟩

theorem ringRecord_ringAt : (s.ringRecord src f).ev.ringAt = [(a, 131072)] := by
  obtain ⟨subs, h⟩ := ringRecord_eq src hring hf
  rw [h, State.setSubs_ev, State.advance, State.setObj_ev, (portWrite_frame ..).ringAt, hring]

/-- A record written counts once, modulo 2³² (R500). -/
theorem ringRecord_logWrite : (s.ringRecord src f).obj O.evtLogWrite = (s.obj O.evtLogWrite + 1) % 4294967296 := by
  obtain ⟨subs, h⟩ := ringRecord_eq src hring hf
  rw [h, State.setSubs_obj, State.advance, State.obj_setObj, (portWrite_frame ..).obj _ (by decide) (ne_intgStaleOverflow (by decide)), topOf_evtLogWrite]

theorem ringRecord_obj_ne {z : Nat} (hw : z ≠ O.evtLogWrite) (hz : z ≠ O.evtSatOverflow) (hc : ∀ c, z ≠ O.intgStaleOverflow c) :
    (s.ringRecord src f).obj z = s.obj z := by
  obtain ⟨subs, h⟩ := ringRecord_eq src hring hf
  rw [h, State.setSubs_obj, State.advance, State.obj_setObj_ne _ _ hw, (portWrite_frame ..).obj _ hz hc]

/-- Writing a record acknowledges nothing. -/
theorem ringRecord_logRead : (s.ringRecord src f).obj O.evtLogRead = s.obj O.evtLogRead :=
  ringRecord_obj_ne src hring hf (by decide) (by decide) (ne_intgStaleOverflow (by decide))

/-- Memory after a record is memory after the port's write of it. -/
theorem ringRecord_bytes (b n : Nat) :
    (s.ringRecord src f).bytes b n = (s.portWrite (a + 32 * (s.obj O.evtLogWrite % 4096)) (f (s.obj O.evtLogWrite))).bytes b n := by
  obtain ⟨subs, h⟩ := ringRecord_eq src hring hf
  rw [h]
  exact bytes_congr fun _ _ _ => rfl

/-- The slot of `EVT_LOG_WRITE` takes the record under that SEQ (R500). -/
theorem ringRecord_slot : (s.ringRecord src f).bytes (a + 32 * (s.obj O.evtLogWrite % 4096)) 32 = f (s.obj O.evtLogWrite) := by
  have hself := portWrite_bytes_self s (a + 32 * (s.obj O.evtLogWrite % 4096)) (f (s.obj O.evtLogWrite))
  rwa [hf, ← ringRecord_bytes src hring hf] at hself

/-- Every other slot reads as before. -/
theorem ringRecord_slot_ne {k : Nat} (hk : k ≠ s.obj O.evtLogWrite % 4096) :
    (s.ringRecord src f).bytes (a + 32 * k) 32 = s.bytes (a + 32 * k) 32 := by
  rw [ringRecord_bytes src hring hf]
  exact portWrite_bytes_apart s (by rw [hf]; omega)

end

section
variable {s : State} {a : Nat} {r : Record} (hring : s.ev.ringAt = [(a, 131072)])

theorem ringWriteRecord_single (h : r.pair = false) : s.ringWriteRecord r = s.ringRecord r.src r.head := by
  simp [State.ringWriteRecord, h]

theorem ringWriteRecord_pair (h : r.pair = true) : s.ringWriteRecord r = (s.ringRecord r.src r.head).ringRecord r.src r.ext := by
  simp [State.ringWriteRecord, h]

include hring

/-- A record without an extension takes one SEQ and one slot (R499, R500). -/
theorem ringWriteRecord_of_single (h : r.pair = false) :
    (s.ringWriteRecord r).obj O.evtLogRead = s.obj O.evtLogRead ∧ (s.ringWriteRecord r).obj O.evtLogWrite = (s.obj O.evtLogWrite + 1) % 4294967296 ∧
      (s.ringWriteRecord r).bytes (a + 32 * (s.obj O.evtLogWrite % 4096)) 32 = r.head (s.obj O.evtLogWrite) := by
  rw [ringWriteRecord_single h]
  exact ⟨ringRecord_logRead _ hring r.length_head, ringRecord_logWrite _ hring r.length_head, ringRecord_slot _ hring r.length_head⟩

/-- A pair takes two SEQs in a row, modulo 2³², and their slots: the head, then its extension (R495, R500). -/
theorem ringWriteRecord_of_pair (h : r.pair = true) :
    (s.ringWriteRecord r).obj O.evtLogRead = s.obj O.evtLogRead ∧ (s.ringWriteRecord r).obj O.evtLogWrite = (s.obj O.evtLogWrite + 2) % 4294967296 ∧
      (s.ringWriteRecord r).bytes (a + 32 * (s.obj O.evtLogWrite % 4096)) 32 = r.head (s.obj O.evtLogWrite) ∧
      (s.ringWriteRecord r).bytes (a + 32 * ((s.obj O.evtLogWrite + 1) % 4294967296 % 4096)) 32 = r.ext ((s.obj O.evtLogWrite + 1) % 4294967296) := by
  rw [ringWriteRecord_pair h]
  have hring' := ringRecord_ringAt r.src hring r.length_head
  have hnext := ringRecord_logWrite r.src hring r.length_head
  refine ⟨?_, ?_, ?_, ?_⟩
  · rw [ringRecord_logRead _ hring' r.length_ext, ringRecord_logRead _ hring r.length_head]
  · rw [ringRecord_logWrite _ hring' r.length_ext, hnext]
    omega
  · rw [ringRecord_slot_ne _ hring' r.length_ext (by rw [hnext]; omega), ringRecord_slot _ hring r.length_head]
  · have hext := ringRecord_slot r.src hring' r.length_ext
    rwa [hnext] at hext

end

/-- The unread records run from `EVT_LOG_READ` up to `EVT_LOG_WRITE`, modulo 2³² (R500). -/
theorem unread_spans {s : State} (hw : s.obj O.evtLogWrite < 4294967296) (hr : s.obj O.evtLogRead < 4294967296) :
    s.unread < 4294967296 ∧ (s.obj O.evtLogRead + s.unread) % 4294967296 = s.obj O.evtLogWrite := by
  unfold State.unread
  omega

end Sys2Proof.Machine
end

section
/-! The host's acknowledgement: the write of `EVT_LOG_READ` (R500, R501). -/

namespace Sys2Proof.Machine

@[simp] theorem respond_objs (s : State) (x : Session) (q : Req) (op status : Nat) (payload : List Byte) :
    (s.respond x q op status payload).objs = s.objs := by
  simp only [State.respond, State.emit_objs]
  split
  · rfl
  · split <;> rfl

theorem respond_obj (s : State) (x : Session) (q : Req) (op status : Nat) (payload : List Byte) (z : Nat) :
    (s.respond x q op status payload).obj z = s.obj z := by
  simp only [State.obj, respond_objs]

/-- An effect given the row `r`, whatever row it is called with. -/
def Effect.onRow (eff : Effect) (r : ObjRow) : Effect := fun num x _ ref v s => eff num x r ref v s

theorem Effect.onRow_apply (eff : Effect) (r r' : ObjRow) (num ref : Nat) (x : Session) (v : List Byte) (s : State) :
    eff.onRow r num x r' ref v s = eff num x r ref v s := rfl

/-- A write calls its effect with the row that its table lists. -/
theorem hostWrite_onRow {r : ObjRow} {n ref : Nat} (hrow : findRef ref = some (r, n)) (s : State) (q : Req) (v : List Byte) (eff : Effect) :
    s.hostWrite q ref v eff = s.hostWrite q ref v (eff.onRow r) := by
  simp only [State.hostWrite, writeOne, hrow, Effect.onRow]

/-- `EVT_LOG_READ` is a number in force as soon as it is written. -/
theorem store_evtLogRead : ∃ r n, findRef O.evtLogRead = some (r, n) ∧ ∀ (s : State) (v : List Byte), s.store r O.evtLogRead v = s.setObj O.evtLogRead (beNat v) :=
  ⟨_, _, rfl, fun _ _ => rfl⟩

/-- The state after an acknowledgement up to SEQ `n`: under OVERWRITE_OLDEST it ends the episode of a full ring (R501). -/
def State.acknowledged (s : State) (n : Nat) : State :=
  let s := s.setObj O.evtLogRead n
  if s.obj O.evtRingPolicy = 1 then s.setObj O.evtRingFull 0 else s

section
variable (s : State) (n : Nat)

theorem acknowledged_overwrite (h : s.obj O.evtRingPolicy = 1) : s.acknowledged n = (s.setObj O.evtLogRead n).setObj O.evtRingFull 0 := by
  rw [State.acknowledged, State.obj_setObj_ne _ _ (by decide), if_pos h]

theorem acknowledged_stop (h : s.obj O.evtRingPolicy ≠ 1) : s.acknowledged n = s.setObj O.evtLogRead n := by
  rw [State.acknowledged, State.obj_setObj_ne _ _ (by decide), if_neg h]

theorem acknowledged_logRead : (s.acknowledged n).obj O.evtLogRead = n := by
  by_cases h : s.obj O.evtRingPolicy = 1
  · rw [acknowledged_overwrite s n h, State.obj_setObj_ne _ _ (by decide), State.obj_setObj]
  · rw [acknowledged_stop s n h, State.obj_setObj]

theorem acknowledged_session? (k : Nat) : (s.acknowledged n).session? k = s.session? k := by
  unfold State.acknowledged
  dsimp only
  split <;> rfl

end

section
variable {s : State} {num ref : Nat} {x : Session} {r : ObjRow} {v : List Byte}

/-- A value beyond `EVT_LOG_WRITE` is refused (R500). -/
theorem effLogRead_beyond (h : serialAbove (beNat v) (s.obj O.evtLogWrite) = true) : effLogRead num x r ref v s = refuse s St.logRange := by
  simp [effLogRead, h]

/-- A value earlier than `EVT_LOG_READ` is answered OK and changes nothing (R500). -/
theorem effLogRead_earlier (hw : serialAbove (beNat v) (s.obj O.evtLogWrite) = false) (hr : serialAbove (s.obj O.evtLogRead) (beNat v) = true) :
    effLogRead num x r ref v s = done s := by
  simp [effLogRead, hw, hr]

/-- Any other value is the new `EVT_LOG_READ` (R500). -/
theorem effLogRead_later (hst : s.store r ref v = s.setObj O.evtLogRead (beNat v)) (hw : serialAbove (beNat v) (s.obj O.evtLogWrite) = false)
    (hr : serialAbove (s.obj O.evtLogRead) (beNat v) = false) : effLogRead num x r ref v s = done (s.acknowledged (beNat v)) := by
  simp [effLogRead, hw, hr, hst, State.acknowledged]

end

/-- The command runs the write's effect at the time of its request. -/
theorem exec_evtLogRead (t : Nat) (q : Req) (v : List Byte) (s : State) :
    exec (.evtLogRead t q v) s = .next ((s.at t).hostWrite q O.evtLogRead v effLogRead) := rfl

/-- The write of a value that is neither beyond nor earlier answers OK from the acknowledged state. -/
theorem hostWrite_logRead_later {s s1 : State} {q : Req} {v : List Byte} {x : Session} (h : s.takesWrite q O.evtLogRead v = some (x, s1))
    (hw : s1.writable x O.evtLogRead v = true) (hwrite : serialAbove (beNat v) (s1.obj O.evtLogWrite) = false)
    (hread : serialAbove (s1.obj O.evtLogRead) (beNat v) = false) :
    s.hostWrite q O.evtLogRead v effLogRead = (s1.acknowledged (beNat v)).respond x q 0x02 St.ok (refBytes O.evtLogRead) := by
  obtain ⟨r, n, hrow, hst⟩ := store_evtLogRead
  rw [hostWrite_onRow hrow]
  refine hostWrite_done h hw (fun r' => ?_) (acknowledged_session? ..)
  rw [Effect.onRow_apply, effLogRead_later (hst s1 v) hwrite hread]

/-- Settles O53: a record is a write at the slot of its SEQ that counts once, and an acknowledgement splits by serial order into beyond, earlier and later. -/
theorem logAcknowledgement : Obligations.LogAcknowledgement := by
  unfold Obligations.LogAcknowledgement
  refine ⟨fun a r s hring hw => ?_, fun s => unread_spans, fun t q v s s1 x h hw => ⟨_, exec_evtLogRead t q v s, ?_, ?_, ?_⟩⟩
  · cases hp : r.pair with
    | false =>
      obtain ⟨hread, hwrite, hslot⟩ := ringWriteRecord_of_single hring hp
      exact ⟨hread, hslot, r.seq_head hw, fun _ => hwrite, nofun⟩
    | true =>
      obtain ⟨hread, hwrite, hslot, hext⟩ := ringWriteRecord_of_pair hring hp
      exact ⟨hread, hslot, r.seq_head hw, nofun, fun _ => ⟨hwrite, hext, r.seq_ext (by omega)⟩⟩
  · intro hbeyond
    rw [hostWrite_refused h hw fun _ => effLogRead_beyond hbeyond]
    exact ⟨respond_answered .., respond_objs ..⟩
  · intro hwrite hearlier
    rw [hostWrite_done h hw (fun _ => effLogRead_earlier hwrite hearlier) rfl]
    exact ⟨respond_answered .., respond_objs ..⟩
  · intro hwrite hread
    rw [hostWrite_logRead_later h hw hwrite hread]
    refine ⟨by rw [respond_obj, acknowledged_logRead], respond_answered .., fun hpol => ?_, fun hpol => ?_⟩
    · rw [respond_obj, acknowledged_overwrite s1 _ hpol, State.obj_setObj]
    · rw [respond_obj, acknowledged_stop s1 _ hpol, State.obj_setObj_ne _ _ (by decide)]

end Sys2Proof.Machine
end
